-- ==== Sys2Proof/Word.lean ====
section
/-!
DEFINITION. The word types of the Camsor CN640 and their plainest arithmetic (00 R3 to R5).
-/
namespace Sys2Proof

/-- One byte of a record, a register or a memory. -/
abbrev Byte := BitVec 8

/-- A register, a general register of a limber thread, a record field of 8 bytes. -/
abbrev W64 := BitVec 64

/-- Bits [hi:lo] of a word as an unsigned number (00 R4). -/
def bits (w : W64) (hi lo : Nat) : Nat := (w.toNat >>> lo) % 2 ^ (hi + 1 - lo)

/-- Bit n of a word. -/
def bitAt (w : W64) (n : Nat) : Bool := w.getLsbD n

/-- A word with bits [hi:lo] replaced by the low bits of v (00 R4). -/
def putBits (w : W64) (hi lo v : Nat) : W64 :=
  let m := 2 ^ (hi + 1 - lo)
  BitVec.ofNat 64 (w.toNat - ((w.toNat >>> lo) % m) * 2 ^ lo + (v % m) * 2 ^ lo)

/-- v, or the largest value of n bits when v is above it: a saturating count. -/
def satAt (n v : Nat) : Nat := if v < 2 ^ n then v else 2 ^ n - 1

/-- The quotient rounded up. -/
def ceilDiv (a b : Nat) : Nat := (a + b - 1) / b

/-- x rounded up to a multiple of m. -/
def roundUp (x m : Nat) : Nat := ceilDiv x m * m

end Sys2Proof
end

