-- ==== Sys2Proof/Machine/Operands.lean ====
section
/-!
DEFINITION. Instruction fields and operand forms of the limber threads (07 Table 1, R310, R311).
-/
namespace Sys2Proof.Machine

/-- Register format: D, A, B, FUNC. -/
structure RegF where
  d : BitVec 5
  a : BitVec 5
  b : BitVec 5
  func : BitVec 10
  deriving DecidableEq, Repr

/-- Operands of an integer instruction: Register format with the U bit FUNC[4] and FUNC[9:5], or Immediate format.
FUNC[3:0] and the major opcode follow from the mnemonic. -/
inductive AluF where
  | reg (d a b : BitVec 5) (u : Bool) (rsv : BitVec 5)
  | imm (d a : BitVec 5) (imm : BitVec 15)
  deriving DecidableEq, Repr

/-- Wide format: D and a 20-bit immediate. -/
structure WideF where
  d : BitVec 5
  imm : BitVec 20
  deriving DecidableEq, Repr

/-- Branch format: C and OFF in words. -/
structure BranchF where
  c : BitVec 5
  off : BitVec 20
  deriving DecidableEq, Repr

/-- Memory format: D or S, A, SIZE, OFF. -/
structure MemF where
  d : BitVec 5
  a : BitVec 5
  size : BitVec 2
  off : BitVec 13
  deriving DecidableEq, Repr

/-- Vector operands: D, A, B, FUNC[7:5] and the lane type FUNC[9:8]; FUNC[4:0] follows from the mnemonic. -/
structure VecF where
  d : BitVec 5
  a : BitVec 5
  b : BitVec 5
  pn : BitVec 3
  ty : BitVec 2
  deriving DecidableEq, Repr

/-- Long format without FUNC: D, A, B, X, Y, EXT. -/
structure LongF where
  d : BitVec 5
  a : BitVec 5
  b : BitVec 5
  x : BitVec 6
  y : BitVec 6
  ext : BitVec 20
  deriving DecidableEq, Repr

/-- A signed offset added to an address. -/
def addOff (a : W64) (off : Int) : W64 := a + BitVec.ofInt 64 off

end Sys2Proof.Machine
end

