-- ==== Sys2Proof/Config.lean ====
section
/-!
DEFINITION. What the spec leaves open. Every constant here has no body: a statement about the model holds
whatever its value (logs 2 and 10 to 40 name them).
-/
namespace Sys2Proof.Config

/-- A free number, fresh at each count of the free-value counter: every choice among equals that the spec does not fix (log 2). -/
opaque choice : Nat → Nat

/-- The nonces of the random bit generator (03 R75; log 2). -/
opaque nonce : Nat → BitVec 384

/-- The result that a unit of bounded error proposes: taken when it lies inside the error bound that the spec gives
(05 R201; 07 R337; 09 R429, R435; log 12). Arguments: the counter of free values, the operand's bits. -/
opaque approx : Nat → Nat → BitVec 32

end Sys2Proof.Config
end

