-- ==== Sys2Proof/Machine/Memory.lean ====
section
/-!
DEFINITION. Byte memories (cell and edge DRAM, stage SRAM, local memory, service memory): a list of addresses
and bytes in rising order, where an unlisted address reads zero (16 R776 zeroes DRAM; log 9).
-/
namespace Sys2Proof.Machine

/-- A byte memory in canonical form: addresses strictly rising, no zero byte listed. -/
abbrev Memory := List Host.Cell

/-- The canonical form from an address on. -/
def Memory.wfFrom : Nat → Memory → Bool
  | _, [] => true
  | lo, (a, b) :: r => decide (lo ≤ a) && decide (b ≠ 0#8) && Memory.wfFrom (a + 1) r

/-- The canonical form of a memory: addresses strictly rising and no entry equal to what an unlisted address
reads as. -/
def Memory.wf (m : Memory) : Bool := Memory.wfFrom 0 m

/-- One byte. An unlisted address reads zero. -/
def Memory.read : Memory → Nat → Byte
  | [], _ => 0#8
  | (k, b) :: r, a => if k = a then b else Memory.read r a

/-- The entries that a run of bytes from an address leaves: its bytes that are not zero. -/
def Memory.block : Nat → List Byte → Memory
  | _, [] => []
  | a, b :: r => if b = 0#8 then Memory.block (a + 1) r else (a, b) :: Memory.block (a + 1) r

/-- A run of bytes written from an address up. -/
def Memory.write (m : Memory) (a : Nat) (bs : List Byte) : Memory :=
  (m.filter fun e => e.1 < a) ++ Memory.block a bs ++ (m.filter fun e => a + bs.length ≤ e.1)

/-- n bytes from an address up, of a memory in canonical form, in one pass. -/
def Memory.readN : Memory → Nat → Nat → List Byte
  | [], _, n => List.replicate n 0#8
  | (k, b) :: r, a, n =>
    if k < a then Memory.readN r a n
    else if a + n ≤ k then List.replicate n 0#8
    else List.replicate (k - a) 0#8 ++ b :: Memory.readN r (k + 1) (a + n - (k + 1))

/-- The memory with n bytes from an address up reading zero. -/
def Memory.zero (m : Memory) (a n : Nat) : Memory :=
  m.filter fun e => e.1 < a || a + n ≤ e.1

/-- The unsigned number that little-endian bytes hold (00 R5). -/
def leNat : List Byte → Nat
  | [] => 0
  | b :: r => b.toNat + 256 * leNat r

/-- n little-endian bytes of a number (00 R5). -/
def natLe : Nat → Nat → List Byte
  | 0, _ => []
  | n + 1, v => BitVec.ofNat 8 v :: natLe n (v / 256)

/-- An n-byte little-endian number of a memory. -/
def Memory.num (m : Memory) (a n : Nat) : Nat := leNat (Memory.readN m a n)

/-- An 8-byte word of a memory. -/
def Memory.word (m : Memory) (a : Nat) : W64 := BitVec.ofNat 64 (Memory.num m a 8)

/-- A number stored in n bytes. -/
def Memory.putNum (m : Memory) (a n v : Nat) : Memory := Memory.write m a (natLe n v)

/-- Bytes [at, at + n) of a record, zero where the record is shorter. -/
def recBytes (r : List Byte) (at_ n : Nat) : List Byte :=
  let s := (r.drop at_).take n
  s ++ List.replicate (n - s.length) 0#8

/-- A little-endian field of a record. -/
def recNum (r : List Byte) (at_ n : Nat) : Nat := leNat (recBytes r at_ n)

/-- A record with bytes put over it from an offset. -/
def recPut (r : List Byte) (at_ : Nat) (bs : List Byte) : List Byte :=
  r.take at_ ++ bs ++ r.drop (at_ + bs.length)

/-- Bits [hi:lo] of a number. -/
def nbits (n hi lo : Nat) : Nat := (n >>> lo) % 2 ^ (hi + 1 - lo)

/-- A bit of a number. -/
def nbit (n i : Nat) : Bool := n.testBit i

/-- The numbers of the set bits of a mask, below n. -/
def maskBits (n m : Nat) : List Nat := (List.range n).filter fun i => m.testBit i

/-- A mask with the bits of a list set. -/
def bitsMask : List Nat → Nat
  | [] => 0
  | i :: r => 2 ^ i ||| bitsMask r

end Sys2Proof.Machine
end

