-- ==== Sys2Proof/Machine/Float.lean ====
section
/-!
DEFINITION. Numbers of the engines, the vector unit and the near-bank units: exact values, formats, rounding to
nearest even, f32 arithmetic, MX blocks, and functions of bounded error (05 R198 to R215, R849; 07 R335 to R338).
-/
namespace Sys2Proof.Machine

/-- An exact value: NaN, an infinity, or (-1)^neg × m × 2^e. -/
inductive Fv where
  | nan
  | inf (neg : Bool)
  | fin (neg : Bool) (m : Nat) (e : Int)
  deriving DecidableEq, Repr

/-- A binary format: exponent bits, fraction bits, and what its all-ones exponent means. -/
structure Fmt where
  eb : Nat
  fb : Nat
  /-- 0: infinity and NaN (IEEE); 1: only the all-ones code is NaN (E4M3); 2: every code is finite. -/
  special : Nat
  deriving DecidableEq, Repr

/-- IEEE 754 binary32. -/
def fmtF32 : Fmt := ⟨8, 23, 0⟩
/-- BF16. -/
def fmtBf16 : Fmt := ⟨8, 7, 0⟩
/-- OCP E4M3. -/
def fmtE4m3 : Fmt := ⟨4, 3, 1⟩
/-- OCP E5M2. -/
def fmtE5m2 : Fmt := ⟨5, 2, 0⟩
/-- OCP E2M1. -/
def fmtE2m1 : Fmt := ⟨2, 1, 2⟩
/-- OCP E2M3. -/
def fmtE2m3 : Fmt := ⟨2, 3, 2⟩
/-- OCP E3M2. -/
def fmtE3m2 : Fmt := ⟨3, 2, 2⟩

/-- Exponent bias. -/
def Fmt.bias (f : Fmt) : Nat := 2 ^ (f.eb - 1) - 1

/-- Width in bits. -/
def Fmt.width (f : Fmt) : Nat := 1 + f.eb + f.fb

/-- The value of a code. -/
def Fmt.decode (f : Fmt) (c : Nat) : Fv :=
  let neg := c.testBit (f.eb + f.fb)
  let ex := (c >>> f.fb) % 2 ^ f.eb
  let fr := c % 2 ^ f.fb
  if f.special = 0 ∧ ex = 2 ^ f.eb - 1 then (if fr = 0 then .inf neg else .nan)
  else if f.special = 1 ∧ ex = 2 ^ f.eb - 1 ∧ fr = 2 ^ f.fb - 1 then .nan
  else if ex = 0 then .fin neg fr (1 - (f.bias : Int) - f.fb)
  else .fin neg (2 ^ f.fb + fr) ((ex : Int) - f.bias - f.fb)

/-- The code of NaN: quiet, positive (07 R335); for E4M3 the all-ones code. -/
def Fmt.nanCode (f : Fmt) : Nat :=
  if f.special = 1 then 2 ^ (f.eb + f.fb) - 1 else (2 ^ f.eb - 1) * 2 ^ f.fb + 2 ^ (f.fb - 1)

/-- The largest finite code without sign. -/
def Fmt.maxCode (f : Fmt) : Nat :=
  match f.special with
  | 0 => (2 ^ f.eb - 1) * 2 ^ f.fb - 1
  | 1 => 2 ^ (f.eb + f.fb) - 2
  | _ => 2 ^ (f.eb + f.fb) - 1

/-- m / 2^k rounded to nearest, ties to even. -/
def shiftRne (m k : Nat) : Nat :=
  let q := m >>> k
  let r := m % 2 ^ k
  if 2 * r < 2 ^ k then q else if 2 ^ k < 2 * r then q + 1 else if q % 2 = 0 then q else q + 1

/-- The code of a value, rounded to nearest even. Beyond the largest finite magnitude the result saturates when sat is
set or the format has no infinity, and is an infinity otherwise. -/
def Fmt.encode (f : Fmt) (sat : Bool) (x : Fv) : Nat :=
  let sg (n : Bool) : Nat := if n then 2 ^ (f.eb + f.fb) else 0
  let big (n : Bool) : Nat :=
    sg n + (if sat || f.special != 0 then f.maxCode else (2 ^ f.eb - 1) * 2 ^ f.fb)
  match x with
  | .nan => f.nanCode
  | .inf n => big n
  | .fin n m e =>
    if m = 0 then sg n
    else
      let q0 : Int := 1 - (f.bias : Int) - f.fb
      let q := max q0 (e + (Nat.log2 m : Int) - f.fb)
      let r := if q ≤ e then m * 2 ^ (e - q).toNat else shiftRne m (q - e).toNat
      -- r × 2^q, r at most 2^(fb+1)
      let c := if r < 2 ^ f.fb then r else (q - q0).toNat * 2 ^ f.fb + r
      if f.maxCode < c then big n else sg n + c

/-- A value rounded to a format. -/
def Fmt.round (f : Fmt) (sat : Bool) (x : Fv) : Fv := f.decode (f.encode sat x)

/-- Exact product. -/
def Fv.mul : Fv → Fv → Fv
  | .nan, _ => .nan
  | _, .nan => .nan
  | .inf a, .inf b => .inf (a != b)
  | .inf a, .fin b m _ => if m = 0 then .nan else .inf (a != b)
  | .fin a m _, .inf b => if m = 0 then .nan else .inf (a != b)
  | .fin a m e, .fin b n g => .fin (a != b) (m * n) (e + g)

/-- Signed integer of a finite value scaled to exponent g, which is at most its own. -/
def scaled (neg : Bool) (m : Nat) (e g : Int) : Int :=
  let v : Int := (m * 2 ^ (e - g).toNat : Nat)
  if neg then -v else v

/-- Exact sum. A zero that cancels is +0; two zeros of one sign keep it. -/
def Fv.add : Fv → Fv → Fv
  | .nan, _ => .nan
  | _, .nan => .nan
  | .inf a, .inf b => if a = b then .inf a else .nan
  | .inf a, .fin _ _ _ => .inf a
  | .fin _ _ _, .inf b => .inf b
  | .fin a m e, .fin b n g =>
    let k := min e g
    let s := scaled a m e k + scaled b n g k
    if s = 0 then .fin (a && b && m == 0 && n == 0) 0 k else .fin (decide (s < 0)) s.natAbs k

/-- Negation. -/
def Fv.neg : Fv → Fv
  | .nan => .nan
  | .inf a => .inf (!a)
  | .fin a m e => .fin (!a) m e

/-- Absolute value. -/
def Fv.abs : Fv → Fv
  | .nan => .nan
  | .inf _ => .inf false
  | .fin _ m e => .fin false m e

/-- x < y of values that are not NaN. -/
def Fv.lt : Fv → Fv → Bool
  | .nan, _ => false
  | _, .nan => false
  | .inf a, .inf b => a && !b
  | .inf a, .fin _ _ _ => a
  | .fin _ _ _, .inf b => !b
  | .fin a m e, .fin b n g =>
    let k := min e g
    decide (scaled a m e k < scaled b n g k)

/-- The larger value; NaN when either is (07 R335). -/
def Fv.max (x y : Fv) : Fv :=
  match x, y with
  | .nan, _ => .nan
  | _, .nan => .nan
  | x, y => if x.lt y then y else x

/-- Positive zero and one. -/
def Fv.zero : Fv := .fin false 0 0
def Fv.one : Fv := .fin false 1 0

/-- A number as a value. -/
def Fv.ofNat (n : Nat) : Fv := .fin false n 0

/-- Rounded to f32. -/
def Fv.r32 (x : Fv) : Fv := fmtF32.round false x

/-- The value of an f32 word. -/
def f32 (w : BitVec 32) : Fv := fmtF32.decode w.toNat

/-- The f32 word of a value. -/
def toF32 (x : Fv) : BitVec 32 := BitVec.ofNat 32 (fmtF32.encode false x)

/-- f32 sum and product, each rounded once. -/
def fadd (a b : BitVec 32) : BitVec 32 := toF32 ((f32 a).add (f32 b))
def fmul (a b : BitVec 32) : BitVec 32 := toF32 ((f32 a).mul (f32 b))

/-- The f32 words of -∞, 0 and 1. -/
def f32NegInf : BitVec 32 := 0xFF800000#32
def f32One : BitVec 32 := 0x3F800000#32
def f32Nan : BitVec 32 := 0x7FC00000#32

/-! ## Sums in an order the device chooses (05 R199, R238) -/

/-- Two elements, chosen by free numbers, added with rounding to f32, until one is left. -/
def sumTree : Nat → Nat → List Fv → Fv
  | _, _, [] => .zero
  | _, _, [x] => x.r32
  | 0, _, x :: _ => x
  | fuel + 1, k, xs =>
    let i := Config.choice k % xs.length
    let a := xs.getD i .zero
    let ys := xs.eraseIdx i
    let j := Config.choice (k + 1) % ys.length
    let b := ys.getD j .zero
    sumTree fuel (k + 2) ((a.add b).r32 :: ys.eraseIdx j)

/-- The f32 sum of values in a free order, with the counter of free values at k. -/
def sumFree (k : Nat) (xs : List Fv) : Fv := sumTree xs.length k xs

/-! ## Functions of bounded error -/

/-- Integer square root by Newton steps from above. -/
def isqrtGo : Nat → Nat → Nat → Nat
  | 0, _, x => x
  | f + 1, n, x => let y := (x + n / x) / 2; if y < x then isqrtGo f n y else x

/-- Integer square root. -/
def isqrt (n : Nat) : Nat := if n = 0 then 0 else isqrtGo 200 n (2 ^ (Nat.log2 n / 2 + 1))

/-- Fixed-point unit of the reference functions: 2^128. -/
def fxBits : Nat := 128

/-- Σ r^i / i! in fixed point for 0 ≤ r < 1: terms from i on. -/
def expTerms : Nat → Nat → Nat → Nat → Nat
  | 0, _, _, _ => 0
  | n + 1, i, t, r => let t2 := t * r / 2 ^ fxBits / i; t + expTerms n (i + 1) t2 r

/-- ln 2 in fixed point: 2^128 × ln 2, rounded down. -/
def fxLn2 : Nat := 0xB17217F7D1CF79ABC9E3B39803F2F6AF

/-- 2^x of a finite value as an exact value accurate to about 2^-100: 2^⌊x⌋ × e^(frac × ln 2). -/
def exp2Ref (neg : Bool) (m : Nat) (e : Int) : Fv :=
  -- x in fixed point, saturated: |x| of 4,096 or more lies beyond every format
  let a : Nat := if 14 ≤ e + (Nat.log2 m : Int) then 4096 * 2 ^ fxBits
    else if 0 ≤ e + fxBits then m * 2 ^ (e + fxBits).toNat else m >>> (-(e + fxBits)).toNat
  let x : Int := if neg then -(a : Int) else a
  let k := x / (2 ^ fxBits : Nat)
  let fr := (x - k * (2 ^ fxBits : Nat)).toNat
  .fin false (expTerms 40 1 (2 ^ fxBits) (fr * fxLn2 / 2 ^ fxBits)) (k - fxBits)

/-- 1 / ln 2 in fixed point. -/
def fxLog2e : Nat := 2 ^ (2 * fxBits) / fxLn2

/-- |y - r| ≤ |r| × 2^-n for finite values. -/
def closeTo (n : Nat) (y r : Fv) : Bool :=
  match y, r with
  | .fin _ _ _, .fin _ m e => !(((Fv.fin false m (e - n)).lt (y.add r.neg).abs))
  | _, _ => false

/-- |y - r| ≤ 2^-n for finite values. -/
def closeAbs (n : Nat) (y r : Fv) : Bool :=
  match y, r with
  | .fin _ _ _, .fin _ _ _ => !((Fv.fin false 1 (-(n : Int))).lt (y.add r.neg).abs)
  | _, _ => false

/-- The proposed result when it lies within relative error 2^-n of the reference, else the reference rounded. -/
def within (n k : Nat) (x : BitVec 32) (r : Fv) : BitVec 32 :=
  let h := Config.approx k x.toNat
  if closeTo n (f32 h) r then h else toF32 r

/-- VEXP2: 2^x with a relative error of at most 2^-22 (07 R337). -/
def exp2F (k : Nat) (x : BitVec 32) : BitVec 32 :=
  match f32 x with
  | .nan => f32Nan
  | .inf n => if n then 0 else 0x7F800000#32
  | .fin n m e => within 22 k x (exp2Ref n m e)

/-- The softmax lane's exp: relative error at most 2^-22, exactly 0 for -∞ (05 R201). -/
def expF (k : Nat) (x : BitVec 32) : BitVec 32 :=
  match f32 x with
  | .nan => f32Nan
  | .inf n => if n then 0 else 0x7F800000#32
  | .fin n m e => within 22 k x (exp2Ref n (m * fxLog2e) (e - fxBits))

/-- 1 / m × 2^-e as an exact value accurate to about 2^-100. -/
def rcpRef (neg : Bool) (m : Nat) (e : Int) : Fv :=
  let s := 128 + Nat.log2 m
  .fin neg (2 ^ s / m) (-e - s)

/-- VRCP: 1 / x; ±0 gives ±∞ (07 R337). -/
def rcpF (k : Nat) (x : BitVec 32) : BitVec 32 :=
  match f32 x with
  | .nan => f32Nan
  | .inf n => if n then 0x80000000#32 else 0
  | .fin n m e => if m = 0 then (if n then f32NegInf else 0x7F800000#32) else within 22 k x (rcpRef n m e)

/-- 1 / √(m × 2^e) as an exact value accurate to about 2^-100. -/
def rsqrtRef (m : Nat) (e : Int) : Fv :=
  -- make the exponent even
  let m2 := if e % 2 = 0 then m else 2 * m
  let e2 := if e % 2 = 0 then e else e - 1
  let s := 256 + 2 * (Nat.log2 m2 / 2)
  .fin false (isqrt (2 ^ s / m2 * 2 ^ 0)) (-(e2 / 2) - s / 2)

/-- VRSQRT: a negative value gives NaN, +0 gives +∞ (07 R337). Of -0 the spec states no result: a free value (log 12). -/
def rsqrtF (k : Nat) (x : BitVec 32) : BitVec 32 :=
  match f32 x with
  | .nan => f32Nan
  | .inf n => if n then f32Nan else 0
  | .fin n m e =>
    if m = 0 then (if n then Config.approx k x.toNat else 0x7F800000#32)
    else if n then f32Nan else within 22 k x (rsqrtRef m e)

/-! ## MX blocks and elements (04 Table 2; 05 R211, R213, R849) -/

/-- Element format of a KV format code. -/
def kvFmt : Nat → Fmt
  | 0 => fmtE2m1 | 1 => fmtE2m3 | 2 => fmtE3m2 | 3 => fmtE4m3 | 4 => fmtE5m2 | _ => fmtBf16

/-- The value of an E8M0 scale: 2^(s - 127); 0xFF is NaN. -/
def e8m0 (s : Nat) : Fv := if s = 255 then .nan else .fin false 1 ((s : Int) - 127)

/-- The value of an element with its block scale; a NaN scale makes NaN (R849). -/
def mxValue (fmt code scale : Nat) : Fv :=
  if fmt = 5 then fmtBf16.decode code
  else if scale = 255 then .nan
  else ((kvFmt fmt).decode code).mul (e8m0 scale)

/-- Largest magnitude exponent of an MX element format (OCP MX). -/
def mxEmax : Nat → Nat
  | 0 => 2 | 1 => 2 | 2 => 4 | 3 => 8 | _ => 15

/-- Position of the leading bit of a finite non-zero value. -/
def Fv.lead : Fv → Int
  | .fin _ m e => e + (Nat.log2 m : Int)
  | _ => 0

/-- An MX block formed from 32 values: E8M0 scale and element codes, rounded to nearest even with saturation; a block
with a NaN or an infinity is 0xFF and zeros (R213, R849). -/
def mxBlock (fmt : Nat) (vs : List Fv) : Nat × List Nat :=
  if vs.any (fun v => match v with
    | .fin _ _ _ => false
    | _ => true) then (255, vs.map fun _ => 0)
  else
    let nz := vs.filter fun v => match v with
      | .fin _ m _ => m != 0
      | _ => false
    let top := (nz.map Fv.lead).foldl max (-10000)
    let s : Int := if nz.isEmpty then 0 else max 0 (min 254 (top - mxEmax fmt + 127))
    (s.toNat, vs.map fun v => (kvFmt fmt).encode true (v.mul (.fin false 1 (127 - s))))

/-- Values grouped into blocks of 32. -/
def chunks32 : Nat → List Fv → List (List Fv)
  | 0, _ => []
  | n + 1, l => if l.isEmpty then [] else l.take 32 :: chunks32 n (l.drop 32)

/-- Values quantised to an MX format and read back exactly (R213). -/
def mxQuant (fmt : Nat) (vs : List Fv) : List Fv :=
  (chunks32 (vs.length / 32 + 1) vs).flatMap fun b =>
    let q := mxBlock fmt b
    q.2.map fun c => mxValue fmt c q.1

end Sys2Proof.Machine
end

