-- ==== Sys2Proof/Machine/KvFormat.lean ====
section
/-!
DEFINITION. Formats of KV: model profiles, page geometry, tiles and descriptors, checks (04 R110 to R123; 02 Table 5).
-/
namespace Sys2Proof.Machine

/-! ## Checks -/

/-- One bit of a reflected CRC. -/
def crcBit (poly c : Nat) : Nat := if c % 2 = 1 then (c / 2) ^^^ poly else c / 2

/-- One byte of a reflected CRC. -/
def crcByte (poly c : Nat) (b : Byte) : Nat :=
  let c := c ^^^ b.toNat
  crcBit poly (crcBit poly (crcBit poly (crcBit poly (crcBit poly (crcBit poly (crcBit poly (crcBit poly c)))))))

/-- CRC-64 of DIGEST: ECMA-182 polynomial, reflected, all ones at both ends (04 R122). -/
def crc64 (bs : List Byte) : Nat := (bs.foldl (crcByte 0xC96C5795D7870F42) (2 ^ 64 - 1)) ^^^ (2 ^ 64 - 1)

/-- CRC-32C of DCRC (04 Table 5). -/
def crc32c (bs : List Byte) : Nat := (bs.foldl (crcByte 0x82F63B78) (2 ^ 32 - 1)) ^^^ (2 ^ 32 - 1)

/-- One bit of the die record's CRC-16. -/
def crc16Bit (c : Nat) : Nat := if 0x8000 ≤ c then ((c * 2) % 65536) ^^^ 0x1021 else c * 2

/-- One byte of the die record's CRC-16. -/
def crc16Byte (c : Nat) (b : Byte) : Nat :=
  let c := c ^^^ (b.toNat * 256)
  crc16Bit (crc16Bit (crc16Bit (crc16Bit (crc16Bit (crc16Bit (crc16Bit (crc16Bit c)))))))

/-- CRC-16 of a die identity record: polynomial 0x1021, initial value 0xFFFF, no reflection, no final XOR (02 Table 5). -/
def crc16 (bs : List Byte) : Nat := bs.foldl crc16Byte 0xFFFF

/-! ## Profiles -/

/-- A model profile (04 Table 1). -/
structure Profile where
  layers : Nat
  heads : Nat
  /-- Head dimension divided by 32. -/
  dimCode : Nat
  kFmt : Nat
  vFmt : Nat
  tpp : Nat
  maxLen : Nat
  deriving DecidableEq, Repr

/-- Head dimension. -/
def Profile.dim (p : Profile) : Nat := 32 * p.dimCode

/-- Bits of one element of a KV format (04 Table 2). -/
def fmtBits : Nat → Nat
  | 0 => 4 | 1 => 6 | 2 => 6 | 3 => 8 | 4 => 8 | _ => 16

/-- Size of an element section for t tokens (04, "Page geometry"). -/
def elemSize (p : Profile) (fmt t : Nat) : Nat := roundUp (t * p.heads * p.dim * fmtBits fmt / 8) 256

/-- Size of a scale section for t tokens; BF16 has none. -/
def scaleSize (p : Profile) (fmt t : Nat) : Nat := if fmt = 5 then 0 else roundUp (t * p.heads * p.dim / 32) 256

/-- s_k(t) or s_v(t) (04, "Page geometry"). -/
def sideSize (p : Profile) (fmt t : Nat) : Nat := elemSize p fmt t + scaleSize p fmt t

/-- Tokens per page: the largest T whose sections fit 65,536 bytes (04 R115). No page holds more than 1,024. -/
def tppOf (p : Profile) : Nat :=
  ((List.range 1025).reverse.find? fun t => sideSize p p.kFmt t + sideSize p p.vFmt t ≤ 65536).getD 0

/-- The length limit (04 R119). -/
def maxLenOf (p : Profile) (tpp : Nat) : Nat := min 4194304 (262144 * tpp)

/-- The profile of a 16-byte record, when R111 accepts it, with TPP and MAX_LEN filled in (R112, R115, R119). -/
def parseProfile (r : List Byte) : Option Profile :=
  let p0 : Profile := ⟨recNum r 0 2, recNum r 2 1, recNum r 3 1, recNum r 4 1, recNum r 5 1, 0, 0⟩
  let tpp := tppOf p0
  let ml := maxLenOf p0 tpp
  if 1 ≤ p0.layers ∧ p0.layers ≤ 256 ∧ 1 ≤ p0.heads ∧ p0.heads ≤ 64 ∧
     (p0.dimCode = 2 ∨ p0.dimCode = 3 ∨ p0.dimCode = 4 ∨ p0.dimCode = 6 ∨ p0.dimCode = 8) ∧
     p0.kFmt ≤ 5 ∧ p0.vFmt ≤ 5 ∧ recNum r 6 2 = 0 ∧ recNum r 10 2 = 0 ∧
     (recNum r 8 2 = 0 ∨ recNum r 8 2 = tpp) ∧ (recNum r 12 4 = 0 ∨ recNum r 12 4 = ml)
  then some { p0 with tpp := tpp, maxLen := ml } else none

/-- The completed record of a profile (R112). -/
def profileRecord (p : Profile) : List Byte :=
  natLe 2 p.layers ++ natLe 1 p.heads ++ natLe 1 p.dimCode ++ natLe 1 p.kFmt ++ natLe 1 p.vFmt ++ natLe 2 0 ++
    natLe 2 p.tpp ++ natLe 2 0 ++ natLe 4 p.maxLen

/-! ## Page layout (04 Table 3) -/

/-- First byte of the value sections. -/
def valueStart (p : Profile) : Nat := sideSize p p.kFmt p.tpp

/-- First byte of the key scales. -/
def keyScaleStart (p : Profile) : Nat := elemSize p p.kFmt p.tpp

/-- First byte of the value scales. -/
def valueScaleStart (p : Profile) : Nat := valueStart p + elemSize p p.vFmt p.tpp

/-- Sections of a page: first byte and compressor class (08 Table 3). -/
def pageSections (p : Profile) : List (Nat × Nat) :=
  let cls (f : Nat) : Nat := if f = 5 then 2 else 0
  [(0, cls p.kFmt)] ++ (if p.kFmt = 5 then [] else [(keyScaleStart p, 1)]) ++ [(valueStart p, cls p.vFmt)] ++
    (if p.vFmt = 5 then [] else [(valueScaleStart p, 1)])

/-- Bits [lo, lo + n) of a byte string, bit 0 of each byte lowest (04 R117). -/
def bitField (bs : List Byte) (lo n : Nat) : Nat :=
  (recNum bs (lo / 8) 4 >>> (lo % 8)) % 2 ^ n

/-- Index of element j of head h of a page's token i (04 R117). -/
def elemIdx (p : Profile) (i h j : Nat) : Nat := (i * p.heads + h) * p.dim + j

/-- The raw element of a page: its code and its scale byte (127, that is 1, for BF16). -/
def pageElem (p : Profile) (key : Bool) (page : List Byte) (i h j : Nat) : Nat × Nat :=
  let fmt := if key then p.kFmt else p.vFmt
  let e0 := if key then 0 else valueStart p
  let s0 := if key then keyScaleStart p else valueScaleStart p
  let n := elemIdx p i h j
  let b := fmtBits fmt
  (bitField (page.drop (e0 + n * b / 8)) (n * b % 8) b,
    if fmt = 5 then 127 else recNum page (s0 + (i * p.heads + h) * p.dim / 32 + j / 32) 1)

/-- The keys or values of one token for one layer, as the bytes that land: elements, then scales. -/
def tokenBytes (p : Profile) (fmt : Nat) : Nat × Nat :=
  (p.heads * p.dim * fmtBits fmt / 8, if fmt = 5 then 0 else p.heads * p.dim / 32)

/-! ## Tiles (04 R120, R121) -/

/-- Bytes of a descriptor. -/
def descLen : Nat := 128

/-- Flag bits of a descriptor. -/
def flMirrored : Nat := 0
def flStale : Nat := 1
def flYarded : Nat := 2
def flQuar : Nat := 3
def flOpen : Nat := 4

/-- A descriptor with its DCRC written over bytes 0 to 123 (04 R123). -/
def withDcrc (t : List Byte) : List Byte := recPut t 124 (natLe 4 (crc32c (recBytes t 0 124)))

/-- True when DCRC matches (04 R123). -/
def dcrcOk (t : List Byte) : Bool := recNum t 124 4 == crc32c (recBytes t 0 124)

/-- A flag of a descriptor. -/
def tileFlag (t : List Byte) (f : Nat) : Bool := (recNum t 14 2).testBit f

/-- A tile with one flag set or cleared, and its DCRC written. -/
def setTileFlag (t : List Byte) (f : Nat) (v : Bool) : List Byte :=
  let x := recNum t 14 2
  let y := if v then x ||| 2 ^ f else x - (x &&& 2 ^ f)
  withDcrc (recPut t 14 (natLe 2 y))

/-- CLEN of a tile, in 32-byte units. -/
def tileClen (t : List Byte) : Nat := recNum t 80 2

/-- Bytes of a tile with a given CLEN. -/
def tileLen (clen : Nat) : Nat := descLen + 32 * clen

/-- Frames of 256 bytes that a tile occupies (08 R410). -/
def tileFrames (clen : Nat) : Nat := ceilDiv (tileLen clen) 256

/-- Offset of block b from byte 128, in 32-byte units. -/
def blockOff (t : List Byte) (b : Nat) : Nat := recNum t (32 + 2 * b) 2

/-- Stored length of block b in 32-byte units (04, after Table 5). -/
def blockUnits (t : List Byte) (b : Nat) : Nat :=
  (if b < 15 then blockOff t (b + 1) else tileClen t) - blockOff t b

/-- Stored bytes of block b. -/
def blockBytes (t : List Byte) (b : Nat) : List Byte := recBytes t (descLen + 32 * blockOff t b) (32 * blockUnits t b)

/-- True when block b is stored raw. -/
def blockRaw (t : List Byte) (b : Nat) : Bool := (recNum t 20 2).testBit b

/-- Codec slot nibble of block b. -/
def blockSlot (t : List Byte) (b : Nat) : Nat := nbits (recNum t 24 8) (4 * b + 3) (4 * b)

/-- A descriptor's fields but for the block area. -/
structure DescHead where
  key : Nat
  layer : Nat
  kFmt : Nat
  vFmt : Nat
  tokens : Nat
  flags : Nat
  first : Nat
  digest : Nat
  sealTime : Nat
  deriving DecidableEq, Repr

/-- The descriptor head of a tile. -/
def tileHead (t : List Byte) : DescHead :=
  ⟨recNum t 0 8, recNum t 8 2, recNum t 10 1, recNum t 11 1, recNum t 12 2, recNum t 14 2, recNum t 16 4,
    recNum t 64 8, recNum t 72 8⟩

/-- BLOCK_OFF entries for a list of stored blocks. -/
def offsetsOf : Nat → List (List Byte) → List Byte
  | _, [] => []
  | o, b :: r => natLe 2 o ++ offsetsOf (o + b.length / 32) r

/-- A tile of a descriptor head and 16 stored blocks, each with the codec slot it is coded with (none for raw):
RAW_MASK, TAB_IDS, BLOCK_OFF, CLEN and DCRC follow from the blocks (04 R120, R121; 08 R403). -/
def makeTile (h : DescHead) (blocks : List (Option Nat × List Byte)) : List Byte :=
  let raw := bitsMask ((List.range 16).filter fun b => ((blocks.getD b (none, [])).1).isNone)
  let tabs := (List.range 16).foldl (fun n b => n + ((blocks.getD b (none, [])).1).getD 0 * 2 ^ (4 * b)) 0
  let body := blocks.flatMap (·.2)
  let desc := natLe 8 h.key ++ natLe 2 h.layer ++ natLe 1 h.kFmt ++ natLe 1 h.vFmt ++ natLe 2 h.tokens ++
    natLe 2 h.flags ++ natLe 4 h.first ++ natLe 2 raw ++ natLe 2 0 ++ natLe 8 tabs ++
    offsetsOf 0 (blocks.map (·.2)) ++ natLe 8 h.digest ++ natLe 8 h.sealTime ++ natLe 2 (body.length / 32) ++
    List.replicate 46 0#8
  withDcrc desc ++ body

/-- The 16 blocks of an uncompressed page. -/
def pageBlocks (page : List Byte) : List (List Byte) := (List.range 16).map fun b => recBytes page (4096 * b) 4096

/-- A raw tile of a page (04 R124, R127). -/
def rawTile (h : DescHead) (page : List Byte) : List Byte := makeTile h ((pageBlocks page).map fun b => (none, b))

end Sys2Proof.Machine
end

