-- ==== Sys2Proof/Machine/Tab.lean ====
section
/-!
DEFINITION. Sparse tables: a list of numbered entries, held in rising order of number. Every set of like
units of the device (stands, threads, ports, connections, page frames, ...) that is empty at reset is one.
-/
namespace Sys2Proof.Machine

/-- A table of entries by number. -/
abbrev Tab (α : Type) := List (Nat × α)

/-- The entry of a number, if the table lists it. -/
def Tab.get? {α : Type} : Tab α → Nat → Option α
  | [], _ => none
  | (k, v) :: r, n => if k = n then some v else Tab.get? r n

/-- The entry of a number, or a value for an unlisted one. -/
def Tab.getD {α : Type} (t : Tab α) (n : Nat) (x : α) : α := (Tab.get? t n).getD x

/-- The table with one entry set. -/
def Tab.set {α : Type} : Tab α → Nat → α → Tab α
  | [], n, x => [(n, x)]
  | (k, v) :: r, n, x =>
    if k = n then (n, x) :: r
    else if n < k then (n, x) :: (k, v) :: r
    else (k, v) :: Tab.set r n x

/-- The table without one entry. -/
def Tab.del {α : Type} (t : Tab α) (n : Nat) : Tab α := t.filter fun e => !(e.1 == n)

/-- The table without the entries numbered lo to lo + n - 1. -/
def Tab.delRange {α : Type} (t : Tab α) (lo n : Nat) : Tab α :=
  t.filter fun e => e.1 < lo || lo + n ≤ e.1

/-- True when the table lists the number. -/
def Tab.has {α : Type} (t : Tab α) (n : Nat) : Bool := (Tab.get? t n).isSome

/-- One entry changed, if it is there. -/
def Tab.upd {α : Type} (t : Tab α) (n : Nat) (f : α → α) : Tab α :=
  match Tab.get? t n with
  | some x => Tab.set t n (f x)
  | none => t

/-- Every entry changed. -/
def Tab.mapAll {α : Type} (t : Tab α) (f : Nat → α → α) : Tab α := t.map fun e => (e.1, f e.1 e.2)

/-- The entries that satisfy a condition. -/
def Tab.keep {α : Type} (t : Tab α) (p : Nat → α → Bool) : Tab α := t.filter fun e => p e.1 e.2

/-- True when some entry satisfies a condition. -/
def Tab.anyOf {α : Type} (t : Tab α) (p : Nat → α → Bool) : Bool := t.any fun e => p e.1 e.2

/-- How many entries satisfy a condition. -/
def Tab.count {α : Type} (t : Tab α) (p : Nat → α → Bool) : Nat := (t.filter fun e => p e.1 e.2).length

/-- The lowest number below n that the table does not list and that a condition allows. -/
def Tab.lowestFree {α : Type} (t : Tab α) (n : Nat) (ok : Nat → Bool) : Option Nat :=
  (List.range n).find? fun i => !Tab.has t i && ok i

/-- A free number below n: the one hinted at when it is free and allowed, else the lowest such. The hint is
a free value, so any free number may be the one taken. -/
def Tab.freeAt {α : Type} (t : Tab α) (n hint : Nat) (ok : Nat → Bool) : Option Nat :=
  if hint < n && !Tab.has t hint && ok hint then some hint else Tab.lowestFree t n ok

end Sys2Proof.Machine
end

