-- ==== Sys2Proof/Machine/Net.lean ====
section
/-!
DEFINITION. Priol packets, connections, tracts, ports and schedulers: the records of chapters 11 to 13 as the state and the
commands hold them.
-/
namespace Sys2Proof.Machine

/-! ## Packets (11 Tables 2 to 5, 8; 12 Table 1) -/

/-- The routing header (11 Table 2) but for TYPE. -/
structure Route where
  ver : BitVec 4
  tc : BitVec 3
  ce : Bool
  ece : Bool
  notice : Bool
  retx : Bool
  /-- CF[7]. -/
  rsv : Bool
  hops : BitVec 8
  path : BitVec 8
  dstNode : BitVec 16
  srcNode : BitVec 16
  dstConn : BitVec 16
  srcConn : BitVec 16
  epoch : BitVec 32
  deriving DecidableEq, Repr

/-- The request header (11 Table 4). -/
structure ReqHdr where
  key : BitVec 32
  msgId : BitVec 16
  plen : BitVec 16
  offset : BitVec 64
  msgLen : BitVec 32
  msgOff : BitVec 32
  arg : BitVec 64
  deriving DecidableEq, Repr

/-- The response header (11 Table 5). -/
structure RspHdr where
  msgId : BitVec 16
  code : BitVec 8
  rsv : BitVec 8
  base : BitVec 32
  info : BitVec 64
  deriving DecidableEq, Repr

/-- The CONN payload (11 Table 8) but for OP. -/
structure ConnHdr where
  reason : BitVec 8
  rsv2 : BitVec 16
  join : BitVec 32
  epoch : BitVec 32
  rsv12 : BitVec 32
  deriving DecidableEq, Repr

/-- The TIME packet after its routing header (12 Table 1) but for OP; TA, TB and TC are ns with a fraction of 16 bits. -/
structure TimeHdr where
  dist : BitVec 8
  refNode : BitVec 16
  seq : BitVec 32
  ta : BitVec 80
  st : BitVec 16
  tb : BitVec 80
  rsv46 : BitVec 16
  tc : BitVec 80
  rsv58 : BitVec 16
  deriving DecidableEq, Repr

/-- The cruise header (13 Table 1) but for OP. -/
structure CruiseHdr where
  flags : BitVec 8
  origin : BitVec 16
  version : BitVec 32
  epoch : BitVec 32
  rsv : BitVec 32
  deriving DecidableEq, Repr

/-- The mirror header (13 Table 6) but for MOP. -/
structure MirHdr where
  rsv : BitVec 8
  layer : BitVec 16
  first : BitVec 32
  handle : BitVec 64
  interval : BitVec 64
  arg : BitVec 32
  len : BitVec 32
  deriving DecidableEq, Repr

/-- What follows the routing header. -/
inductive PktBody where
  | req (h : ReqHdr) (data : List Byte)
  | rsp (h : RspHdr)
  | conn (op : Nat) (h : ConnHdr)
  | time (op : Nat) (h : TimeHdr)
  deriving DecidableEq, Repr

/-- A Priol packet. -/
structure Pkt where
  ty : BitVec 4
  r : Route
  body : PktBody
  icrc : BitVec 32
  deriving DecidableEq, Repr

/-! ## Link and ports (11 R509 to R514) -/

/-- What a link frame carries. -/
inductive FrameKind where
  /-- A packet of a class and credit set, which the packet's own row delivers; or nothing (an idle frame). -/
  | data (cls : BitVec 3) (second : Bool)
  | idle
  /-- Acknowledgement of every frame up to a sequence number. -/
  | ack (seq : BitVec 12)
  /-- Asks for the frames from a sequence number on again. -/
  | again (seq : BitVec 12)
  /-- Credit for n frames of a traffic class, in the first or second credit set (R510, R514). -/
  | credit (cls : BitVec 3) (second : Bool) (n : BitVec 8)
  deriving DecidableEq, Repr

/-- A link frame as its arrival reports it. -/
structure LinkFrame where
  seq : BitVec 12
  kind : FrameKind
  crcOk : Bool
  corrected : BitVec 16
  uncorrectable : BitVec 16
  deriving DecidableEq, Repr

/-- One time exchange in hand at a port (12 R584). -/
structure TimeReq where
  seq : Nat
  /-- Fabric time t1 in units of 2^-16 ns. -/
  t1 : Nat
  deriving DecidableEq, Repr

/-- What a port holds beside its registers. -/
structure PortLink where
  txSeq : Nat
  rxSeq : Nat
  /-- Frames sent and not acknowledged. -/
  replay : List (Nat × Option Pkt)
  /-- Frames of credit by class, and by class + 8 for the second set. -/
  credits : Tab Nat
  helloOut : Bool
  helloIn : Bool
  /-- Training failed: step 1 is tried again after 100 ms (R512). -/
  retry : Bool
  /-- Lanes on which a training step failed. -/
  lost : Nat
  /-- Uncorrectable codewords of the last 1 ms of fabric time: when, and how many (R511). -/
  fec : List (Nat × Nat)
  /-- HEARTBEATs arrive on the port (13 R637). -/
  hb : Bool
  reqSeq : Nat
  req : Option TimeReq
  /-- Exchanges of the present run of 8: delay and offset in units of 2^-17 ns, as the formulas double them. -/
  run : List (Int × Int)
  /-- DIST and REF_NODE that the partner last reported. -/
  dist : Nat
  refNode : Nat
  deriving DecidableEq, Repr

/-- A packet in an egress queue (12 R601 to R605). -/
structure EgItem where
  pkt : Pkt
  /-- Stand, or 32 for the transit queue. -/
  upper : Nat
  /-- Connection, or traffic class in the transit queue. -/
  lower : Nat
  recovery : Bool
  deriving DecidableEq, Repr

/-! ## Schedulers (12 R605 to R618) -/

/-- An upper queue of a scheduler: start and finish time and TAT in units of 2^-32, active list, deficits. -/
structure UpperQ where
  back : Bool
  s : Nat
  f : Nat
  tat : Nat
  act : List Nat
  defs : Tab Int
  /-- Eligible time on the calendar wheel, in ns of fabric time. -/
  wheel : Option Nat
  deriving DecidableEq, Repr

/-- What a scheduler instance holds beside its registers. -/
structure Sched where
  v : Nat
  uq : Tab UpperQ
  ptat : Tab Nat
  deriving DecidableEq, Repr

/-! ## Connections and messages (11) -/

/-- Who waits for an outbound message. -/
inductive MsgWho where
  /-- A remote instruction: thread, token, number of the operation, stage address of a destination. -/
  | thread (t tok op dst : Nat)
  /-- A body message or the whole of a partial record, or its header (05 R224): partial number. -/
  | body (part : Nat)
  | whole (part : Nat)
  /-- A cruise message. -/
  | cruise
  /-- A mirror write of a tract: the local messages that wait for it are found by its number. -/
  | mirror (tract num : Nat)
  /-- A get from or a put to a lent window for a migration (10 T2). -/
  | lent (migr : Nat)
  deriving DecidableEq, Repr

/-- Where an outbound packet is. -/
inductive PktState where
  | unsent
  | flight
  | acked
  /-- Waits for a NAK's retry-after. -/
  | later
  deriving DecidableEq, Repr

/-- One packet of an outbound message. -/
structure OutPkt where
  off : Nat
  len : Nat
  /-- ARG of the packet. -/
  arg : BitVec 64
  st : PktState
  /-- Device-clock time of its last sending, timeout retransmissions, and whether it was ever sent again. -/
  at_ : Nat
  tries : Nat
  again : Bool
  /-- GET: its response bytes have arrived. -/
  got : Bool
  deriving DecidableEq, Repr

/-- An outbound message of a connection. -/
structure OutMsg where
  /-- Number of the message since the connection opened; MSG_ID is its low 16 bits. -/
  n : Nat
  ty : Nat
  tc : Nat
  notice : Bool
  key : BitVec 32
  base : BitVec 64
  /-- LAND: OFFSET is the handle in every packet. -/
  fixedOff : Bool
  data : List Byte
  len : Nat
  pkts : List OutPkt
  done : Bool
  naks : Nat
  who : MsgWho
  recovery : Bool
  deriving DecidableEq, Repr

/-- An inbound message that is open (R547). -/
structure InMsg where
  n : Nat
  ty : Nat
  len : Nat
  notice : Bool
  key : BitVec 32
  base : BitVec 64
  /-- Packet indices placed. -/
  got : List Nat
  count : Nat
  /-- Packets placed and not yet acknowledged, and whether one of them carried CE (R548). -/
  unacked : List Nat
  ece : Bool
  tc : Nat
  /-- RING, WORKQ and body bytes held until completion. -/
  held : Tab (List Byte)
  /-- Space that a RING or WORKQ message reserved (R552). -/
  space : Nat
  /-- Mirror writes of the message that the partner has not acknowledged (R556). -/
  mirrors : List Nat
  deriving DecidableEq, Repr

/-- A packet that waits for its context (R532). -/
structure Parked where
  port : Nat
  pkt : Pkt
  deriving DecidableEq, Repr

/-- A connection context (11 Table 7, R525 to R564). -/
structure Conn where
  /-- 1 OPENING, 2 OPEN, 3 CLOSING, 4 QUARANTINED. -/
  st : Nat
  stand : Nat
  peer : Nat
  peerConn : Nat
  join : BitVec 32
  epoch : BitVec 32
  /-- 0 on chip, 1 service memory, 2 host, 3 fetching. -/
  res : Nat
  /-- DMA request of an eviction under way. -/
  evict : Option Nat
  parked : List Parked
  w : Nat
  acked : Nat
  hold : Nat
  inflight : Nat
  srtt : Nat
  viol : Nat
  violInt : Nat
  violCnt : Nat
  txNext : Nat
  tx : List OutMsg
  /-- Inbound window base and the number after the highest message seen. -/
  rxBase : Nat
  rxTop : Nat
  rx : List InMsg
  /-- Finished messages within 64 of the base: number and whether completed. -/
  fin : Tab Bool
  /-- Results of the last 64 ATOM messages (R557). -/
  atoms : List (Nat × W64)
  /-- Tag of an open command not completed, with its stand, and of a close command. -/
  openCmd : Option (Nat × W64)
  closeCmd : Option (Nat × W64)
  /-- REASON of the CLOSE to send, and whether it was sent. -/
  reason : Nat
  closeSent : Bool
  /-- Port of a cruise connection; 16 for one to a node that is no link partner. -/
  cruise : Option Nat
  /-- A mirror connection (13 R665). -/
  mirror : Bool
  /-- Cruise messages that wait for the connection to open. -/
  wait : List (List Byte)
  /-- Device-clock time of the last packet. -/
  seen : Nat
  deriving DecidableEq, Repr

/-! ## Tracts (11 Tables 9 to 11; 13 R665) -/

/-- Where a tract is. -/
inductive TractState where
  /-- Registration waits for MIRROR_ACK. -/
  | opening
  | active
  | revoking
  | hold
  | free
  deriving DecidableEq, Repr

/-- A mirror write held back for its interval or its acknowledgement (13 R668 to R676). -/
structure MirSend where
  num : Nat
  interval : Nat
  /-- The partner has acknowledged it. An asynchronous write is listed until its interval's FLUSH is sent. -/
  acked : Bool
  flush : Bool
  deriving DecidableEq, Repr

/-- One asynchronous interval held at a partner (13 R675). -/
structure MirInterval where
  writes : List (List Byte)
  /-- Message count of its FLUSH. -/
  flush : Option Nat
  deriving DecidableEq, Repr

/-- The tract of an INDEX: the one registered, or the last one. -/
structure Tract where
  kind : Nat
  rights : Nat
  mode : Nat
  partner : Nat
  stand : Nat
  cell : Nat
  base : Nat
  len : Nat
  gen : Nat
  check : Nat
  st : TractState
  /-- T1 frames of its 64 KiB units. -/
  frames : List Nat
  /-- Admitted and not yet answered atomics (R542). -/
  inflight : Nat
  /-- Command that waits: registration under R663 or revocation under R542. -/
  cmd : Option (Nat × W64)
  /-- Ownership epoch of its own, for a promoted tract (13 R678). -/
  own : Option (BitVec 32)
  /-- Mirror tract's key at the partner. -/
  mkey : Option (BitVec 32)
  /-- Source node and key, kind, rights and length of a MIRROR tract. -/
  src : Option (Nat × BitVec 32)
  srcKind : Nat
  srcRights : Nat
  srcLen : Nat
  srcEpoch : BitVec 32
  /-- Mirror writes not yet acknowledged, oldest first, and the next one's number. -/
  sends : List MirSend
  sendNext : Nat
  /-- Next interval to flush at the source; next interval to apply at the partner. -/
  nextInt : Nat
  ints : Tab MirInterval
  deriving DecidableEq, Repr

/-! ## Composition (13) -/

/-- An offer or hand-over that this node takes part in and that is not settled (13 R656 to R659). -/
structure Disclaim where
  home : Nat
  slice : Nat
  epoch : BitVec 32
  /-- Node accepted for, or given by: true when this node accepted, false when it offered. -/
  accepted : Bool
  since : Nat
  deriving DecidableEq, Repr

/-- What PROMOTED told (13 R655, R681). -/
structure Promoted where
  node : Nat
  key : BitVec 32
  newNode : Nat
  newKey : BitVec 32
  epoch : BitVec 32
  deriving DecidableEq, Repr

end Sys2Proof.Machine
end

