-- ==== Sys2Proof/Machine/RegTable.lean ====
section
/-!
DEFINITION. The register tables of the spec: every register block as a list of rows, and every row as its
fields with access code (00 R6, Table 2), reset value and the rule for a written value that its description gives.
A field that is not listed is reserved (00 R10, R12). Rows whose reset column is "From inventory", "Fuses",
"Image" or "Binding" hold 0 here: readReg computes them from the state they show.
-/
namespace Sys2Proof.Machine

/-- Access codes (00 Table 2). RWS appears in no register table of the spec. -/
inductive Acc where
  | rw | ro | w1c | wo | rwl
  deriving DecidableEq, Repr

/-- What a register's description makes of a written value. -/
inductive Fix where
  /-- The value as written. -/
  | id
  /-- A value below n stores n. -/
  | min (n : Nat)
  /-- A value above n stores n. -/
  | max (n : Nat)
  /-- A value outside lo to hi stores the nearer bound. -/
  | clamp (lo hi : Nat)
  /-- A value outside lo to hi is ignored. -/
  | only (lo hi : Nat)
  /-- Any write stores n. -/
  | always (n : Nat)
  /-- A write of 7 stores 2 (14 Table 2). -/
  | sevenIsTwo
  /-- The field's own step decides (10 R468). -/
  | keepOld
  deriving DecidableEq, Repr

/-- One field of a register. -/
structure RegField where
  hi : Nat
  lo : Nat
  acc : Acc
  rst : Nat
  fix : Fix
  deriving DecidableEq, Repr

/-- One row of a register table: count registers at off, off + stride, ... -/
structure RegRow where
  off : Nat
  count : Nat
  stride : Nat
  fields : List RegField
  deriving DecidableEq, Repr

/-- The register blocks of the PF BAR0 map (17 Table 8). -/
inductive Blk where
  | glb | boot | flt | pwr | ftm | cmp | dir | hif | stand | port | sch | cell
  deriving DecidableEq, Repr

/-- The rows of the GLB (02 Tables 9 to 11, 03 Table 11) block. -/
def rowsGlb : List RegRow := [
  -- GLB_ID: PRODUCT LOGIC_STEP DRAM_STEP VARIANT CELLS_OK
  ⟨0x0, 1, 0x8, [⟨63, 48, .ro, 0x640, .id⟩, ⟨47, 40, .ro, 0, .id⟩, ⟨39, 32, .ro, 0, .id⟩, ⟨31, 24, .ro, 0, .id⟩, ⟨20, 16, .ro, 0, .id⟩]⟩,
  -- GLB_INV_STATUS: RESULT PAIR_FAIL PAIR_OK
  ⟨0x10, 1, 0x8, [⟨43, 40, .ro, 0, .id⟩, ⟨39, 20, .ro, 0, .id⟩, ⟨19, 0, .ro, 0, .id⟩]⟩,
  -- GLB_DIE_LO: REC_LO
  ⟨0x400, 40, 0x20, [⟨63, 0, .ro, 0, .id⟩]⟩,
  -- GLB_DIE_HI: REC_HI
  ⟨0x408, 40, 0x20, [⟨63, 0, .ro, 0, .id⟩]⟩,
  -- GLB_DIE_ST: FENCED CAUSE
  ⟨0x410, 40, 0x20, [⟨3, 3, .ro, 0, .id⟩, ⟨2, 0, .ro, 0, .id⟩]⟩,
  -- GLB_LOCK: LOCK
  ⟨0x18, 1, 0x8, [⟨0, 0, .rwl, 0, .id⟩]⟩,
  -- GLB_GRP_MASK: CELLS
  ⟨0x100, 4, 0x8, [⟨15, 0, .rw, 0, .id⟩]⟩]

/-- The rows of the BOOT and ATT (16 Table 9) block. -/
def rowsBoot : List RegRow := [
  -- BOOT_STATUS: SVN_OTP SVN LAST_RESET CAUSE CFG_BAD STAGE
  ⟨0x0, 1, 0x8, [⟨55, 48, .ro, 0, .id⟩, ⟨47, 40, .ro, 0, .id⟩, ⟨35, 32, .ro, 1, .id⟩, ⟨23, 16, .ro, 0, .id⟩, ⟨8, 8, .ro, 0, .id⟩, ⟨3, 0, .ro, 0, .id⟩]⟩,
  -- BOOT_CTL: CFG_ERASE COMMIT_SVN MODULE WARM
  ⟨0x8, 1, 0x8, [⟨3, 3, .wo, 0, .id⟩, ⟨2, 2, .wo, 0, .id⟩, ⟨1, 1, .wo, 0, .id⟩, ⟨0, 0, .wo, 0, .id⟩]⟩,
  -- BOOT_OTP_CTL: SLOT REVOKE
  ⟨0x10, 1, 0x8, [⟨9, 8, .wo, 0, .id⟩, ⟨0, 0, .wo, 0, .id⟩]⟩,
  -- BOOT_OTP: REVOKED ROOT_SLOT
  ⟨0x18, 1, 0x8, [⟨11, 8, .ro, 0, .id⟩, ⟨1, 0, .ro, 0, .id⟩]⟩,
  -- BOOT_FW_DIGEST: DIGEST
  ⟨0x40, 6, 0x8, [⟨63, 0, .ro, 0, .id⟩]⟩,
  -- BOOT_RCV_ADDR: ADDR
  ⟨0x80, 1, 0x8, [⟨63, 12, .rw, 0, .id⟩]⟩,
  -- BOOT_RCV_LEN: BYTES
  ⟨0x88, 1, 0x8, [⟨22, 0, .rw, 0, .id⟩]⟩,
  -- BOOT_RCV_CTL: GO
  ⟨0x90, 1, 0x8, [⟨0, 0, .wo, 0, .id⟩]⟩,
  -- BOOT_TIME: US
  ⟨0xA0, 1, 0x8, [⟨31, 0, .ro, 0, .id⟩]⟩,
  -- ATT_STAT: ERRORS RESPONSES
  ⟨0x8000, 1, 0x8, [⟨63, 32, .rw, 0, .id⟩, ⟨31, 0, .rw, 0, .id⟩]⟩]

/-- The rows of the FLT (14 Table 7) block. -/
def rowsFlt : List RegRow := [
  -- FLT_SUMMARY: ERR WORDS
  ⟨0x0, 1, 0x8, [⟨32, 32, .ro, 1, .id⟩, ⟨31, 0, .ro, 0, .id⟩]⟩,
  -- FLT_FIRST_SRC: VALID OVERFLOW KIND UNIT STAND_V STAND SRC
  ⟨0x8, 1, 0x8, [⟨63, 63, .ro, 0, .id⟩, ⟨62, 62, .ro, 0, .id⟩, ⟨47, 44, .ro, 0, .id⟩, ⟨43, 32, .ro, 0, .id⟩, ⟨31, 31, .ro, 0, .id⟩, ⟨30, 26, .ro, 0, .id⟩, ⟨9, 0, .ro, 0, .id⟩]⟩,
  -- FLT_FIRST_TIME: NS
  ⟨0x10, 1, 0x8, [⟨63, 0, .ro, 0, .id⟩]⟩,
  -- FLT_FIRST_DETAIL: DETAIL
  ⟨0x18, 1, 0x8, [⟨63, 0, .ro, 0, .id⟩]⟩,
  -- FLT_FIRST_CTL: CLEAR
  ⟨0x20, 1, 0x8, [⟨0, 0, .wo, 0, .id⟩]⟩,
  -- FLT_CORR_CFG: EDGE_LIMIT CELL_LIMIT
  ⟨0x28, 1, 0x8, [⟨31, 16, .rw, 256, .id⟩, ⟨15, 0, .rw, 256, .id⟩]⟩,
  -- FLT_CAP: NBUS CHANNELS CORES ENGINES T0_CELLS CELLS PORTS
  ⟨0x30, 1, 0x8, [⟨63, 48, .ro, 0, .id⟩, ⟨47, 32, .ro, 0, .id⟩, ⟨31, 24, .ro, 0, .id⟩, ⟨23, 16, .ro, 0, .id⟩, ⟨14, 10, .ro, 0, .id⟩, ⟨9, 5, .ro, 0, .id⟩, ⟨4, 0, .ro, 16, .id⟩]⟩,
  -- FLT_FENCE_CELL: T0_OUT PORTS CELLS
  ⟨0x38, 1, 0x8, [⟨47, 32, .ro, 0, .id⟩, ⟨31, 16, .ro, 0, .id⟩, ⟨15, 0, .ro, 0, .id⟩]⟩,
  -- FLT_FENCE_ENG: BITS
  ⟨0x40, 2, 0x8, [⟨63, 0, .ro, 0, .id⟩]⟩,
  -- FLT_FENCE_LMB: BITS
  ⟨0x50, 2, 0x8, [⟨63, 0, .ro, 0, .id⟩]⟩,
  -- FLT_FENCE_CH: BITS
  ⟨0x60, 4, 0x8, [⟨63, 0, .ro, 0, .id⟩]⟩,
  -- FLT_FENCE_NBU: BITS
  ⟨0x80, 16, 0x8, [⟨63, 0, .ro, 0, .id⟩]⟩,
  -- FLT_FENCE_LAST: KIND UNIT CAUSE SRC
  ⟨0x100, 1, 0x8, [⟨47, 44, .ro, 0, .id⟩, ⟨43, 32, .ro, 0, .id⟩, ⟨31, 28, .ro, 0, .id⟩, ⟨9, 0, .ro, 0, .id⟩]⟩,
  -- FLT_FENCE_TIME: NS
  ⟨0x108, 1, 0x8, [⟨63, 0, .ro, 0, .id⟩]⟩,
  -- FLT_FENCE_SET: KIND UNIT GO
  ⟨0x110, 1, 0x8, [⟨47, 44, .wo, 0, .id⟩, ⟨43, 32, .wo, 0, .id⟩, ⟨0, 0, .wo, 0, .id⟩]⟩,
  -- FLT_UNFENCE: 
  ⟨0x118, 1, 0x8, []⟩,
  -- FLT_STATUS: STATUS
  ⟨0x1000, 32, 0x8, [⟨31, 0, .w1c, 0, .id⟩]⟩,
  -- FLT_ENABLE: EN
  ⟨0x1100, 32, 0x8, [⟨31, 0, .rw, 0, .id⟩]⟩,
  -- FLT_FORCE: FORCE
  ⟨0x1200, 32, 0x8, [⟨31, 0, .wo, 0, .id⟩]⟩,
  -- FLT_SRC: COUNT REACT
  ⟨0x2000, 1024, 0x8, [⟨63, 32, .rw, 0, .id⟩, ⟨2, 0, .rw, 0, .sevenIsTwo⟩]⟩]

/-- The rows of the PWR and CLK (15 Tables 11, 12) block. -/
def rowsPwr : List RegRow := [
  -- PWR_STATE: MODULE CELLS
  ⟨0x0, 1, 0x8, [⟨35, 32, .ro, 0, .id⟩, ⟨31, 0, .ro, 0, .id⟩]⟩,
  -- PWR_STATE_CTL: REQ
  ⟨0x8, 1, 0x8, [⟨2, 0, .wo, 0, .id⟩]⟩,
  -- PWR_CELL_CFG: S2_IDLE_US S2_EN S1_EN S1_IDLE_NS
  ⟨0x10, 1, 0x8, [⟨63, 48, .rw, 0x3e8, .min 1⟩, ⟨32, 32, .rw, 0, .id⟩, ⟨16, 16, .rw, 1, .id⟩, ⟨15, 0, .rw, 0x3e8, .min 100⟩]⟩,
  -- PWR_OP_CTL: TARGET
  ⟨0x18, 1, 0x8, [⟨1, 0, .rw, 0, .id⟩]⟩,
  -- PWR_OP_STATUS: HOLD BUSY PIN_CAP SUPPLY_CAP THERM_CAP CURRENT
  ⟨0x20, 1, 0x8, [⟨25, 25, .ro, 0, .id⟩, ⟨24, 24, .ro, 0, .id⟩, ⟨17, 16, .ro, 0, .id⟩, ⟨13, 12, .ro, 0, .id⟩, ⟨9, 8, .ro, 0, .id⟩, ⟨1, 0, .ro, 0, .id⟩]⟩,
  -- PWR_SUPPLY: MIN_MV WARNS VIN_MV
  ⟨0x28, 1, 0x8, [⟨47, 32, .rw, 0xffff, .always 0xFFFF⟩, ⟨31, 16, .rw, 0, .id⟩, ⟨15, 0, .ro, 0, .id⟩]⟩,
  -- PWR_AVS_CFG: CLK_MHZ
  ⟨0x30, 1, 0x8, [⟨7, 0, .rw, 20, .clamp 1 50⟩]⟩,
  -- PWR_AVS_STAT: LAST_US RETRIES NOACK
  ⟨0x38, 1, 0x8, [⟨47, 32, .ro, 0, .id⟩, ⟨31, 16, .rw, 0, .id⟩, ⟨5, 0, .w1c, 0, .id⟩]⟩,
  -- PWR_THERM_CFG: WARN_C
  ⟨0x40, 1, 0x8, [⟨6, 0, .rw, 95, .clamp 60 100⟩]⟩,
  -- PWR_TEMP: TEMPS
  ⟨0x50, 3, 0x8, [⟨63, 0, .ro, 0, .id⟩]⟩,
  -- PWR_KEEP: VOTES
  ⟨0x68, 1, 0x8, [⟨31, 0, .ro, 0, .id⟩]⟩,
  -- PWR_REFUSE: ABORTED REFUSED
  ⟨0x108, 10, 0x8, [⟨63, 32, .rw, 0, .id⟩, ⟨31, 0, .rw, 0, .id⟩]⟩,
  -- PWR_LAST_REFUSER: STATE STAND ABORT UNIT CODE
  ⟨0x180, 1, 0x8, [⟨23, 20, .ro, 0, .id⟩, ⟨19, 15, .ro, 0, .id⟩, ⟨14, 14, .ro, 0, .id⟩, ⟨12, 8, .ro, 0, .id⟩, ⟨3, 0, .ro, 0, .id⟩]⟩,
  -- PWR_LAST_TIME: NS
  ⟨0x188, 1, 0x8, [⟨63, 0, .ro, 0, .id⟩]⟩,
  -- PWR_DOM_STAT: ISO ON LOGIC_RDY MEM_RDY CLK_RDY REG_RDY
  ⟨0x200, 60, 0x8, [⟨7, 7, .ro, 0, .id⟩, ⟨6, 6, .ro, 1, .id⟩, ⟨3, 3, .ro, 1, .id⟩, ⟨2, 2, .ro, 1, .id⟩, ⟨1, 1, .ro, 1, .id⟩, ⟨0, 0, .ro, 1, .id⟩]⟩,
  -- CLK_STATUS: REFUSED CELLPLL LINKPLL TIMEPLL SYSPLL XTAL1 XTAL0 SIO FIO
  ⟨0x8000, 1, 0x8, [⟨32, 32, .w1c, 0, .id⟩, ⟨31, 16, .ro, 0, .id⟩, ⟨11, 8, .ro, 0, .id⟩, ⟨5, 5, .ro, 0, .id⟩, ⟨4, 4, .ro, 0, .id⟩, ⟨3, 3, .ro, 0, .id⟩, ⟨2, 2, .ro, 0, .id⟩, ⟨1, 1, .ro, 1, .id⟩, ⟨0, 0, .ro, 1, .id⟩]⟩,
  -- CLK_GATE: EN
  ⟨0x8008, 1, 0x8, [⟨19, 0, .rw, 0xfffff, .id⟩]⟩,
  -- CLK_SEL: SRC
  ⟨0x8100, 19, 0x8, [⟨2, 0, .rw, 0, .id⟩]⟩]

/-- The rows of the FTM (12) block. -/
def rowsFtm : List RegRow := [
  -- FTM_NOW: NS
  ⟨0x0, 1, 0x8, [⟨63, 0, .ro, 0, .id⟩]⟩,
  -- FTM_NOW_FRAC: FRAC
  ⟨0x8, 1, 0x8, [⟨15, 0, .ro, 0, .id⟩]⟩,
  -- FTM_STATUS: REF_NODE PARENT_NODE PARENT_PORT DIST SET_DONE PPS_VALID REF STATE
  ⟨0x10, 1, 0x8, [⟨63, 48, .ro, 0, .id⟩, ⟨47, 32, .ro, 0, .id⟩, ⟨31, 28, .ro, 0, .id⟩, ⟨27, 20, .ro, 255, .id⟩, ⟨5, 5, .ro, 0, .id⟩, ⟨4, 4, .ro, 0, .id⟩, ⟨3, 3, .ro, 0, .id⟩, ⟨2, 0, .ro, 0, .id⟩]⟩,
  -- FTM_OFFSET: OFFSET DELAY
  ⟨0x18, 1, 0x8, [⟨63, 32, .ro, 0, .id⟩, ⟨31, 0, .ro, 0, .id⟩]⟩,
  -- FTM_CFG: SLEW_PPM STEP_NS
  ⟨0x20, 1, 0x8, [⟨41, 32, .rw, 200, .clamp 1 1000⟩, ⟨31, 0, .rw, 0x3e8, .id⟩]⟩,
  -- FTM_SET: NS
  ⟨0x28, 1, 0x8, [⟨63, 0, .wo, 0, .id⟩]⟩,
  -- FTM_EVENTS: STEPS HOLDOVERS
  ⟨0x30, 1, 0x8, [⟨63, 32, .ro, 0, .id⟩, ⟨31, 0, .ro, 0, .id⟩]⟩,
  -- FTM_TEL_BASE: ADDR
  ⟨0x40, 1, 0x8, [⟨63, 12, .rw, 0, .id⟩]⟩,
  -- FTM_TEL_LEN: KIB
  ⟨0x48, 1, 0x8, [⟨23, 0, .rw, 0, .id⟩]⟩,
  -- FTM_TEL_CTL: MASK EN
  ⟨0x50, 1, 0x8, [⟨63, 32, .rw, 0, .id⟩, ⟨0, 0, .rw, 0, .id⟩]⟩,
  -- FTM_TEL_HEAD: COUNT
  ⟨0x58, 1, 0x8, [⟨63, 0, .ro, 0, .id⟩]⟩,
  -- FTM_TEL_LOST: COUNT
  ⟨0x60, 1, 0x8, [⟨63, 0, .rw, 0, .id⟩]⟩,
  -- FTM_ASYM: CORR
  ⟨0x100, 16, 0x8, [⟨15, 0, .rw, 0, .id⟩]⟩,
  -- FTM_TA_TIME: NS
  ⟨0x2000, 32, 0x20, [⟨63, 0, .rw, 0, .id⟩]⟩,
  -- FTM_TA_ADDR: OFFSET
  ⟨0x2008, 32, 0x20, [⟨25, 0, .rw, 0, .id⟩]⟩,
  -- FTM_TA_DATA: VALUE
  ⟨0x2010, 32, 0x20, [⟨63, 0, .rw, 0, .id⟩]⟩,
  -- FTM_TA_CTL: PERIOD_NS MISSED FIRED ARM
  ⟨0x2018, 32, 0x20, [⟨63, 32, .rw, 0, .id⟩, ⟨31, 16, .rw, 0, .id⟩, ⟨1, 1, .w1c, 0, .id⟩, ⟨0, 0, .rw, 0, .id⟩]⟩]

/-- The rows of the CMP and MIR (13 Tables 9, 10) block. -/
def rowsCmp : List RegRow := [
  -- CMP_NODE: ROW RACK SLED SLOT
  ⟨0x0, 1, 0x8, [⟨15, 10, .rw, 0, .id⟩, ⟨9, 6, .rw, 0, .id⟩, ⟨5, 3, .ro, 0, .id⟩, ⟨2, 0, .ro, 0, .id⟩]⟩,
  -- CMP_STATUS: CRUISE_EPOCH LOOKOUT STATE
  ⟨0x8, 1, 0x8, [⟨63, 32, .ro, 0, .id⟩, ⟨31, 16, .ro, 0, .id⟩, ⟨2, 0, .ro, 1, .id⟩]⟩,
  -- CMP_CFG: ORPHAN_MS FAIL_US HB_US AUTO_ACCEPT
  ⟨0x10, 1, 0x8, [⟨63, 48, .rw, 50, .min 1⟩, ⟨47, 32, .rw, 0x3e8, .id⟩, ⟨31, 16, .rw, 250, .min 1⟩, ⟨0, 0, .rw, 1, .id⟩]⟩,
  -- CMP_CTL: ADVANCE
  ⟨0x18, 1, 0x8, [⟨0, 0, .wo, 0, .id⟩]⟩,
  -- CMP_STAT: HANDOVERS ORPHANS REFUSED
  ⟨0x20, 1, 0x8, [⟨63, 32, .rw, 0, .id⟩, ⟨31, 16, .rw, 0, .id⟩, ⟨15, 0, .rw, 0, .id⟩]⟩,
  -- CMP_SLICE_DEF: CELLS PORTS
  ⟨0x100, 16, 0x20, [⟨47, 32, .rw, 0, .id⟩, ⟨31, 16, .rw, 0, .id⟩]⟩,
  -- CMP_SLICE_STANDS: STANDS
  ⟨0x108, 16, 0x20, [⟨31, 0, .rw, 0, .id⟩]⟩,
  -- CMP_SLICE_REC: EPOCH OWNER STATE
  ⟨0x110, 16, 0x20, [⟨63, 32, .ro, 0, .id⟩, ⟨31, 16, .ro, 0, .id⟩, ⟨1, 0, .ro, 0, .id⟩]⟩,
  -- CMP_SLICE_CTL: TARGET OP
  ⟨0x118, 16, 0x20, [⟨31, 16, .wo, 0, .id⟩, ⟨2, 0, .wo, 0, .id⟩]⟩,
  -- CMP_OFFER_IN: HOME FROM VALID SLICE
  ⟨0x400, 1, 0x8, [⟨63, 48, .ro, 0, .id⟩, ⟨47, 32, .ro, 0, .id⟩, ⟨4, 4, .ro, 0, .id⟩, ⟨3, 0, .ro, 0, .id⟩]⟩,
  -- CMP_OFFER_EP: EPOCH
  ⟨0x408, 1, 0x8, [⟨31, 0, .ro, 0, .id⟩]⟩,
  -- CMP_OFFER_CTL: REFUSE ACCEPT
  ⟨0x410, 1, 0x8, [⟨1, 1, .wo, 0, .id⟩, ⟨0, 0, .wo, 0, .id⟩]⟩,
  -- CMP_MAP_SEL: INDEX
  ⟨0x800, 1, 0x8, [⟨9, 0, .rw, 0, .id⟩]⟩,
  -- CMP_MAP_VIEW: ENTRY
  ⟨0x808, 8, 0x8, [⟨63, 0, .ro, 0, .id⟩]⟩,
  -- MIR_CFG: LAG_US INTERVAL_US
  ⟨0x8000, 1, 0x8, [⟨47, 32, .rw, 0x3e8, .max 1000⟩, ⟨31, 16, .rw, 100, .clamp 1 500⟩]⟩,
  -- MIR_STAT: LAG_NS HELD
  ⟨0x8008, 1, 0x8, [⟨63, 32, .ro, 0, .id⟩, ⟨31, 0, .rw, 0, .id⟩]⟩,
  -- MIR_COUNT: COPIES SOURCES
  ⟨0x8010, 1, 0x8, [⟨63, 32, .ro, 0, .id⟩, ⟨31, 0, .ro, 0, .id⟩]⟩,
  -- MIR_PROMOTED: PROMOTIONS DISCARDED
  ⟨0x8018, 1, 0x8, [⟨63, 32, .rw, 0, .id⟩, ⟨31, 0, .rw, 0, .id⟩]⟩]

/-- The rows of the DIR (04 Table 10) block. -/
def rowsDir : List RegRow := [
  -- DIR_STATUS: MOVING COUNT
  ⟨0x0, 1, 0x8, [⟨19, 19, .ro, 0, .id⟩, ⟨18, 0, .ro, 0, .id⟩]⟩,
  -- DIR_SCRUB_CFG: EN PERIOD_MS
  ⟨0x8, 1, 0x8, [⟨32, 32, .rw, 1, .id⟩, ⟨31, 0, .rw, 0x3e8, .clamp 10 60000⟩]⟩,
  -- DIR_SCRUB_STAT: FIXED PASSES
  ⟨0x10, 1, 0x8, [⟨63, 32, .rw, 0, .id⟩, ⟨31, 0, .ro, 0, .id⟩]⟩,
  -- DIR_FIX_LAST: INDEX
  ⟨0x18, 1, 0x8, [⟨17, 0, .ro, 0, .id⟩]⟩,
  -- DIR_FIX_TIME: TIME
  ⟨0x20, 1, 0x8, [⟨63, 0, .ro, 0, .id⟩]⟩,
  -- DIR_GEN_HOLD: COUNT
  ⟨0x28, 1, 0x8, [⟨63, 0, .ro, 0, .id⟩]⟩,
  -- DIR_STAND_CNT: COUNT
  ⟨0x100, 32, 0x8, [⟨18, 0, .ro, 0, .id⟩]⟩,
  -- DIR_STAND_LIM: LIMIT
  ⟨0x200, 32, 0x8, [⟨18, 0, .rw, 0x2000, .max 262144⟩]⟩,
  -- DIR_PRE_CFG: EN HEADROOM
  ⟨0x300, 32, 0x8, [⟨32, 32, .rw, 1, .id⟩, ⟨31, 0, .rw, 0, .id⟩]⟩,
  -- DIR_PRE_STAT: RESTORES YARDINGS
  ⟨0x400, 32, 0x8, [⟨63, 32, .ro, 0, .id⟩, ⟨31, 0, .ro, 0, .id⟩]⟩]

/-- The rows of the HIF device-wide (17 Table 11) block. -/
def rowsHif : List RegRow := [
  -- HIF_LINK: RATE WIDTH L0P FLIT
  ⟨0x0, 1, 0x8, [⟨12, 9, .ro, 0, .id⟩, ⟨8, 4, .ro, 0, .id⟩, ⟨1, 1, .ro, 0, .id⟩, ⟨0, 0, .ro, 0, .id⟩]⟩,
  -- HIF_BAR2: VF_LOG2 PF_LOG2
  ⟨0x8, 1, 0x8, [⟨15, 8, .ro, 36, .id⟩, ⟨7, 0, .ro, 36, .id⟩]⟩,
  -- HIF_DMA_ERR: UR CA TIMEOUT POISONED
  ⟨0x10, 1, 0x8, [⟨63, 48, .rw, 0, .id⟩, ⟨47, 32, .rw, 0, .id⟩, ⟨31, 16, .rw, 0, .id⟩, ⟨15, 0, .rw, 0, .id⟩]⟩,
  -- HIF_RX_DROP: ECRC POISONED
  ⟨0x18, 1, 0x8, [⟨31, 16, .rw, 0, .id⟩, ⟨15, 0, .rw, 0, .id⟩]⟩,
  -- HIF_DMA_CFG: OUT_READS
  ⟨0x20, 1, 0x8, [⟨9, 0, .rw, 512, .clamp 1 768⟩]⟩]

/-- The rows of the stand window (17 Table 9) block. -/
def rowsStand : List RegRow := [
  -- SES_STATUS: LOCK_REMAIN FAILS STAND RESULT PENDING STATE
  ⟨0x1000, 1, 0x8, [⟨47, 32, .ro, 0, .id⟩, ⟨31, 24, .ro, 0, .id⟩, ⟨20, 16, .ro, 0, .id⟩, ⟨10, 8, .ro, 0, .id⟩, ⟨3, 3, .ro, 0, .id⟩, ⟨2, 0, .ro, 0, .id⟩]⟩,
  -- SES_COUNT: COUNT
  ⟨0x1008, 1, 0x8, [⟨31, 0, .ro, 0, .id⟩]⟩,
  -- SES_CTL: CLOSE SUBMIT CHALLENGE
  ⟨0x1010, 1, 0x8, [⟨2, 2, .wo, 0, .id⟩, ⟨1, 1, .wo, 0, .id⟩, ⟨0, 0, .wo, 0, .id⟩]⟩,
  -- SES_NONCE0: NONCE
  ⟨0x1040, 6, 0x8, [⟨63, 0, .ro, 0, .id⟩]⟩,
  -- SES_PROOF0: PROOF
  ⟨0x1080, 6, 0x8, [⟨63, 0, .wo, 0, .id⟩]⟩,
  -- STD_STATUS: LOCKED SESS_OPEN KEY_VALID RST_BUSY FUNC_EN
  ⟨0x0, 1, 0x8, [⟨4, 4, .ro, 0, .id⟩, ⟨3, 3, .ro, 0, .id⟩, ⟨2, 2, .ro, 0, .id⟩, ⟨1, 1, .ro, 0, .id⟩, ⟨0, 0, .ro, 0, .id⟩]⟩,
  -- STD_RESET: GO
  ⟨0x8, 1, 0x8, [⟨0, 0, .wo, 0, .id⟩]⟩,
  -- STD_SES_IDLE: IDLE_MS
  ⟨0x10, 1, 0x8, [⟨31, 0, .rw, 0x2710, .clamp 100 3600000⟩]⟩,
  -- STD_KEY0: KEY
  ⟨0x40, 6, 0x8, [⟨63, 0, .wo, 0, .id⟩]⟩,
  -- STD_KEY_CTL: ERASE COMMIT
  ⟨0x70, 1, 0x8, [⟨1, 1, .wo, 0, .id⟩, ⟨0, 0, .wo, 0, .id⟩]⟩,
  -- STD_Q_T0: PAGES
  ⟨0x100, 1, 0x8, [⟨31, 0, .rw, 0, .id⟩]⟩,
  -- STD_Q_T1: PAGES
  ⟨0x108, 1, 0x8, [⟨31, 0, .rw, 0, .id⟩]⟩,
  -- STD_Q_ENG: WEIGHT
  ⟨0x110, 1, 0x8, [⟨15, 0, .rw, 1, .min 1⟩]⟩,
  -- STD_Q_POOL: BUFFERS
  ⟨0x118, 1, 0x8, [⟨16, 0, .rw, 0, .id⟩]⟩,
  -- STD_Q_CONN: CONNS
  ⟨0x120, 1, 0x8, [⟨16, 0, .rw, 0, .id⟩]⟩,
  -- STD_Q_CTL: COMMIT
  ⟨0x128, 1, 0x8, [⟨0, 0, .wo, 0, .id⟩]⟩,
  -- STD_Q_STATUS: RESULT
  ⟨0x130, 1, 0x8, [⟨2, 0, .ro, 0, .id⟩]⟩,
  -- STD_USE_T0: PAGES
  ⟨0x140, 2, 0x8, [⟨31, 0, .ro, 0, .id⟩]⟩,
  -- STD_USE_POOL: COUNT
  ⟨0x150, 2, 0x8, [⟨16, 0, .ro, 0, .id⟩]⟩,
  -- STD_VIOL_CNT: COUNT
  ⟨0x200, 1, 0x8, [⟨31, 0, .rw, 0, .id⟩]⟩,
  -- STD_VIOL_LAST: KIND SPACE WRITE OFFSET
  ⟨0x208, 1, 0x8, [⟨55, 52, .ro, 0, .id⟩, ⟨51, 49, .ro, 0, .id⟩, ⟨48, 48, .ro, 0, .id⟩, ⟨47, 0, .ro, 0, .id⟩]⟩,
  -- STD_ATT_CFG: MERGE_GRACE_US MERGE_HOLD_US ABFT_FORCE DROP_LATE
  ⟨0x300, 1, 0x8, [⟨47, 32, .rw, 100, .id⟩, ⟨31, 16, .rw, 0x3e8, .min 1⟩, ⟨1, 1, .rw, 0, .id⟩, ⟨0, 0, .rw, 0, .id⟩]⟩,
  -- STD_ATT_STAT: MERGE_DISCARD BAD_RECORDS
  ⟨0x308, 1, 0x8, [⟨63, 32, .rw, 0, .id⟩, ⟨31, 0, .rw, 0, .id⟩]⟩,
  -- STD_KRN_CFG: WDOG_US STAGE_KIB
  ⟨0x400, 1, 0x8, [⟨47, 32, .rw, 0x7d0, .min 1⟩, ⟨15, 0, .rw, 0, .id⟩]⟩,
  -- STD_KRN_SLOTS: BUSY FAULTED LOADED
  ⟨0x408, 1, 0x8, [⟨23, 16, .ro, 0, .id⟩, ⟨15, 8, .ro, 0, .id⟩, ⟨7, 0, .ro, 0, .id⟩]⟩,
  -- STD_KRN_BIND: CHUNK_V CHUNK_SLOT WINDOW_V WINDOW_SLOT
  ⟨0x410, 1, 0x8, [⟨7, 7, .ro, 0, .id⟩, ⟨6, 4, .ro, 0, .id⟩, ⟨3, 3, .ro, 0, .id⟩, ⟨2, 0, .ro, 0, .id⟩]⟩,
  -- STD_KRN_EXC: COUNT LAST_CAUSE LAST_FATAL LAST_SLOT
  ⟨0x418, 1, 0x8, [⟨63, 32, .rw, 0, .id⟩, ⟨11, 8, .ro, 0, .id⟩, ⟨3, 3, .ro, 0, .id⟩, ⟨2, 0, .ro, 0, .id⟩]⟩,
  -- STD_STORED_T0: FRAMES
  ⟨0x160, 1, 0x8, [⟨35, 0, .ro, 0, .id⟩]⟩,
  -- STD_STORED_T1: FRAMES
  ⟨0x168, 1, 0x8, [⟨35, 0, .ro, 0, .id⟩]⟩,
  -- STD_NBX_STAT: BAD_DESC PROGRAMS
  ⟨0x500, 1, 0x8, [⟨63, 32, .rw, 0, .id⟩, ⟨31, 0, .rw, 0, .id⟩]⟩,
  -- STD_LZ_BASE: ADDR
  ⟨0x600, 1, 0x8, [⟨63, 12, .rw, 0, .id⟩]⟩,
  -- STD_LZ_LEN: MIB
  ⟨0x608, 1, 0x8, [⟨24, 0, .rw, 0, .clamp 1 16777215⟩]⟩,
  -- STD_LZ_CTL: EN
  ⟨0x610, 1, 0x8, [⟨0, 0, .rw, 0, .id⟩]⟩,
  -- STD_LZ_STATUS: REFUSED STATE
  ⟨0x618, 1, 0x8, [⟨8, 8, .ro, 0, .id⟩, ⟨1, 0, .ro, 0, .id⟩]⟩,
  -- STD_LZ_USE: FRAMES
  ⟨0x620, 1, 0x8, [⟨35, 0, .ro, 0, .id⟩]⟩,
  -- STD_PAGES_T0: PAGES
  ⟨0x630, 4, 0x8, [⟨31, 0, .ro, 0, .id⟩]⟩,
  -- FLT_SF_STATUS: OTHER MIRROR_LOST LZ_LOST ENGINE_FAULT DATA_LOST PEER_VIOL KRN_ASSERT KRN_EXC SESS_LOCKOUT
  ⟨0x4000, 1, 0x8, [⟨8, 8, .w1c, 0, .id⟩, ⟨7, 7, .w1c, 0, .id⟩, ⟨6, 6, .w1c, 0, .id⟩, ⟨5, 5, .w1c, 0, .id⟩, ⟨4, 4, .w1c, 0, .id⟩, ⟨3, 3, .w1c, 0, .id⟩, ⟨2, 2, .w1c, 0, .id⟩, ⟨1, 1, .w1c, 0, .id⟩, ⟨0, 0, .w1c, 0, .id⟩]⟩,
  -- FLT_SF_FIRST_SRC: VALID OVERFLOW KIND UNIT STAND_V STAND SRC
  ⟨0x4008, 1, 0x8, [⟨63, 63, .ro, 0, .id⟩, ⟨62, 62, .ro, 0, .id⟩, ⟨47, 44, .ro, 0, .id⟩, ⟨43, 32, .ro, 0, .id⟩, ⟨31, 31, .ro, 0, .id⟩, ⟨30, 26, .ro, 0, .id⟩, ⟨9, 0, .ro, 0, .id⟩]⟩,
  -- FLT_SF_FIRST_TIME: NS
  ⟨0x4010, 1, 0x8, [⟨63, 0, .ro, 0, .id⟩]⟩,
  -- FLT_SF_FIRST_DETAIL: DETAIL
  ⟨0x4018, 1, 0x8, [⟨63, 0, .ro, 0, .id⟩]⟩,
  -- FLT_SF_CTL: CLEAR
  ⟨0x4020, 1, 0x8, [⟨0, 0, .wo, 0, .id⟩]⟩,
  -- FLT_SF_COUNT: COUNT
  ⟨0x4028, 1, 0x8, [⟨31, 0, .rw, 0, .id⟩]⟩,
  -- HIF_CMD_BASE: ADDR
  ⟨0x2000, 1, 0x8, [⟨63, 12, .rw, 0, .id⟩]⟩,
  -- HIF_CMD_CFG: EN LOG2_ENTRIES
  ⟨0x2008, 1, 0x8, [⟨31, 31, .rw, 0, .id⟩, ⟨4, 0, .rw, 4, .only 4 16⟩]⟩,
  -- HIF_CMD_TAIL: TAIL
  ⟨0x2010, 1, 0x8, [⟨15, 0, .rw, 0, .id⟩]⟩,
  -- HIF_CMD_HEAD: HEAD
  ⟨0x2018, 1, 0x8, [⟨15, 0, .ro, 0, .id⟩]⟩,
  -- HIF_CMD_STAT: ERR
  ⟨0x2020, 1, 0x8, [⟨0, 0, .ro, 0, .id⟩]⟩,
  -- HIF_CPL_BASE: ADDR
  ⟨0x2040, 1, 0x8, [⟨63, 12, .rw, 0, .id⟩]⟩,
  -- HIF_CPL_CFG: EN LOG2_ENTRIES
  ⟨0x2048, 1, 0x8, [⟨31, 31, .rw, 0, .id⟩, ⟨4, 0, .rw, 4, .only 4 16⟩]⟩,
  -- HIF_CPL_HEAD: HEAD
  ⟨0x2050, 1, 0x8, [⟨15, 0, .rw, 0, .id⟩]⟩,
  -- HIF_CPL_TAIL: PHASE TAIL
  ⟨0x2058, 1, 0x8, [⟨16, 16, .ro, 1, .id⟩, ⟨15, 0, .ro, 0, .id⟩]⟩,
  -- HIF_CPL_IRQ: TIME_US COUNT EN VECTOR
  ⟨0x2060, 1, 0x8, [⟨63, 48, .rw, 10, .id⟩, ⟨47, 32, .rw, 0, .id⟩, ⟨31, 31, .rw, 0, .id⟩, ⟨7, 0, .rw, 0, .id⟩]⟩,
  -- HIF_CPL_STAT: LOST BACKLOG
  ⟨0x2068, 1, 0x8, [⟨63, 32, .rw, 0, .id⟩, ⟨16, 0, .ro, 0, .id⟩]⟩,
  -- HIF_FLT_IRQ: EN VECTOR
  ⟨0x2070, 1, 0x8, [⟨31, 31, .rw, 0, .id⟩, ⟨7, 0, .rw, 1, .id⟩]⟩,
  -- HIF_KEEP: VOTE
  ⟨0x2078, 1, 0x8, [⟨0, 0, .rw, 0, .id⟩]⟩,
  -- HIF_RING_STAT: WQ_USED RING_USED
  ⟨0x2080, 1, 0x8, [⟨44, 32, .ro, 0, .id⟩, ⟨12, 0, .ro, 0, .id⟩]⟩,
  -- HIF_APW_BASE: OFFSET
  ⟨0x3000, 16, 0x20, [⟨63, 16, .rw, 0, .id⟩]⟩,
  -- HIF_APW_LEN: UNITS
  ⟨0x3008, 16, 0x20, [⟨31, 0, .rw, 0, .id⟩]⟩,
  -- HIF_APW_TGT: KIND EN LAYER KEY or FIRST_PAGE
  ⟨0x3010, 16, 0x20, [⟨63, 62, .rw, 0, .id⟩, ⟨61, 61, .rw, 0, .id⟩, ⟨47, 40, .rw, 0, .id⟩, ⟨31, 0, .rw, 0, .id⟩]⟩,
  -- HIF_APW_ARG: HANDLE
  ⟨0x3018, 16, 0x20, [⟨58, 0, .rw, 0, .id⟩]⟩]

/-- The rows of the port window: PRT, CON and TRC (11) block. -/
def rowsPort : List RegRow := [
  -- PRT_CTL: RETRAIN EN
  ⟨0x0, 1, 0x8, [⟨1, 1, .wo, 0, .id⟩, ⟨0, 0, .rw, 0, .id⟩]⟩,
  -- PRT_STATUS: PEER_NODE PEER_PORT LANES STATE
  ⟨0x8, 1, 0x8, [⟨63, 48, .ro, 0, .id⟩, ⟨47, 44, .ro, 0, .id⟩, ⟨11, 8, .ro, 0, .id⟩, ⟨2, 0, .ro, 0, .id⟩]⟩,
  -- PRT_FEC: UNCORR CORR
  ⟨0x10, 1, 0x8, [⟨63, 32, .rw, 0, .id⟩, ⟨31, 0, .rw, 0, .id⟩]⟩,
  -- PRT_FEC_CFG: LIMIT
  ⟨0x18, 1, 0x8, [⟨15, 0, .rw, 8, .id⟩]⟩,
  -- PRT_REPLAY: COUNT
  ⟨0x20, 1, 0x8, [⟨63, 0, .rw, 0, .id⟩]⟩,
  -- PRT_DROP: HOP ICRC UNVERIFIED
  ⟨0x28, 1, 0x8, [⟨63, 48, .rw, 0, .id⟩, ⟨47, 32, .rw, 0, .id⟩, ⟨31, 0, .rw, 0, .id⟩]⟩,
  -- PRT_VIOL: COUNT
  ⟨0x30, 1, 0x8, [⟨31, 0, .rw, 0, .id⟩]⟩,
  -- PRT_CFG: SPRAY HOP_LIMIT
  ⟨0x8000, 1, 0x8, [⟨4, 4, .rw, 1, .id⟩, ⟨3, 0, .rw, 12, .clamp 1 12⟩]⟩,
  -- PRT_MARK: QBYTES FREE
  ⟨0x8008, 1, 0x8, [⟨63, 32, .rw, 0x40000, .id⟩, ⟨16, 0, .rw, 0x1000, .id⟩]⟩,
  -- PRT_POOL: FREE BORROW_MAX
  ⟨0x8010, 1, 0x8, [⟨48, 32, .ro, 0x10000, .id⟩, ⟨16, 0, .rw, 0x400, .id⟩]⟩,
  -- PRT_POOL_TR: TRANSIT_MIN
  ⟨0x8018, 1, 0x8, [⟨16, 0, .rw, 0x2000, .id⟩]⟩,
  -- PRT_ROUTE_RACK: MASK
  ⟨0x8100, 16, 0x8, [⟨15, 0, .rw, 0x7800, .id⟩]⟩,
  -- PRT_ROUTE_ROW: MASK
  ⟨0x8200, 64, 0x8, [⟨15, 0, .rw, 0x7800, .id⟩]⟩,
  -- PRT_VLOG_HEAD: COUNT
  ⟨0x8400, 1, 0x8, [⟨31, 0, .ro, 0, .id⟩]⟩,
  -- PRT_VLOG_T: TIME
  ⟨0x8800, 64, 0x10, [⟨63, 0, .ro, 0, .id⟩]⟩,
  -- PRT_VLOG_D: SRC_NODE CONN PORT TYPE NAK
  ⟨0x8808, 64, 0x10, [⟨63, 48, .ro, 0, .id⟩, ⟨47, 32, .ro, 0, .id⟩, ⟨31, 28, .ro, 0, .id⟩, ⟨27, 24, .ro, 0, .id⟩, ⟨23, 16, .ro, 0, .id⟩]⟩,
  -- CON_CFG: VIOL_MAX FETCH_HOLD_US MSG_TMO_US HOST_EN IDLE_MS
  ⟨0x9000, 1, 0x8, [⟨63, 48, .rw, 16, .id⟩, ⟨47, 32, .rw, 20, .min 1⟩, ⟨31, 16, .rw, 0x3e8, .id⟩, ⟨15, 15, .rw, 0, .id⟩, ⟨14, 0, .rw, 0x3e8, .id⟩]⟩,
  -- CON_WIN_CFG: CUT INIT_KIB INC_KIB
  ⟨0x9008, 1, 0x8, [⟨34, 32, .rw, 4, .min 1⟩, ⟨31, 16, .rw, 64, .clamp 4 4096⟩, ⟨15, 0, .rw, 4, .min 1⟩]⟩,
  -- CON_TMO: RTO_MIN_US NAK_RETRIES RETRIES
  ⟨0x9010, 1, 0x8, [⟨63, 32, .rw, 10, .id⟩, ⟨31, 16, .rw, 64, .id⟩, ⟨15, 0, .rw, 6, .id⟩]⟩,
  -- CON_HOST_BASE: ADDR
  ⟨0x9018, 1, 0x8, [⟨63, 12, .rw, 0, .id⟩]⟩,
  -- CON_HOST_LEN: KIB
  ⟨0x9020, 1, 0x8, [⟨24, 0, .rw, 0, .id⟩]⟩,
  -- CON_STAT: CHIP HOST PARKED
  ⟨0x9028, 1, 0x8, [⟨47, 32, .ro, 0, .id⟩, ⟨31, 16, .ro, 0, .id⟩, ⟨15, 0, .ro, 0, .id⟩]⟩,
  -- CON_SEL: CONN
  ⟨0x9100, 1, 0x8, [⟨15, 0, .rw, 0, .id⟩]⟩,
  -- CON_VIEW0: STATE RES SLED STAND PEER_CONN PEER_NODE
  ⟨0x9108, 1, 0x8, [⟨63, 61, .ro, 0, .id⟩, ⟨60, 59, .ro, 0, .id⟩, ⟨58, 58, .ro, 0, .id⟩, ⟨57, 53, .ro, 0, .id⟩, ⟨47, 32, .ro, 0, .id⟩, ⟨31, 16, .ro, 0, .id⟩]⟩,
  -- CON_VIEW1: WINDOW INFLIGHT
  ⟨0x9110, 1, 0x8, [⟨63, 32, .ro, 0, .id⟩, ⟨31, 0, .ro, 0, .id⟩]⟩,
  -- CON_VIEW2: SRTT_NS VIOL
  ⟨0x9118, 1, 0x8, [⟨63, 32, .ro, 0, .id⟩, ⟨31, 0, .ro, 0, .id⟩]⟩,
  -- CON_VIEW3: JOIN EPOCH
  ⟨0x9120, 1, 0x8, [⟨63, 32, .ro, 0, .id⟩, ⟨31, 0, .ro, 0, .id⟩]⟩,
  -- TRC_STAT: IN_USE
  ⟨0xA000, 1, 0x8, [⟨16, 0, .ro, 0, .id⟩]⟩,
  -- TRC_SEL: INDEX
  ⟨0xA100, 1, 0x8, [⟨15, 0, .rw, 0, .id⟩]⟩,
  -- TRC_VIEW: STATE KIND STAND RIGHTS GEN INFLIGHT
  ⟨0xA108, 1, 0x8, [⟨63, 62, .ro, 0, .id⟩, ⟨61, 58, .ro, 0, .id⟩, ⟨57, 53, .ro, 0, .id⟩, ⟨52, 48, .ro, 0, .id⟩, ⟨47, 40, .ro, 0, .id⟩, ⟨31, 0, .ro, 0, .id⟩]⟩]

/-- The rows of the scheduler instance (12) block. -/
def rowsSch : List RegRow := [
  -- SCH_ID: FORM INDEX
  ⟨0x0, 1, 0x8, [⟨9, 8, .ro, 0, .id⟩, ⟨4, 0, .ro, 0, .id⟩]⟩,
  -- SCH_CFG: KERNEL_COST TRANSIT_WEIGHT
  ⟨0x8, 1, 0x8, [⟨63, 32, .rw, 0x800, .id⟩, ⟨31, 16, .rw, 256, .min 1⟩]⟩,
  -- SCH_SHP_CFG: RESET_MODE
  ⟨0x10, 1, 0x8, [⟨0, 0, .rw, 0, .id⟩]⟩,
  -- SCH_VTIME: V
  ⟨0x18, 1, 0x8, [⟨63, 0, .ro, 0, .id⟩]⟩,
  -- SCH_WHEEL: OVERFLOW SLOT
  ⟨0x20, 1, 0x8, [⟨63, 32, .ro, 0, .id⟩, ⟨11, 0, .ro, 0, .id⟩]⟩,
  -- SCH_ST_CFG: WEIGHT QUANTUM
  ⟨0x100, 32, 0x20, [⟨47, 32, .rw, 1, .min 1⟩, ⟨31, 0, .rw, 0x4000, .min 1⟩]⟩,
  -- SCH_ST_RATE: RATE
  ⟨0x108, 32, 0x20, [⟨31, 0, .rw, 0, .id⟩]⟩,
  -- SCH_ST_BURST: BURST
  ⟨0x110, 32, 0x20, [⟨31, 0, .rw, 0x100000, .id⟩]⟩,
  -- SCH_ST_STAT: SERVED
  ⟨0x118, 32, 0x20, [⟨63, 0, .rw, 0, .id⟩]⟩,
  -- SCH_PRIV_CFG: RATE BURST SEL EN
  ⟨0x600, 8, 0x10, [⟨63, 32, .rw, 0, .id⟩, ⟨31, 8, .rw, 0, .id⟩, ⟨3, 1, .rw, 0, .id⟩, ⟨0, 0, .rw, 0, .id⟩]⟩,
  -- SCH_PRIV_TOK: TOKENS
  ⟨0x608, 8, 0x10, [⟨63, 0, .ro, 0, .id⟩]⟩,
  -- SCH_ROT_CTL: CANCEL CHANGE
  ⟨0x800, 1, 0x8, [⟨1, 1, .wo, 0, .id⟩, ⟨0, 0, .wo, 0, .id⟩]⟩,
  -- SCH_ROT_ADMIN_BASE: NS
  ⟨0x808, 1, 0x8, [⟨63, 0, .rw, 0, .id⟩]⟩,
  -- SCH_ROT_ADMIN_CYC: EN LEN CYCLE_NS
  ⟨0x810, 1, 0x8, [⟨40, 40, .rw, 0, .id⟩, ⟨38, 32, .rw, 1, .only 1 64⟩, ⟨31, 0, .rw, 0xf4240, .min 1000⟩]⟩,
  -- SCH_ROT_OPER_BASE: NS
  ⟨0x818, 1, 0x8, [⟨63, 0, .ro, 0, .id⟩]⟩,
  -- SCH_ROT_OPER_CYC: 
  ⟨0x820, 1, 0x8, []⟩,
  -- SCH_ROT_STATUS: GATE ENTRY REFUSED PENDING
  ⟨0x828, 1, 0x8, [⟨23, 16, .ro, 255, .id⟩, ⟨9, 4, .ro, 0, .id⟩, ⟨1, 1, .ro, 0, .id⟩, ⟨0, 0, .ro, 0, .id⟩]⟩,
  -- SCH_ROT_PEND: NS
  ⟨0x830, 1, 0x8, [⟨63, 0, .ro, 0, .id⟩]⟩,
  -- SCH_ROT_ADMIN: GATE DURATION_NS
  ⟨0x1000, 64, 0x8, [⟨39, 32, .rw, 255, .id⟩, ⟨31, 0, .rw, 0, .id⟩]⟩,
  -- SCH_ROT_OPER: GATES
  ⟨0x1200, 64, 0x8, [⟨39, 32, .ro, 255, .id⟩]⟩]

/-- The rows of the cell window (17 Table 10) block. -/
def rowsCell : List RegRow := [
  -- CDC_RAW_THRESH: SIXTEENTHS
  ⟨0x40000, 1, 0x8, [⟨4, 0, .rw, 14, .max 16⟩]⟩,
  -- CDC_SEAL_BLK: RAW CODED
  ⟨0x40010, 1, 0x8, [⟨63, 32, .rw, 0, .id⟩, ⟨31, 0, .rw, 0, .id⟩]⟩,
  -- CDC_SEAL_IN: BYTES
  ⟨0x40018, 1, 0x8, [⟨63, 0, .rw, 0, .id⟩]⟩,
  -- CDC_SEAL_OUT: BYTES
  ⟨0x40020, 1, 0x8, [⟨63, 0, .rw, 0, .id⟩]⟩,
  -- CDC_EXP_ERR: COUNT
  ⟨0x40028, 1, 0x8, [⟨31, 0, .rw, 0, .id⟩]⟩,
  -- CDC_SLOT: MODE COUNT
  ⟨0x40100, 16, 0x8, [⟨33, 32, .ro, 0, .id⟩, ⟨31, 0, .ro, 0, .id⟩]⟩,
  -- ENG_EXP_STALL: CLOCKS
  ⟨0x10800, 6, 0x4000, [⟨63, 0, .rw, 0, .id⟩]⟩,
  -- ENG_EXP_BUSY: CLOCKS
  ⟨0x10808, 6, 0x4000, [⟨63, 0, .rw, 0, .id⟩]⟩,
  -- NBU_STATUS: POSTPONED FENCED PAUSED BUSY
  ⟨0x50000, 64, 0x400, [⟨11, 8, .ro, 0, .id⟩, ⟨2, 2, .ro, 0, .id⟩, ⟨1, 1, .ro, 0, .id⟩, ⟨0, 0, .ro, 0, .id⟩]⟩,
  -- NBU_SLICES: COUNT
  ⟨0x50008, 64, 0x400, [⟨63, 0, .rw, 0, .id⟩]⟩,
  -- NBU_REFRESH_PAUSE: COUNT
  ⟨0x50010, 64, 0x400, [⟨63, 0, .rw, 0, .id⟩]⟩,
  -- NBU_PAUSE_NS: NS
  ⟨0x50018, 64, 0x400, [⟨63, 0, .rw, 0, .id⟩]⟩,
  -- NBU_CORR: COUNT
  ⟨0x50020, 64, 0x400, [⟨63, 0, .rw, 0, .id⟩]⟩,
  -- NBU_ERR: LAST_KIND COUNT
  ⟨0x50028, 64, 0x400, [⟨33, 32, .ro, 0, .id⟩, ⟨31, 0, .rw, 0, .id⟩]⟩,
  -- NBU_CFG: SLICE_NS
  ⟨0x50040, 64, 0x400, [⟨10, 0, .rw, 0x7d0, .clamp 250 2000⟩]⟩,
  -- TIE_CFG: MIG_MAX PROMOTE_HEAT HEAT_INC
  ⟨0x60000, 1, 0x8, [⟨21, 16, .rw, 32, .min 1⟩, ⟨15, 8, .rw, 24, .id⟩, ⟨7, 0, .rw, 8, .id⟩]⟩,
  -- TIE_GUEST_FLOOR: FRAMES
  ⟨0x60008, 1, 0x8, [⟨27, 0, .rw, 0x10000, .id⟩]⟩,
  -- TIE_FRAMES: FREE GUEST
  ⟨0x60010, 1, 0x8, [⟨59, 32, .ro, 0x8000000, .id⟩, ⟨27, 0, .ro, 0, .id⟩]⟩,
  -- TIE_PROMOTIONS: COUNT
  ⟨0x60020, 2, 0x8, [⟨63, 0, .rw, 0, .id⟩]⟩,
  -- TIE_CANCELLED: COUNT
  ⟨0x60030, 2, 0x8, [⟨63, 0, .rw, 0, .id⟩]⟩,
  -- TIE_SVC_RES: GIB
  ⟨0x60800, 1, 0x8, [⟨6, 0, .rwl, 0, .keepOld⟩]⟩,
  -- TIE_T1_CAP: PAGES
  ⟨0x60808, 1, 0x8, [⟨31, 0, .ro, 0x180000, .id⟩]⟩,
  -- TIE_LEND_CFG: MAX_GRAN EN
  ⟨0x60810, 1, 0x8, [⟨10, 8, .rw, 7, .id⟩, ⟨0, 0, .rw, 0, .id⟩]⟩,
  -- TIE_T2_HELD: LENT_MIB HELD_MIB
  ⟨0x60818, 1, 0x8, [⟨63, 32, .ro, 0, .id⟩, ⟨31, 0, .ro, 0, .id⟩]⟩,
  -- TIE_OVERFLOW: T3_PAGES NOFRAME
  ⟨0x60820, 1, 0x8, [⟨63, 32, .ro, 0, .id⟩, ⟨31, 0, .rw, 0, .id⟩]⟩,
  -- TIE_EVAC: LOST DONE
  ⟨0x60828, 1, 0x8, [⟨63, 32, .rw, 0, .id⟩, ⟨31, 0, .rw, 0, .id⟩]⟩,
  -- PTL_RUN: SWEEP KIND UNIT PATTERN
  ⟨0x80000, 1, 0x8, [⟨31, 31, .wo, 0, .id⟩, ⟨18, 16, .wo, 0, .id⟩, ⟨13, 8, .wo, 0, .id⟩, ⟨2, 0, .wo, 0, .id⟩]⟩,
  -- PTL_STATUS: LAST_PATTERN LAST_UNIT LAST_KIND LAST_FAIL BUSY BIN TEMP
  ⟨0x80008, 1, 0x8, [⟨34, 32, .ro, 0, .id⟩, ⟨29, 24, .ro, 0, .id⟩, ⟨20, 18, .ro, 0, .id⟩, ⟨17, 17, .ro, 0, .id⟩, ⟨16, 16, .ro, 0, .id⟩, ⟨15, 8, .ro, 0, .id⟩, ⟨7, 0, .ro, 0, .id⟩]⟩,
  -- PTL_COUNT: FAILS RUNS
  ⟨0x80010, 1, 0x8, [⟨63, 32, .rw, 0, .id⟩, ⟨31, 0, .rw, 0, .id⟩]⟩,
  -- PTL_SKIP: SKIPPED
  ⟨0x80018, 1, 0x8, [⟨31, 0, .rw, 0, .id⟩]⟩,
  -- PTL_CFG: WAIT_US
  ⟨0x80020, 1, 0x8, [⟨15, 0, .rw, 200, .min 1⟩]⟩,
  -- PTL_LOG_HEAD: COUNT
  ⟨0x800F8, 1, 0x8, [⟨63, 0, .ro, 0, .id⟩]⟩,
  -- PTL_LOG_T: NS
  ⟨0x80100, 16, 0x10, [⟨63, 0, .ro, 0, .id⟩]⟩,
  -- PTL_LOG_D: TEMP BIN KIND UNIT PATTERN
  ⟨0x80108, 16, 0x10, [⟨31, 24, .ro, 0, .id⟩, ⟨20, 16, .ro, 0, .id⟩, ⟨14, 12, .ro, 0, .id⟩, ⟨11, 6, .ro, 0, .id⟩, ⟨2, 0, .ro, 0, .id⟩]⟩]

/-- The rows of a block. -/
def rowsOf : Blk → List RegRow
  | .glb => rowsGlb | .boot => rowsBoot | .flt => rowsFlt | .pwr => rowsPwr | .ftm => rowsFtm | .cmp => rowsCmp
  | .dir => rowsDir | .hif => rowsHif | .stand => rowsStand | .port => rowsPort | .sch => rowsSch | .cell => rowsCell

/-- True when a register of the row lies at the offset. -/
def RegRow.covers (r : RegRow) (off : Nat) : Bool :=
  r.off ≤ off && (off - r.off) % r.stride == 0 && (off - r.off) / r.stride < r.count

/-- The row of a register, if the offset is not reserved. -/
def findRow (b : Blk) (off : Nat) : Option RegRow := (rowsOf b).find? fun r => r.covers off

/-- The word that the reset column gives. -/
def RegRow.resetWord (r : RegRow) : W64 :=
  r.fields.foldl (fun w f => putBits w f.hi f.lo f.rst) 0#64

/-- Offset of a block in the PF BAR0 map (17 Table 8). -/
def Blk.base : Blk → Nat
  | .glb => 0x0 | .boot => 0x10000 | .flt => 0x20000 | .pwr => 0x30000 | .ftm => 0x40000 | .cmp => 0x50000
  | .dir => 0x60000 | .hif => 0x70000 | .stand => 0x100000 | .port => 0x400000 | .sch => 0x800000
  | .cell => 0x1000000

/-- Size of one instance of a block. -/
def Blk.size : Blk → Nat
  | .cell => 0x100000
  | _ => 0x10000

/-- Number of instances of a block. -/
def Blk.insts : Blk → Nat
  | .stand => 32 | .port => 16 | .sch => 33 | .cell => 16
  | _ => 1

end Sys2Proof.Machine
end

