-- ==== Sys2Proof/Machine/Types.lean ====
section
/-!
DEFINITION. The records that the state and the commands hold, as the spec lays them out.
-/
namespace Sys2Proof.Machine

/-! ## Registers and units -/

/-- One register instance: block, instance, offset in the instance. -/
structure Loc where
  blk : Blk
  inst : Nat
  off : Nat
  deriving DecidableEq, Repr

/-- Unit kinds of the fault chapter (14 Table 7, FLT_FIRST_SRC.KIND). -/
inductive UnitKind where
  | none | engine | core | nbu | channel | port | cell | edge
  deriving DecidableEq, Repr

/-- A unit by its kind and device-wide index (14, "The source table"). -/
structure FUnit where
  kind : UnitKind
  idx : Nat
  deriving DecidableEq, Repr

/-- A fence set after the inventory (14 R710, R715, R716). -/
structure FenceInfo where
  /-- 2 reaction, 3 device action, 4 mesh route, 5 patrol, 6 FLT_FENCE_SET (14 Table 7). -/
  cause : Nat
  /-- Cruise epoch held when FLT_UNFENCE was written; the fence goes when the epoch rises above it. -/
  lift : Option Nat
  deriving DecidableEq, Repr

/-- What a raise event still has to do (14 Table 2). -/
inductive React where
  | fence (u : FUnit) (cause src : Nat)
  | fenceCell (c : Nat) (cause src : Nat)
  | resetStand (s : Nat)
  | halt
  deriving DecidableEq, Repr

/-! ## Stands and sessions (03) -/

/-- Session states (03 Table 5). RESETTING is read while the stand's reset is busy. -/
inductive SesState where
  | closed | challenged | opened | locked
  deriving DecidableEq, Repr

/-- Outcome of the last CHALLENGE or SUBMIT (03 Table 5). -/
inductive SesResult where
  | none | opened | badProof | noNonce | locked | noKey | busy | issued
  deriving DecidableEq, Repr

/-- The operation that PENDING stands for (03 R851). -/
inductive SesOp where
  | challenge | submit
  deriving DecidableEq, Repr

/-- The five quotas (03 R91). -/
structure Quota where
  t0 : Nat
  t1 : Nat
  eng : Nat
  pool : Nat
  conn : Nat
  deriving DecidableEq, Repr

/-- What one stand slot holds beside its registers (03). -/
structure Stand where
  /-- The committed access key (R69, R71). -/
  key : Option (BitVec 384)
  /-- STD_KEY0 to STD_KEY5. -/
  staged : BitVec 384
  /-- SES_PROOF0 to SES_PROOF5. -/
  proof : BitVec 384
  /-- SES_NONCE0 to SES_NONCE5. -/
  nonce : BitVec 384
  /-- The proof taken when SUBMIT was written. -/
  given : BitVec 384
  ses : SesState
  result : SesResult
  op : Option SesOp
  /-- Consecutive failures (R79, R80). -/
  fails : Nat
  /-- Device-clock time at which the lockout ends (R80). -/
  lockEnd : Nat
  /-- SES_COUNT. -/
  count : BitVec 32
  /-- Quotas in force (R91). -/
  quota : Quota
  /-- RST_BUSY. -/
  rst : Bool
  /-- FUNC_EN. -/
  funcEn : Bool
  /-- Sequences yarded by the reset, whose yarding starts when it completes (03 Table 6). -/
  yards : List Nat
  deriving DecidableEq, Repr

/-! ## Host commands and completions (17) -/

/-- A command entry as fetched (17 Table 4); the command of the model names the opcode. -/
structure CmdEntry where
  /-- Offset 1, zero. -/
  rsv : Byte
  target : BitVec 16
  dataLen : BitVec 32
  tag : W64
  dataAddr : W64
  arg : W64
  /-- Offsets 32 to 63, byte 0 lowest. -/
  inline : BitVec 256
  /-- The payload that the device read by DMA, when DATA_LEN is above 32. -/
  data : List Byte
  deriving DecidableEq, Repr

/-- A completion entry (17 Table 5) but for its PHASE. -/
structure CplEntry where
  tag : W64
  r0 : W64
  r1 : W64
  kind : Nat
  opcode : Nat
  /-- STATUS[15:12], the table that holds the code. -/
  tbl : Nat
  /-- STATUS[11:0]. -/
  code : Nat
  deriving DecidableEq, Repr

/-- One MSI-X entry (17 R818). -/
structure MsixEntry where
  masked : Bool
  pend : Bool
  deriving DecidableEq, Repr

/-- A function's PCIe controls (17 R817). -/
structure FnCtl where
  bme : Bool
  d3 : Bool
  deriving DecidableEq, Repr

/-- The completion side of a stand's queues that no register holds (17 R814, R818). -/
structure HostQ where
  backlog : List CplEntry
  unsignalled : Nat
  /-- Command entries fetched and not yet started: opcode and entry (R811). -/
  fetched : List (Nat × CmdEntry)
  deriving DecidableEq, Repr

/-! ## Sequences, pages and tiles (04, 08, 10) -/

/-- A pin of a walk on one layer's generation (04 R135, R138). -/
structure Pin where
  id : Nat
  set : Nat
  layer : Nat
  gen : Nat
  thread : Nat
  deriving DecidableEq, Repr

/-- A replaced generation of a layer whose table pages are not freed yet (04 R136, R137). -/
structure OldGen where
  set : Nat
  layer : Nat
  gen : Nat
  root : Nat
  deriving DecidableEq, Repr

/-- An edit held under the four-generation limit: a page opened and not yet published (04 R136). -/
structure HeldEdit where
  set : Nat
  layer : Nat
  page : Nat
  pte : W64
  deriving DecidableEq, Repr

/-- Frames freed by a commit that wait for the walks begun before it (04 R138). -/
structure DeferFree where
  tier : Nat
  stand : Nat
  frame : Nat
  waits : List Nat
  deriving DecidableEq, Repr

/-- What placement keeps of one page beside its table entry (10 R471; 09 R445). -/
structure PageInfo where
  stand : Nat
  /-- Charged tier; none when the charge is released. -/
  charge : Option Nat
  /-- Near-bank program that holds the page. -/
  hold : Option Nat
  /-- Set by a placement in T3 (10 R484), clear when yarded. -/
  overflow : Bool
  /-- Token positions of an open page that have landed, as a mask (11 R549). -/
  landed : Nat
  deriving DecidableEq, Repr

/-- A run of frames: held by one tile, or by a region that is no page (weights, scratch, a lent window). -/
structure Run where
  len : Nat
  tile : Bool
  deriving DecidableEq, Repr

/-- A table slot of the codec (08 R390). -/
structure CodecSlot where
  /-- 0 EMPTY, 1 ACTIVE, 2 DECODE_ONLY. -/
  mode : Nat
  lens : List Nat
  count : Nat
  deriving DecidableEq, Repr

/-- Who waits for a directory operation: a host command (stand, tag, opcode) or a thread's register. -/
inductive DirWaiter where
  | host (s : Nat) (tag : W64) (opc : Nat)
  | thread (t reg : Nat)
  | none
  deriving DecidableEq, Repr

/-- An insertion or deletion whose entry moves are not finished (04 R143 to R146). -/
structure DirOp where
  key : Nat
  /-- The value inserted, or none for a deletion. -/
  val : Option W64
  who : DirWaiter
  deriving DecidableEq, Repr

/-- A yarding or a restore in progress (04 R164, R169). -/
structure SeqMove where
  key : Nat
  restore : Bool
  /-- Pages still to move, layer and page, in the order of R164. -/
  todo : List (Nat × Nat)
  /-- DMA request of the page in flight. -/
  dma : Option Nat
  deriving DecidableEq, Repr

/-- A migration between steps 1 and 4 of R485, or a recode of one page (08 R399). -/
structure Migr where
  id : Nat
  set : Nat
  layer : Nat
  page : Nat
  /-- Destination tier and frame. -/
  tier : Nat
  frame : Nat
  /-- 1 PROMOTING, 2 EVICTING, 5 SEALING (a recode). -/
  mig : Nat
  /-- Cell at which it counts against MIG_MAX (R486). -/
  cell : Nat
  /-- The recoded tile, when it is a recode; the bytes read from T2 or T3 so far. -/
  tile : List Byte
  /-- 0 a copy inside the device, 1 reading from T2 or T3, 2 writing to T2 or T3. -/
  leg : Nat
  deriving DecidableEq, Repr

/-- A recode pass of the codec (08 R399 to R401). -/
structure RecodePass where
  slot : Nat
  stand : Nat
  tag : W64
  deriving DecidableEq, Repr

/-- A promotion requested and not started: page, high priority (10 R480, Table 2). -/
structure PromoteReq where
  set : Nat
  layer : Nat
  page : Nat
  tier : Nat
  deriving DecidableEq, Repr

/-- Status of a failed DMA request (17 Table 7, codes 16 to 20). -/
inductive DmaErr where
  | ur | ca | timeout | poisoned | disabled
  deriving DecidableEq, Repr

/-- What a DMA request ended with. -/
inductive DmaRes where
  | ok (data : List Byte)
  | fail (e : DmaErr)
  deriving DecidableEq, Repr

/-- What an outstanding DMA request is for (17 R812, R816, R819). -/
inductive DmaUse where
  /-- Fetch of n command entries of a stand. -/
  | cmdFetch (s n : Nat)
  /-- Payload of a fetched command. -/
  | payload (s opc : Nat) (e : CmdEntry)
  /-- Tile write of a yarding: sequence, layer, page, zone frame. -/
  | yard (key layer page frame : Nat)
  /-- Tile read of a restore. -/
  | restore (key layer page : Nat)
  /-- Tile write or read of a migration to or from T3. -/
  | migrate (id : Nat)
  /-- A telemetry record. -/
  | telemetry
  /-- Eviction of a connection context to host memory. -/
  | ctxEvict (conn : Nat)
  /-- Fetch of a connection context. -/
  | ctxFetch (conn : Nat)
  /-- The recovery image. -/
  | recovery
  deriving DecidableEq, Repr

/-- An outstanding DMA request. -/
structure DmaReq where
  id : Nat
  /-- Stand whose function's requester ID it carries. -/
  fn : Nat
  use : DmaUse
  /-- Times it has been sent again. -/
  tries : Nat
  deriving DecidableEq, Repr

/-- A window of a neighbour's T1 that this module holds borrowed (10 R490 to R496). -/
structure LendIn where
  /-- Lender's node. -/
  lender : Nat
  /-- Tract key of the window on the lender. -/
  tract : Nat
  /-- First frame of the window in this module's T2 numbering. -/
  first : Nat
  frames : Nat
  /-- Set by a reclaim: no tile is placed there any more. -/
  closing : Bool
  deriving DecidableEq, Repr

/-- A window of this module's T1 lent to a neighbour. -/
structure LendOut where
  borrower : Nat
  tract : Nat
  /-- First frame of each granule of 256 MiB. -/
  granules : List Nat
  /-- A reclaim has been sent (10 R494). -/
  reclaimed : Bool
  deriving DecidableEq, Repr

/-- A sequence copy of the mirror index (13 R667). -/
structure CopySeq where
  set : Nat
  profile : Nat
  /-- Attribute word of its SEQ_NEW. -/
  attr : Nat
  /-- MIRROR tract that feeds it. -/
  tract : Nat
  deriving DecidableEq, Repr

/-! ## Kernels, threads and tiles (06, 07) -/

/-- A loaded kernel image (06 Table 9); its bytes are kept in service memory. -/
structure Image where
  stand : Nat
  slot : Nat
  textLen : Nat
  dataOff : Nat
  dataLen : Nat
  entry : Nat
  excEntry : Nat
  kinds : Nat
  rowsets : Nat
  regions : Nat
  stageLen : Nat
  service : Bool
  /-- The image file. -/
  bytes : List Byte
  /-- SHA-384 of bytes 0 to TOTAL_LEN - 97 (R297). -/
  digest : BitVec 384
  /-- Service pages it occupies. -/
  pages : List Nat
  /-- False once a later load or an unload replaced it (R300, R301). -/
  live : Bool
  deriving DecidableEq, Repr

/-- A limber core (06 R244, R246). -/
structure Core where
  /-- Image bound to it. -/
  image : Option Nat
  /-- Set by a fatal exception: unbound when its other threads have ended their sub-orders (R292). -/
  closing : Bool
  /-- Local memory. -/
  mem : Memory
  deriving DecidableEq, Repr

/-- What an asynchronous operation is, on its token. -/
inductive TokKind where
  /-- A tile operation; a fetch of a page names the tile's first frame. -/
  | tile (src : Option Nat)
  | nbx (prog : Nat)
  | remote (msg : Nat)
  deriving DecidableEq, Repr

/-- A completion token in use (06 R281). -/
structure Tok where
  kind : TokKind
  anon : Bool
  /-- Status the operation will complete with, once it is known. -/
  ready : Option Nat
  /-- Completed with a status. -/
  done : Option Nat
  deriving DecidableEq, Repr

/-- What a thread waits for (06 R245). -/
inductive Wait where
  | run
  /-- Stopped until the core is next bound (R294). -/
  | stopped
  /-- Destination register, descriptor address, and device-clock time since which it waits (R248). -/
  | qpop (gd addr since : Nat)
  | qpush (status : Nat)
  | twait (gd tok : Nat)
  | twaitAll (gd : Nat)
  | nbwait (gd tok : Nat)
  | rfence (gd : Nat) (toks : List Nat)
  | tsleep (fab : Nat)
  /-- A directory insertion or deletion whose status goes to a register (07 Table 12). -/
  | table (gd : Nat)
  deriving DecidableEq, Repr

/-- One row of a partial: m, l and o (05 R197, R222). -/
structure Row where
  m : BitVec 32
  l : BitVec 32
  o : List (BitVec 32)
  deriving DecidableEq, Repr

/-- A query row of a row set: head, token index in the record, its elements, and its check accumulators (05 R218). -/
structure QRow where
  /-- Row of the sub-order's output area. -/
  idx : Nat
  /-- Absolute position of its query token. -/
  pos : Nat
  q : List Fv
  st : Row
  c : BitVec 32
  a : BitVec 32
  /-- Keys folded. -/
  n : Nat
  deriving DecidableEq, Repr

/-- A query row set (06, "Tiles"). -/
structure RowSet where
  engine : Nat
  /-- Reserved slot of the thread that it takes. -/
  slot : Nat
  kvHead : Nat
  dim : Nat
  /-- Format of the query as received: 5 BF16, 3 E4M3, 4 E5M2 (R175). -/
  qFmt : Nat
  /-- Value format of the profile (05 Table 6). -/
  vFmt : Nat
  check : Bool
  /-- KIND, Q0, POS_BASE, MASK and MASK_ARG of the record. -/
  kind : Nat
  q0 : Nat
  posBase : Nat
  mask : Nat
  arg : Nat
  rows : List QRow
  /-- Scores of the last TQK, one list for each row; none where a key is masked. -/
  scores : List (List (Option (BitVec 32)))
  /-- Rounded probabilities and rescale factors of the last TSMX. -/
  probs : List (List Fv)
  scale : List (BitVec 32)
  /-- No position of the last operand was visible (R278). -/
  skip : Bool
  /-- Operand handle and its version that the last TQK named (R277). -/
  last : Option (Nat × Nat)
  /-- Format in which p is rounded: 5 BF16, 3 E4M3 (05 Table 5). -/
  pFmt : Nat
  deriving DecidableEq, Repr

/-- One part of a KV operand: a page's tile as stored, or the window's own keys and values (R273). -/
structure KvPart where
  window : Bool
  /-- First token of the page in its sequence; 0 for a window. -/
  tok0 : Nat
  count : Nat
  prof : Profile
  /-- First KV head that the bytes hold: 0 for a page, HEAD_LO for a window; and the heads held. -/
  headLo : Nat
  heads : Nat
  /-- Tile bytes of a page, or the window's four sections. -/
  bytes : List Byte
  /-- Section starts of a window: keys, key scales, values, value scales. -/
  secs : List Nat
  /-- Set, layer and page of a page part. -/
  src : Nat × Nat × Nat
  /-- Blocks fetched (block mask). -/
  mask : Nat
  deriving DecidableEq, Repr

/-- A KV operand handle. -/
structure KvOperand where
  engines : Nat
  parts : List KvPart
  version : Nat
  deriving DecidableEq, Repr

/-- A matrix row set (07 R340). -/
structure MatRows where
  engine : Nat
  slot : Nat
  rows : Nat
  k : Nat
  fmt : Nat
  a : List (List Fv)
  score : List (List (BitVec 32))
  n : Nat
  deriving DecidableEq, Repr

/-- A weight operand (07 R341). -/
structure WeightOp where
  engines : Nat
  fmt : Nat
  n : Nat
  k : Nat
  w : List (List Fv)
  lost : Bool
  version : Nat
  deriving DecidableEq, Repr

/-- What a tile handle names (06, "Tiles"). -/
inductive Handle where
  | rows (r : RowSet)
  | kv (o : KvOperand)
  | mat (m : MatRows)
  | weight (w : WeightOp)
  deriving DecidableEq, Repr

/-- A limber thread (06 Table 1, Table 12). -/
structure Thread where
  g : Tab W64
  v : Tab (BitVec 512)
  p : BitVec 8
  t : Tab Handle
  pc : Nat
  stack : List Nat
  toks : Tab Tok
  sticky : Nat
  inExc : Bool
  excCause : Nat
  excPc : Nat
  excAddr : W64
  seqKey : Nat
  wait : Wait
  sub : Option Nat
  /-- The thread's watchdog exception of the present sub-order has been raised (R293). -/
  dogged : Bool
  /-- Count of handle bindings, for versions (R277). -/
  vers : Nat
  /-- First non-zero status of the remote operations completed since the last RFENCE (R285). -/
  rfirst : Nat
  deriving DecidableEq, Repr

/-- Blaze registers of a stand (06 Table 12). -/
structure Blaze where
  key : BitVec 32
  off : W64
  len : BitVec 32
  seq : W64
  drop : W64
  deriving DecidableEq, Repr

/-- Where a sub-order is. -/
inductive SubState where
  /-- Held by bucking for a full cell (05 R194). -/
  | held
  /-- Queued in its cell. -/
  | queued
  | running (thread : Nat)
  deriving DecidableEq, Repr

/-- A sub-order (05 R190 to R194; 06 Table 3). -/
structure Sub where
  order : Nat
  stand : Nat
  /-- Keys in its pages and window (12 Table 5). -/
  keys : Nat
  cell : Nat
  stripeX : Nat
  stripeC : Nat
  pageFirst : Nat
  pageLast : Nat
  wkeys : Bool
  qFirst : Nat
  n : Nat
  retries : Nat
  st : SubState
  /-- Image it runs on, once dispatched. -/
  image : Nat
  /-- Stage input and output areas: offset and length. -/
  inOff : Nat
  inLen : Nat
  outOff : Nat
  outLen : Nat
  /-- Engines, one for each reserved row set slot, in order (06 R271). -/
  rowEng : List Nat
  engines : Nat
  /-- Its result is discarded: its record was bucked again or dropped (05 R195, R236). -/
  void : Bool
  /-- An operation met an uncorrectable sector or failed a check: status that overrides (06 R265; 05 R220). -/
  bad : Nat
  /-- Device-clock time of its dispatch. -/
  since : Nat
  deriving DecidableEq, Repr

/-- A record or work order in flight (05). -/
structure Order where
  stand : Nat
  /-- 1 WINDOW, 2 CHUNK, 4 KERNEL. -/
  kind : Nat
  /-- The record as admitted, with its query section and window when it is a query record. -/
  bytes : List Byte
  /-- Class of the message that delivered it (12 R602), and fabric time of its entry (12 R620). -/
  cls : Nat
  at_ : Nat
  key : Nat
  seq : Bool
  abft : Bool
  appendRes : Nat
  short : Bool
  tokLo : Nat
  tokCnt : Nat
  /-- One of its sub-orders has been dispatched (04 R153). -/
  started : Bool
  /-- Statuses pushed, lowest non-zero kept. -/
  status : Nat
  dataLost : Bool
  /-- Status that ends the order whatever its sub-orders push: a failed check or a late drop; 0 for none. -/
  stop : Nat
  rows : Tab Row
  deriving DecidableEq, Repr

/-- A record waiting in a query ring or a work-order queue: its class (12 R602) and the fabric time of its entry (12 R620). -/
structure QItem where
  bytes : List Byte
  cls : Nat
  at_ : Nat
  deriving DecidableEq, Repr

/-- A sequence whose content goes to a mirror partner (13 R669 to R671). -/
structure MirSeq where
  tract : Nat
  /-- 0 SEQ_NEW not yet acknowledged, 1 mirrored, 2 the partner answered PROFILE_MISMATCH. -/
  st : Nat
  /-- Number of the SEQ_NEW among the tract's mirror writes. -/
  num : Nat
  deriving DecidableEq, Repr

/-- A merge slot (05 R228 to R234). -/
structure MergeSlot where
  stand : Nat
  tag : Nat
  /-- The MERGE_ARM record, once armed. -/
  arm : Option (List Byte)
  /-- Header of the first partial folded. -/
  first : Option (List Byte)
  /-- Sum of folded MERGE_CNT values, and partials folded. -/
  folded : Nat
  parts : Nat
  tokLo : Nat
  tokCnt : Nat
  late : Bool
  status : Nat
  dim : Nat
  rows : Tab Row
  /-- Bytes of service memory that its body takes. -/
  bytes : Nat
  sent : Bool
  deriving DecidableEq, Repr

/-- A partial record on its way to its requester (05 R223, R224). -/
structure PartJob where
  stand : Nat
  node : Nat
  key : BitVec 32
  off : Nat
  head : List Byte
  /-- Body messages that have not received ACK DONE. -/
  left : Nat
  failed : Bool
  /-- Fabric time of the query record's entry into its ring; none for a merged record. -/
  entry : Option Nat
  deriving DecidableEq, Repr

/-- Counts of one stand's telemetry interval (12 Table 7). -/
structure TelRec where
  records : Nat
  tokens : Nat
  late : Nat
  dropped : Nat
  max : Nat
  sum : Nat
  buckets : Tab Nat
  deriving DecidableEq, Repr

/-- A page that a near-bank program works on: its entry as last known; key, set, layer and page, or a scratch page by its
number; the format of its sections. -/
structure NbPage where
  pte : W64
  scratch : Bool
  key : Nat
  set : Nat
  layer : Nat
  page : Nat
  prof : Profile
  deriving DecidableEq, Repr

/-- A near-bank program (09 R441 to R461). -/
structure NbProg where
  /-- Cell in which it counts (R447). -/
  cell : Nat
  thread : Nat
  tok : Nat
  stand : Nat
  order : Nat
  /-- Sub-order of the thread that issued it. -/
  sub : Option Nat
  desc : List Byte
  ops : List W64
  params : List Byte
  target : NbPage
  aux : Option NbPage
  running : Bool
  paused : Bool
  ended : Bool
  /-- Tokens that its page held as it started (R444). -/
  tokens : Nat
  /-- Rows done. -/
  row : Nat
  /-- Refreshes postponed at the last slice boundary (R457). -/
  post : Nat
  /-- Mirror writes of a synchronous mirror not yet acknowledged (R454), and their tract. -/
  mirTract : Nat
  waits : List Nat
  deriving DecidableEq, Repr

/-- A slice of this module with its ownership record (13 R647 to R653, Table 5). -/
structure Slice where
  cells : Nat
  ports : Nat
  stands : Nat
  owner : Nat
  epoch : Nat
  /-- New owner of the OFFER copy that the home holds, and the fabric time at which it took it. -/
  offer : Option (Nat × Nat)
  deriving DecidableEq, Repr

/-- A remote operation placed on this device whose mirror writes the partner has not acknowledged (06 R289; 11 R556). -/
structure LocalOp where
  t : Nat
  tok : Nat
  op : Nat
  tract : Nat
  nums : List Nat
  /-- Stage offset and old value of an atomic. -/
  old : Option (Nat × W64)
  /-- Key, base offset and length of its notice. -/
  note : Option (BitVec 32 × Nat × Nat)
  deriving DecidableEq, Repr

/-- A WEIGHT or SCRATCH command that waits for sub-orders dispatched before it (17 R815). -/
structure RegionCmd where
  stand : Nat
  /-- Stand that issued it. -/
  issuer : Nat
  tag : W64
  scratch : Bool
  amount : Nat
  waits : List Nat
  deriving DecidableEq, Repr

/-- A KUNLOAD that waits for the slot's last sub-order (06 R301): stand, issuer, slot, tag, the image unloaded, and whether
its completion was cut off by a reset of the issuer (17 R811). -/
structure UnloadCmd where
  stand : Nat
  issuer : Nat
  slot : Nat
  tag : W64
  image : Nat
  silent : Bool
  deriving DecidableEq, Repr

/-- A patrol run (14 R719 to R723): cell, kind and unit of 14 Table 6, pattern set; bin and die temperature at its start. -/
structure PtlRun where
  cell : Nat
  kind : Nat
  unit : Nat
  pat : Nat
  bin : Nat
  temp : Nat
  deriving DecidableEq, Repr

/-- The contents of one copy of the configuration block (16 Table 6) whose MAC verifies; the stored key is encrypted and the
copy carries a MAC, which the model keeps no bytes of (log 4). -/
structure CfgBlock where
  seq : Nat
  claimed : Bool
  key : BitVec 384
  svcRes : Nat
  opTarget : Nat
  /-- Enrolled kernel-signing keys, X then Y. -/
  kkeys : Tab (List Byte)
  deriving DecidableEq, Repr

/-- One copy of the configuration block in module flash: erased, failing its MAC, or good. -/
inductive CfgCopy where
  | erased
  | bad
  | ok (b : CfgBlock)
  deriving DecidableEq, Repr

/-! ## Fuses, SPDM and the test access port (16, 18) -/

/-- The fuses that software burns: how many of the 64 version fuses are burnt, and which root-key slots are revoked (16 R786,
R787). -/
structure Otp where
  svn : Nat
  revoked : BitVec 4
  deriving DecidableEq, Repr

/-- A burning asked for: the version fuses up to a number, or a slot's revocation fuse. -/
inductive Burn where
  | svn (n : Nat)
  | revoke (slot : Nat)
  deriving DecidableEq, Repr

/-- What a command carries along while it runs: the fuses that it burns (16 R786, R787), and whether the memory read that it makes
finds a sector uncorrectable (14 R707). -/
structure Doing where
  burn : Option Burn := none
  badRead : Bool := false
  deriving DecidableEq, Repr

/-- How far an SPDM requester has come: SPDM 1.2 answers a request only after those before it in the connection. -/
inductive SpdmState where
  | start | version | capabilities | algorithms
  deriving DecidableEq, Repr

/-- The SPDM session of the PF's DOE. -/
inductive SpdmSes where
  | none | handshake | established
  deriving DecidableEq, Repr

/-- What an SPDM request is answered with. -/
inductive SpdmRsp where
  /-- ERROR with an SPDM error code. -/
  | error (code : Nat)
  /-- VERSION: 1.2 alone. -/
  | version
  | capabilities
  /-- ALGORITHMS: ECDSA and ECDHE over P-384, SHA-384, AES-256-GCM. -/
  | algorithms
  /-- DIGESTS: slot mask. -/
  | digests (slots : Nat)
  /-- CERTIFICATE of slot 0: offset and length asked for. -/
  | certificate (off len : Nat)
  /-- CHALLENGE_AUTH with the requester's nonce. -/
  | challengeAuth (nonce : BitVec 256)
  /-- MEASUREMENTS: number of blocks, the blocks, and the requester's nonce when signed. -/
  | measurements (count : Nat) (blocks : List (Nat × List Byte)) (nonce : Option (BitVec 256))
  | keyExchange
  | finish
  | endSession
  deriving DecidableEq, Repr

/-- Instructions of the test access port (18 R834). -/
inductive TapIr where
  | bypass | idcode | samplePreload | extest
  deriving DecidableEq, Repr

/-- What the board keeps through every reset (16, 18). -/
structure Board where
  /-- Module flash: the firmware image, none when it cannot be read (16 R784). -/
  flash : Option (List Byte) := none
  /-- VARIANT and serial number of the factory record, none when its MAC fails (16 R793). -/
  factory : Option (Nat × List Byte) := none
  /-- Fuse hashes of the four root-key slots (16 R785). -/
  roots : List (List Byte) := []
  /-- What the identity fuses of the 40 dies answer, by die; none where they do not (02 R48, R51). -/
  dieRec : List (Option (BitVec 128)) := []
  /-- Levels of the SLOT_ID straps (18 R830). -/
  straps : BitVec 6 := 0
  /-- MRST_L and PERST_L are asserted (18 R830). -/
  mrst : Bool := false
  perst : Bool := false
  /-- TAP instruction register and the boundary register's update latch (18 R834 to R836). -/
  tapIr : TapIr := .idcode
  tapLatch : List Bool := []
  deriving DecidableEq, Repr

/-- The management endpoints (16 R796; 17 R822). -/
structure Mgmt where
  /-- SPDM requesters by channel: DOE of function s, 32 for MCTP. -/
  spdm : Tab SpdmState := []
  /-- The SPDM session of the PF's DOE. -/
  ses : SpdmSes := .none
  /-- I3C dynamic address. -/
  i3c : Option Nat := none
  deriving DecidableEq, Repr

/-- What the device sends out. -/
inductive Out where
  /-- A completion entry written at an index of a stand's completion queue, with its PHASE (17 R813). -/
  | cpl (s idx : Nat) (e : CplEntry) (phase : Bool)
  /-- An MSI-X message of a function (17 R818). -/
  | msix (fn vec : Nat)
  /-- A DMA write to host memory. -/
  | dmaWrite (fn : Nat) (addr : Nat) (data : List Byte)
  /-- A DMA read request. -/
  | dmaRead (fn : Nat) (id addr len : Nat)
  /-- The data that a host or management read returns. -/
  | readData (fn : Nat) (data : List Byte)
  /-- A packet sent on a port in a link frame with its sequence number (11 R509). -/
  | packet (port seq : Nat) (pkt : Pkt)
  /-- A response to an MCTP management command: its code and data (17 Table 13). -/
  | mctp (code : Nat) (data : List W64)
  /-- An SPDM response on a channel: DOE of function s, 32 for MCTP. -/
  | spdm (chan : Nat) (r : SpdmRsp)
  /-- The low bits of the provisional ID that ENTDAA sends (17 R822). -/
  | provisional (slotId : Nat)
  /-- Bits that the test access port shifts out, first bit first. -/
  | tdo (bs : List Bool)
  /-- A link frame that carries no packet. -/
  | frame (port : Nat) (f : FrameKind)
  deriving DecidableEq, Repr

end Sys2Proof.Machine
end

