-- ==== Sys2Proof/Syntax.lean ====
section
/-!
DEFINITION. The commands of the CN640: one constructor for each row of spec/opcode_table.json, in its order. A register command
names the function fn that makes the access and, for a stand's window, the stand s; a host command its stand and entry; a
kernel instruction its thread t and its fields; a packet its port p and its headers; a timer or an event the unit it is of.
-/
namespace Sys2Proof
open Sys2Proof.Machine

/-- The commands, by the rows of the table. -/
inductive Instr where
  | registerWrite (fn : Fin 32) (off : BitVec 26) (size : BitVec 4) (v : W64)
  | glbLockWrite (fn : Fin 32) (v : W64)
  | aliasWrite (fn : Fin 32) (off : BitVec 26) (size : BitVec 4) (v : W64)
  | stdKeyCommit (fn : Fin 32) (s : Fin 32)
  | stdKeyErase (fn : Fin 32) (s : Fin 32)
  | sesChallenge (fn : Fin 32) (s : Fin 32)
  | challengeDone (s : Fin 32)
  | sesSubmit (fn : Fin 32) (s : Fin 32)
  | submitDone (s : Fin 32)
  | sesClose (fn : Fin 32) (s : Fin 32)
  | nonceExpiry (s : Fin 32)
  | lockoutEnd (s : Fin 32)
  | sessionIdleTimeout (s : Fin 32)
  | standReset (fn : Fin 32) (s : Fin 32)
  | standResetDone (s : Fin 32)
  | quotaCommit (fn : Fin 32) (s : Fin 32)
  | profile (s : Fin 32) (e : CmdEntry)
  | seqInsert (s : Fin 32) (e : CmdEntry)
  | seqDelete (s : Fin 32) (e : CmdEntry)
  | seqLookup (s : Fin 32) (e : CmdEntry) (parity : Bool)
  | yardCommand (s : Fin 32) (e : CmdEntry)
  | restoreCommand (s : Fin 32) (e : CmdEntry)
  | qrec (s : Fin 32) (e : CmdEntry)
  | wrec (s : Fin 32) (e : CmdEntry)
  | tractRegister (s : Fin 32) (e : CmdEntry)
  | tractRevoke (s : Fin 32) (e : CmdEntry)
  | tractRevoked (i : BitVec 16)
  | tractHoldExpiry (i : BitVec 16)
  | connOpen (s : Fin 32) (e : CmdEntry)
  | connClose (s : Fin 32) (e : CmdEntry)
  | connCloseSend (c : BitVec 16)
  | closeAckTimeout (c : BitVec 16)
  | weight (s : Fin 32) (e : CmdEntry)
  | scratch (s : Fin 32) (e : CmdEntry)
  | kload (s : Fin 32) (e : CmdEntry)
  | kunload (s : Fin 32) (e : CmdEntry)
  | cdcLoad (s : Fin 32) (e : CmdEntry)
  | cdcSetMode (s : Fin 32) (e : CmdEntry)
  | cdcRecode (s : Fin 32) (e : CmdEntry)
  | recodePageCommit (id : BitVec 32)
  | recodePassDone
  | kkey (s : Fin 32) (e : CmdEntry)
  | fwUpdate (s : Fin 32) (e : CmdEntry)
  | cmdDoorbell (fn : Fin 32) (s : Fin 32) (v : W64)
  | cplHeadWrite (fn : Fin 32) (s : Fin 32) (v : W64)
  | queueEnableWrite (fn : Fin 32) (s : Fin 32) (cpl : Bool) (v : W64)
  | irqCoalesceTimer (s : Fin 32)
  | kvApertureAccess (fn : Fin 32) (write : Bool) (off : BitVec 36) (size : BitVec 13) (data : List Byte) (bad : Bool)
  | busMasterEnable (fn : Fin 32) (bme d3 : Bool)
  | dmaRequestDone (id : BitVec 32) (res : DmaRes)
  | lzEnableWrite (fn : Fin 32) (s : Fin 32) (v : W64)
  | tieSvcResWrite (fn : Fin 32) (c : Fin 16) (v : W64)
  | recordAdmit
  | suborderIssue (c : Fin 16)
  | suborderDispatch (c : Fin 16)
  | suborderWatchdog (t : Fin 512)
  | recordComplete (n clocks : BitVec 32)
  | partialHeaderSend (n : BitVec 32)
  | mergeDeadline (s : Fin 32) (tag : W64)
  | mergeHoldExpiry (s : Fin 32) (tag : W64)
  | add (t : Fin 512) (f : AluF)
  | sub (t : Fin 512) (f : AluF)
  | and (t : Fin 512) (f : AluF)
  | or (t : Fin 512) (f : AluF)
  | xor (t : Fin 512) (f : AluF)
  | shl (t : Fin 512) (f : AluF)
  | shr (t : Fin 512) (f : AluF)
  | sar (t : Fin 512) (f : AluF)
  | mul (t : Fin 512) (f : AluF)
  | mulh (t : Fin 512) (f : AluF)
  | min (t : Fin 512) (f : AluF)
  | max (t : Fin 512) (f : AluF)
  | cmp (t : Fin 512) (f : RegF)
  | li (t : Fin 512) (f : WideF)
  | lui (t : Fin 512) (f : WideF)
  | br (t : Fin 512) (f : BranchF)
  | bc (t : Fin 512) (f : BranchF)
  | call (t : Fin 512) (f : BranchF)
  | ret (t : Fin 512) (f : RegF)
  | loop (t : Fin 512) (f : BranchF)
  | yield (t : Fin 512) (f : RegF)
  | halt (t : Fin 512) (f : RegF)
  | ld (t : Fin 512) (f : MemF) (par : Bool)
  | st (t : Fin 512) (f : MemF)
  | ldv (t : Fin 512) (f : MemF) (par : Bool)
  | stv (t : Fin 512) (f : MemF)
  | pref (t : Fin 512) (f : MemF)
  | vadd (t : Fin 512) (f : VecF)
  | vmul (t : Fin 512) (f : VecF)
  | vfma (t : Fin 512) (f : VecF)
  | vmax (t : Fin 512) (f : VecF)
  | vrmax (t : Fin 512) (f : VecF)
  | vrsum (t : Fin 512) (f : VecF)
  | vexp2 (t : Fin 512) (f : VecF)
  | vrsqrt (t : Fin 512) (f : VecF)
  | vrcp (t : Fin 512) (f : VecF)
  | vcvt (t : Fin 512) (f : VecF)
  | vsel (t : Fin 512) (f : VecF)
  | vshuf (t : Fin 512) (f : VecF)
  | tfetchQ (t : Fin 512) (f : LongF)
  | tfetchN (t : Fin 512) (f : LongF)
  | tfetchA (t : Fin 512) (f : LongF)
  | tfetchWn (t : Fin 512) (f : LongF)
  | tfetchWa (t : Fin 512) (f : LongF)
  | tfetchM (t : Fin 512) (f : LongF)
  | tfetchW (t : Fin 512) (f : LongF) (bad : Bool)
  | tqk (t : Fin 512) (f : LongF) (func : BitVec 10)
  | tsmx (t : Fin 512) (f : LongF) (func : BitVec 10)
  | tpv (t : Fin 512) (f : LongF) (func : BitVec 10)
  | tmm (t : Fin 512) (f : LongF) (func : BitVec 10)
  | tmerge (t : Fin 512) (f : LongF) (func : BitVec 10)
  | tchk (t : Fin 512) (f : LongF) (func : BitVec 10)
  | tstore (t : Fin 512) (f : LongF)
  | tstoreS (t : Fin 512) (f : LongF)
  | tileOpDone (t : Fin 512) (tok : BitVec 6) (bad : Bool)
  | twait (t : Fin 512) (f : LongF) (func : BitVec 10)
  | pwalk (t : Fin 512) (f : RegF)
  | pwalkR (t : Fin 512) (f : RegF)
  | dlook (t : Fin 512) (f : RegF) (parity : Bool)
  | dins (t : Fin 512) (f : RegF)
  | ddel (t : Fin 512) (f : RegF)
  | dirUpdateDone
  | mhint (t : Fin 512) (f : RegF)
  | yard (t : Fin 512) (f : RegF)
  | restore (t : Fin 512) (f : RegF)
  | digest (t : Fin 512) (f : RegF)
  | nbx (t : Fin 512) (f : RegF)
  | nbProgramStart (id : BitVec 32)
  | nbSliceEnd (id : BitVec 32) (rows : BitVec 16) (post : BitVec 4) (bad : Option (BitVec 8))
  | refreshPauseEnd (id : BitVec 32)
  | nbProgramEnd (id : BitVec 32)
  | nbuError (id : BitVec 32) (unit kind : BitVec 8)
  | nbwait (t : Fin 512) (f : RegF)
  | rput (t : Fin 512) (f : LongF) (func : BitVec 10)
  | rget (t : Fin 512) (f : LongF) (func : BitVec 10)
  | ratom (t : Fin 512) (f : LongF) (func : BitVec 10)
  | rnote (t : Fin 512) (f : LongF) (func : BitVec 10)
  | rfence (t : Fin 512) (f : LongF) (func : BitVec 10)
  | qpop (t : Fin 512) (f : RegF)
  | qpush (t : Fin 512) (f : RegF)
  | qpeek (t : Fin 512) (f : RegF)
  | time (t : Fin 512) (f : RegF)
  | tsleep (t : Fin 512) (f : RegF)
  | tsleepWake (t : Fin 512)
  | sysr (t : Fin 512) (f : RegF)
  | sysw (t : Fin 512) (f : RegF)
  | fault (t : Fin 512) (f : RegF)
  | sess (t : Fin 512) (f : RegF)
  | blaze (t : Fin 512) (f : RegF)
  | pageSeal (set : BitVec 32) (l : BitVec 8) (p : BitVec 32)
  | heldEditPublish (set : BitVec 32) (l : BitVec 8)
  | tablePageFree (set : BitVec 32) (l : BitVec 8)
  | frameFree
  | dirScrubPass (bad : List (BitVec 24))
  | heatEpoch
  | migrationStart (set : BitVec 32) (l : BitVec 8) (p : BitVec 32)
  | migrationCommit (id : BitVec 32)
  | lendDeadline (n : BitVec 16)
  | portEnable (fn : Fin 32) (p : Fin 16) (v : W64)
  | portRetrain (fn : Fin 32) (p : Fin 16) (v : W64)
  | portTrained (p : Fin 16) (node : BitVec 16) (pport : BitVec 4) (grants : List (BitVec 8))
  | trainingRetry (p : Fin 16)
  | linkFrameRx (p : Fin 16) (f : LinkFrame)
  | idleFrameTimer (p : Fin 16)
  | linkRxTimeout (p : Fin 16)
  | egressSelect (p : Fin 16)
  | wheelEligible (i : Fin 33) (u : Fin 33)
  | put (p : Fin 16) (r : Route) (h : ReqHdr) (data : List Byte) (icrc : BitVec 32)
  | get (p : Fin 16) (r : Route) (h : ReqHdr) (data : List Byte) (icrc : BitVec 32) (bad : Bool)
  | grsp (p : Fin 16) (r : Route) (h : ReqHdr) (data : List Byte) (icrc : BitVec 32)
  | atom (p : Fin 16) (r : Route) (h : ReqHdr) (data : List Byte) (icrc : BitVec 32)
  | arsp (p : Fin 16) (r : Route) (h : RspHdr) (icrc : BitVec 32)
  | note (p : Fin 16) (r : Route) (h : ReqHdr) (data : List Byte) (icrc : BitVec 32)
  | land (p : Fin 16) (r : Route) (h : ReqHdr) (data : List Byte) (icrc : BitVec 32)
  | ack (p : Fin 16) (r : Route) (h : RspHdr) (icrc : BitVec 32)
  | nak (p : Fin 16) (r : Route) (h : RspHdr) (icrc : BitVec 32)
  | ackTimer (c : BitVec 16) (n : BitVec 32)
  | retxTimeout (c : BitVec 16) (n i : BitVec 32)
  | retryAfterExpiry (c : BitVec 16) (n i : BitVec 32)
  | messageTimeout (c : BitVec 16) (n : BitVec 32)
  | openReq (p : Fin 16) (r : Route) (h : ConnHdr) (icrc : BitVec 32)
  | openAck (p : Fin 16) (r : Route) (h : ConnHdr) (icrc : BitVec 32)
  | close (p : Fin 16) (r : Route) (h : ConnHdr) (icrc : BitVec 32)
  | closeAck (p : Fin 16) (r : Route) (h : ConnHdr) (icrc : BitVec 32)
  | openReqTimer (c : BitVec 16)
  | connOpenTimeout (c : BitVec 16)
  | contextEvict (c : BitVec 16)
  | contextFetchDone (c : BitVec 16)
  | contextFetchHold (c : BitVec 16)
  | syncReq (p : Fin 16) (r : Route) (h : TimeHdr) (icrc : BitVec 32)
  | syncRsp (p : Fin 16) (r : Route) (h : TimeHdr) (icrc : BitVec 32)
  | syncTimer (p : Fin 16)
  | parentTimeout (p : Fin 16)
  | ppsEdge (interval : BitVec 32)
  | ppsTimeout
  | ftmNowRead (fn : Fin 32) (wide : Bool)
  | ftmSetWrite (fn : Fin 32) (v : W64)
  | timedActionArm (fn : Fin 32) (i : Fin 32) (v : W64)
  | timedActionFire
  | rotChange (fn : Fin 32) (i : Fin 33)
  | rotCancel (fn : Fin 32) (i : Fin 33)
  | rotSwap (i : Fin 33)
  | rotEntryBoundary (i : Fin 33)
  | schRateWrite (fn : Fin 32) (i : Fin 33) (off : BitVec 16) (v : W64)
  | telemetryIntervalEnd
  | hello (p : Fin 16) (r : Route) (h : ReqHdr) (ch : CruiseHdr) (body : List Byte) (icrc : BitVec 32)
  | heartbeat (p : Fin 16) (r : Route) (h : ReqHdr) (ch : CruiseHdr) (body : List Byte) (icrc : BitVec 32)
  | heartbeatTimer
  | heartbeatTimeout (p : Fin 16)
  | entry (p : Fin 16) (r : Route) (h : ReqHdr) (ch : CruiseHdr) (body : List Byte) (icrc : BitVec 32)
  | entryTimer
  | summary (p : Fin 16) (r : Route) (h : ReqHdr) (ch : CruiseHdr) (body : List Byte) (icrc : BitVec 32)
  | summaryTimer
  | linkDown (p : Fin 16) (r : Route) (h : ReqHdr) (ch : CruiseHdr) (body : List Byte) (icrc : BitVec 32)
  | lookoutTimeout (x : BitVec 16)
  | selfFailTimeout
  | fail (p : Fin 16) (r : Route) (h : ReqHdr) (ch : CruiseHdr) (body : List Byte) (icrc : BitVec 32)
  | epochAdvance (p : Fin 16) (r : Route) (h : ReqHdr) (ch : CruiseHdr) (body : List Byte) (icrc : BitVec 32)
  | cmpAdvance (fn : Fin 32)
  | offer (p : Fin 16) (r : Route) (h : ReqHdr) (ch : CruiseHdr) (body : List Byte) (icrc : BitVec 32)
  | accept (p : Fin 16) (r : Route) (h : ReqHdr) (ch : CruiseHdr) (body : List Byte) (icrc : BitVec 32)
  | commit (p : Fin 16) (r : Route) (h : ReqHdr) (ch : CruiseHdr) (body : List Byte) (icrc : BitVec 32)
  | revert (p : Fin 16) (r : Route) (h : ReqHdr) (ch : CruiseHdr) (body : List Byte) (icrc : BitVec 32)
  | refuse (p : Fin 16) (r : Route) (h : ReqHdr) (ch : CruiseHdr) (body : List Byte) (icrc : BitVec 32)
  | query (p : Fin 16) (r : Route) (h : ReqHdr) (ch : CruiseHdr) (body : List Byte) (icrc : BitVec 32)
  | record (p : Fin 16) (r : Route) (h : ReqHdr) (ch : CruiseHdr) (body : List Byte) (icrc : BitVec 32)
  | orphanTimeout (k : Fin 16)
  | ownerQueryTimeout (home : BitVec 16) (k : Fin 16)
  | sliceDefine (fn : Fin 32) (k : Fin 16) (target : BitVec 16)
  | sliceOffer (fn : Fin 32) (k : Fin 16) (target : BitVec 16)
  | sliceRelease (fn : Fin 32) (k : Fin 16) (target : BitVec 16)
  | sliceReclaim (fn : Fin 32) (k : Fin 16) (target : BitVec 16)
  | offerAccept (fn : Fin 32)
  | offerRefuse (fn : Fin 32)
  | sliceReset (p : Fin 16) (r : Route) (h : ReqHdr) (ch : CruiseHdr) (body : List Byte) (icrc : BitVec 32)
  | mirrorOpen (p : Fin 16) (r : Route) (h : ReqHdr) (ch : CruiseHdr) (body : List Byte) (icrc : BitVec 32)
  | mirrorAck (p : Fin 16) (r : Route) (h : ReqHdr) (ch : CruiseHdr) (body : List Byte) (icrc : BitVec 32)
  | mirrorOpenTimeout (i : BitVec 16)
  | mirrorClose (p : Fin 16) (r : Route) (h : ReqHdr) (ch : CruiseHdr) (body : List Byte) (icrc : BitVec 32)
  | promoted (p : Fin 16) (r : Route) (h : ReqHdr) (ch : CruiseHdr) (body : List Byte) (icrc : BitVec 32)
  | seqNew (p : Fin 16) (r : Route) (h : ReqHdr) (m : MirHdr) (data : List Byte) (icrc : BitVec 32)
  | seqDel (p : Fin 16) (r : Route) (h : ReqHdr) (m : MirHdr) (data : List Byte) (icrc : BitVec 32)
  | tokens (p : Fin 16) (r : Route) (h : ReqHdr) (m : MirHdr) (data : List Byte) (icrc : BitVec 32)
  | sectors (p : Fin 16) (r : Route) (h : ReqHdr) (m : MirHdr) (data : List Byte) (icrc : BitVec 32)
  | buffer (p : Fin 16) (r : Route) (h : ReqHdr) (m : MirHdr) (data : List Byte) (icrc : BitVec 32)
  | flush (p : Fin 16) (r : Route) (h : ReqHdr) (m : MirHdr) (data : List Byte) (icrc : BitVec 32)
  | mirrorIntervalEnd (i : BitVec 16)
  | mirrorIntervalApply (i : BitVec 16)
  | lendAsk (p : Fin 16) (r : Route) (h : ReqHdr) (ch : CruiseHdr) (body : List Byte) (icrc : BitVec 32)
  | lendGrant (p : Fin 16) (r : Route) (h : ReqHdr) (ch : CruiseHdr) (body : List Byte) (icrc : BitVec 32)
  | reclaim (p : Fin 16) (r : Route) (h : ReqHdr) (ch : CruiseHdr) (body : List Byte) (icrc : BitVec 32)
  | release (p : Fin 16) (r : Route) (h : ReqHdr) (ch : CruiseHdr) (body : List Byte) (icrc : BitVec 32)
  | fltForceWrite (fn : Fin 32) (w : Fin 32) (v : W64)
  | fltEnableWrite (fn : Fin 32) (w : Fin 32) (v : W64)
  | firstFaultClear (fn : Fin 32)
  | standFaultClear (fn : Fin 32) (s : Fin 32)
  | fltFenceSet (fn : Fin 32) (v : W64)
  | fltUnfence (fn : Fin 32) (v : W64)
  | cellResetDone (c : Fin 16)
  | meshLinkFail (c : Fin 20) (link : BitVec 8) (cut : BitVec 16)
  | cellpllUnlock (c : Fin 16)
  | linkpllUnlock (e : Fin 4)
  | xtal0Loss (pll : Bool)
  | xtal1Loss (pll : Bool)
  | rangerWdogExpiry
  | cellWatchdog (c : Fin 16)
  | ptlRunWrite (fn : Fin 32) (c : Fin 16) (v : W64)
  | patrolRunStart (c : Fin 16)
  | patrolWaitTimeout (c : Fin 16)
  | patrolRunEnd (c : Fin 16) (ok : Bool)
  | vinSample (mv : BitVec 32)
  | supplyHoldEnd
  | tempSample (ts : List (BitVec 8))
  | thermalCapTimer
  | thermLAssert
  | thermLRelease
  | thermLCapEnd
  | avsRequestDone (l : Fin 6) (us : BitVec 16) (retries : BitVec 16)
  | avsTimeout (l : Fin 6)
  | opStep
  | cellS1Entry (c : Fin 16)
  | cellS2Entry (c : Fin 16)
  | cellWake (c : Fin 16)
  | cellWakeDone (c : Fin 16)
  | s3EntryReq (fn : Fin 32)
  | s4EntryReq (fn : Fin 32)
  | lowPowerEntryDone (u : Fin 17)
  | s3ExitReq (fn : Fin 32)
  | s3ExitDone
  | wakeLAssert
  | clkSelWrite (fn : Fin 32) (k : Fin 19) (v : W64)
  | clkGateWrite (fn : Fin 32) (v : W64)
  | powerOn (straps : BitVec 6) (dies : List (Option (BitVec 128)))
  | bootReady (us : BitVec 32)
  | mrstLAssert
  | mrstLRelease (straps : BitVec 6)
  | bootCtlModule (fn : Fin 32)
  | bootCtlWarm (fn : Fin 32)
  | warmResetDone
  | commitSvn (fn : Fin 32)
  | cfgErase (fn : Fin 32)
  | rootKeyRevoke (fn : Fin 32) (slot : BitVec 2)
  | recoveryGo (fn : Fin 32)
  | perstLAssert
  | perstLRelease (rate : BitVec 4) (width : BitVec 5) (flit : Bool)
  | pcieHotReset (rate : BitVec 4) (width : BitVec 5) (flit : Bool)
  | pfFlr
  | vfFlr (s : Fin 32)
  | mctpStatus
  | mctpModuleReset
  | mctpWarmReset
  | mctpWake
  | mctpRead (off : BitVec 26)
  | entdaa (addr : BitVec 7)
  | getVersion (chan : Fin 33)
  | getCapabilities (chan : Fin 33)
  | negotiateAlgorithms (chan : Fin 33) (common : Bool)
  | getDigests (chan : Fin 33)
  | getCertificate (chan : Fin 33) (slot : BitVec 4) (off len : BitVec 16)
  | spdmChallenge (chan : Fin 33) (slot : BitVec 4) (nonce : BitVec 256)
  | getMeasurements (chan : Fin 33) (op : BitVec 8) (nonce : BitVec 256) (sig : Bool)
  | keyExchange (chan : Fin 33)
  | finish (chan : Fin 33)
  | endSession (chan : Fin 33)
  | bypass (bs : List Bool)
  | idcode (bs : List Bool)
  | samplePreload (bs : List Bool)
  | extest (bs : List Bool)
  | trainingStepTimeout (p : Fin 16) (lanes : BitVec 8)
  | clockSourceReady (b : Fin 32)
  | vfEnable (s : Fin 32) (en : Bool)
  | msixUnmask (fn : Fin 32) (vec : BitVec 8)
  deriving DecidableEq, Repr

end Sys2Proof
end

