-- ==== Sys2Proof/Decode.lean ====
section
/-!
DEFINITION. The command that a table word spells. No row of spec/opcode_table.json has bits: the commands come from outside as
bus accesses, packets, events and messages, and no word spells one.
-/
namespace Sys2Proof

/-- The command of a table word. -/
def decodeTableWord (_nbits _w : Nat) : Option Instr := none

end Sys2Proof
end

