-- ==== Sys2Proof/Machine/Codec.lean ====
section
/-!
DEFINITION. The KV codec: block forms, byte transforms, prefix codes, expansion and compression (08 R379 to R389,
R402, R403, R407).
-/
namespace Sys2Proof.Machine

/-! ## Byte transforms (08 Table 2) -/

/-- The delta transform from a previous byte. -/
def deltaFwd : Byte → List Byte → List Byte
  | _, [] => []
  | p, x :: r => (x - p) :: deltaFwd x r

/-- The inverse of the delta transform. -/
def deltaInv : Byte → List Byte → List Byte
  | _, [] => []
  | p, t :: r => (p + t) :: deltaInv (p + t) r

/-- The wide transform: even positions plain, odd positions delta. -/
def wideFwd : Byte → List Byte → List Byte
  | p, x :: y :: r => x :: (y - p) :: wideFwd y r
  | _, l => l

/-- The inverse of the wide transform. -/
def wideInv : Byte → List Byte → List Byte
  | p, x :: t :: r => x :: (p + t) :: wideInv (p + t) r
  | _, l => l

/-- A segment's transformed bytes by class. -/
def segFwd (cls : Nat) (x : List Byte) : List Byte :=
  if cls = 1 then deltaFwd 0 x else if cls = 2 then wideFwd 0 x else x

/-- A segment's bytes from its transformed bytes. -/
def segInv (cls : Nat) (t : List Byte) : List Byte :=
  if cls = 1 then deltaInv 0 t else if cls = 2 then wideInv 0 t else t

/-- Segments (class, start) applied to a block with a transform; the last segment ends at byte 4,095. -/
def overSegs (f : Nat → List Byte → List Byte) : List (Nat × Nat) → List Byte → List Byte
  | [], x => x
  | [(c, _)], x => f c x
  | (c, s) :: (c2, s2) :: r, x => f c (x.take (s2 - s)) ++ overSegs f ((c2, s2) :: r) (x.drop (s2 - s))

/-! ## Prefix codes (08 R387 to R389) -/

/-- Code lengths of a 136-byte table record (R387). -/
def tableLens (r : List Byte) : List Nat :=
  (List.range 268).map fun s => if s % 2 = 0 then recNum r (s / 2) 1 % 16 else recNum r (s / 2) 1 / 16

/-- Number of symbols with a code length. -/
def lenCount (lens : List Nat) (n : Nat) : Nat := if n = 0 then 0 else (lens.filter fun l => l == n).length

/-- The first code of a length (R388). -/
def firstCode (lens : List Nat) : Nat → Nat
  | 0 => 0
  | n + 1 => (firstCode lens n + lenCount lens n) * 2

/-- The code of a symbol, and its length (R388). -/
def codeOf (lens : List Nat) (s : Nat) : Nat × Nat :=
  let l := lens.getD s 0
  (firstCode lens l + ((lens.take s).filter fun x => x == l).length, l)

/-- A table is complete: the sum of 2^-len over its codes is exactly 1, and bytes 134 and 135 are zero (R389). -/
def tableOk (r : List Byte) : Bool :=
  let lens := tableLens r
  (lens.foldl (fun a l => if l = 0 then a else a + 2 ^ (15 - l)) 0) == 2 ^ 15 && recNum r 134 2 == 0

/-- A symbol with the value of its extra bits. -/
structure Sym where
  sym : Nat
  extra : Nat
  deriving DecidableEq, Repr

/-- Number of extra bits of a symbol (Table 4). -/
def extraBits (s : Nat) : Nat := if s < 256 then 0 else s - 256 + 1

/-- The symbol of a maximal run of zeros (R386). -/
def zeroSyms (z : Nat) : List Sym :=
  if z = 0 then [] else if z = 1 then [⟨0, 0⟩] else
  let k := Nat.log2 z - 1
  [⟨256 + k, z - 2 ^ (k + 1)⟩]

/-- The symbols of transformed bytes (R386). -/
def symbols : Nat → List Byte → List Sym
  | z, [] => zeroSyms z
  | z, b :: r => if b = 0#8 then symbols (z + 1) r else zeroSyms z ++ ⟨b.toNat, 0⟩ :: symbols 0 r

/-- n bits of a number, most significant first. -/
def msbBits : Nat → Nat → List Bool
  | 0, _ => []
  | n + 1, v => v.testBit n :: msbBits n v

/-- n bits of a number, least significant first. -/
def lsbBits (n v : Nat) : List Bool := (List.range n).map fun i => v.testBit i

/-- Bytes of a bit string, bit 0 of each byte first. -/
def packBits : List Bool → List Byte
  | a :: b :: c :: d :: e :: f :: g :: h :: r =>
    BitVec.ofNat 8 (a.toNat + 2 * b.toNat + 4 * c.toNat + 8 * d.toNat + 16 * e.toNat + 32 * f.toNat +
      64 * g.toNat + 128 * h.toNat) :: packBits r
  | [] => []
  | l => [BitVec.ofNat 8 ((l.zipIdx.map fun p => p.1.toNat * 2 ^ p.2).sum)]

/-- The bits of bytes, bit 0 of each byte first. -/
def unpackBits (bs : List Byte) : List Bool := bs.flatMap fun b => lsbBits 8 b.toNat

/-- Bits of one symbol under a table. -/
def symBits (lens : List Nat) (s : Sym) : List Bool :=
  let c := codeOf lens s.sym
  msbBits c.2 c.1 ++ lsbBits (extraBits s.sym) s.extra

/-- Coded bit length of symbols under a table; none when a needed symbol has no code (R402). -/
def codedBits (lens : List Nat) : List Sym → Option Nat
  | [] => some 0
  | s :: r =>
    let l := lens.getD s.sym 0
    if l = 0 then none else (codedBits lens r).map fun n => n + l + extraBits s.sym

/-- The segments of block b of a page: class and START (R383). -/
def blockSegs (secs : List (Nat × Nat)) (b : Nat) : List (Nat × Nat) :=
  let cur := ((secs.filter fun s => s.1 ≤ 4096 * b).getLastD (0, 0)).2
  (cur, 0) :: ((secs.filter fun s => 4096 * b < s.1 && s.1 < 4096 * (b + 1)).map fun s => (s.2, s.1 - 4096 * b))

/-- The 12-byte header of a coded block (Table 1). -/
def codedHead (slot : Nat) (segs : List (Nat × Nat)) (clenB : Nat) : List Byte :=
  natLe 1 slot ++ natLe 1 segs.length ++ natLe 2 clenB ++
    (segs.flatMap fun s => natLe 2 (s.1 * 4096 + s.2)) ++ List.replicate (8 - 2 * segs.length) 0#8

/-- A block coded with a slot's table: stored bytes with their padding (R380). -/
def encodeBlock (slot : Nat) (lens : List Nat) (segs : List (Nat × Nat)) (block : List Byte) : List Byte :=
  let body := packBits ((symbols 0 (overSegs segFwd segs block)).flatMap (symBits lens))
  let h := codedHead slot segs (12 + body.length)
  let s := h ++ body
  s ++ List.replicate (32 * ceilDiv s.length 32 - s.length) 0#8

/-- Stored length of a block under a slot: 32 × ⌈CLEN_B / 32⌉ bytes; none when the slot does not qualify (R402). -/
def storedLen (lens : List Nat) (segs : List (Nat × Nat)) (block : List Byte) : Option Nat :=
  (codedBits lens (symbols 0 (overSegs segFwd segs block))).bind fun n =>
    let c := 12 + ceilDiv n 8
    if c ≤ 4096 then some (32 * ceilDiv c 32) else none

/-- The choice of R402: the ACTIVE slot with the smallest stored length, the lowest number among equals; none stores
raw, as does a length above the threshold of sixteenths × 256 bytes. -/
def chooseSlot (slots : Tab CodecSlot) (thresh : Nat) (segs : List (Nat × Nat)) (block : List Byte) : Option Nat :=
  let cands := slots.filterMap fun e =>
    if e.2.mode = 1 then (storedLen e.2.lens segs block).map fun n => (n, e.1) else none
  match cands.foldl (fun (a : Option (Nat × Nat)) c => match a with
      | none => some c
      | some x => if c.1 < x.1 then some c else some x) none with
  | some (n, s) => if thresh * 256 < n then none else some s
  | none => none

/-- One block as a compressor stores it. -/
def compressBlock (slots : Tab CodecSlot) (thresh : Nat) (segs : List (Nat × Nat)) (block : List Byte) :
    Option Nat × List Byte :=
  match chooseSlot slots thresh segs block with
  | some s => (some s, encodeBlock s ((Tab.get? slots s).map (·.lens) |>.getD []) segs block)
  | none => (none, block)

/-- The 16 blocks of a page as the compressors store them. -/
def compressPage (slots : Tab CodecSlot) (thresh : Nat) (secs : List (Nat × Nat)) (page : List Byte) :
    List (Option Nat × List Byte) :=
  (pageBlocks page).zipIdx.map fun (blk, b) => compressBlock slots thresh (blockSegs secs b) blk

/-! ## Expansion (08 R384, R385, R407) -/

/-- The number of the symbol that has the r-th code of a length. -/
def nthSym (lens : List Nat) (l r : Nat) : Nat :=
  (((List.range 268).filter fun s => lens.getD s 0 == l).getD r 0)

/-- One prefix code read from a bit string: symbol and rest; none when the bits run out. -/
def readSym (lens : List Nat) (len code : Nat) : List Bool → Option (Nat × List Bool)
  | [] => none
  | b :: r =>
    let c := code * 2 + b.toNat
    let l := len + 1
    let f := firstCode lens l
    if f ≤ c ∧ c - f < lenCount lens l then some (nthSym lens l (c - f), r)
    else if l < 15 then readSym lens l c r else none

/-- n bits, the first least significant; none when they run out. -/
def readLsb (n : Nat) (bs : List Bool) : Option (Nat × List Bool) :=
  if bs.length < n then none else some (((bs.take n).zipIdx.map fun p => p.1.toNat * 2 ^ p.2).sum, bs.drop n)

/-- Symbols expanded until n bytes are produced; the rest of the bits must be zero (pseudocode after R386). -/
def expandSyms (lens : List Nat) : Nat → Nat → List Bool → Option (List Byte)
  | 0, n, bs => if n = 0 && bs.all (!·) then some [] else none
  | fuel + 1, n, bs =>
    if n = 0 then (if bs.all (!·) then some [] else none) else
    match readSym lens 0 0 bs with
    | none => none
    | some (s, r) =>
      if s < 256 then (expandSyms lens fuel (n - 1) r).map fun t => BitVec.ofNat 8 s :: t
      else
        match readLsb (s - 256 + 1) r with
        | none => none
        | some (x, r) =>
          let l := 2 ^ (s - 256 + 1) + x
          if n < l then none else (expandSyms lens fuel (n - l) r).map fun t => List.replicate l 0#8 ++ t

/-- The segment entries of a coded block, when Table 1 and R381, R382 hold. -/
def readSegs (blk : List Byte) : Option (List (Nat × Nat)) :=
  let n := recNum blk 1 1
  let ent := (List.range 4).map fun g => recNum blk (4 + 2 * g) 2
  let segs := (ent.take n).map fun e => (e / 4096, e % 4096)
  let ends := (segs.drop 1).map (·.2) ++ [4096]
  let ok := 1 ≤ n && n ≤ 4 && (ent.drop n).all (· == 0) && ent.all (· < 32768) && (segs.getD 0 (0, 0)).2 == 0 &&
    (segs.zip ends).all fun p => p.1.2 < p.2 && p.1.1 ≤ 2 && (p.1.1 != 2 || (p.1.2 % 2 == 0 && (p.2 - p.1.2) % 2 == 0))
  if ok then some segs else none

/-- A coded block expanded; none when the expander fails it (R407). -/
def expandCoded (slots : Tab CodecSlot) (nibble : Nat) (blk : List Byte) : Option (List Byte) :=
  let tab := recNum blk 0 1
  let clenB := recNum blk 2 2
  match Tab.get? slots tab, readSegs blk with
  | some sl, some segs =>
    if sl.mode ≠ 0 ∧ tab = nibble ∧ 13 ≤ clenB ∧ clenB ≤ 4096 ∧ blk.length = 32 * ceilDiv clenB 32 ∧
       (blk.drop clenB).all (· == 0#8)
    then (expandSyms sl.lens 4097 4096 (unpackBits ((blk.take clenB).drop 12))).map (overSegs segInv segs)
    else none
  | _, _ => none

/-- Block b of a tile expanded to 4,096 bytes; none when it fails (R407). -/
def expandBlock (slots : Tab CodecSlot) (t : List Byte) (b : Nat) : Option (List Byte) :=
  let blk := blockBytes t b
  if blockRaw t b then (if blk.length = 4096 then some blk else none) else expandCoded slots (blockSlot t b) blk

/-- A tile's page with failed blocks as zeros, and whether any failed (R408). -/
def expandTile (slots : Tab CodecSlot) (t : List Byte) : List Byte × Bool :=
  let bl := (List.range 16).map fun b => expandBlock slots t b
  (bl.flatMap fun x => x.getD (List.replicate 4096 0#8), bl.any (·.isNone))

/-- The codec slots that the coded blocks of a tile name, one for each block (R392). -/
def tileSlots (t : List Byte) : List Nat :=
  (List.range 16).filterMap fun b => if blockRaw t b then none else some (blockSlot t b)

end Sys2Proof.Machine
end

