-- ==== Sys2Proof/Machine/Dev.lean ====
section
/-!
DEFINITION. The device's state but for its command queue and its fuses. Every table is empty at reset; an
unlisted unit has the value that its accessor gives.
-/
namespace Sys2Proof.Machine

/-- Everything the spec gives the device but the fuses (in Otp) and the queue of commands (in State). -/
structure Dev where
  /-- Counter of free values: the model's own field (log 2). -/
  freeCtr : Nat := 0
  /-- Nanoseconds of the device clock since reset: the model's reckoning of elapsed time (log 3). -/
  up : Nat := 0
  /-- Fabric time in units of 2^-16 ns (12 R576). -/
  fab : Nat := 0
  /-- Registers by PF BAR0 address; an unlisted one holds the reset column's value (00 R6, 17 R820). -/
  regs : Tab W64 := []
  /-- Emissions of the device, oldest first. -/
  out : List Out := []
  -- 03
  stands : Tab Stand := []
  -- 16
  /-- The two copies of the configuration block in module flash, the block in use and the number of its copy. -/
  cfgA : CfgCopy := .erased
  cfgB : CfgCopy := .erased
  cfg : CfgBlock := ⟨0, false, 0, 32, 0, []⟩
  cfgIsB : Bool := false
  -- 14
  /-- Fences set after the inventory, by unit number. -/
  fences : Tab FenceInfo := []
  /-- Reactions that raise events have asked for and the running command has not carried out yet. -/
  react : List React := []
  /-- Inventory causes of the 40 dies, as the last power-on found them; empty before it (02 R52, R53). -/
  invCause : List Nat := []
  /-- GLB_INV_STATUS.RESULT is not 0 (02 R60). -/
  invTaken : Bool := false
  /-- HALT (14 R718). -/
  halted : Bool := false
  /-- Patrol runs that wait, oldest first, and the one that runs in each cell; the last three results of each unit, pattern
  set and bin, newest first (14 R719 to R724). -/
  ptlQ : List PtlRun := []
  ptlRun : Tab PtlRun := []
  ptlHist : Tab (List Bool) := []
  -- 15
  /-- A supply warning exists; consecutive samples above 42.5 V since; THERM_L is asserted (15 R741, R750). -/
  warn : Bool := false
  goodRun : Nat := 0
  thermL : Bool := false
  /-- AVSBus requests of the running step: links AVS0 to AVS3 not yet answered, the point whose voltage is requested, and
  whether a link has timed out (15 R732, R733, R738). -/
  avsWait : List Nat := []
  avsPoint : Nat := 0
  avsLate : Bool := false
  /-- Voltage at which the device takes each VCELL rail to stand, as an operating point (15 R733). -/
  rails : Tab Nat := []
  /-- Entries into a low-power state under way: cell, or 16 for the module, and the state entered. -/
  lpEnter : Tab Nat := []
  /-- The module is without power but for VSB: S4, or VIN below 38 V; and which of the two (15 R746, R763). -/
  off : Bool := false
  inS4 : Bool := false
  /-- Last temperature of each of the 40 dies, in whole °C (15 R747). -/
  temps : List Nat := []
  /-- Cells whose cell reset has begun and not ended; a warm device reset has begun and not ended; resets of codes 6 to 8
  that wait for the end of one that runs (16 R773, R777, R779). -/
  cellRst : List Nat := []
  warm : Bool := false
  resetQ : List Nat := []
  /-- What the board keeps through every reset. -/
  board : Board := {}
  /-- The management endpoints. -/
  mgmt : Mgmt := {}
  /-- What the running command carries along: empty between commands. -/
  doing : Doing := {}
  -- 17
  hq : Tab HostQ := []
  msix : Tab MsixEntry := []
  fns : Tab FnCtl := []
  dma : List DmaReq := []
  dmaNext : Nat := 0
  -- 04, 08, 10
  profiles : Tab (List Byte) := []
  dir : Tab W64 := []
  shadow : Tab W64 := []
  dirOps : List DirOp := []
  svc : Memory := []
  svcUsed : Tab Unit := []
  pins : List Pin := []
  pinNext : Nat := 0
  oldGens : List OldGen := []
  held : List HeldEdit := []
  lateFree : List DeferFree := []
  pages : Tab PageInfo := []
  /-- Tiles and other contents of cell and edge DRAM, lent windows and landing zones, by the address of tileAddr. -/
  mem : Memory := []
  runs : Tab Run := []
  slots : Tab CodecSlot := []
  moves : List SeqMove := []
  migrs : List Migr := []
  migNext : Nat := 0
  promos : List PromoteReq := []
  recodes : List RecodePass := []
  -- 05, 06, 07, 09
  images : Tab Image := []
  imgNext : Nat := 0
  /-- Image in each slot, by stand × 8 + slot. -/
  slotImg : Tab Nat := []
  cores : Tab Core := []
  threads : Tab Thread := []
  blazes : Tab Blaze := []
  /-- Stage SRAM of the sixteen cells, cell × 2^26 + offset. -/
  stage : Memory := []
  /-- Stage areas in use: start (cell × 2^26 + offset) and length. -/
  stageAreas : Tab Nat := []
  /-- Persistent stage region of a stand in every cell: offset and length. -/
  stageRegion : Tab (Nat × Nat) := []
  orders : Tab Order := []
  orderNext : Nat := 1
  subs : Tab Sub := []
  subNext : Nat := 0
  /-- Query rings and work-order queues: records waiting, oldest first. -/
  rings : Tab (List QItem) := []
  wqs : Tab (List QItem) := []
  merges : List MergeSlot := []
  parts : Tab PartJob := []
  partNext : Nat := 0
  /-- Counts of the running telemetry interval of each stand. -/
  tel : Tab TelRec := []
  /-- Weight regions: T1 frames of a stand's region in 64 KiB pages, and whether it is lost. -/
  weights : Tab (List Nat × Bool) := []
  /-- Scratch pages of a stand: T0 frames, page by page. -/
  scratches : Tab (List Nat) := []
  nbprogs : Tab NbProg := []
  nbNext : Nat := 0
  locals : List LocalOp := []
  /-- Slots that serve KIND 4, by stand × 8 + slot (06 R299). -/
  slot4 : Tab Unit := []
  regionCmds : List RegionCmd := []
  unloads : List UnloadCmd := []
  -- 13
  /-- Slices defined; slice 0 holds the rest of the module until it is listed (13 R647). -/
  slices : Tab Slice := []
  copies : Tab CopySeq := []
  mirSeqs : Tab MirSeq := []
  lendIn : List LendIn := []
  lendOut : List LendOut := []
  -- 11, 12
  ports : Tab PortLink := []
  egress : Tab (List EgItem) := []
  scheds : Tab Sched := []
  conns : Tab Conn := []
  tracts : Tab Tract := []
  /-- Number of the next remote operation of a thread. -/
  opNext : Nat := 0
  /-- Messages of the device that have ended with a status and whose user has not acted yet: empty between commands. -/
  msgEnds : List (MsgWho × Nat) := []
  -- 12
  /-- Offset still to be slewed away, in units of 2^-17 ns, and the part of a unit slewed so far, in millionths (R588). -/
  slew : Int := 0
  slewAcc : Nat := 0
  /-- Consecutive used samples within 20 ns (R590). -/
  lockRun : Nat := 0
  /-- Consecutive PPS edges in time (R579). -/
  ppsRun : Nat := 0
  /-- The telemetry interval that runs; whether the clock has been good and in HOLDOVER in it; one more than the last
  interval that a step fell in or over; EN as the interval began (R619 to R623). -/
  telInt : Nat := 0
  telOk : Bool := false
  telHold : Bool := false
  telStep : Nat := 0
  telOn : Bool := false
  /-- Interval records that wait for their write, oldest first. -/
  telQ : List (List Byte) := []
  -- 13
  /-- SLOT_ID straps: SLED and SLOT of the node ID (02, 18). -/
  slotId : Nat := 0
  /-- Cruise epoch held when STANDBY was entered (R644). -/
  standbyEpoch : Nat := 0
  /-- Cells and ports at the last EPOCH_ADVANCE (R646). -/
  lastAdv : Nat × Nat := (0, 0)
  /-- Message counter of this node (R633). -/
  version : Nat := 0
  /-- Cruise messages taken from packets and not yet handed to the cruise engine, with the port of arrival: empty between
  commands. -/
  cruiseIn : List (Nat × List Byte) := []
  /-- A LEND_ASK is out (R685). -/
  lendAsk : Bool := false
  /-- VERSION values remembered of each origin, newest first (R632). -/
  seenMsgs : Tab (List Nat) := []
  rowMap : Tab (List Byte) := []
  rowSums : Tab (List Byte) := []
  failed : List Nat := []
  /-- Links that LINK_DOWN reported: node and port. -/
  downLinks : List (Nat × Nat) := []
  disclaims : List Disclaim := []
  promoted : List Promoted := []
  /-- Consecutive failed DMA requests of each stand's landing zone (10 R503). -/
  zoneFails : Tab Nat := []
  /-- The last heat epoch carried out (10 R477). -/
  heatEpoch : Nat := 0
  /-- Service reservation in force, GiB (10 R468). -/
  svcRes : Nat := 32
  deriving DecidableEq, Repr

end Sys2Proof.Machine
end

