-- ==== Sys2Proof/Machine/Regs.lean ====
section
/-!
DEFINITION. Registers by name: reset words, reads and writes of whole registers and of fields, the effect of a
written value by access code (00 R6 to R15), and the free-value counter.
-/
namespace Sys2Proof.Machine

/-! ## Free values -/

/-- A free number below n (0 when n is 0): the hint of the free-value counter. -/
def Dev.hint (d : Dev) (n : Nat) : Nat := Config.choice d.freeCtr % n

/-- Number of the i-th further free number at a count, apart from every count itself (log 2). -/
def freeIdx (k i : Nat) : Nat := 2 ^ 80 + k * 2 ^ 40 + i

/-- The i-th further free number of the present count. -/
def Dev.nth (d : Dev) (i : Nat) : Nat := Config.choice (freeIdx d.freeCtr i)

/-- Any element of a list: the free choice among them numbered i. -/
def Dev.pick {α : Type} (d : Dev) (i : Nat) (xs : List α) : Option α :=
  match xs with
  | [] => none
  | [x] => some x
  | x :: y :: r => (x :: y :: r)[d.nth i % (r.length + 2)]?

/-- A list turned by a free number: any element may come first. -/
def Dev.turned {α : Type} (d : Dev) (i : Nat) (xs : List α) : List α :=
  xs.drop (d.nth i % xs.length) ++ xs.take (d.nth i % xs.length)

/-- The counter moved on, after a free value was taken. -/
def Dev.took (d : Dev) : Dev := { d with freeCtr := d.freeCtr + 1 }

/-- A message or a request sent. -/
def Dev.emit (d : Dev) (o : Out) : Dev := { d with out := d.out ++ [o] }

/-- Fabric time in whole ns. -/
def Dev.now (d : Dev) : Nat := d.fab / 65536

/-! ## Registers -/

/-- Address of a register instance in the PF BAR0 map. -/
def Loc.addr (l : Loc) : Nat := l.blk.base + l.inst * l.blk.size + l.off

/-- Default reaction of a fault source, none for a reserved source ID (14 Table 1). -/
def srcReact (id : Nat) : Option Nat :=
  if id < 512 then
    match id % 32 with
    | 0 => some 2 | 1 => some 1 | 2 => some 1 | 3 => some 2
    | 4 => some 1 | 5 => some 1 | 6 => some 1 | 7 => some 1 | 8 => some 1 | 9 => some 1
    | 10 => some 1 | 11 => some 1 | 12 => some 1 | 13 => some 1 | 14 => some 1 | 15 => some 1
    | 16 => some 3 | 17 => some 2 | 18 => some 2 | 19 => some 4 | 20 => some 3 | 21 => some 2 | 22 => some 4
    | _ => none
  else if id < 0x220 then (if id % 8 < 5 then some 2 else none)
  else if id < 0x240 then (if id % 2 = 0 then some 0 else some 2)
  else if id < 0x250 then
    match id - 0x240 with
    | 0 => some 2 | 1 => some 2 | 2 => some 6 | 3 => some 2 | 4 => some 1 | 5 => some 2 | 6 => some 0
    | _ => none
  else if id < 0x260 then
    match id - 0x250 with
    | 0 => some 6 | 1 => some 2 | 2 => some 6 | 3 => some 2 | 4 => some 2 | 5 => some 2 | 6 => some 2
    | 7 => some 2 | 8 => some 6 | 9 => some 2
    | _ => none
  else if id < 0x270 then
    match id - 0x260 with
    | 0 => some 2 | 1 => some 1 | 2 => some 2
    | _ => none
  else if id < 0x380 then none
  else if id < 0x400 then (if id % 4 = 0 then some 2 else some 1)
  else none

/-- The enables of the defined sources of one status word (14 Table 7). -/
def enableReset (w : Nat) : Nat := bitsMask ((List.range 32).filter fun b => (srcReact (32 * w + b)).isSome)

/-- Privileged bucket k of a scheduler instance at reset (12 Table 6): instance 0 admission, 1 to 16 cells,
17 to 32 egress. Words are RATE [63:32], BURST [31:8], SEL [3:1], EN [0]. -/
def privReset (inst k : Nat) : Nat :=
  let w (rate burst sel : Nat) : Nat := rate * 2 ^ 32 + burst * 2 ^ 8 + sel * 2 + 1
  if inst = 0 then
    match k with
    | 1 => w 17280 1048576 1 | 3 => w 17280 1048576 3 | _ => 0
  else if inst < 17 then
    match k with
    | 1 => w 1080 65536 1 | 3 => w 1080 65536 3 | _ => 0
  else
    match k with
    | 0 => w 1 8192 0 | 1 => w 2000 65536 1 | 2 => w 100000 1048576 2 | 3 => w 50000 1048576 3 | _ => 0

/-- Reset values that depend on the instance or the index (14 Table 7; 13 Table 9; 12 Table 6). -/
def resetOver (l : Loc) : Option Nat :=
  match l.blk with
  | .flt =>
    if 0x1100 ≤ l.off ∧ l.off < 0x1200 then some (enableReset ((l.off - 0x1100) / 8))
    else if 0x2000 ≤ l.off ∧ l.off < 0x4000 then some ((srcReact ((l.off - 0x2000) / 8)).getD 0)
    else none
  | .cmp =>
    if l.off = 0x100 then some 0xFFFFFFFF0000 else if l.off = 0x108 then some 0xFFFFFFFF
    else if l.off = 0x110 then some 0x100000001 else none
  | .sch =>
    if 0x600 ≤ l.off ∧ l.off < 0x680 then
      let k := (l.off - 0x600) / 16
      if l.off % 16 = 0 then some (privReset l.inst k) else some (nbits (privReset l.inst k) 31 8)
    else none
  | _ => none

/-- The word a register holds after the reset that clears it. -/
def resetWord (l : Loc) : W64 :=
  match resetOver l with
  | some v => BitVec.ofNat 64 v
  | none => match findRow l.blk l.off with
    | some r => r.resetWord
    | none => 0#64

/-- A register's stored word. -/
def Dev.rd (d : Dev) (b : Blk) (i off : Nat) : W64 :=
  Tab.getD d.regs (Loc.addr ⟨b, i, off⟩) (resetWord ⟨b, i, off⟩)

/-- A register's stored word set. -/
def Dev.wr (d : Dev) (b : Blk) (i off : Nat) (v : W64) : Dev :=
  { d with regs := Tab.set d.regs (Loc.addr ⟨b, i, off⟩) v }

/-- A field's stored value. -/
def Dev.fld (d : Dev) (b : Blk) (i off hi lo : Nat) : Nat := bits (d.rd b i off) hi lo

/-- A field's stored value set. -/
def Dev.setFld (d : Dev) (b : Blk) (i off hi lo v : Nat) : Dev := d.wr b i off (putBits (d.rd b i off) hi lo v)

/-- A counting field raised by n, wrapping. -/
def Dev.incWrap (d : Dev) (b : Blk) (i off hi lo n : Nat) : Dev := d.setFld b i off hi lo (d.fld b i off hi lo + n)

/-- A counting field raised by n, saturating. -/
def Dev.incSat (d : Dev) (b : Blk) (i off hi lo n : Nat) : Dev :=
  d.setFld b i off hi lo (satAt (hi + 1 - lo) (d.fld b i off hi lo + n))

/-- Every register of an address range back at its reset word. -/
def Dev.clrRegs (d : Dev) (lo n : Nat) : Dev := { d with regs := Tab.delRange d.regs lo n }

/-! ## The effect of a written value -/

/-- What a field holds after v is written, by its description. -/
def Fix.apply (f : Fix) (old v : Nat) : Nat :=
  match f with
  | .id => v
  | .min n => if v < n then n else v
  | .max n => if n < v then n else v
  | .clamp lo hi => if v < lo then lo else if hi < v then hi else v
  | .only lo hi => if v < lo ∨ hi < v then old else v
  | .always n => n
  | .sevenIsTwo => if v = 7 then 2 else v
  | .keepOld => old

/-- The bytes of a register that an access of 4 or 8 bytes at an offset carries (00 R13 to R15): the lowest bit
and the width. -/
def laneOf (off size : Nat) : Nat × Nat := if size = 8 then (0, 64) else (off % 8 * 8, 32)

/-- One field after a write of word v that carries bits [lane.1 + lane.2 - 1 : lane.1] (00 R6, R15). A field only
part of which is carried takes the carried bits. -/
def RegField.write (f : RegField) (lockOpen : Bool) (lane : Nat × Nat) (v : W64) (w : W64) : W64 :=
  let old := bits w f.hi f.lo
  let m := (List.range (f.hi + 1 - f.lo)).filter fun i => lane.1 ≤ f.lo + i && f.lo + i < lane.1 + lane.2
  let mask := bitsMask m
  let val := bits v f.hi f.lo
  if m.isEmpty then w else
  match f.acc with
  | .ro => w
  | .wo => w
  | .w1c => putBits w f.hi f.lo (old - (old &&& (val &&& mask)))
  | .rw => putBits w f.hi f.lo (f.fix.apply old (old - (old &&& mask) + (val &&& mask)))
  | .rwl => if lockOpen then putBits w f.hi f.lo (f.fix.apply old (old - (old &&& mask) + (val &&& mask))) else w

/-- The word that a written value makes of a register, all its fields by their access codes. -/
def RegRow.write (r : RegRow) (lockOpen : Bool) (lane : Nat × Nat) (v : W64) (w : W64) : W64 :=
  r.fields.foldl (fun w f => f.write lockOpen lane v w) w

/-- True when a write to the register reaches an RWL field (00 R7; 03 Table 8). -/
def RegRow.hasLocked (r : RegRow) : Bool := r.fields.any fun f => f.acc == .rwl

/-- GLB_LOCK.LOCK. -/
def Dev.lock (d : Dev) : Bool := bitAt (d.rd .glb 0 0x18) 0

/-! ## Stands, queues and functions by number -/

/-- A stand slot after module reset: empty, closed, with the quotas of the register table's reset column. -/
def Stand.reset : Stand :=
  { key := none, staged := 0, proof := 0, nonce := 0, given := 0, ses := .closed, result := .none, op := none, fails := 0,
    lockEnd := 0, count := 0, quota := ⟨0, 0, 1, 0, 0⟩, rst := false, funcEn := false, yards := [] }

/-- Stand s. -/
def Dev.std (d : Dev) (s : Nat) : Stand := Tab.getD d.stands s Stand.reset

/-- Stand s replaced. -/
def Dev.setStd (d : Dev) (s : Nat) (x : Stand) : Dev := { d with stands := Tab.set d.stands s x }

/-- A stand's queue state. -/
def Dev.hostQ (d : Dev) (s : Nat) : HostQ := Tab.getD d.hq s ⟨[], 0, []⟩

/-- A stand's queue state replaced. -/
def Dev.setHostQ (d : Dev) (s : Nat) (x : HostQ) : Dev := { d with hq := Tab.set d.hq s x }

/-- A function's PCIe controls. -/
def Dev.fnCtl (d : Dev) (fn : Nat) : FnCtl := Tab.getD d.fns fn ⟨false, false⟩

/-- True when the device may issue DMA and MSI-X for a function (17 R817). -/
def Dev.fnLive (d : Dev) (fn : Nat) : Bool := (d.fnCtl fn).bme && !(d.fnCtl fn).d3

/-- A field of a stand window. -/
def Dev.sfld (d : Dev) (s off hi lo : Nat) : Nat := d.fld .stand s off hi lo

/-- A field of a stand window set. -/
def Dev.setSfld (d : Dev) (s off hi lo v : Nat) : Dev := d.setFld .stand s off hi lo v

end Sys2Proof.Machine
end

