-- ==== Sys2Proof/Machine/Signals.lean ====
section
/-!
DEFINITION. Interrupts, completion entries and fault occurrences: what the device signals (17 R813 to R818; 14
R687 to R705), with the reactions of a raise event queued for Reactions.lean.
-/
namespace Sys2Proof.Machine

/-! ## Interrupts (17 R817, R818) -/

/-- Number of an MSI-X entry of a function. -/
def msixKey (fn vec : Nat) : Nat := fn * 256 + vec

/-- An MSI-X entry; masked after reset (PRESUMED, PCIe; log 6). -/
def Dev.msixOf (d : Dev) (fn vec : Nat) : MsixEntry := Tab.getD d.msix (msixKey fn vec) ⟨true, false⟩

/-- A vector signalled: sent when it is unmasked and the function may send, else its pending bit is set. -/
def Dev.signal (d : Dev) (fn vec : Nat) : Dev :=
  let e := d.msixOf fn vec
  if !e.masked && d.fnLive fn then d.emit (.msix fn vec)
  else { d with msix := Tab.set d.msix (msixKey fn vec) { e with pend := true } }

/-- The fault vector of a stand signalled, when HIF_FLT_IRQ.EN is 1. -/
def Dev.signalFault (d : Dev) (s : Nat) : Dev :=
  if bitAt (d.rd .stand s 0x2070) 31 then d.signal s (d.sfld s 0x2070 7 0) else d

/-- The completion vector of a stand signalled, when HIF_CPL_IRQ.EN is 1; the count since the last signal restarts. -/
def Dev.signalCpl (d : Dev) (s : Nat) : Dev :=
  let d := d.setHostQ s { d.hostQ s with unsignalled := 0 }
  if bitAt (d.rd .stand s 0x2060) 31 then d.signal s (d.sfld s 0x2060 7 0) else d

/-! ## Completion entries (17 R813, R814) -/

/-- True when the completion queue takes an entry now: enabled, its function live, and TAIL not next to HEAD. -/
def Dev.cplRoom (d : Dev) (s : Nat) : Bool :=
  let n := 2 ^ d.sfld s 0x2048 4 0
  bitAt (d.rd .stand s 0x2048) 31 && d.fnLive s && (d.sfld s 0x2058 15 0 + 1) % n != d.sfld s 0x2050 15 0

/-- One entry written at TAIL with the present PHASE; TAIL advances, and PHASE inverts at the wrap. -/
def Dev.cplWrite (d : Dev) (s : Nat) (e : CplEntry) : Dev :=
  let n := 2 ^ d.sfld s 0x2048 4 0
  let t := d.sfld s 0x2058 15 0
  let ph := d.sfld s 0x2058 16 16
  let d := d.emit (.cpl s t e (ph == 1))
  let d := d.setSfld s 0x2058 15 0 ((t + 1) % n)
  let d := if (t + 1) % n = 0 then d.setSfld s 0x2058 16 16 (1 - ph) else d
  let q := d.hostQ s
  let d := d.setHostQ s { q with unsignalled := q.unsignalled + 1 }
  if d.sfld s 0x2060 47 32 ≤ q.unsignalled + 1 then d.signalCpl s else d

/-- Held backlog entries written while the queue has room, at most n of them (R814). -/
def Dev.cplDrain (s : Nat) : Nat → Dev → Dev
  | 0, d => d
  | n + 1, d =>
    if d.cplRoom s then
      match (d.hostQ s).backlog with
      | [] => d
      | e :: r => Dev.cplDrain s n ((d.setHostQ s { d.hostQ s with backlog := r }).cplWrite s e)
    else d

/-- A completion entry: written at once, held in the backlog of 65,536 entries, or lost (R814). -/
def Dev.post (d : Dev) (s : Nat) (e : CplEntry) : Dev :=
  let q := d.hostQ s
  if q.backlog.isEmpty && d.cplRoom s then d.cplWrite s e
  else if q.backlog.length < 65536 then d.setHostQ s { q with backlog := q.backlog ++ [e] }
  else d.incSat .stand s 0x2068 63 32 1

/-- The completion of a host command. -/
def Dev.postCmd (d : Dev) (s : Nat) (tag : W64) (opc tbl code : Nat) (r0 r1 : W64) : Dev :=
  d.post s { tag := tag, r0 := r0, r1 := r1, kind := 0, opcode := opc, tbl := tbl, code := code }

/-- A sequence event (KIND 3): opcode 1 yarding ended, 2 restore ended (17 Table 5, R809). -/
def Dev.postSeq (d : Dev) (s : Nat) (handle : Nat) (opc tbl code : Nat) : Dev :=
  d.post s { tag := BitVec.ofNat 64 handle, r0 := 0, r1 := 0, kind := 3, opcode := opc, tbl := tbl, code := code }

/-! ## Fault occurrences (14 R688 to R705) -/

/-- Code of a unit kind (14 Table 7, FLT_FIRST_SRC.KIND). -/
def UnitKind.code : UnitKind → Nat
  | .none => 0 | .engine => 1 | .core => 2 | .nbu => 3 | .channel => 4 | .port => 5 | .cell => 6 | .edge => 7

/-- The unit kind of a code of 1 to 6 (14 R853). -/
def UnitKind.ofCode : Nat → Option UnitKind
  | 1 => some .engine | 2 => some .core | 3 => some .nbu | 4 => some .channel | 5 => some .port | 6 => some .cell
  | _ => none

/-- Number of units of a kind that a firebreak can fence (14 R853). -/
def UnitKind.count : UnitKind → Nat
  | .engine => 96 | .core => 128 | .nbu => 1024 | .channel => 256 | .port => 16 | .cell => 16 | _ => 0

/-- The cell that holds a unit, if one does. -/
def FUnit.cell? (u : FUnit) : Option Nat :=
  match u.kind with
  | .engine => some (u.idx / 6) | .core => some (u.idx / 8) | .nbu => some (u.idx / 64)
  | .channel => some (u.idx / 16) | .cell => some u.idx
  | _ => none

/-- A unit's number in the fence table. -/
def FUnit.key (u : FUnit) : Nat := u.kind.code * 4096 + u.idx

/-- An occurrence's first-fault word: VALID, KIND, UNIT, STAND_V, STAND, SRC (14 Table 7). -/
def firstWord (u : FUnit) (stand : Option Nat) (src : Nat) : W64 :=
  BitVec.ofNat 64 (2 ^ 63 + u.kind.code * 2 ^ 44 + u.idx * 2 ^ 32 +
    (match stand with
      | some s => 2 ^ 31 + s * 2 ^ 26
      | none => 0) + src)

/-- A raise event in a latch whose three registers start at an offset: the first is recorded, a later one sets
OVERFLOW (14 R698, R699). -/
def Dev.latch (d : Dev) (b : Blk) (i off : Nat) (w detail : W64) : Dev :=
  let cur := d.rd b i off
  if bitAt cur 63 then d.wr b i off (putBits cur 62 62 1)
  else ((d.wr b i off w).wr b i (off + 8) (BitVec.ofNat 64 d.now)).wr b i (off + 16) detail

/-- The stand status bit of a source (14 Table 8). -/
def srcKindBit (src : Nat) : Nat :=
  if 0x380 ≤ src then src % 4
  else if src < 512 then
    let k := src % 32
    if k = 1 ∨ k = 2 ∨ k = 16 ∨ (10 ≤ k ∧ k ≤ 15) then 4 else if 4 ≤ k ∧ k ≤ 9 then 5 else 8
  else if src < 0x220 then (if src % 8 = 1 then 4 else 8)
  else if src = 0x244 then 6 else if src = 0x261 then 7 else if src = 0x262 then 4 else 8

/-- The stand's side of one occurrence: its status bit, its count and, on a raise event, its latch, its fault
vector and its reset (14 R694, R703). -/
def Dev.raiseStand (d : Dev) (src : Nat) (u : FUnit) (detail : W64) (en : Bool) (react : Nat) (s : Nat) : Dev :=
  let b := srcKindBit src
  let old := bitAt (d.rd .stand s 0x4000) b
  let d := (d.setSfld s 0x4000 b b 1).incSat .stand s 0x4028 31 0 1
  if !old && en then
    let d := d.latch .stand s 0x4008 (firstWord u (some s) src) detail
    let d := if react = 1 ∨ 3 ≤ react then d.signalFault s else d
    if 5 ≤ react then { d with react := d.react ++ [.resetStand s] } else d
  else d

/-- What a device-wide raise event asks for beyond the attributed stands' part (14 R694, R695). -/
def reactionsOf (react : Nat) (u : FUnit) (cause src : Nat) : List React :=
  (if 3 ≤ react ∧ u.kind ≠ .none ∧ u.kind ≠ .edge then [.fence u cause src] else []) ++
  (if 4 ≤ react then (match u.cell? with
    | some c => [.fenceCell c cause src]
    | none => []) else []) ++
  (if 6 ≤ react then [.halt] else [])

/-- One occurrence of a fault source: count and status, and on a raise event the latch and the reactions (R688,
R689, R694, R698). A reserved source ID has no occurrences (R692). Device actions are the caller's (R690). -/
def Dev.raise (d : Dev) (src : Nat) (u : FUnit) (stands : List Nat) (detail : W64) : Dev :=
  match srcReact src with
  | none => d
  | some _ =>
    let w := src / 32
    let b := src % 32
    let old := bitAt (d.rd .flt 0 (0x1000 + 8 * w)) b
    let en := bitAt (d.rd .flt 0 (0x1100 + 8 * w)) b
    let react := d.fld .flt 0 (0x2000 + 8 * src) 2 0
    let d := (d.incSat .flt 0 (0x2000 + 8 * src) 63 32 1).setFld .flt 0 (0x1000 + 8 * w) b b 1
    let d := stands.foldl (fun d s => d.raiseStand src u detail en react s) d
    if !old && en then
      let d := d.latch .flt 0 0x8 (firstWord u stands.min? src) detail
      let d := if react = 2 ∨ 3 ≤ react ∨ (react = 1 ∧ stands.isEmpty) then d.signalFault 0 else d
      { d with react := d.react ++ reactionsOf react u 2 src }
    else d

/-- ERR_L asserted: a source with status and enable set, or the device halted (R696). -/
def Dev.errAsserted (d : Dev) : Bool :=
  d.halted || (List.range 32).any fun w =>
    d.fld .flt 0 (0x1000 + 8 * w) 31 0 &&& d.fld .flt 0 (0x1100 + 8 * w) 31 0 != 0

/-! ## Power states of cells and demands (15 R754, R764, R765) -/

/-- PWR_STATE.CELLS of a cell: 0 S0, 1 S1, 2 S2, 3 waking. -/
def Dev.cellPower (d : Dev) (c : Nat) : Nat := d.fld .pwr 0 0 (2 * c + 1) (2 * c)

/-- A cell's power state set. -/
def Dev.setCellPower (d : Dev) (c v : Nat) : Dev := d.setFld .pwr 0 0 (2 * c + 1) (2 * c) v

/-- PWR_STATE.MODULE: 0 S0, 1 entering, 2 leaving S3, 3 S3. -/
def Dev.modPower (d : Dev) : Nat := d.fld .pwr 0 0 35 32

/-- PWR_DOM_STAT of n domains from a first: powered with every flag set, or off and clamped (R752, R753). -/
def Dev.domains (d : Dev) (lo n : Nat) (on : Bool) : Dev :=
  (List.range n).foldl (fun d i => d.wr .pwr 0 (0x200 + 8 * (lo + i)) (if on then 0x4F else 0x80)) d

/-- A refused or aborted entry counted and recorded: code, voting stand, abort, cell or 31, state. -/
def Dev.refuseLp (d : Dev) (code stand : Nat) (abort : Bool) (unit state : Nat) : Dev :=
  let d := if abort then d.incSat .pwr 0 (0x100 + 8 * code) 63 32 1 else d.incSat .pwr 0 (0x100 + 8 * code) 31 0 1
  let w := state * 2 ^ 20 + stand * 2 ^ 15 + (if abort then 2 ^ 14 else 0) + unit * 2 ^ 8 + code
  (d.wr .pwr 0 0x180 (BitVec.ofNat 64 w)).wr .pwr 0 0x188 (BitVec.ofNat 64 d.now)

/-- A demand on a cell: an entry under way is aborted, and a cell in S1 or S2 is awake when the access is performed (R754,
R765; log 36). -/
def Dev.demand (d : Dev) (c : Nat) : Dev :=
  match Tab.get? d.lpEnter c with
  | some st =>
    let d : Dev := { d with lpEnter := Tab.del d.lpEnter c }
    (d.refuseLp 10 0 true c st).setCellPower c 0
  | none => if d.cellPower c = 0 then d else (d.setCellPower c 0).domains (3 * c) 2 true

/-- A demand on the cell whose DRAM holds a frame of T0. -/
def Dev.demandFrame (d : Dev) (tier frame : Nat) : Dev :=
  if tier = 0 ∧ frame / 2 ^ 27 < 16 then d.demand (frame / 2 ^ 27) else d

/-! ## Fences (14 R710 to R717, R852) -/

/-- Temperature of a die in °C: 0 before its first sample (log 8). -/
def Dev.dieTemp (d : Dev) (i : Nat) : Nat := d.temps.getD i 0

/-- Inventory cause of a die (02 Table 7), as the last power-on found it. -/
def Dev.dieCause (d : Dev) (i : Nat) : Nat := d.invCause.getD i 0

/-- True when a pair failed the inventory (02 R54). -/
def Dev.pairFailed (d : Dev) (p : Nat) : Bool := d.dieCause (2 * p) != 0 || d.dieCause (2 * p + 1) != 0

/-- True when the unit itself is fenced. -/
def Dev.unitFenced (d : Dev) (u : FUnit) : Bool :=
  Tab.has d.fences u.key || (u.kind == .cell && d.pairFailed u.idx)

/-- True when a cell is fenced. -/
def Dev.cellFenced (d : Dev) (c : Nat) : Bool := d.unitFenced ⟨.cell, c⟩

/-- The unit that a patrol run tests: an expander's engine for an expander (14 Table 6, R723). -/
def PtlRun.tested (r : PtlRun) : FUnit :=
  match r.kind with
  | 0 => ⟨.engine, 6 * r.cell + r.unit⟩
  | 1 => ⟨.engine, 6 * r.cell + r.unit⟩
  | 2 => ⟨.core, 8 * r.cell + r.unit⟩
  | _ => ⟨.nbu, 64 * r.cell + r.unit⟩

/-- True while a patrol run holds a unit from allocation (14 R720). -/
def Dev.underPatrol (d : Dev) (u : FUnit) : Bool := Tab.anyOf d.ptlRun fun _ r => r.tested == u

/-- True when a unit of a cell is out of allocation: fenced, under patrol, or its cell is fenced. -/
def Dev.unitOut (d : Dev) (u : FUnit) : Bool :=
  d.unitFenced u || d.underPatrol u || (match u.cell? with
    | some c => d.cellFenced c
    | none => false)

/-- True when a cell's DRAM is out of T0: the cell is fenced, or one of its channels is (14 Table 5). -/
def Dev.t0Out (d : Dev) (c : Nat) : Bool :=
  d.cellFenced c || (List.range 16).any fun ch => Tab.has d.fences (FUnit.key ⟨.channel, 16 * c + ch⟩)

/-- True when a port is fenced. -/
def Dev.portFenced (d : Dev) (p : Nat) : Bool := d.unitFenced ⟨.port, p⟩

/-- A mask of the fenced units of a kind, n from a first index. -/
def Dev.fenceMask (d : Dev) (k : UnitKind) (first n : Nat) : Nat :=
  bitsMask ((List.range n).filter fun i => Tab.has d.fences (FUnit.key ⟨k, first + i⟩))

end Sys2Proof.Machine
end

