-- ==== Sys2Proof/Machine/Kv.lean ====
section
/-!
DEFINITION. Directory, page-table sets, generations and pins, frames and tiles (04; 10). Bit layouts are those of
04 Tables 5 to 8; sets and table pages lie in service memory byte for byte.
-/
namespace Sys2Proof.Machine

/-! ## Directory values (04 Table 8) -/

/-- Directory key of a stand's handle. -/
def seqKey (s : Nat) (handle : Nat) : Nat := s * 2 ^ 59 + handle % 2 ^ 59

/-- Stand of a key. -/
def keyStand (key : Nat) : Nat := key / 2 ^ 59

/-- Handle of a key. -/
def keyHandle (key : Nat) : Nat := key % 2 ^ 59

/-- Sequence states (04 Table 8). -/
def stResident : Nat := 1
def stRunning : Nat := 2
def stYarded : Nat := 3
def stRestoring : Nat := 4
def stQuar : Nat := 5

/-- STATE of a directory value; 0 when no entry exists. -/
def dvState : Option W64 → Nat
  | some v => bits v 63 61
  | none => 0

/-- NEW_TIER. -/
def dvTier (v : W64) : Nat := bits v 60 59
/-- NO_DEMOTE. -/
def dvNoDemote (v : W64) : Bool := bitAt v 58
/-- CLASS. -/
def dvClass (v : W64) : Nat := bits v 31 28
/-- PROFILE. -/
def dvProfile (v : W64) : Nat := bits v 27 25
/-- SET_PTR. -/
def dvSet (v : W64) : Nat := bits v 24 0

/-- What a lookup returns: the array's entry (04 R145). -/
def Dev.look (d : Dev) (key : Nat) : Option W64 := Tab.get? d.dir key

/-- What the device itself goes by: the shadow, which is written first (04 R147). -/
def Dev.entry (d : Dev) (key : Nat) : Option W64 := Tab.get? d.shadow key

/-- An entry's value changed: shadow first, then the array's entry where it is visible (04 R144, R147). -/
def Dev.setEntry (d : Dev) (key : Nat) (v : W64) : Dev :=
  { d with shadow := Tab.upd d.shadow key fun _ => v, dir := Tab.upd d.dir key fun _ => v }

/-- STATE of an entry set. -/
def Dev.setSeqState (d : Dev) (key st : Nat) : Dev :=
  match d.entry key with
  | some v => d.setEntry key (putBits v 63 61 st)
  | none => d

/-- Entries that a stand holds. -/
def Dev.dirCount (d : Dev) (s : Nat) : Nat := Tab.count d.shadow fun k _ => keyStand k == s

/-- A stand's profile slot. -/
def Dev.profile? (d : Dev) (s slot : Nat) : Option Profile := (Tab.get? d.profiles (s * 8 + slot)).bind parseProfile

/-- The profile of a sequence. -/
def Dev.seqProfile? (d : Dev) (key : Nat) : Option Profile :=
  match d.entry key with
  | some v => d.profile? (keyStand key) (dvProfile v)
  | none => (Tab.get? d.copies key).bind fun c => d.profile? (keyStand key) c.profile

/-! ## Service memory (04 R129; 10 R468) -/

/-- 4 KiB pages of the service reservation. -/
def Dev.svcPages (d : Dev) : Nat := d.svcRes * 2 ^ 18

/-- A free service page taken and zeroed: any free one (free value), page 0 never. -/
def Dev.svcAlloc (d : Dev) : Option (Nat × Dev) :=
  (Tab.freeAt d.svcUsed d.svcPages (d.hint d.svcPages) (fun i => i != 0)).map fun n =>
    (n, { d.took with svcUsed := Tab.set d.svcUsed n (), svc := Memory.zero d.svc (n * 4096) 4096 })

/-- A service page freed. -/
def Dev.svcFree (d : Dev) (n : Nat) : Dev :=
  { d with svcUsed := Tab.del d.svcUsed n, svc := Memory.zero d.svc (n * 4096) 4096 }

/-- An 8-byte word of service memory. -/
def Dev.svcWord (d : Dev) (a : Nat) : W64 := Memory.word d.svc a

/-- An n-byte number written to service memory. -/
def Dev.svcPut (d : Dev) (a n v : Nat) : Dev := { d with svc := Memory.putNum d.svc a n v }

/-! ## Page-table sets (04 Table 6) -/

/-- A field of a set. -/
def Dev.setNum (d : Dev) (set off n : Nat) : Nat := Memory.num d.svc (set * 4096 + off) n

/-- A field of a set written. -/
def Dev.putSet (d : Dev) (set off n v : Nat) : Dev := d.svcPut (set * 4096 + off) n v

/-- The key that a set serves. -/
def Dev.setKey (d : Dev) (set : Nat) : Nat := d.setNum set 0 8

/-- The layer word: GEN in [63:32], ROOT in [31:0]. -/
def Dev.layerWord (d : Dev) (set l : Nat) : W64 := d.svcWord (set * 4096 + 64 + 8 * l)

/-- RUNNING of a set. -/
def Dev.running (d : Dev) (set : Nat) : Nat := d.setNum set 12 4

/-- A new, empty set for a key (R151): KEY, PROFILE, CLASS, CREATED. -/
def Dev.newSet (d : Dev) (key profile cls : Nat) : Option (Nat × Dev) :=
  d.svcAlloc.map fun (set, d) =>
    let d := d.putSet set 0 8 key
    let d := d.putSet set 8 1 profile
    let d := d.putSet set 9 1 cls
    (set, d.putSet set 24 8 d.now)

/-! ## Page-table entries (04 Table 7) -/

def pteTier (p : W64) : Nat := bits p 62 61
def pteMig (p : W64) : Nat := bits p 60 58
def pteHeat (p : W64) : Nat := bits p 57 50
def pteClen (p : W64) : Nat := bits p 47 36
def pteFrame (p : W64) : Nat := bits p 35 0

/-- A valid entry with HEAT 0 and MIG NONE. -/
def mkPte (tier frame clen : Nat) : W64 := BitVec.ofNat 64 (2 ^ 63 + tier * 2 ^ 61 + clen * 2 ^ 36 + frame)

/-- Address of the entry of page p under a root, by the walk of R130 and R135. -/
def Dev.pteAddr (d : Dev) (root p : Nat) : Option Nat :=
  if root = 0 then none else
  let ren := d.svcWord (root * 4096 + 8 * (p / 512))
  if bitAt ren 63 then
    let a := bits ren 31 0 * 4096 + 8 * (p % 512)
    if bitAt (d.svcWord a) 63 then some a else none
  else none

/-- The entry of page p under a root. -/
def Dev.pteAt (d : Dev) (root p : Nat) : Option W64 := (d.pteAddr root p).map d.svcWord

/-- ROOT of a layer's current generation. -/
def Dev.root (d : Dev) (set l : Nat) : Nat := bits (d.layerWord set l) 31 0

/-- The entry of a page as the device holds it now: an edit held under R136, else the current generation. -/
def Dev.pte (d : Dev) (set l p : Nat) : Option W64 :=
  match d.held.find? fun h => h.set == set && h.layer == l && h.page == p with
  | some h => some h.pte
  | none => d.pteAt (d.root set l) p

/-- An in-place write of an entry (R132, R134). -/
def Dev.putPte (d : Dev) (set l p : Nat) (v : W64) : Dev :=
  if d.held.any fun h => h.set == set && h.layer == l && h.page == p then
    { d with held := d.held.map fun h => if h.set == set && h.layer == l && h.page == p then { h with pte := v } else h }
  else match d.pteAddr (d.root set l) p with
    | some a => d.svcPut a 8 v.toNat
    | none => d

/-- One in-place change of an entry. -/
def Dev.modPte (d : Dev) (set l p : Nat) (f : W64 → W64) : Dev :=
  match d.pte set l p with
  | some v => d.putPte set l p (f v)
  | none => d

/-- MIG of a page set. -/
def Dev.setMig (d : Dev) (set l p m : Nat) : Dev := d.modPte set l p fun v => putBits v 60 58 m

/-- Number of a page in the page table of the model: set, layer, page. -/
def pageKey (set l p : Nat) : Nat := (set * 256 + l) * 262144 + p
/-- Set of a page number. -/
def pkSet (k : Nat) : Nat := k / 262144 / 256
/-- Layer of a page number. -/
def pkLayer (k : Nat) : Nat := k / 262144 % 256
/-- Page of a page number. -/
def pkPage (k : Nat) : Nat := k % 262144

/-- The pages that a set holds, in ascending order of layer and page (R164). -/
def Dev.setPages (d : Dev) (set : Nat) : List (Nat × Nat) :=
  (d.pages.filter fun e => pkSet e.1 == set).map fun e => (pkLayer e.1, pkPage e.1)

/-- A page's record. -/
def Dev.pageInfo? (d : Dev) (set l p : Nat) : Option PageInfo := Tab.get? d.pages (pageKey set l p)

/-! ## Generations and pins (04 R133 to R138) -/

/-- The table pages of a generation: its root and the leaves of the root's valid entries. -/
def Dev.genPages (d : Dev) (root : Nat) : List Nat :=
  if root = 0 then [] else
  root :: (List.range 512).filterMap fun i =>
    let e := d.svcWord (root * 4096 + 8 * i)
    if bitAt e 63 then some (bits e 31 0) else none

/-- Pins on one generation. -/
def Dev.pinCount (d : Dev) (set l gen : Nat) : Nat :=
  (d.pins.filter fun p => p.set == set && p.layer == l && p.gen == gen).length

/-- Replaced generations of a layer without pins are dropped, and the table pages that no remaining generation of
the layer uses are freed (R137). -/
def Dev.reapGens (d : Dev) (set l : Nat) : Dev :=
  let mine := d.oldGens.filter fun g => g.set == set && g.layer == l
  let (alive, dead) := (mine.filter fun g => d.pinCount set l g.gen != 0, mine.filter fun g => d.pinCount set l g.gen == 0)
  let used := d.genPages (d.root set l) ++ alive.flatMap fun g => d.genPages g.root
  let gone := (dead.flatMap fun g => d.genPages g.root).filter fun n => !used.contains n
  let d := { d with oldGens := d.oldGens.filter fun g => !(g.set == set && g.layer == l && d.pinCount set l g.gen == 0) }
  gone.eraseDups.foldl Dev.svcFree d

/-- True when an edit of the layer must be held: the current generation and three replaced ones have pins (R136). -/
def Dev.mustHold (d : Dev) (set l : Nat) : Bool :=
  d.pinCount set l (bits (d.layerWord set l) 63 32) != 0 &&
  3 ≤ (d.oldGens.filter fun g => g.set == set && g.layer == l && d.pinCount set l g.gen != 0).length

/-- The new leaf and root of a published edit (R133): copies of the old ones with page p's entry in them, and the
layer word naming the new root with GEN raised by 1. -/
def Dev.publishAt (d : Dev) (leaf root set l p : Nat) (v : W64) : Dev :=
  let lw := d.layerWord set l
  let old := bits lw 31 0
  let oldLeaf := if old = 0 then none else
    let e := d.svcWord (old * 4096 + 8 * (p / 512))
    if bitAt e 63 then some (bits e 31 0) else none
  let rootBytes := if old = 0 then [] else Memory.readN d.svc (old * 4096) 4096
  let leafBytes := match oldLeaf with
    | some n => Memory.readN d.svc (n * 4096) 4096
    | none => []
  let svc := Memory.write (Memory.write d.svc (root * 4096) rootBytes) (leaf * 4096) leafBytes
  let svc := Memory.putNum svc (leaf * 4096 + 8 * (p % 512)) 8 v.toNat
  let svc := Memory.putNum svc (root * 4096 + 8 * (p / 512)) 8 (2 ^ 63 + leaf)
  let gen := bits lw 63 32
  let svc := Memory.putNum svc (set * 4096 + 64 + 8 * l) 8 (((gen + 1) % 2 ^ 32) * 2 ^ 32 + root)
  let d := { d with svc := svc }
  if old = 0 then d
  else Dev.reapGens { d with oldGens := d.oldGens ++ [⟨set, l, gen, old⟩] } set l

/-- An edit published (R133): new root and leaf pages that hold the new entry, then the layer word with GEN raised
by 1; none when service memory is exhausted. -/
def Dev.publish (d : Dev) (set l p : Nat) (v : W64) : Option Dev :=
  d.svcAlloc.bind fun x => x.2.svcAlloc.map fun y => y.2.publishAt x.1 y.1 set l p v

/-- An edit of a layer: held under the four-generation limit and counted, or published (R133, R136). -/
def Dev.edit (d : Dev) (set l p : Nat) (v : W64) : Option Dev :=
  if d.mustHold set l || d.held.any (fun h => h.set == set && h.layer == l) then
    some (Dev.incWrap { d with held := d.held ++ [⟨set, l, p, v⟩] } .dir 0 0x28 63 0 1)
  else d.publish set l p v

/-- Held edits of a layer published in arrival order while the limit allows, at most n (R136). -/
def Dev.publishHeld (set l : Nat) : Nat → Dev → Dev
  | 0, d => d
  | n + 1, d =>
    if d.mustHold set l then d else
    match d.held.find? fun h => h.set == set && h.layer == l with
    | none => d
    | some h =>
      ((d.publish set l h.page h.pte).map fun d => Dev.publishHeld set l n { d with held := d.held.erase h }).getD d

/-! ## Frames (10 R465 to R467) -/

/-- First address of a tile's frame: device memory for T0 and T1, then the borrowed windows, then the landing
zones (DESIGN CHOICE, log 11: where each tier's frames lie in the model's one tile memory). -/
def tileFrame (tier stand frame : Nat) : Nat :=
  match tier with
  | 2 => 2 ^ 40 + frame
  | 3 => 2 ^ 42 + stand * 2 ^ 37 + frame
  | _ => frame

/-- The frames of a die: cell c at c × 2^27; edge e at (16 + e) × 2^27 past its part of the service reservation. -/
def Dev.dieFrames (d : Dev) (die : Nat) : Nat × Nat :=
  if die < 16 then (die * 2 ^ 27, 2 ^ 27)
  else (die * 2 ^ 27 + d.svcRes * 2 ^ 20, 2 ^ 27 - d.svcRes * 2 ^ 20)

/-- The frames of stand s's landing zone. -/
def Dev.zoneFrames (d : Dev) (s : Nat) : Nat × Nat := (tileFrame 3 s 0, d.sfld s 0x608 24 0 * 4096)

/-- Runs that lie in a range of frames. -/
def Dev.runsIn (d : Dev) (r : Nat × Nat) : Tab Run := d.runs.filter fun e => r.1 ≤ e.1 && e.1 < r.1 + r.2

/-- Frames held in a range. -/
def Dev.usedIn (d : Dev) (r : Nat × Nat) : Nat := ((d.runsIn r).map fun e => e.2.len).sum

/-- The first gap of n frames in [lo, hi) between runs. -/
def firstGap (n hi : Nat) : Nat → Tab Run → Option Nat
  | lo, [] => if lo + n ≤ hi then some lo else none
  | lo, (k, r) :: t => if lo + n ≤ k then some lo else firstGap n hi (max lo (k + r.len)) t

/-- A free run of n frames in a range: any free one (free value). -/
def Dev.freeRun (d : Dev) (r : Nat × Nat) (n : Nat) : Option Nat :=
  let h := r.1 + d.hint r.2
  let rs := d.runsIn r
  if h + n ≤ r.1 + r.2 ∧ rs.all (fun e => e.1 + e.2.len ≤ h || h + n ≤ e.1) then some h
  else firstGap n (r.1 + r.2) r.1 rs

/-- A run taken. -/
def Dev.takeRun (d : Dev) (f n : Nat) : Dev := { d.took with runs := Tab.set d.runs f ⟨n, true⟩ }

/-- A run of n frames at f that holds no tile. -/
def Dev.holdRun (d : Dev) (f n : Nat) : Dev := { d with runs := Tab.set d.runs f ⟨n, false⟩ }

/-- A run of n frames allocated in a range. -/
def Dev.allocRun (d : Dev) (r : Nat × Nat) (n : Nat) : Option (Nat × Dev) :=
  (d.freeRun r n).map fun f => (f, d.takeRun f n)

/-- Free frames of a die. -/
def Dev.dieFree (d : Dev) (die : Nat) : Nat := (d.dieFrames die).2 - d.usedIn (d.dieFrames die)

/-- The slice that a stand is bound to: the one above 0 that names it, else slice 0 (13 R647). -/
def Dev.sliceOf (d : Dev) (s : Nat) : Nat :=
  ((d.slices.find? fun e => e.1 != 0 && e.2.stands.testBit s).map (·.1)).getD 0

/-- True when a cell lies in the slice of a stand (13 R650). -/
def Dev.inSlice (d : Dev) (s c : Nat) : Bool :=
  match d.sliceOf s with
  | 0 => !(d.slices.any fun e => e.1 != 0 && e.2.cells.testBit c)
  | k => (Tab.get? d.slices k).any fun x => x.cells.testBit c

/-- The dies of a device tier that take a stand's tiles: cells of its slice whose DRAM is in T0, or the four edges. -/
def Dev.tierDies (d : Dev) (s tier : Nat) : List Nat :=
  if tier = 0 then (List.range 16).filter fun c => !d.t0Out c && d.inSlice s c else [16, 17, 18, 19]

/-- The stripe set of a stand: the cells of its slice that are not fenced, in ascending order (05 R189; 13 R650). -/
def Dev.stripe (d : Dev) (s : Nat) : List Nat := (List.range 16).filter fun c => !d.cellFenced c && d.inSlice s c

/-- The stripe cell of page p of layer l of a stand (05 R189). -/
def Dev.stripeCell (d : Dev) (s l p : Nat) : Nat := (d.stripe s).getD ((p + l) % (d.stripe s).length) 0

/-- The die with the most free frames of a list; among equals any (free value). -/
def Dev.roomiest (d : Dev) (dies : List Nat) : Option Nat :=
  d.pick 1 (dies.filter fun x => dies.all fun y => d.dieFree y ≤ d.dieFree x)

/-- Frames for n from a list of dies, in order of preference. -/
def Dev.allocFrom (d : Dev) (n : Nat) : List Nat → Option (Nat × Dev)
  | [] => none
  | x :: r => match d.allocRun (d.dieFrames x) n with
    | some y => some y
    | none => d.allocFrom n r

/-- The dies to try for a page charged to a tier, in the order of R473: its stripe die, the other dies of the tier
by free frames, then the other tier's. -/
def Dev.openDies (d : Dev) (s tier l p : Nat) : List Nat :=
  let first := if tier = 0 then d.stripeCell s l p else 16 + (p + l) % 4
  let t := d.tierDies s tier
  let o := d.tierDies s (1 - tier)
  (if t.contains first then [first] else []) ++ (d.roomiest t).toList ++ t ++ (d.roomiest o).toList ++ o

/-- The device tier of a frame of device memory. -/
def frameTier (f : Nat) : Nat := if f < 16 * 2 ^ 27 then 0 else 1

/-- The die of a frame of device memory. -/
def frameDie (f : Nat) : Nat := f / 2 ^ 27

/-! ## Tiles -/

/-- Bytes of the tile store. -/
def Dev.tileRead (d : Dev) (tier stand frame n : Nat) : List Byte :=
  Memory.readN d.mem (tileFrame tier stand frame * 256) n

/-- Bytes written at an offset of a tile. -/
def Dev.tileWrite (d : Dev) (tier stand frame off : Nat) (bs : List Byte) : Dev :=
  Dev.demandFrame { d with mem := Memory.write d.mem (tileFrame tier stand frame * 256 + off) bs } tier frame

/-- The tile that an entry names. -/
def Dev.tileOf (d : Dev) (stand : Nat) (p : W64) : List Byte :=
  d.tileRead (pteTier p) stand (pteFrame p) (tileLen (pteClen p))

/-- In-use counts of codec slots raised for a list of slots (08 R392, R393). -/
def Dev.slotsUp (d : Dev) (ss : List Nat) : Dev :=
  { d with slots := ss.foldl (fun t s => Tab.upd t s fun x => { x with count := x.count + 1 }) d.slots }

/-- In-use counts of codec slots lowered for a list of slots. -/
def Dev.slotsDown (d : Dev) (ss : List Nat) : Dev :=
  { d with slots := ss.foldl (fun t s => Tab.upd t s fun x => { x with count := x.count - 1 }) d.slots }

/-- A tile stored in frames already taken. -/
def Dev.storeTile (d : Dev) (tier stand frame : Nat) (t : List Byte) : Dev :=
  (d.tileWrite tier stand frame 0 t).slotsUp (tileSlots t)

/-- A tile's frames freed at once: its bytes, its run and its codec counts go. -/
def Dev.freeTile (d : Dev) (tier stand frame : Nat) : Dev :=
  let f := tileFrame tier stand frame
  match Tab.get? d.runs f with
  | none => d
  | some r =>
    let t := Memory.readN d.mem (f * 256) (r.len * 256)
    let d := if tileClen t = 0 then d else d.slotsDown (tileSlots t)
    { d with runs := Tab.del d.runs f, mem := Memory.zero d.mem (f * 256) (r.len * 256) }

/-- What stands for a near-bank program's hold among the walks that a deferred frame waits for (09 Table 4). -/
def holdWait (prog : Nat) : Nat := 2 ^ 64 + prog

/-- Frames of a tile freed when every walk of the layer begun before is released, and the program that holds the page has been
written back (R138; 09 Table 4). -/
def Dev.deferTileHeld (d : Dev) (set l tier stand frame : Nat) (hold : Option Nat) : Dev :=
  let w := (d.pins.filter fun p => p.set == set && p.layer == l).map (·.id) ++ (hold.map holdWait).toList
  if w.isEmpty then d.freeTile tier stand frame
  else { d with lateFree := d.lateFree ++ [⟨tier, stand, frame, w⟩] }

/-- The source frame of a commit freed when every walk of the layer begun before it is released (R138). -/
def Dev.deferTile (d : Dev) (set l tier stand frame : Nat) : Dev := d.deferTileHeld set l tier stand frame none

/-- A pin released (R135). Generations and frames that waited for it are freed by freeReady and reapGens. -/
def Dev.unpin (d : Dev) (p : Pin) : Dev :=
  let ps := d.pins.filter fun q => q.id != p.id
  let fs := d.lateFree.map fun (x : DeferFree) => { x with waits := x.waits.filter fun w => w != p.id }
  { d with pins := ps, lateFree := fs }

/-- Deferred frames whose walks are all released, freed when a condition selects them (R138). -/
def Dev.freeReady (d : Dev) (sel : DeferFree → Bool) : Dev :=
  let ready := d.lateFree.filter fun x => x.waits.isEmpty && sel x
  let d := { d with lateFree := d.lateFree.filter fun x => !(x.waits.isEmpty && sel x) }
  ready.foldl (fun d x => d.freeTile x.tier x.stand x.frame) d

/-- The current generation of a layer pinned for a thread (R135). -/
def Dev.pin (d : Dev) (set l thread : Nat) : Dev :=
  { d with pins := d.pins ++ [⟨d.pinNext, set, l, bits (d.layerWord set l) 63 32, thread⟩], pinNext := d.pinNext + 1 }

/-! ## Charges (04 R93; 10 R471, R472) -/

/-- 64 KiB units of T1 that a stand's tracts, mirrored buffers and weight region hold (05 R240; 11 Table 11; 13 R666). -/
def Dev.regionUse (d : Dev) (s : Nat) : Nat :=
  ((d.tracts.filter fun e => e.2.stand == s && e.2.kind != 8).map fun e => e.2.frames.length).sum + (Tab.getD d.weights s ([], false)).1.length

/-- Pages charged to a tier of a stand: STD_USE_T0, STD_USE_T1 (03 R93; 09 R438). -/
def Dev.useOf (d : Dev) (s tier : Nat) : Nat :=
  (Tab.count d.pages fun _ i => i.stand == s && i.charge == some tier) +
    (if tier = 0 then (Tab.getD d.scratches s []).length else d.regionUse s)

/-- A stand's quota of a tier. -/
def Dev.quotaOf (d : Dev) (s tier : Nat) : Nat := if tier = 0 then (d.std s).quota.t0 else (d.std s).quota.t1

/-- A page's record changed. -/
def Dev.modPage (d : Dev) (set l p : Nat) (f : PageInfo → PageInfo) : Dev :=
  { d with pages := Tab.upd d.pages (pageKey set l p) f }

/-- PAGES and YARDED of a set, counted anew (04 Table 6). -/
def Dev.recount (d : Dev) (set : Nat) : Dev :=
  let ps := d.pages.filter fun e => pkSet e.1 == set
  let d := d.putSet set 32 4 ps.length
  d.putSet set 36 4 (ps.filter fun e => e.2.charge == none).length

/-- One page dropped from the device: tile, record and charge (R157). -/
def Dev.dropPage (d : Dev) (set stand : Nat) (lp : Nat × Nat) : Dev :=
  let d := match d.pte set lp.1 lp.2 with
    | some v => d.deferTileHeld set lp.1 (pteTier v) stand (pteFrame v) ((d.pageInfo? set lp.1 lp.2).bind (·.hold))
    | none => d
  { d with pages := Tab.del d.pages (pageKey set lp.1 lp.2) }

/-- Migrations of a set abandoned before their commit: destination frames freed (10 Table 2). -/
def Dev.abandonMigrs (d : Dev) (p : Migr → Bool) : Dev :=
  let gone := d.migrs.filter p
  let d := { d with migrs := d.migrs.filter fun m => !p m }
  gone.foldl (fun d m => (d.freeTile m.tier (keyStand (d.setKey m.set)) m.frame).setMig m.set m.layer m.page 0) d

/-- A layer's table removed: its root becomes a replaced generation, freed when no walk pins it (R137). -/
def Dev.dropLayer (d : Dev) (set : Nat) (l : Nat) : Dev :=
  let lw := d.layerWord set l
  let d := d.svcPut (set * 4096 + 64 + 8 * l) 8 (((bits lw 63 32 + 1) % 2 ^ 32) * 2 ^ 32)
  if bits lw 31 0 = 0 then d
  else Dev.reapGens { d with oldGens := d.oldGens ++ [⟨set, l, bits lw 63 32, bits lw 31 0⟩] } set l

/-- Every page, table page and the set of a sequence freed, each under R137 and R138 (R157). -/
def Dev.freeSet (d : Dev) (set : Nat) : Dev :=
  let s := keyStand (d.setKey set)
  let d := d.abandonMigrs fun m => m.set == set
  let d := (d.setPages set).foldl (fun d lp => d.dropPage set s lp) d
  let d := { d with held := d.held.filter fun h => h.set != set, promos := d.promos.filter fun q => q.set != set }
  let d := (List.range 256).foldl (fun d l => d.dropLayer set l) d
  d.svcFree set

/-- A sequence quarantined, unless it already is or is gone (04 Table 12); its moves end. -/
def Dev.quarSeq (d : Dev) (key : Nat) : Dev :=
  let d := d.setSeqState key stQuar
  { d with moves := d.moves.filter fun m => m.key != key }

/-- QUARANTINED set in a page's descriptor and its sequence quarantined (04 R158). -/
def Dev.quarPage (d : Dev) (set l p : Nat) : Dev :=
  let key := d.setKey set
  let d := match d.pte set l p with
    | some v =>
      let t := d.tileRead (pteTier v) (keyStand key) (pteFrame v) descLen
      d.tileWrite (pteTier v) (keyStand key) (pteFrame v) 0 (setTileFlag t flQuar true)
    | none => d
  d.quarSeq key

/-! ## Insertion and deletion (04 R150, R151, R855, R156) -/

/-- Directory status codes (04 Table 9). -/
def dsOk : Nat := 0
def dsExists : Nat := 1
def dsNotFound : Nat := 2
def dsFull : Nat := 3
def dsStandLimit : Nat := 4
def dsBusy : Nat := 5
def dsBadProfile : Nat := 6
def dsNoService : Nat := 7
def dsNoQuota : Nat := 8
def dsDataLost : Nat := 9

/-- An insertion checked in the order of R855; accepted, its set is created, the shadow is written and the entry
moves begin (R143, R147, R151). -/
def Dev.insert (d : Dev) (key : Nat) (attr : Nat) (who : DirWaiter) : Nat × Dev :=
  let s := keyStand key
  let slot := nbits attr 2 0
  let tier := nbits attr 9 8
  if (d.entry key).isSome then (dsExists, d)
  else if (d.profile? s slot).isNone ∨ 2 ≤ tier then (dsBadProfile, d)
  else if d.fld .dir 0 (0x200 + 8 * s) 18 0 ≤ d.dirCount s then (dsStandLimit, d)
  else if 262144 ≤ d.shadow.length then (dsFull, d)
  else match d.newSet key slot (nbits attr 7 4) with
    | none => (dsNoService, d)
    | some (set, d) =>
      let v : Nat := stResident * 2 ^ 61 + tier * 2 ^ 59 + (nbits attr 10 10) * 2 ^ 58 + (nbits attr 7 4) * 2 ^ 28 +
        slot * 2 ^ 25 + set
      (dsOk, { d with shadow := Tab.set d.shadow key (BitVec.ofNat 64 v),
                      dirOps := d.dirOps ++ [⟨key, some (BitVec.ofNat 64 v), who⟩] })

/-- A deletion checked (R156); accepted, the shadow loses the entry and the entry moves begin. -/
def Dev.delete (d : Dev) (key : Nat) (who : DirWaiter) : Nat × Dev :=
  match d.entry key with
  | none => (dsNotFound, d)
  | some v =>
    if bits v 63 61 = stRunning ∨ bits v 63 61 = stRestoring then (dsBusy, d)
    else
      (dsOk, { d with shadow := Tab.del d.shadow key, moves := d.moves.filter fun m => m.key != key,
                      dirOps := d.dirOps ++ [⟨key, none, who⟩] })

end Sys2Proof.Machine
end

