-- ==== Sys2Proof/Machine/KvMoves.lean ====
section
/-!
DEFINITION. Opening, sealing, pre-emption, yarding, restore, placement and recoding of pages (04 R124 to R172; 08 R399
to R401; 10 R471 to R504).
-/
namespace Sys2Proof.Machine

/-! ## DMA requests (17 R812, R816, R857) -/

/-- A DMA request issued under a function's requester ID. -/
def Dev.issueDma (d : Dev) (fn : Nat) (use : DmaUse) (o : Nat → Out) : Dev :=
  { d with dma := d.dma ++ [⟨d.dmaNext, fn, use, 0⟩], dmaNext := d.dmaNext + 1, out := d.out ++ [o d.dmaNext] }

/-- HIF status code of a failed DMA request (17 Table 7). -/
def DmaErr.code : DmaErr → Nat
  | .ur => 16 | .ca => 17 | .timeout => 18 | .poisoned => 19 | .disabled => 20

/-- Host address of a frame of a stand's landing zone (10 R501). -/
def Dev.zoneAddr (d : Dev) (s frame : Nat) : Nat := d.sfld s 0x600 63 12 * 4096 + frame * 256

/-- True when a stand's landing zone is ACTIVE (10 Table 3). -/
def Dev.zoneActive (d : Dev) (s : Nat) : Bool := d.sfld s 0x618 1 0 == 1

/-! ## Opening and sealing a page -/

/-- Cell whose compressors and migration slots a die uses: the cell itself; for an edge die the stripe cell. -/
def Dev.workCell (d : Dev) (s die l p : Nat) : Nat := if die < 16 then die else d.stripeCell s l p

/-- Outcome of opening a page. -/
inductive OpenRes where
  | ok (d : Dev)
  | noFrame
  | noService

/-- The raw, empty tile of an opening page (R118, R124). -/
def openTile (pr : Profile) (key l p : Nat) (mirrored : Bool) : List Byte :=
  rawTile ⟨key, l, pr.kFmt, pr.vFmt, 0, 2 ^ flOpen + 2 ^ flStale + (if mirrored then 1 else 0), p * pr.tpp, 0, 0⟩ []

/-- Page p of a layer opened (R124, R473): 257 frames, a raw tile, and the entry published as an edit. -/
def Dev.openPage (d : Dev) (pr : Profile) (key set tier l p : Nat) (mirrored : Bool) : OpenRes :=
  match d.allocFrom 257 (d.openDies (keyStand key) tier l p) with
  | none => .noFrame
  | some (f, d1) =>
    let d1 := d1.storeTile (frameTier f) (keyStand key) f (openTile pr key l p mirrored)
    match d1.edit set l p (mkPte (frameTier f) f 2048) with
    | none => .noService
    | some d2 =>
      .ok (Dev.recount { d2 with pages := Tab.set d2.pages (pageKey set l p) ⟨keyStand key, some tier, none, false, 0⟩ } set)

/-- The uncompressed bytes of an open page's raw tile. -/
def tilePage (t : List Byte) : List Byte := recBytes t descLen 65536

/-- Compressor counts of a cell after it stored the 16 blocks of a page (08 Table 9). -/
def Dev.sealStats (d : Dev) (cell : Nat) (blocks : List (Option Nat × List Byte)) : Dev :=
  let coded := (blocks.filter fun b => b.1.isSome).length
  let d := d.incWrap .cell cell 0x40010 31 0 coded
  let d := d.incWrap .cell cell 0x40010 63 32 (blocks.length - coded)
  let d := d.incWrap .cell cell 0x40018 63 0 (4096 * blocks.length)
  d.incWrap .cell cell 0x40020 63 0 ((blocks.map fun b => b.2.length).sum)

/-- A page's tile replaced by a new one of the same page: stored in the die of the old tile when that has room, else
as an opening page; TIER, FRAME and CLEN committed in place, the old frame freed under R138 (R126, R475). -/
def Dev.replaceTile (d : Dev) (set l p : Nat) (v : W64) (t : List Byte) : Option Dev :=
  let s := keyStand (d.setKey set)
  let tier := ((d.pageInfo? set l p).bind (·.charge)).getD 0
  let here := if pteTier v ≤ 1 then [frameDie (pteFrame v)] else []
  let here := here.filter fun x => 16 ≤ x || !d.t0Out x
  match d.allocFrom (tileFrames (tileClen t)) (here ++ d.openDies s tier l p) with
  | none => none
  | some (f, d) =>
    let d := d.storeTile (frameTier f) s f t
    let d := d.putPte set l p (putBits (putBits (putBits (putBits v 62 61 (frameTier f)) 47 36 (tileClen t)) 35 0 f) 60 58 0)
    some (d.deferTile set l (pteTier v) s (pteFrame v))

/-- A full open page that no program holds sealed (R126; 09 R445): blocks compressed, DIGEST computed, OPEN and DIGEST_STALE cleared, SEAL_TIME
written, the new tile committed. -/
def Dev.sealPage (d : Dev) (set l p : Nat) : Dev :=
  let key := d.setKey set
  match d.pte set l p, d.seqProfile? key with
  | some v, some pr =>
    let t := d.tileOf (keyStand key) v
    let h := tileHead t
    if tileFlag t flOpen ∧ h.tokens = pr.tpp ∧ pteMig v = 0 ∧ ((d.pageInfo? set l p).bind (·.hold)).isNone then
      let page := tilePage t
      let cell := d.workCell (keyStand key) (frameDie (pteFrame v)) l p
      let blocks := compressPage d.slots (d.fld .cell cell 0x40000 4 0) (pageSections pr) page
      let flags := h.flags - (h.flags &&& (2 ^ flOpen + 2 ^ flStale))
      let t2 := makeTile { h with flags := flags, digest := crc64 page, sealTime := d.now } blocks
      match d.replaceTile set l p v t2 with
      | some d => d.sealStats cell blocks
      | none => d
    else d
  | _, _ => d

/-! ## Quarantine on expansion failure -/

/-- A page's bytes as the expanders give them; a failed block raises EXP_LEN for an engine and quarantines the page
(08 R408). -/
def Dev.pageBytes (d : Dev) (set l p : Nat) (v : W64) (engine : Nat) : List Byte × Bool × Dev :=
  let key := d.setKey set
  let t := d.tileOf (keyStand key) v
  let (page, bad) := expandTile d.slots t
  if bad then
    let c := engine / 6
    let d := d.incSat .cell c 0x40028 31 0 1
    let d := d.raise (32 * c + 10 + engine % 6) ⟨.engine, engine⟩ [keyStand key] v
    (page, true, d.quarPage set l p)
  else (page, false, d)

/-! ## Yarding (04 R164 to R167) -/

/-- The tile that yarding writes: DIGEST recomputed when stale, YARDED set, DIGEST_STALE clear (R164). -/
def yardTile (slots : Tab CodecSlot) (t : List Byte) : List Byte :=
  let t := if tileFlag t flStale then recPut t 64 (natLe 8 (crc64 (expandTile slots t).1)) else t
  setTileFlag (setTileFlag t flStale false) flYarded true

/-- A move begun. -/
def Dev.addMove (d : Dev) (m : SeqMove) : Dev := { d with moves := d.moves ++ [m] }

/-- One move replaced. -/
def Dev.setMove (d : Dev) (m : SeqMove) : Dev :=
  { d with moves := d.moves.map fun x => if x.key == m.key then m else x }

/-- One move ended. -/
def Dev.endMove (d : Dev) (key : Nat) : Dev := { d with moves := d.moves.filter fun x => x.key != key }

/-- A yarding ended early with a HIF status (R166). -/
def Dev.failYard (d : Dev) (key code : Nat) : Dev :=
  (d.endMove key).postSeq (keyStand key) (keyHandle key) 1 0 code

/-- A yarding whose tiles are all in the zone ends (R165). -/
def Dev.yardEnd (d : Dev) (key : Nat) : Dev :=
  ((d.endMove key).incWrap .dir 0 (0x400 + 8 * keyStand key) 31 0 1).postSeq (keyStand key) (keyHandle key) 1 1 dsOk

/-- A tile that lies in the zone already stays there: YARDED is set and its charge released. -/
def Dev.yardKept (d : Dev) (s set l p : Nat) (v : W64) : Dev :=
  let t := d.tileRead 3 s (pteFrame v) descLen
  let d := d.tileWrite 3 s (pteFrame v) 0 (setTileFlag t flYarded true)
  (d.modPage set l p fun i => { i with charge := none, overflow := false }).recount set

/-- A tile's copy into the zone at frame f (of the host tier's numbering) starts. -/
def Dev.yardCopy (d : Dev) (key : Nat) (m : SeqMove) (s set l p : Nat) (t : List Byte) (f : Nat) : Dev :=
  let d := (d.storeTile 3 s f t).setMig set l p 3
  let d := d.setMove { m with dma := some d.dmaNext }
  d.issueDma 0 (.yard key l p f) fun _ => .dmaWrite 0 (d.zoneAddr s f) t

/-- A tile elsewhere: it waits for a move, a near-bank hold or function 0; without room in the zone the yarding fails; else its copy
starts. -/
def Dev.yardOut (d : Dev) (key : Nat) (m : SeqMove) (s set l p : Nat) (v : W64) : Dev :=
  if pteMig v ≠ 0 ∨ ((d.pageInfo? set l p).bind (·.hold)).isSome ∨ !d.fnLive 0 then d
  else if !d.zoneActive s then d.failYard key 21
  else
    let t := yardTile d.slots (d.tileOf s v)
    ((d.allocRun (d.zoneFrames s) (tileFrames (pteClen v))).map fun x => x.2.yardCopy key m s set l p t (x.1 - tileFrame 3 s 0)).getD
      (d.failYard key 21)

/-- Steps of a yarding until a DMA write is in flight or the yarding ends: at most n pages (R164 to R167). -/
def Dev.yardStep (key : Nat) : Nat → Dev → Dev
  | 0, d => d
  | n + 1, d =>
    let s := keyStand key
    match d.moves.find? (fun m => m.key == key && !m.restore), d.entry key with
    | some m, some dv =>
      let set := dvSet dv
      match m.todo with
      | [] => d.yardEnd key
      | (l, p) :: rest =>
        match d.pte set l p with
        | none => Dev.yardStep key n (d.setMove { m with todo := rest })
        | some v =>
          if pteTier v = 3 then Dev.yardStep key n ((d.yardKept s set l p v).setMove { m with todo := rest })
          else d.yardOut key m s set l p v
    | _, _ => d

/-- A resident sequence set to yarded and its yarding started (R162, R355). -/
def Dev.startYard (d : Dev) (key : Nat) : Dev :=
  match d.entry key with
  | some dv =>
    let d := d.setSeqState key stYarded
    let todo := d.setPages (dvSet dv)
    let d := d.addMove ⟨key, false, todo, none⟩
    d.yardStep key (todo.length + 1)
  | none => d

/-- YARD: OK for a resident sequence, BUSY in any other state, NOT_FOUND without an entry (07 R355). -/
def Dev.yard (d : Dev) (key : Nat) : Nat × Dev :=
  match d.look key with
  | none => (dsNotFound, d)
  | some v => if bits v 63 61 = stResident then (dsOk, d.startYard key) else (dsBusy, d)

/-- The host write of a page's yarding completed (R164): the new place committed, the charge released. -/
def Dev.yardDone (d : Dev) (key l p f : Nat) : Dev :=
  match d.entry key with
  | none => d.freeTile 3 (keyStand key) f
  | some dv =>
    let set := dvSet dv
    let s := keyStand key
    match d.pte set l p with
    | none => d.freeTile 3 s f
    | some v =>
      let d := d.putPte set l p (putBits (putBits (putBits v 62 61 3) 35 0 f) 60 58 0)
      let d := d.deferTile set l (pteTier v) s (pteFrame v)
      let d := (d.modPage set l p fun i => { i with charge := none }).recount set
      match d.moves.find? fun m => m.key == key && !m.restore with
      | none => d
      | some m =>
        let d := d.setMove { m with todo := m.todo.drop 1, dma := none }
        d.yardStep key (m.todo.length + 1)

/-! ## Restore (04 R168 to R172, R856) -/

/-- Pages of a set that are yarded: in T3 and not charged. -/
def Dev.yardedPages (d : Dev) (set : Nat) : List (Nat × Nat) :=
  (d.pages.filter fun e => pkSet e.1 == set && e.2.charge == none).map fun e => (pkLayer e.1, pkPage e.1)

/-- The charge that a restore took released for pages still in the landing zone, and the sequence yarded (R172). -/
def Dev.stopRestore (d : Dev) (key : Nat) : Dev :=
  match d.moves.find? (fun m => m.key == key && m.restore), d.entry key with
  | some m, some dv =>
    let set := dvSet dv
    let d := m.todo.foldl (fun d lp => (d.modPage set lp.1 lp.2 fun i => { i with charge := none }).setMig set lp.1 lp.2 0) d
    ((d.recount set).endMove key).setSeqState key stYarded
  | _, _ => d

/-- A yarding or restore interrupted: it stops, and the sequence is yarded (R172). A DMA write in flight is left; its
page stays where it was. -/
def Dev.interrupt (d : Dev) (key : Nat) : Dev :=
  match d.moves.find? fun m => m.key == key with
  | none => d
  | some m =>
    let mine (r : DmaReq) : Bool := m.dma == some r.id
    let d := match d.dma.find? mine with
      | some r => match r.use with
        | .yard _ l p f =>
          ((d.freeTile 3 (keyStand key) f).setMig (match d.entry key with
            | some v => dvSet v
            | none => 0) l p 0)
        | _ => d
      | none => d
    let d := { d with dma := d.dma.filter fun r => !mine r }
    if m.restore then d.stopRestore key else d.endMove key

/-- Every yarding and restore of a stand interrupted (R172). -/
def Dev.interruptStand (d : Dev) (s : Nat) : Dev :=
  (d.moves.filter fun m => keyStand m.key == s).foldl (fun d m => d.interrupt m.key) d

/-- A restore ended with DATA_LOST: the page and the sequence are quarantined (R170). -/
def Dev.failRestore (d : Dev) (key l p : Nat) : Dev :=
  match d.entry key with
  | some dv =>
    let d := d.quarPage (dvSet dv) l p
    d.postSeq (keyStand key) (keyHandle key) 2 1 dsDataLost
  | none => d

/-- The next page of a restore asked for by DMA, or the restore ended (R169, R171). -/
def Dev.restoreStep (d : Dev) (key : Nat) : Dev :=
  let s := keyStand key
  match d.moves.find? (fun m => m.key == key && m.restore), d.entry key with
  | some m, some dv =>
    match m.todo with
    | [] =>
      let d := (d.endMove key).setSeqState key stResident
      (d.incWrap .dir 0 (0x400 + 8 * s) 63 32 1).postSeq s (keyHandle key) 2 1 dsOk
    | (l, p) :: _ =>
      if m.dma.isSome ∨ !d.fnLive 0 then d
      else match d.pte (dvSet dv) l p with
        | none => d
        | some v =>
          if d.sfld s 0x618 1 0 = 2 then d.failRestore key l p
          else
            let d := (d.setMig (dvSet dv) l p 4).setMove { m with dma := some d.dmaNext }
            d.issueDma 0 (.restore key l p) fun i => .dmaRead 0 i (d.zoneAddr s (pteFrame v)) (tileLen (pteClen v))
  | _, _ => d

/-- RESTORE: accepted or refused (R168, R169, R856; 07 R356). -/
def Dev.restore (d : Dev) (key : Nat) : Nat × Dev :=
  match d.look key with
  | none => (dsNotFound, d)
  | some v =>
    if bits v 63 61 ≠ stYarded then (dsBusy, d)
    else
      let d1 := match d.moves.find? fun m => m.key == key && !m.restore with
        | some _ => d.interrupt key
        | none => d
      let s := keyStand key
      let todo := d1.yardedPages (dvSet v)
      if d1.quotaOf s (dvTier v) < d1.useOf s (dvTier v) + todo.length then (dsNoQuota, d)
      else
        let d := todo.foldl (fun d lp => d.modPage (dvSet v) lp.1 lp.2 fun i => { i with charge := some (dvTier v) }) d1
        let d := ((d.recount (dvSet v)).setSeqState key stRestoring)
        let d := d.addMove ⟨key, true, todo, none⟩
        (dsOk, d.restoreStep key)

/-- Blocks of a tile coded with a DECODE_ONLY slot coded again under R402 (08 R401). -/
def Dev.recodeTile (d : Dev) (pr : Profile) (cell : Nat) (t : List Byte) (page : List Byte) (sel : Nat → Bool) :
    List Byte :=
  let blocks := (List.range 16).map fun b =>
    if blockRaw t b || !sel (blockSlot t b) then
      (if blockRaw t b then none else some (blockSlot t b), blockBytes t b)
    else compressBlock d.slots (d.fld .cell cell 0x40000 4 0) (blockSegs (pageSections pr) b) (recBytes page (4096 * b) 4096)
  makeTile (tileHead t) blocks

/-- True when a slot is DECODE_ONLY. -/
def Dev.slotOld (d : Dev) (n : Nat) : Bool := (Tab.get? d.slots n).any fun s => s.mode == 2

/-- The tile of a restored page arrived (R169, R170). -/
def Dev.restoreData (d : Dev) (key l p : Nat) (data : List Byte) : Dev :=
  match d.moves.find? (fun m => m.key == key && m.restore), d.entry key, d.seqProfile? key with
  | some m, some dv, some pr =>
    let set := dvSet dv
    let s := keyStand key
    match d.pte set l p with
    | none => d
    | some v =>
      let t := recBytes data 0 (tileLen (pteClen v))
      let (page, bad) := expandTile d.slots t
      if !dcrcOk t || bad || crc64 page != (tileHead t).digest then d.failRestore key l p
      else
        let cell := d.stripeCell s l p
        let t2 := setTileFlag (d.recodeTile pr cell t page d.slotOld) flYarded false
        let t2 := if tileFlag t2 flOpen then setTileFlag t2 flStale true else t2
        let n := if tileFlag t2 flOpen then 257 else tileFrames (tileClen t2)
        match d.allocFrom n (d.openDies s (dvTier dv) l p) with
        | none => d.setMove { m with dma := none }
        | some (f, d) =>
          let d := d.storeTile (frameTier f) s f t2
          let d := d.putPte set l p (mkPte (frameTier f) f (tileClen t2))
          let d := d.deferTile set l 3 s (pteFrame v)
          (d.setMove { m with todo := m.todo.drop 1, dma := none }).restoreStep key
  | _, _, _ => d

/-! ## Pre-emption (04 R159 to R162) -/

/-- Pages of a set charged to a tier. -/
def Dev.chargedIn (d : Dev) (set tier : Nat) : Nat := Tab.count d.pages fun k i => pkSet k == set && i.charge == some tier

/-- PREEMPT_PENDING of a set. -/
def Dev.preemptPending (d : Dev) (set : Nat) : Bool := (d.setNum set 10 2).testBit 0

/-- FLAGS bit of a set written. -/
def Dev.setFlag (d : Dev) (set b : Nat) (v : Bool) : Dev :=
  let x := d.setNum set 10 2
  d.putSet set 10 2 (if v then x ||| 2 ^ b else x - (x &&& 2 ^ b))

/-- Candidates of R160, lowest CLASS first and, within a class, earliest LAST_RUN: (class, last run, key). -/
def Dev.victims (d : Dev) (s tier : Nat) : List (Nat × Nat × Nat) :=
  let c := d.shadow.filterMap fun (k, v) =>
    let st := bits v 63 61
    if keyStand k = s ∧ (st = stResident ∨ st = stRunning) ∧ !d.preemptPending (dvSet v) ∧ d.chargedIn (dvSet v) tier ≠ 0 then
      some (dvClass v, (if st = stRunning then d.now else d.setNum (dvSet v) 16 8), k)
    else none
  c.mergeSort fun a b => a.1 < b.1 || (a.1 == b.1 && (a.2.1 ≤ b.2.1))

/-- Cover of victims chosen before and not yet released (R161). -/
def Dev.cover (d : Dev) (s tier : Nat) : Nat :=
  (d.shadow.map fun (k, v) =>
    if keyStand k = s ∧ (d.preemptPending (dvSet v) ∨ (bits v 63 61 = stYarded ∧ d.moves.any fun m => m.key == k)) then
      d.chargedIn (dvSet v) tier else 0).sum

/-- One victim taken (R162). -/
def Dev.preemptOne (d : Dev) (key : Nat) : Dev :=
  match d.entry key with
  | some v => if bits v 63 61 = stResident then d.startYard key else d.setFlag (dvSet v) 0 true
  | none => d

/-- Victims added until they cover the need. -/
def Dev.preemptGo (d : Dev) (tier need have_ : Nat) : List (Nat × Nat × Nat) → Dev
  | [] => d
  | (_, _, k) :: r =>
    if need ≤ have_ then d
    else
      let n := match d.entry k with
        | some v => d.chargedIn (dvSet v) tier
        | none => 0
      (d.preemptOne k).preemptGo tier need (have_ + n) r

/-- A pre-emption of a stand for a shortfall of pages of a tier (R160 to R162). -/
def Dev.preempt (d : Dev) (s tier need : Nat) : Dev :=
  d.preemptGo tier (need + d.fld .dir 0 (0x300 + 8 * s) 31 0) (d.cover s tier) (d.victims s tier)

/-- Pre-emption after a lowered quota (R94), whatever DIR_PRE_CFG.EN holds. -/
def Dev.preemptQuota (d : Dev) (s tier : Nat) : Dev :=
  let need := d.useOf s tier - d.quotaOf s tier
  if need = 0 then d else d.preempt s tier need

/-- RUNNING raised by one as a work order of the sequence starts (04 Table 12). -/
def Dev.seqStart (d : Dev) (key : Nat) : Dev :=
  match d.entry key with
  | some v =>
    let d := d.putSet (dvSet v) 12 4 (d.running (dvSet v) + 1)
    if bits v 63 61 = stResident then d.setSeqState key stRunning else d
  | none => d

/-- RUNNING lowered by one as a work order completes: at 0 the sequence is resident, or yarded when
PREEMPT_PENDING is set (04 Table 12). -/
def Dev.seqEnd (d : Dev) (key : Nat) : Dev :=
  match d.entry key with
  | some v =>
    let set := dvSet v
    let d := (d.putSet set 12 4 (d.running set - 1)).putSet set 16 8 d.now
    if d.running set = 0 ∧ bits v 63 61 = stRunning then
      if d.preemptPending set then (((d.setFlag set 0 false).setSeqState key stResident).startYard key)
      else d.setSeqState key stResident
    else d
  | none => d

/-! ## Heat and placement (10 R476 to R484) -/

/-- HEAT_INC added to a page's heat, and a promotion requested when the heat reaches PROMOTE_HEAT above its target
tier (R476, R480). -/
def Dev.heatUp (d : Dev) (set l p : Nat) : Dev :=
  match d.pte set l p with
  | none => d
  | some v =>
    let cell := d.stripeCell (keyStand (d.setKey set)) l p
    let h := min 255 (pteHeat v + d.fld .cell cell 0x60000 7 0)
    let d := d.putPte set l p (putBits v 57 50 h)
    let ph := d.fld .cell cell 0x60000 15 8
    let ch := ((d.pageInfo? set l p).bind (·.charge)).getD 0
    let target := if ch = 1 ∧ ph ≤ h ∧ d.fld .cell cell 0x60008 27 0 < d.dieFree cell then 0 else ch
    if ph ≤ h ∧ target < pteTier v ∧ !(d.promos.any fun q => q.set == set && q.layer == l && q.page == p) then
      { d with promos := d.promos ++ [⟨set, l, p, target⟩] }
    else d

/-- HEAT of every entry halved once (R477). -/
def Dev.halveHeat (d : Dev) : Dev :=
  d.pages.foldl (fun d e => d.modPte (pkSet e.1) (pkLayer e.1) (pkPage e.1) fun v => putBits v 57 50 (pteHeat v / 2)) d

/-- T1 capacity in pages (R469): the edges' T1 bytes and the windows held, less the windows lent. -/
def Dev.t1Cap (d : Dev) : Nat :=
  (4 * (2 ^ 27 - d.svcRes * 2 ^ 20)) / 256 + d.fld .cell 0 0x60818 31 0 * 16 - d.fld .cell 0 0x60818 63 32 * 16

/-- T0 capacity in pages of the cells that are not fenced (03 R92). -/
def Dev.t0Cap (d : Dev) : Nat := ((List.range 16).filter fun c => !d.t0Out c).length * 524288

/-- A stand's share of a tier in pages (R482). -/
def Dev.share (d : Dev) (s tier : Nat) : Nat :=
  let sum := ((List.range 32).map fun x => d.quotaOf x tier).sum
  if sum = 0 then 0 else d.quotaOf s tier * (if tier = 0 then d.t0Cap else d.t1Cap) / sum

/-- A stand's tiles placed in a tier. -/
def Dev.placedIn (d : Dev) (s tier : Nat) : Nat :=
  Tab.count d.pages fun k i => i.stand == s &&
    ((d.pte (pkSet k) (pkLayer k) (pkPage k)).any fun v => pteTier v == tier)

/-- True when a tile lies in a borrowed window that its lender reclaims (R494). -/
def Dev.inClosing (d : Dev) (v : W64) : Bool :=
  pteTier v == 2 && d.lendIn.any fun w => w.closing && w.first ≤ pteFrame v && pteFrame v < w.first + w.frames

/-- True when a page in a device tier may be displaced: a guest, a page above its charged tier, one of a stand above
its share (R481), one in fenced T0 memory, or one in a window that is reclaimed (R495); never an open page, a held page, or a page with NO_DEMOTE bound below T1 (R483). -/
def Dev.displaceable (d : Dev) (set l p : Nat) : Bool :=
  match d.pte set l p, d.pageInfo? set l p with
  | some v, some i =>
    let t := d.tileRead (pteTier v) i.stand (pteFrame v) descLen
    pteTier v ≤ 2 && pteMig v == 0 && i.hold.isNone && !tileFlag t flOpen &&
      ((match i.charge with
        | some c => pteTier v < c
        | none => false) || d.share i.stand (pteTier v) < d.placedIn i.stand (pteTier v) ||
        (pteTier v == 0 && d.t0Out (frameDie (pteFrame v))) || d.inClosing v)
  | _, _ => false

/-- Frames for an evicted tile in the highest tier that has room below the present one, in the order T1, T2, T3 (R483):
tier and frame. An evacuated cell's tile may also go to another cell first (14 R712), a tile of a reclaimed window to T1, T0,
another window or T3 (R495). -/
def Dev.evictTo (d : Dev) (set : Nat) (v : W64) : Option (Nat × Nat × Dev) :=
  let s := keyStand (d.setKey set)
  let n := tileFrames (pteClen v)
  let t := d.tileRead (pteTier v) s (pteFrame v) descLen
  let nd := (d.entry (d.setKey set)).any dvNoDemote || tileFlag t flMirrored
  let cells := if pteTier v = 0 ∧ d.t0Out (frameDie (pteFrame v)) then d.turned 2 (d.tierDies s 0) else []
  let edges := if pteTier v = 0 then d.turned 3 (d.tierDies s 1)
    else if d.inClosing v then d.turned 3 (d.tierDies s 1) ++ d.turned 2 (d.tierDies s 0) else []
  match d.allocFrom n (cells ++ edges) with
  | some (f, d) => some (frameTier f, f, d)
  | none =>
    if nd then none else
    match (if pteTier v < 2 ∨ d.inClosing v then (d.turned 4 d.lendIn).findSome? fun w =>
        if w.closing then none else d.allocRun (tileFrame 2 s w.first, w.frames) n else none) with
    | some (f, d) => some (2, f - tileFrame 2 s 0, d)
    | none =>
      if !d.zoneActive s ∨ !d.fnLive 0 then none else
      match d.allocRun (d.zoneFrames s) n with
      | some (f, d) => some (3, f - tileFrame 3 s 0, d)
      | none => none

/-- Migrations in flight that count at a cell (R486). -/
def Dev.migCount (d : Dev) (cell : Nat) : Nat := (d.migrs.filter fun m => m.cell == cell).length

/-- A migration of a page started: MIG written, destination frames taken (R485, steps 1 and 2). -/
def Dev.startMigr (d : Dev) (set l p mig tier frame : Nat) (tile : List Byte) : Dev :=
  let cell := if tier = 0 then frameDie frame else d.stripeCell (keyStand (d.setKey set)) l p
  let d := d.setMig set l p mig
  { d with migrs := d.migrs ++ [⟨d.migNext, set, l, p, tier, frame, mig, cell, tile, 0⟩], migNext := d.migNext + 1 }

/-- Destination of a promotion to a target tier: the page's stripe die, else the tier's roomiest (R479, R481). -/
def Dev.promoteTo (d : Dev) (s l p tier n : Nat) : Option (Nat × Dev) :=
  let first := if tier = 0 then d.stripeCell s l p else 16 + (p + l) % 4
  let t := d.tierDies s tier
  d.allocFrom n ((if t.contains first then [first] else []) ++ (d.roomiest t).toList)

/-- A migration of a page started: the promotion asked for, else an eviction of a page that may be displaced. Nothing
starts while MIG is not NONE, at MIG_MAX, or without frames (R480 to R486). -/
def Dev.migrate (d : Dev) (set l p : Nat) : Dev :=
  match d.pte set l p with
  | none => d
  | some v =>
    let cell := d.stripeCell (keyStand (d.setKey set)) l p
    if pteMig v ≠ 0 ∨ ((d.pageInfo? set l p).bind (·.hold)).isSome ∨ d.fld .cell cell 0x60000 21 16 ≤ d.migCount cell then d
    else match d.promos.find? fun q => q.set == set && q.layer == l && q.page == p with
      | some q =>
        let d1 := { d with promos := d.promos.erase q }
        if pteTier v ≤ q.tier then d1 else
        let n := if pteClen v = 2048 then 257 else tileFrames (pteClen v)
        (match d1.promoteTo (keyStand (d.setKey set)) l p q.tier n with
        | some (f, d2) => d2.startMigr set l p 1 q.tier f []
        | none => d)
      | none =>
        if d.displaceable set l p then
          (match d.evictTo set v with
          | some (tier, f, d1) => d1.startMigr set l p 2 tier f []
          | none => d)
        else d

/-- One count of a page's cell for a committed move (Table 4): into or out of the cell. -/
def Dev.moveStats (d : Dev) (oldTier oldFrame newTier newFrame : Nat) : Dev :=
  let d := if newTier = 0 then d.incWrap .cell (frameDie newFrame) 0x60020 63 0 1 else d
  if oldTier = 0 then d.incWrap .cell (frameDie oldFrame) 0x60028 63 0 1 else d

/-- The commit of a migration or recode (R485, steps 4 to 6; 08 R399). -/
def Dev.commitMigr (d : Dev) (m : Migr) (data : Option (List Byte)) : Dev :=
  let key := d.setKey m.set
  let s := keyStand key
  let d := { d with migrs := d.migrs.filter fun x => x.id != m.id }
  match d.pte m.set m.layer m.page with
  | none => d.freeTile m.tier s m.frame
  | some v =>
    let t := if m.mig = 5 then m.tile else data.getD (d.tileOf s v)
    if 2 ≤ pteTier v ∧ !dcrcOk t then
      ((d.freeTile m.tier s m.frame).setMig m.set m.layer m.page 0).quarPage m.set m.layer m.page
    else
      let d := d.storeTile m.tier s m.frame t
      let d := d.putPte m.set m.layer m.page
        (putBits (putBits (putBits (putBits v 62 61 m.tier) 47 36 (tileClen t)) 35 0 m.frame) 60 58 0)
      let d := d.deferTile m.set m.layer (pteTier v) s (pteFrame v)
      let d := d.modPage m.set m.layer m.page fun i => { i with overflow := m.tier == 3 }
      if m.mig = 5 then d else d.moveStats (pteTier v) (pteFrame v) m.tier m.frame

/-- An arriving promotion against a move in flight (10 Table 2): an eviction or a recode before its commit point is
cancelled and counted. -/
def Dev.cancelFor (d : Dev) (set l p : Nat) : Dev :=
  match d.migrs.find? fun m => m.set == set && m.layer == l && m.page == p && m.mig != 1 with
  | some m => (d.abandonMigrs fun x => x.id == m.id).incWrap .cell m.cell 0x60030 63 0 1
  | none => d

/-! ## Recode (08 R399 to R401) -/

/-- True when a page must be visited by a recode pass of a slot: its tile lies in T0, T1 or T2 and holds a block coded
with the slot. -/
def Dev.recodable (d : Dev) (slot : Nat) (e : Nat × PageInfo) : Bool :=
  match d.pte (pkSet e.1) (pkLayer e.1) (pkPage e.1) with
  | some v => pteTier v ≤ 2 && (tileSlots (d.tileRead (pteTier v) e.2.stand (pteFrame v) descLen)).contains slot
  | none => false

/-- Pages a recode pass still has to visit. -/
def Dev.recodeLeft (d : Dev) (slot : Nat) : Tab PageInfo := d.pages.filter (d.recodable slot)

/-- One page recoded: MIG SEALING, blocks expanded and coded again, frames taken (R399); its commit is RECODE_PAGE_COMMIT. -/
def Dev.recodePage (d : Dev) (set l p : Nat) : Dev :=
  let key := d.setKey set
  match d.pte set l p, d.seqProfile? key with
  | some v, some pr =>
    if pteMig v ≠ 0 ∨ ((d.pageInfo? set l p).bind (·.hold)).isSome then d
    else
      let cell := d.workCell (keyStand key) (frameDie (pteFrame v)) l p
      let t := d.tileOf (keyStand key) v
      let (page, bad) := expandTile d.slots t
      if bad then d.quarPage set l p
      else
        let t2 := d.recodeTile pr cell t page fun _ => true
        (match d.allocFrom (tileFrames (tileClen t2)) ([frameDie (pteFrame v)] ++ d.turned 3 (d.tierDies (keyStand key) (min 1 (pteTier v)))) with
        | some (f, d) =>
          (d.startMigr set l p 5 (frameTier f) f t2).sealStats cell ((List.range 16).map fun b =>
            (if blockRaw t2 b then none else some (blockSlot t2 b), blockBytes t2 b))
        | none => d)
  | _, _ => d

end Sys2Proof.Machine
end

