-- ==== Sys2Proof/Machine/HostKv.lean ====
section
/-!
DEFINITION. Host commands on profiles, the directory, sequences and the codec (17 R808 to R811, R858, Table 6; 04; 08),
and the events of pages and tables.
-/
namespace Sys2Proof.Machine

/-! ## Command entries (17 R808, R810, R858) -/

/-- Payload bytes of a command: inline up to 32 bytes, else the bytes fetched (R808). -/
def CmdEntry.payload (e : CmdEntry) : List Byte :=
  let n := e.dataLen.toNat
  if n ≤ 32 then natLe n (e.inline.toNat % 2 ^ (8 * n)) else recBytes e.data 0 n

/-- Byte field of INLINE. -/
def CmdEntry.inl (e : CmdEntry) (off n : Nat) : Nat := (e.inline.toNat >>> (8 * off)) % 2 ^ (8 * n)

/-- The stand that a command acts for, when R810 and R858 accept its common fields: the issuer, or the stand named by
TARGET when stand 0 sets V. -/
def CmdEntry.actor (e : CmdEntry) (s : Nat) (lo hi : Nat) : Option Nat :=
  let t := e.target.toNat
  let n := e.dataLen.toNat
  let v := t.testBit 15
  if e.rsv ≠ 0#8 ∨ nbits t 14 5 ≠ 0 ∨ (v ∧ s ≠ 0) ∨ n < lo ∨ hi < n then none
  else some (if v then t % 32 else s)

/-- A fetched entry taken from the list of those not yet started, when it is there (R811). -/
def Dev.popFetched (d : Dev) (s opc : Nat) (e : CmdEntry) : Dev :=
  let q := d.hostQ s
  d.setHostQ s { q with fetched := q.fetched.erase (opc, e) }

/-- A host command started: its entry leaves the fetched list; a stand in reset starts none (R811); a command that R810
refuses completes with BAD_COMMAND. f is the command's own effect for the stand it acts for. -/
def Dev.hostCmd (d : Dev) (s opc : Nat) (e : CmdEntry) (lo hi : Nat) (f : Dev → Nat → Dev) : Dev :=
  if (d.std s).rst then d
  else
    let d := d.popFetched s opc e
    match e.actor s lo hi with
    | none => d.postCmd s e.tag opc 0 1 0 0
    | some a => f d a

/-- A host command that only stand 0 may issue (17 Table 6, issuer column). -/
def Dev.hostCmd0 (d : Dev) (s opc : Nat) (e : CmdEntry) (lo hi : Nat) (f : Dev → Nat → Dev) : Dev :=
  d.hostCmd s opc e lo hi fun d a => if s = 0 then f d a else d.postCmd s e.tag opc 0 1 0 0

/-! ## Profiles, directory and sequences -/

/-- True when an entry or a copy sequence of the stand names the profile slot (04 R113). -/
def Dev.profileBusy (d : Dev) (s slot : Nat) : Bool :=
  (d.shadow.any fun e => keyStand e.1 == s && dvProfile e.2 == slot) ||
  (d.copies.any fun c => keyStand c.1 == s && c.2.profile == slot)

/-- PROFILE (04 R110 to R113). -/
def Dev.hProfile (d : Dev) (s : Nat) (e : CmdEntry) : Dev :=
  d.hostCmd s 0x01 e 16 16 fun d a =>
    let slot := nbits e.arg.toNat 2 0
    match parseProfile e.payload with
    | none => d.postCmd s e.tag 0x01 1 dsBadProfile 0 0
    | some p =>
      if d.profileBusy a slot then d.postCmd s e.tag 0x01 1 dsBusy 0 0
      else
        let r := profileRecord p
        let d := { d with profiles := Tab.set d.profiles (a * 8 + slot) r }
        d.postCmd s e.tag 0x01 1 dsOk (BitVec.ofNat 64 (recNum r 0 8)) (BitVec.ofNat 64 (recNum r 8 8))

/-- SEQ_INSERT (04 R141 to R151, R855): a refusal completes at once, an accepted insertion when its moves end. -/
def Dev.hSeqInsert (d : Dev) (s : Nat) (e : CmdEntry) : Dev :=
  d.hostCmd s 0x02 e 8 8 fun d a =>
    let r := d.insert (seqKey a e.arg.toNat) (e.inl 0 8) (.host s e.tag 0x02)
    if r.1 = dsOk then r.2 else r.2.postCmd s e.tag 0x02 1 r.1 0 0

/-- SEQ_DELETE (04 R156, R157). -/
def Dev.hSeqDelete (d : Dev) (s : Nat) (e : CmdEntry) : Dev :=
  d.hostCmd s 0x03 e 0 0 fun d a =>
    let r := d.delete (seqKey a e.arg.toNat) (.host s e.tag 0x03)
    if r.1 = dsOk then r.2 else r.2.postCmd s e.tag 0x03 1 r.1 0 0

/-- The entry at a position of the array corrected from the shadow, counted, recorded and raised (04 R148, R149). -/
def Dev.dirFix (d : Dev) (key : Nat) : Dev :=
  match d.entry key with
  | none => d
  | some v =>
    let pos := (d.dir.takeWhile fun e => e.1 < key).length
    let d := { d with dir := Tab.set d.dir key v }
    let d := d.incSat .dir 0 0x10 63 32 1
    let d := d.wr .dir 0 0x18 (BitVec.ofNat 64 pos)
    let d := d.wr .dir 0 0x20 (BitVec.ofNat 64 d.now)
    d.raise 0x240 ⟨.edge, 0⟩ [] 0

/-- A lookup of the array; one that meets a parity error takes the entry from the shadow (04 R145, R149). -/
def Dev.lookup (d : Dev) (key : Nat) (parity : Bool) : Option W64 × Dev :=
  match d.look key with
  | none => (none, d)
  | some v => if parity then (d.entry key, d.dirFix key) else (some v, d)

/-- SEQ_LOOKUP (04 R145): SET_PTR reads zero for stands other than 0. -/
def Dev.hSeqLookup (d : Dev) (s : Nat) (e : CmdEntry) (parity : Bool) : Dev :=
  d.hostCmd s 0x04 e 0 0 fun d a =>
    match d.lookup (seqKey a e.arg.toNat) parity with
    | (none, d) => d.postCmd s e.tag 0x04 1 dsNotFound 0 0
    | (some v, d) => d.postCmd s e.tag 0x04 1 dsOk (if s = 0 then v else putBits v 24 0 0) 0

/-- YARD as a host command (07 R355). -/
def Dev.hYard (d : Dev) (s : Nat) (e : CmdEntry) : Dev :=
  d.hostCmd s 0x05 e 0 0 fun d a =>
    let r := d.yard (seqKey a e.arg.toNat)
    r.2.postCmd s e.tag 0x05 1 r.1 0 0

/-- RESTORE as a host command (04 R168, R169). -/
def Dev.hRestore (d : Dev) (s : Nat) (e : CmdEntry) : Dev :=
  d.hostCmd s 0x06 e 0 0 fun d a =>
    let r := d.restore (seqKey a e.arg.toNat)
    r.2.postCmd s e.tag 0x06 1 r.1 0 0

/-- The first insertion or deletion finishes its entry moves: the array shows it, and its issuer learns the status; a
deleted sequence's pages, tables and set are freed (04 R143, R146, R157). tdone writes a waiting thread's register. -/
def Dev.dirUpdateDone (d : Dev) (tdone : Dev → Nat → Nat → Nat → Dev) : Dev :=
  match d.dirOps with
  | [] => d
  | o :: r =>
    let d := { d with dirOps := r }
    let d := match o.val with
      | some _ => { d with dir := Tab.set d.dir o.key ((d.entry o.key).getD (o.val.getD 0)) }
      | none =>
        let set := match d.look o.key with
          | some v => dvSet v
          | none => 0
        let d := { d with dir := Tab.del d.dir o.key }
        if set = 0 then d else d.freeSet set
    match o.who with
    | .host s tag opc => d.postCmd s tag opc 1 dsOk 0 0
    | .thread t reg => tdone d t reg dsOk
    | .none => d

/-- One scrubber pass: the listed entries, found to differ, are corrected from the shadow; entries of moves in progress
are skipped (04 R148). -/
def Dev.scrubPass (d : Dev) (bad : List Nat) : Dev :=
  if !bitAt (d.rd .dir 0 0x8) 32 then d
  else
    let d := bad.foldl (fun d i =>
      match d.dir[i]? with
      | some e => if d.dirOps.any fun o => o.key == e.1 then d else d.dirFix e.1
      | none => d) d
    d.incWrap .dir 0 0x10 31 0 1

/-! ## Codec tables (08 R394 to R401) -/

/-- A slot of the codec; EMPTY with a count of 0 until it is loaded (08 R398). -/
def Dev.slot (d : Dev) (n : Nat) : CodecSlot := Tab.getD d.slots n ⟨0, [], 0⟩

/-- The record's fields that R394 requires to be zero are zero, and OP is the row's. -/
def cdcRecOk (r : List Byte) (op : Nat) : Bool :=
  recNum r 0 1 == op && recNum r 1 1 < 16 && recNum r 3 5 == 0 && recNum r 2 1 < 3 &&
  (op == 1 || (recBytes r 8 136).all (· == 0#8)) && (op != 3 || recNum r 2 1 == 0)

/-- LOAD (08 Table 7). -/
def Dev.cdcLoad (d : Dev) (r : List Byte) : Nat × Dev :=
  let n := recNum r 1 1
  let m := recNum r 2 1
  if !cdcRecOk r 1 || m = 0 then (3, d)
  else if (d.slot n).count ≠ 0 then (1, d)
  else if !tableOk (recBytes r 8 136) then (2, d)
  else (0, { d with slots := Tab.set d.slots n ⟨m, tableLens (recBytes r 8 136), 0⟩ })

/-- SET_MODE (08 Table 7). -/
def Dev.cdcSetMode (d : Dev) (r : List Byte) : Nat × Dev :=
  let n := recNum r 1 1
  let m := recNum r 2 1
  let x := d.slot n
  if !cdcRecOk r 2 then (3, d)
  else if m = 0 then
    if x.count ≠ 0 then (1, d) else (0, { d with slots := Tab.del d.slots n })
  else if x.mode = 0 then (3, d)
  else (0, { d with slots := Tab.set d.slots n { x with mode := m } })

/-- CDC_TABLE LOAD as a host command. -/
def Dev.hCdcLoad (d : Dev) (s : Nat) (e : CmdEntry) : Dev :=
  d.hostCmd0 s 0x18 e 144 144 fun d _ => let r := d.cdcLoad e.payload; r.2.postCmd s e.tag 0x18 3 r.1 0 0

/-- CDC_TABLE SET_MODE as a host command. -/
def Dev.hCdcSetMode (d : Dev) (s : Nat) (e : CmdEntry) : Dev :=
  d.hostCmd0 s 0x18 e 144 144 fun d _ => let r := d.cdcSetMode e.payload; r.2.postCmd s e.tag 0x18 3 r.1 0 0

/-- CDC_TABLE RECODE as a host command: a pass begins with every page it can take now (08 R399, R400). -/
def Dev.hCdcRecode (d : Dev) (s : Nat) (e : CmdEntry) : Dev :=
  d.hostCmd0 s 0x18 e 144 144 fun d _ =>
    let r := e.payload
    let n := recNum r 1 1
    if !cdcRecOk r 3 || (d.slot n).mode ≠ 2 then d.postCmd s e.tag 0x18 3 3 0 0
    else
      let d : Dev := { d with recodes := d.recodes ++ [⟨n, s, e.tag⟩] }
      (d.recodeLeft n).foldl (fun d p => d.recodePage (pkSet p.1) (pkLayer p.1) (pkPage p.1)) d

/-- A recoded tile of a page committed in place (08 R399); pages the pass skipped are visited again (R400). -/
def Dev.recodeCommit (d : Dev) (id : Nat) : Dev :=
  match d.migrs.find? fun m => m.id == id && m.mig == 5 with
  | none => d
  | some m =>
    let d := d.commitMigr m none
    d.recodes.foldl (fun d r => (d.recodeLeft r.slot).foldl
      (fun d p => d.recodePage (pkSet p.1) (pkLayer p.1) (pkPage p.1)) d) d

/-- The oldest recode pass ends when no page is left to visit, and reports the slot's in-use count (08 R401). -/
def Dev.recodeDone (d : Dev) : Dev :=
  match d.recodes with
  | [] => d
  | r :: rest =>
    if (d.recodeLeft r.slot).isEmpty ∧ !(d.migrs.any fun m => m.mig == 5) then
      ({ d with recodes := rest }).postCmd r.stand r.tag 0x18 3 0 (BitVec.ofNat 64 (d.slot r.slot).count) 0
    else d

/-! ## Events of pages and tables -/

/-- MIGRATION_COMMIT: a migration's copy inside the device reached its place (10 R485); a recode commits by RECODE_PAGE_COMMIT,
a copy from or to T2 or T3 as its message or DMA request ends. -/
def Dev.migrationCommit (d : Dev) (id : Nat) : Dev :=
  match d.migrs.find? fun m => m.id == id && m.mig != 5 && m.leg == 0 with
  | none => d
  | some m => d.commitMigr m none

/-- HEAT_EPOCH: when fabric time has reached later epochs, every entry's HEAT is halved once for each epoch passed (R477; 12
Table 2); eight halvings leave none. -/
def Dev.heatEpochStep (d : Dev) : Dev :=
  let n := d.now / 1048576
  if d.heatEpoch < n then
    { (List.range (min 8 (n - d.heatEpoch))).foldl (fun d _ => d.halveHeat) d with heatEpoch := n }
  else d

end Sys2Proof.Machine
end

