-- ==== Sys2Proof/Machine/Landing.lean ====
section
/-!
DEFINITION. Landing tokens into a sequence's pages (04 R124, R125, R139, R155, R159; 10 R474; 11 R549, R550; 05 R181).
-/
namespace Sys2Proof.Machine

/-- One token of one layer: its index and its four byte runs: key elements, key scales, value elements, value scales. -/
structure LandTok where
  tok : Nat
  ke : List Byte
  ks : List Byte
  ve : List Byte
  vs : List Byte
  deriving DecidableEq, Repr

/-- Section starts of n tokens laid out on 32-byte boundaries, and their total: P(n) (11 R549). -/
def landSecs (p : Profile) (n : Nat) : List Nat × Nat :=
  let k := tokenBytes p p.kFmt
  let v := tokenBytes p p.vFmt
  let a1 := roundUp (n * k.1) 32
  let a2 := a1 + roundUp (n * k.2) 32
  let a3 := a2 + roundUp (n * v.1) 32
  ([0, a1, a2, a3], a3 + roundUp (n * v.2) 32)

/-- The tokens of a payload of n tokens that begins with token first. -/
def landToks (p : Profile) (first n : Nat) (data : List Byte) : List LandTok :=
  let k := tokenBytes p p.kFmt
  let v := tokenBytes p p.vFmt
  let s := (landSecs p n).1
  (List.range n).map fun i =>
    ⟨first + i, recBytes data (s.getD 0 0 + i * k.1) k.1, recBytes data (s.getD 1 0 + i * k.2) k.2,
      recBytes data (s.getD 2 0 + i * v.1) v.1, recBytes data (s.getD 3 0 + i * v.2) v.2⟩

/-- The largest T for which P(T) is at most 4,096 (11 R549). -/
def maxStride (p : Profile) : Nat := ((List.range 4097).filter fun n => (landSecs p n).2 ≤ 4096).length - 1

/-- The descriptor of a page, if the page exists. -/
def Dev.pageDesc (d : Dev) (set l p : Nat) : Option (W64 × List Byte) :=
  (d.pte set l p).map fun v => (v, d.tileRead (pteTier v) (keyStand (d.setKey set)) (pteFrame v) descLen)

/-- True when the page exists and is sealed. -/
def Dev.pageSealed (d : Dev) (set l p : Nat) : Bool := (d.pageDesc set l p).any fun x => !tileFlag x.2 flOpen

/-- Pages of a layer: numbers of those that exist. -/
def Dev.layerPages (d : Dev) (set l : Nat) : List Nat :=
  ((d.pages.filter fun e => pkSet e.1 == set && pkLayer e.1 == l).map fun e => pkPage e.1)

/-- Tokens that follow token 0 of a layer without a gap, over at most n pages from page p. -/
def Dev.lenFrom (d : Dev) (set l tpp : Nat) : Nat → Nat → Nat
  | 0, p => p * tpp
  | n + 1, p =>
    match d.pageDesc set l p with
    | none => p * tpp
    | some (_, t) =>
      let k := recNum t 12 2
      if k = tpp then Dev.lenFrom d set l tpp n (p + 1) else p * tpp + k

/-- The stored length of a layer. -/
def Dev.layerLen (d : Dev) (set l tpp : Nat) : Nat := d.lenFrom set l tpp (d.layerPages set l).length 0

/-- One token written into its open page, the page's landed positions and TOKENS raised (R124, R125). -/
def Dev.placeTok (d : Dev) (pr : Profile) (set l : Nat) (x : LandTok) : Dev :=
  let p := x.tok / pr.tpp
  let i := x.tok % pr.tpp
  match d.pageDesc set l p with
  | none => d
  | some (v, t) =>
    let s := keyStand (d.setKey set)
    let put (d : Dev) (at_ : Nat) (bs : List Byte) : Dev :=
      d.tileWrite (pteTier v) s (pteFrame v) (descLen + at_ + i * bs.length) bs
    let d := put (put (put (put d 0 x.ke) (keyScaleStart pr) x.ks) (valueStart pr) x.ve) (valueScaleStart pr) x.vs
    let d := d.modPage set l p fun q => { q with landed := q.landed ||| 2 ^ i }
    let mask := ((d.pageInfo? set l p).map (·.landed)).getD 0
    let n := ((List.range pr.tpp).takeWhile fun j => mask.testBit j || j < recNum t 12 2).length
    if recNum t 12 2 < n then d.tileWrite (pteTier v) s (pteFrame v) 12 (natLe 2 n) else d

/-- Outcome of a landing: a NAK code or 0, the device, and the tokens placed. -/
structure Landed where
  code : Nat
  dev : Dev
  toks : List LandTok

/-- Pages opened one by one; none without room. -/
def Dev.openAll (d : Dev) (pr : Profile) (key set tier l : Nat) (mirrored : Bool) : List Nat → Option Dev × Bool
  | [] => (some d, false)
  | p :: r =>
    match d.openPage pr key set tier l p mirrored with
    | .ok d => Dev.openAll d pr key set tier l mirrored r
    | .noFrame => (none, true)
    | .noService => (none, false)

/-- Tokens landed into a layer of a set: those in sealed pages are duplicates, those at or beyond MAX_LEN are discarded
(11 R550, 3 to 5; 04 R139, R159; 10 R474). Service memory that cannot hold a table page is answered as missing frames are
(log 19). -/
def Dev.land (d : Dev) (pr : Profile) (key set tier l : Nat) (mirrored : Bool) (xs : List LandTok) : Landed :=
  if xs.all fun x => x.tok < pr.maxLen && d.pageSealed set l (x.tok / pr.tpp) then ⟨0, d, []⟩
  else
    let s := keyStand key
    let low := xs.filter fun x => x.tok < pr.maxLen && !d.pageSealed set l (x.tok / pr.tpp)
    let need := ((low.map fun x => x.tok / pr.tpp).eraseDups).filter fun p => (d.pte set l p).isNone
    let excess := d.useOf s tier + need.length - d.quotaOf s tier
    if 0 < excess ∧ 0 < need.length then
      ⟨14, if bitAt (d.rd .dir 0 (0x300 + 8 * s)) 32 then d.preempt s tier excess else d, []⟩
    else match d.openAll pr key set tier l mirrored need with
      | (none, frames) => ⟨14, if frames then d.incSat .cell 0 0x60820 31 0 1 else d, []⟩
      | (some d, _) =>
        let d := low.foldl (fun d x => d.placeTok pr set l x) d
        if xs.any fun x => pr.maxLen ≤ x.tok then ⟨16, d.setFlag set 1 true, low⟩ else ⟨0, d, low⟩

end Sys2Proof.Machine
end

