-- ==== Sys2Proof/Machine/Priol.lean ====
section
/-!
DEFINITION. Sending Priol packets: routing, the buffer pool, egress queues, messages and windows (11 R515 to R523, R545,
R560 to R569; 12 R603).
-/
namespace Sys2Proof.Machine

/-! ## Nodes and ports -/

/-- This node's ID: ROW and RACK of CMP_NODE, SLED and SLOT of the straps (01 R18; 13 Table 9). -/
def Dev.node (d : Dev) : Nat := d.fld .cmp 0 0 15 6 * 64 + d.slotId % 64

/-- Parts of a node ID (01 R18). -/
def nodeSlot (n : Nat) : Nat := n % 8
def nodeSled (n : Nat) : Nat := n / 8 % 8
def nodeRack (n : Nat) : Nat := n / 64 % 16
def nodeRow (n : Nat) : Nat := n / 1024 % 64

/-- True when two nodes share ROW and RACK. -/
def sameRack (a b : Nat) : Bool := a / 64 == b / 64

/-- True when two nodes share ROW, RACK and SLED. -/
def sameSled (a b : Nat) : Bool := a / 8 == b / 8

/-- A port's link as it is down. -/
def PortLink.reset : PortLink :=
  { txSeq := 0, rxSeq := 0, replay := [], credits := [], helloOut := false, helloIn := false, retry := false, lost := 0,
    fec := [], hb := false, reqSeq := 0, req := none, run := [], dist := 255, refNode := 0 }

/-- Port p's link. -/
def Dev.link (d : Dev) (p : Nat) : PortLink := Tab.getD d.ports p PortLink.reset

/-- A port's link replaced. -/
def Dev.setLink (d : Dev) (p : Nat) (x : PortLink) : Dev := { d with ports := Tab.set d.ports p x }

/-- A port's link changed. -/
def Dev.modLink (d : Dev) (p : Nat) (f : PortLink → PortLink) : Dev := d.setLink p (f (d.link p))

/-- True when a port is ACTIVE. -/
def Dev.portActive (d : Dev) (p : Nat) : Bool := d.fld .port p 8 2 0 == 6

/-- PEER_NODE of an ACTIVE port. -/
def Dev.peerNode (d : Dev) (p : Nat) : Nat := d.fld .port p 8 63 48

/-- True when a port carries a class: ACTIVE, and for TC2 to TC7 with HELLO exchanged (13 R641). -/
def Dev.portCarries (d : Dev) (p cls : Nat) : Bool :=
  d.portActive p && (cls < 2 || ((d.link p).helloIn && (d.link p).helloOut))

/-! ## Packets as bytes (R515) -/

/-- The routing header as bytes, with HOPS and CE as given. -/
def Route.bytes (r : Route) (ty : Nat) (hops : Nat) (ce : Bool) : List Byte :=
  let cf := r.tc.toNat + (if ce then 8 else 0) + (if r.ece then 16 else 0) + (if r.notice then 32 else 0) +
    (if r.retx then 64 else 0) + (if r.rsv then 128 else 0)
  natLe 1 (r.ver.toNat * 16 + ty) ++ natLe 1 cf ++ natLe 1 hops ++ natLe 1 r.path.toNat ++ natLe 2 r.dstNode.toNat ++
    natLe 2 r.srcNode.toNat ++ natLe 2 r.dstConn.toNat ++ natLe 2 r.srcConn.toNat ++ natLe 4 r.epoch.toNat

/-- What follows the routing header, as bytes. -/
def PktBody.bytes : PktBody → List Byte
  | .req h data =>
    natLe 4 h.key.toNat ++ natLe 2 h.msgId.toNat ++ natLe 2 h.plen.toNat ++ natLe 8 h.offset.toNat ++
      natLe 4 h.msgLen.toNat ++ natLe 4 h.msgOff.toNat ++ natLe 8 h.arg.toNat ++ data
  | .rsp h => natLe 2 h.msgId.toNat ++ natLe 1 h.code.toNat ++ natLe 1 h.rsv.toNat ++ natLe 4 h.base.toNat ++ natLe 8 h.info.toNat
  | .conn op h =>
    natLe 1 op ++ natLe 1 h.reason.toNat ++ natLe 2 h.rsv2.toNat ++ natLe 4 h.join.toNat ++ natLe 4 h.epoch.toNat ++
      natLe 4 h.rsv12.toNat
  | .time op h =>
    natLe 1 op ++ natLe 1 h.dist.toNat ++ natLe 2 h.refNode.toNat ++ natLe 4 h.seq.toNat ++
      natLe 8 (h.ta.toNat / 65536) ++ natLe 2 h.ta.toNat ++ natLe 2 h.st.toNat ++
      natLe 8 (h.tb.toNat / 65536) ++ natLe 2 h.tb.toNat ++ natLe 2 h.rsv46.toNat ++
      natLe 8 (h.tc.toNat / 65536) ++ natLe 2 h.tc.toNat ++ natLe 2 h.rsv58.toNat

/-- The ICRC of a packet: CRC-32C of every earlier byte with HOPS and CE zero. -/
def pktIcrc (ty : Nat) (r : Route) (b : PktBody) : BitVec 32 := BitVec.ofNat 32 (crc32c (r.bytes ty 0 false ++ b.bytes))

/-- True when a packet's ICRC is right. -/
def Pkt.icrcOk (p : Pkt) : Bool := p.icrc == pktIcrc p.ty.toNat p.r p.body

/-- Length of a packet on the wire. -/
def Pkt.len (p : Pkt) : Nat := 20 + p.body.bytes.length

/-- Packet type codes (Table 3). -/
def tyPut : Nat := 1
def tyGet : Nat := 2
def tyGrsp : Nat := 3
def tyAtom : Nat := 4
def tyArsp : Nat := 5
def tyNote : Nat := 6
def tyLand : Nat := 7
def tyAck : Nat := 8
def tyNak : Nat := 9
def tyCtrl : Nat := 10
def tyTime : Nat := 11
def tyConn : Nat := 12

/-- True for a type that is answered by ACK, NAK, GRSP or ARSP: a request (Table 3). -/
def isRequest (ty : Nat) : Bool := ty == 1 || ty == 2 || ty == 4 || ty == 6 || ty == 7 || ty == 10

/-! ## Route selection (Table 6, R520 to R522) -/

/-- True when the map shows a port of a module of the row ACTIVE: its entry's PORTS_ACTIVE, less the links that LINK_DOWN
reported. -/
def Dev.mapPort (d : Dev) (n p : Nat) : Bool :=
  match Tab.get? d.rowMap n with
  | some e => (recNum e 14 2).testBit p && !d.downLinks.contains (n, p)
  | none => false

/-- Ring port of a way: ring 0 is P7 and P8, ring 1 P9 and P10; up is towards sled + 1. -/
def ringPort (ring : Nat) (up : Bool) : Nat := 7 + 2 * ring + (if up then 1 else 0)

/-- True when every link of a way round a ring is ACTIVE: h hops from sled n, at this end and at the modules passed. -/
def Dev.wayWhole (d : Dev) (ring : Nat) (up : Bool) (dist cls : Nat) : Bool :=
  let me := d.node
  let h := if dist = 0 then 8 else dist
  let at_ (k : Nat) : Nat := me / 64 * 64 + ((nodeSled me + (if up then k else 8 - k)) % 8) * 8 + nodeSlot me
  d.portCarries (ringPort ring up) cls && (List.range h).all fun k =>
    d.mapPort (at_ (k + 1)) (ringPort ring !up) && (k + 1 == h || d.mapPort (at_ (k + 1)) (ringPort ring up))

/-- The port towards another sled of the rack at the own slot, by the four ways of R522. -/
def Dev.ringRoute (d : Dev) (dst path cls : Nat) : Option Nat :=
  let up := (nodeSled dst + 8 - nodeSled d.node) % 8
  let short := if up < 4 then true else if 4 < up then false else path.testBit 1
  let first := if path.testBit 0 then 1 else 0
  let ways := [(first, short), (first, !short), (1 - first, short), (1 - first, !short)]
  (ways.find? fun w => d.wayWhole w.1 w.2 (if w.2 then up else 8 - up) cls).map fun w => ringPort w.1 w.2

/-- The port of a mask: sprayed over by PATH, or its lowest (R521). -/
def Dev.maskRoute (d : Dev) (mask path cls : Nat) : Option Nat :=
  let ps := (maskBits 16 mask).filter fun p => d.portCarries p cls
  if cls < 2 ∨ !bitAt (d.rd .port 0 0x8000) 4 then ps.head? else ps[path % ps.length]?

/-- The outgoing port for a destination. -/
def Dev.route (d : Dev) (dst path cls : Nat) : Option Nat :=
  let me := d.node
  if sameRack dst me then
    if nodeSlot dst ≠ nodeSlot me then
      let p := (nodeSlot dst + 7 - nodeSlot me) % 8
      if d.portCarries p cls then some p else none
    else d.ringRoute dst path cls
  else if nodeRow dst = nodeRow me then d.maskRoute (d.fld .port 0 (0x8100 + 8 * nodeRack dst) 15 0) path cls
  else d.maskRoute (d.fld .port 0 (0x8200 + 8 * nodeRow dst) 15 0) path cls

/-- The context of a connection ID. -/
def Dev.conn? (d : Dev) (c : Nat) : Option Conn := Tab.get? d.conns c

/-- The port on which a packet of a connection leaves: its own link for a cruise connection to a link partner, since HELLO and
HEARTBEAT are of one link (13 Table 2, R637, R641; log 24); the route's for every other. Stand 32 is the transit queue. -/
def Dev.wayOut (d : Dev) (s c dst path cls : Nat) : Option Nat :=
  match if s = 32 then none else (d.conn? c).bind (·.cruise) with
  | some p => if p < 16 then (if d.portActive p then some p else none) else d.route dst path cls
  | none => d.route dst path cls

/-! ## The buffer pool (R566 to R569) -/

/-- A port's egress queue. -/
def Dev.egq (d : Dev) (p : Nat) : List EgItem := Tab.getD d.egress p []

/-- Buffers that a stand holds: its packets in egress queues and its parked packets. -/
def Dev.bufHeld (d : Dev) (s : Nat) : Nat :=
  (d.egress.map fun e => (e.2.filter fun i => i.upper == s).length).sum +
  (d.conns.map fun e => if e.2.stand = s then e.2.parked.length else 0).sum

/-- Unreserved buffers that are free: the reservations cover each stand's buffers first. -/
def Dev.bufFree (d : Dev) : Nat :=
  65536 - ((List.range 32).map fun s => (d.std s).quota.pool + (d.bufHeld s - (d.std s).quota.pool)).sum - d.bufHeld 32

/-- True when a packet for or from a stand can take a buffer (R567). -/
def Dev.bufOk (d : Dev) (s : Nat) : Bool :=
  let h := d.bufHeld s
  let r := (d.std s).quota.pool
  h < r || (h - r < d.fld .port 0 0x8010 16 0 && d.fld .port 0 0x8018 16 0 < d.bufFree)

/-! ## Egress queues -/

/-- CE set on a packet of TC2 to TC7 by R523. -/
def Dev.mark (d : Dev) (p : Nat) (k : Pkt) : Pkt :=
  let cls := k.r.tc.toNat
  let q := ((d.egq p).filter fun i => i.pkt.r.tc == k.r.tc).map fun i => i.pkt.len
  if 2 ≤ cls ∧ (d.fld .port 0 0x8008 63 32 < q.sum ∨ d.bufFree < d.fld .port 0 0x8008 16 0) then
    { k with r := { k.r with ce := true } }
  else k

/-- A packet put into a port's egress queue, a response at the head of its connection's lower queue (12 R603). -/
def Dev.enqueue (d : Dev) (p : Nat) (i : EgItem) (head : Bool) : Dev :=
  let i := { i with pkt := d.mark p i.pkt }
  let q := d.egq p
  let mine (x : EgItem) : Bool := x.upper == i.upper && x.lower == i.lower
  let q := if head then q.takeWhile (fun x => !mine x) ++ i :: q.dropWhile (fun x => !mine x) else q ++ [i]
  { d with egress := Tab.set d.egress p q }

/-- A routing header of this device. -/
def Dev.header (d : Dev) (dst tc dstConn srcConn : Nat) (notice ece retx : Bool) (epoch : BitVec 32) : Route :=
  { ver := 1, tc := BitVec.ofNat 3 tc, ce := false, ece := ece, notice := notice, retx := retx, rsv := false, hops := 0,
    path := BitVec.ofNat 8 (d.hint 256), dstNode := BitVec.ofNat 16 dst, srcNode := BitVec.ofNat 16 d.node,
    dstConn := BitVec.ofNat 16 dstConn, srcConn := BitVec.ofNat 16 srcConn, epoch := epoch }

/-- A packet of a type with its ICRC. -/
def mkPkt (ty : Nat) (r : Route) (b : PktBody) : Pkt := ⟨BitVec.ofNat 4 ty, r, b, pktIcrc ty r b⟩

/-- An answer to a packet queued on the way back to its source, or discarded when there is none (R521). -/
def Dev.reply (d : Dev) (s conn : Nat) (ty : Nat) (r : Route) (b : PktBody) : Dev :=
  let k := mkPkt ty r b
  match d.wayOut s conn r.dstNode.toNat r.path.toNat r.tc.toNat with
  | some p => d.took.enqueue p ⟨k, s, conn, false⟩ true
  | none => d.took

/-- A NAK for a request packet, of its class, to its source (R570). Requests alone are answered. -/
def Dev.nakPkt (d : Dev) (s conn : Nat) (k : Pkt) (code idx info : Nat) : Dev :=
  match k.body with
  | .req h _ =>
    if isRequest k.ty.toNat then
      d.reply s conn tyNak (d.header k.r.srcNode.toNat k.r.tc.toNat k.r.srcConn.toNat k.r.dstConn.toNat false false false 0)
        (.rsp ⟨h.msgId, BitVec.ofNat 8 code, 0, BitVec.ofNat 32 idx, BitVec.ofNat 64 info⟩)
    else d
  | _ => d

/-! ## Connections -/


/-- A context replaced. -/
def Dev.setConn (d : Dev) (c : Nat) (x : Conn) : Dev := { d with conns := Tab.set d.conns c x }

/-- A context changed, if it exists. -/
def Dev.modConn (d : Dev) (c : Nat) (f : Conn → Conn) : Dev := { d with conns := Tab.upd d.conns c f }

/-- True when a connection runs with the fixed window of a sled (R527). -/
def Dev.inSled (d : Dev) (x : Conn) : Bool := sameSled x.peer d.node

/-- The window in force: 4 MiB inside the sled (01 R25). -/
def Dev.window (d : Dev) (x : Conn) : Nat := if d.inSled x then 4194304 else x.w

/-- An ended message handed to whoever waits for it. -/
def Dev.endMsg (d : Dev) (who : MsgWho) (status : Nat) : Dev := { d with msgEnds := d.msgEnds ++ [(who, status)] }

/-- Bytes of a message in flight. -/
def OutMsg.flying (m : OutMsg) : Nat := ((m.pkts.filter fun p => p.st == .flight).map (·.len)).sum

/-- True when a message's bytes take the window: TC2 to TC7. -/
def OutMsg.windowed (m : OutMsg) : Bool := m.ty != tyCtrl

/-- True when a message has an unacknowledged packet. -/
def OutMsg.unacked (m : OutMsg) : Bool := m.pkts.any fun p => p.st != .acked

/-- A message removed: its bytes in flight leave the window, and it ends with a status. -/
def Dev.dropMsg (d : Dev) (c : Nat) (m : OutMsg) (status : Nat) : Dev :=
  (d.modConn c fun x => { x with tx := x.tx.filter fun y => y.n != m.n,
                                 inflight := x.inflight - (if m.windowed then m.flying else 0) }).endMsg m.who status

/-- The packet of a message as it is sent. -/
def Dev.buildPkt (d : Dev) (c : Nat) (x : Conn) (m : OutMsg) (p : OutPkt) : Pkt :=
  let r := d.header x.peer m.tc x.peerConn c m.notice false p.again (if m.ty = tyCtrl then 0 else x.epoch)
  let data := if m.ty = tyGet then [] else recBytes m.data p.off p.len
  mkPkt m.ty r (.req { key := m.key, msgId := BitVec.ofNat 16 m.n, plen := BitVec.ofNat 16 p.len,
                       offset := if m.fixedOff then m.base else m.base + BitVec.ofNat 64 p.off,
                       msgLen := BitVec.ofNat 32 m.len, msgOff := BitVec.ofNat 32 p.off, arg := p.arg } data)

/-- A message with one packet changed. -/
def OutMsg.setPkt (m : OutMsg) (i : Nat) (f : OutPkt → OutPkt) : OutMsg :=
  { m with pkts := m.pkts.zipIdx.map fun (p, j) => if j == i then f p else p }

/-- A message of a connection changed. -/
def Dev.modMsg (d : Dev) (c n : Nat) (f : OutMsg → OutMsg) : Dev :=
  d.modConn c fun x => { x with tx := x.tx.map fun m => if m.n == n then f m else m }

/-- One packet handed to its egress queue; without a route its message fails with NO_ROUTE (R521). -/
def Dev.sendPkt (d : Dev) (c : Nat) (x : Conn) (m : OutMsg) (i : Nat) (p : OutPkt) : Dev :=
  let k := d.buildPkt c x m p
  match d.wayOut x.stand c x.peer k.r.path.toNat m.tc with
  | none => d.took.dropMsg c m (0x100 + 20)
  | some port =>
    let d := d.took.enqueue port ⟨k, x.stand, c, m.recovery⟩ false
    let d := d.modMsg c m.n fun m => m.setPkt i fun p => { p with st := .flight, at_ := d.up }
    if m.windowed then d.modConn c fun x => { x with inflight := x.inflight + p.len, seen := d.up }
    else d.modConn c fun x => { x with seen := d.up }

/-- The next packet of a connection that may be sent: message, index, packet (R545, R564, R567). -/
def Dev.nextPkt (d : Dev) (x : Conn) : Option (OutMsg × Nat × OutPkt) :=
  if x.st ≠ 2 ∧ x.st ≠ 3 then none else
  x.tx.findSome? fun m =>
    if x.tx.any fun o => o.n + 64 ≤ m.n && o.unacked then none
    else (m.pkts.zipIdx.find? fun (p, _) => p.st == .unsent &&
      (!m.windowed || x.inflight == 0 || x.inflight + p.len ≤ d.window x) && d.bufOk x.stand).map fun (p, i) => (m, i, p)

/-- Packets sent while the window and the pool allow, at most n. -/
def Dev.pumpN (c : Nat) : Nat → Dev → Dev
  | 0, d => d
  | n + 1, d =>
    match d.conn? c with
    | none => d
    | some x => match d.nextPkt x with
      | none => d
      | some (m, i, p) => Dev.pumpN c n (d.sendPkt c x m i p)

/-- Every packet of a connection sent that may be sent now. -/
def Dev.pump (d : Dev) (c : Nat) : Dev :=
  match d.conn? c with
  | none => d
  | some x => Dev.pumpN c ((x.tx.map fun m => m.pkts.length).sum) d

/-- Every connection pumped, as buffers or windows became free. -/
def Dev.pumpAll (d : Dev) : Dev := d.conns.foldl (fun d e => d.pump e.1) d

/-- The packets of a message cut at multiples of 4,096 bytes (R517). -/
def cutPkts (len : Nat) (arg : BitVec 64) : List OutPkt :=
  (List.range (ceilDiv len 4096)).map fun i => ⟨4096 * i, min 4096 (len - 4096 * i), arg, .unsent, 0, 0, false, false⟩

/-- A message begun on a connection; one that is not OPEN fails it with CONN_CLOSED (R860). -/
def Dev.startMsg (d : Dev) (c : Nat) (m : OutMsg) : Dev :=
  match d.conn? c with
  | some x =>
    if x.st = 2 then (d.setConn c { x with tx := x.tx ++ [{ m with n := x.txNext }], txNext := x.txNext + 1 }).pump c
    else d.endMsg m.who (0x100 + 21)
  | none => d.endMsg m.who (0x100 + 21)

/-- A message of a type, its data, key and base offset, cut by R517. -/
def mkMsg (ty tc : Nat) (notice : Bool) (key : BitVec 32) (base : Nat) (data : List Byte) (len : Nat) (who : MsgWho) : OutMsg :=
  { n := 0, ty := ty, tc := tc, notice := notice, key := key, base := BitVec.ofNat 64 base, fixedOff := false, data := data,
    len := len, pkts := cutPkts len 0, done := false, naks := 0, who := who, recovery := false }

/-! ## Answers received (R560 to R565) -/

/-- The window after an acknowledgement of b bytes (R564); inside the sled it stays fixed. -/
def Dev.ackWindow (d : Dev) (c b : Nat) (ece : Bool) : Dev :=
  d.modConn c fun x =>
    let x := { x with inflight := x.inflight - b }
    if d.inSled x then x
    else if ece then
      if x.hold ≤ d.now then
        { x with w := max 4096 ((x.w * d.fld .port 0 0x9008 34 32) / 8), hold := d.now + x.srtt, acked := 0 }
      else x
    else
      let a := x.acked + b
      if x.w ≤ a then { x with w := min 4194304 (x.w + d.fld .port 0 0x9008 15 0 * 1024), acked := 0 } else { x with acked := a }

/-- The round-trip estimate after a packet sent once was acknowledged (R562). -/
def Conn.sample (x : Conn) (rtt : Nat) : Conn :=
  { x with srtt := if x.srtt = 0 then rtt else if x.srtt ≤ rtt then x.srtt + (rtt - x.srtt) / 8 else x.srtt - (x.srtt - rtt) / 8 }

/-- One packet of a message acknowledged: out of flight, sampled, the window adjusted. -/
def Dev.ackPkt (d : Dev) (c : Nat) (m : OutMsg) (i : Nat) (ece : Bool) : Dev :=
  match m.pkts[i]? with
  | none => d
  | some p =>
    let wasFlying := p.st == .flight
    let d := d.modMsg c m.n fun m => m.setPkt i fun p => { p with st := .acked, got := true }
    let d := if wasFlying && !p.again then d.modConn c fun x => x.sample (d.up - p.at_) else d
    if m.windowed then d.ackWindow c (if wasFlying then p.len else 0) ece else d

/-- The message of a connection with a MSG_ID. -/
def Conn.msg? (x : Conn) (id : Nat) : Option OutMsg := x.tx.find? fun m => m.n % 65536 == id

/-- A message that waits for acknowledgements ends when every packet has been acknowledged and ACK DONE has come (R560). -/
def Dev.tryFinish (d : Dev) (c n : Nat) : Dev :=
  match (d.conn? c).bind fun x => x.tx.find? fun m => m.n == n with
  | some m => if m.done && !m.unacked && m.ty != tyGet && m.ty != tyAtom then d.dropMsg c m 0 else d
  | none => d

/-- ACK (R560, R564). -/
def Dev.takeAck (d : Dev) (c : Nat) (r : Route) (h : RspHdr) : Dev :=
  match (d.conn? c).bind fun x => x.msg? h.msgId.toNat with
  | none => d
  | some m =>
    if m.ty = tyGet ∨ m.ty = tyAtom then d else
    let ids := (List.range 64).filterMap fun k => if h.info.getLsbD k then some (h.base.toNat + k) else none
    let ids := ids.filter fun i => m.pkts[i]?.any fun p => p.st != .acked
    let d := ids.foldl (fun d i => d.ackPkt c m i r.ece) d
    let d := if h.code.getLsbD 0 then d.modMsg c m.n fun m => { m with done := true } else d
    ((d.tryFinish c m.n).pump c)

/-- True for a NAK code that asks for the packet again (Table 12). -/
def nakRetries (code : Nat) : Bool := 12 ≤ code && code ≤ 15

/-- True for a mirror write, which is sent again as often as it takes (13 R673). -/
def MsgWho.isMirror : MsgWho → Bool
  | .mirror _ _ => true
  | _ => false

/-- NAK (R563, Table 12): the packet waits for the retry-after, or the message fails; STALE_EPOCH first gives the connection
its epoch. -/
def Dev.takeNak (d : Dev) (c : Nat) (h : RspHdr) : Dev :=
  let code := h.code.toNat
  match (d.conn? c).bind fun x => x.msg? h.msgId.toNat with
  | none => d
  | some m =>
    let d := if code = 11 then d.modConn c fun x => { x with epoch := h.info.setWidth 32 } else d
    if nakRetries code then
      if d.fld .port 0 0x9010 31 16 < m.naks + 1 ∧ !m.who.isMirror then (d.dropMsg c m (0x100 + code)).pump c
      else
        let flying := m.pkts[h.base.toNat]?.any fun p => p.st == .flight
        let b := ((m.pkts[h.base.toNat]?).map (·.len)).getD 0
        let d := if flying && m.windowed then d.modConn c fun x => { x with inflight := x.inflight - b } else d
        let d := d.modMsg c m.n fun m => { m with naks := m.naks + 1 }
        (d.modMsg c m.n fun m => m.setPkt h.base.toNat fun p => if p.st = .acked then p else { p with st := .later }).pump c
    else (d.dropMsg c m (0x100 + code)).pump c

/-- A NAK's retry-after passed: the packet is sent again, with RETX (R561, R563). -/
def Dev.retryPkt (d : Dev) (c n i : Nat) : Dev :=
  (d.modMsg c n fun m => m.setPkt i fun p => if p.st = .later then { p with st := .unsent, again := true } else p).pump c

/-- A packet's timeout: sent again with RETX, or its message fails with 0x0200 after RETRIES retransmissions (R561). -/
def Dev.retxPkt (d : Dev) (c n i : Nat) : Dev :=
  match (d.conn? c).bind fun x => x.tx.find? fun m => m.n == n with
  | none => d
  | some m => match m.pkts[i]? with
    | none => d
    | some p =>
      if p.st ≠ .flight then d
      else if d.fld .port 0 0x9010 15 0 ≤ p.tries then (d.dropMsg c m 0x200).pump c
      else
        let d := if m.windowed then d.modConn c fun x => { x with inflight := x.inflight - p.len } else d
        (d.modMsg c n fun m => m.setPkt i fun p => { p with st := .unsent, tries := p.tries + 1, again := true }).pump c

end Sys2Proof.Machine
end

