-- ==== Sys2Proof/Machine/Threads.lean ====
section
/-!
DEFINITION. Limber threads: registers, stage and local memory, tokens, exceptions, the end of a sub-order, and the frame of
one instruction (06 R244 to R295; 07 R308 to R319).
-/
namespace Sys2Proof.Machine

/-! ## Threads and cores -/

/-- A thread with every register zero (06 R247). -/
def Thread.reset : Thread :=
  { g := [], v := [], p := 0, t := [], pc := 0, stack := [], toks := [], sticky := 0, inExc := false, excCause := 0,
    excPc := 0, excAddr := 0, seqKey := 0, wait := .stopped, sub := none, dogged := false, vers := 0, rfirst := 0 }

/-- Thread t of the device: cell t / 32, core t / 4, thread t mod 4 of its core. -/
def Dev.thr (d : Dev) (t : Nat) : Thread := Tab.getD d.threads t Thread.reset

/-- A thread replaced. -/
def Dev.setThr (d : Dev) (t : Nat) (x : Thread) : Dev := { d with threads := Tab.set d.threads t x }

/-- A thread changed. -/
def Dev.modThr (d : Dev) (t : Nat) (f : Thread → Thread) : Dev := d.setThr t (f (d.thr t))

/-- A limber core by its device-wide index. -/
def Dev.core (d : Dev) (k : Nat) : Core := Tab.getD d.cores k ⟨none, false, []⟩

/-- A core replaced. -/
def Dev.setCore (d : Dev) (k : Nat) (x : Core) : Dev := { d with cores := Tab.set d.cores k x }

/-- The image that a thread's core is bound to. -/
def Dev.thrImage (d : Dev) (t : Nat) : Option Image := (d.core (t / 4)).image.bind (Tab.get? d.images)

/-- The stand of a thread's binding. -/
def Dev.thrStand (d : Dev) (t : Nat) : Nat := ((d.thrImage t).map (·.stand)).getD 0

/-- True when a thread may issue an instruction (06 R245): its core is bound and in allocation and the thread does not
wait. -/
def Dev.runnable (d : Dev) (t : Nat) : Bool :=
  (d.thrImage t).isSome && (d.thr t).wait == .run && !d.unitOut ⟨.core, t / 4⟩ && !d.halted

/-- A general register; g0 reads zero (06 R251). -/
def Thread.rg (x : Thread) (n : Nat) : W64 := if n = 0 then 0#64 else Tab.getD x.g n 0#64

/-- A general register written; writes to g0 are ignored (06 R251). -/
def Thread.wg (x : Thread) (n : Nat) (v : W64) : Thread := if n = 0 then x else { x with g := Tab.set x.g n v }

/-- A vector register. -/
def Thread.rv (x : Thread) (n : Nat) : BitVec 512 := Tab.getD x.v n 0#512

/-- A vector register written. -/
def Thread.wv (x : Thread) (n : Nat) (v : BitVec 512) : Thread := { x with v := Tab.set x.v n v }

/-- A predicate; p0 reads 1 (06 R251). -/
def Thread.rp (x : Thread) (n : Nat) : Bool := n == 0 || x.p.getLsbD n

/-- A predicate written; writes to p0 are ignored. -/
def Thread.wp (x : Thread) (n : Nat) (v : Bool) : Thread :=
  if n = 0 then x
  else { x with p := BitVec.ofNat 8 (x.p.toNat - (x.p.toNat &&& 2 ^ n) + (if v then 2 ^ n else 0)) }

/-- A general register of a thread written. -/
def Dev.setG (d : Dev) (t n : Nat) (v : W64) : Dev := d.modThr t fun x => x.wg n v

/-! ## Violations (03 R102, R103; 06 R256) -/

/-- One violation tallied for a stand (03 R102, Table 7): kind, space, write, offset. -/
def Dev.violate (d : Dev) (s kind space : Nat) (write : Bool) (off : Nat) : Dev :=
  let d := d.incSat .stand s 0x200 31 0 1
  d.wr .stand s 0x208 (BitVec.ofNat 64 (kind * 2 ^ 52 + space * 2 ^ 49 + (if write then 2 ^ 48 else 0) + off % 2 ^ 48))

/-- NOT_OWNER in SPACE 2: a kernel's access to memory that its stand does not own (06 R256). -/
def Dev.kernelViol (d : Dev) (s : Nat) (write : Bool) (addr : Nat) : Dev := d.violate s 2 2 write addr

/-! ## Local, stage and service memory (06 Table 2) -/

/-- Tag of a kernel address. -/
def adTag (a : W64) : Nat := bits a 63 60

/-- Offset of a kernel address in its space. -/
def adOff (a : W64) : Nat := bits a 59 0

/-- Stage bytes of one cell. -/
def stageSize : Nat := 48 * 1048576

/-- Number of a stage byte in the device. -/
def stageAt (cell off : Nat) : Nat := cell * 2 ^ 26 + off

/-- The persistent stage region of a stand (06 R303): offset and length. -/
def Dev.region (d : Dev) (s : Nat) : Nat × Nat := Tab.getD d.stageRegion s (0, 0)

/-- True when [a, a + n) lies in [b, b + len). -/
def inside (a n b len : Nat) : Bool := b ≤ a && a + n ≤ b + len

/-- True when a thread owns stage bytes for an access (06 Table 2): the output area and the persistent region, and for
reads the input area too. -/
def Dev.ownsStage (d : Dev) (t off n : Nat) (write : Bool) : Bool :=
  let r := d.region (d.thrStand t)
  let sub := (d.thr t).sub.bind (Tab.get? d.subs)
  off + n ≤ stageSize && (inside off n r.1 r.2 || (match sub with
    | some s => inside off n s.outOff s.outLen || (!write && inside off n s.inOff s.inLen)
    | none => false))

/-- Bytes of a thread's cell stage memory. -/
def Dev.stageRead (d : Dev) (t off n : Nat) : List Byte := Memory.readN d.stage (stageAt (t / 32) off) n

/-- Bytes written to a cell's stage memory. -/
def Dev.stageWrite (d : Dev) (cell off : Nat) (bs : List Byte) : Dev :=
  { d with stage := Memory.write d.stage (stageAt cell off) bs }

/-- Bytes of a thread's core's local memory. -/
def Dev.localRead (d : Dev) (t off n : Nat) : List Byte := Memory.readN (d.core (t / 4)).mem off n

/-- Bytes written to a thread's core's local memory. -/
def Dev.localWrite (d : Dev) (t off : Nat) (bs : List Byte) : Dev :=
  let c := d.core (t / 4)
  d.setCore (t / 4) { c with mem := Memory.write c.mem off bs }

/-- Bytes that a thread reads at an address of local, stage or service memory; memory it does not own reads zero and
is counted (06 R256). -/
def Dev.memRead (d : Dev) (t : Nat) (a : W64) (n : Nat) : List Byte × Dev :=
  let off := adOff a
  match adTag a with
  | 0 => (d.localRead t off n, d)
  | 1 =>
    if d.ownsStage t off n false then (d.stageRead t off n, d)
    else (List.replicate n 0#8, d.kernelViol (d.thrStand t) false a.toNat)
  | _ =>
    if d.thrStand t = 0 ∧ off + n ≤ d.svcPages * 4096 then (Memory.readN d.svc off n, d)
    else (List.replicate n 0#8, d.kernelViol (d.thrStand t) false a.toNat)

/-- Bytes that a thread writes; a write to memory it does not own is ignored and counted (06 R256). -/
def Dev.memWrite (d : Dev) (t : Nat) (a : W64) (bs : List Byte) : Dev :=
  let off := adOff a
  match adTag a with
  | 0 => d.localWrite t off bs
  | 1 =>
    if d.ownsStage t off bs.length true then d.stageWrite (t / 32) off bs
    else d.kernelViol (d.thrStand t) true a.toNat
  | _ =>
    if d.thrStand t = 0 ∧ off + bs.length ≤ d.svcPages * 4096 then { d with svc := Memory.write d.svc off bs }
    else d.kernelViol (d.thrStand t) true a.toNat

/-! ## Tokens (06 R281, R282) -/

/-- Free tokens of a thread. -/
def Thread.tokFree (x : Thread) : Nat := 64 - x.toks.length

/-- A status kept as the thread's sticky status, unless one is held (06 R282). -/
def Thread.stick (x : Thread) (st : Nat) : Thread := if x.sticky = 0 then { x with sticky := st } else x

/-- A token taken: its number, any free one (free value), written to the token register; g0 makes it anonymous. -/
def Dev.takeTok (d : Dev) (t gd : Nat) (k : TokKind) (ready : Option Nat) : Option (Nat × Dev) :=
  let x := d.thr t
  (Tab.freeAt x.toks 64 (d.hint 64) fun _ => true).map fun n =>
    let x := { x with toks := Tab.set x.toks n ⟨k, gd == 0, ready, none⟩ }
    (n, d.took.setThr t (x.wg gd (BitVec.ofNat 64 n)))

/-- A token completed with a status: an anonymous one frees itself, its status kept as sticky (06 R281, R282). -/
def Thread.completeTok (x : Thread) (n st : Nat) : Thread :=
  match Tab.get? x.toks n with
  | none => x
  | some k =>
    if k.anon then ({ x with toks := Tab.del x.toks n }).stick st
    else { x with toks := Tab.set x.toks n { k with ready := some st, done := some st } }

/-- True when every token of the thread has completed. -/
def Thread.allDone (x : Thread) : Bool := x.toks.all fun e => e.2.done.isSome

/-! ## Handles -/

/-- The handle that an operand field names (07 R311): none for a direct N of 16 or more. -/
def Thread.handleOf (x : Thread) (f : BitVec 6) : Option Nat :=
  let n := f.toNat % 32
  if f.toNat < 32 then (if n < 16 then some n else none) else some (bits (x.rg n) 3 0)

/-- Codec slots named by the fetched blocks of a part (08 R392). -/
def KvPart.slots (p : KvPart) : List Nat :=
  if p.window then [] else (List.range 16).filterMap fun b =>
    if p.mask.testBit b && !blockRaw p.bytes b then some (blockSlot p.bytes b) else none

/-- Codec slots named by the pages that an operand handle holds, one for each coded block (08 R392). -/
def KvOperand.slots (o : KvOperand) : List Nat := o.parts.flatMap KvPart.slots

/-- A handle emptied: the copies of coded blocks that it held leave the in-use counts (08 R393). -/
def Dev.dropHandle (d : Dev) (t h : Nat) : Dev :=
  let x := d.thr t
  let d := match Tab.get? x.t h with
    | some (.kv o) => d.slotsDown o.slots
    | _ => d
  d.modThr t fun x => { x with t := Tab.del x.t h }

/-! ## The end of a sub-order (06 R263, R265, R268) -/

/-- Lowest non-zero of two statuses. -/
def worse (a b : Nat) : Nat := if a = 0 then b else if b = 0 then a else min a b

/-- A partial row b folded into an accumulator a (05, "Merging"), with the counter of free values at k. -/
def mergeRow (k : Nat) (a b : Row) : Row :=
  let m := toF32 ((f32 a.m).max (f32 b.m))
  let ea := if m = f32NegInf then f32One else expF k (fadd a.m (m ^^^ 0x80000000#32))
  let eb := if m = f32NegInf then f32One else expF (k + 1) (fadd b.m (m ^^^ 0x80000000#32))
  ⟨m, fadd (fmul a.l ea) (fmul b.l eb), List.zipWith (fun x y => fadd (fmul x ea) (fmul y eb)) a.o b.o⟩

/-- An FP32 row as bytes: m, l, o (05 R222). -/
def rowBytes (r : Row) : List Byte :=
  natLe 4 r.m.toNat ++ natLe 4 r.l.toNat ++ r.o.flatMap fun w => natLe 4 w.toNat

/-- An FP32 row of dimension n read from bytes. -/
def readRow (n : Nat) (bs : List Byte) : Row :=
  ⟨BitVec.ofNat 32 (recNum bs 0 4), BitVec.ofNat 32 (recNum bs 4 4),
    (List.range n).map fun e => BitVec.ofNat 32 (recNum bs (8 + 4 * e) 4)⟩

/-- A row of dimension n whose o is BF16 (05 R222). -/
def readRowBf (n : Nat) (bs : List Byte) : Row :=
  ⟨BitVec.ofNat 32 (recNum bs 0 4), BitVec.ofNat 32 (recNum bs 4 4),
    (List.range n).map fun e => toF32 (fmtBf16.decode (recNum bs (8 + 2 * e) 2))⟩

/-- An FP32 row as bytes with o rounded to BF16 (05 R215). -/
def rowBytesBf (r : Row) : List Byte :=
  natLe 4 r.m.toNat ++ natLe 4 r.l.toNat ++ r.o.flatMap fun w => natLe 2 (fmtBf16.encode false (f32 w))

/-- The empty row (05 R197). -/
def emptyRow (n : Nat) : Row := ⟨f32NegInf, 0, List.replicate n 0⟩

/-- Head dimension of an order's rows. -/
def Dev.orderDim (d : Dev) (o : Order) : Nat := ((d.seqProfile? o.key).map Profile.dim).getD 0

/-- Rows of one query token of an order: HEAD_CNT × G. -/
def Dev.orderRowsPerTok (d : Dev) (o : Order) : Nat :=
  let kvh := ((d.seqProfile? o.key).map (·.heads)).getD 1
  recNum o.bytes 55 1 * (recNum o.bytes 52 2 / kvh)

/-- The cell partial of a sub-order's output area folded into the record's rows (05 R225, R226). -/
def Dev.takeOutput (d : Dev) (o : Order) (s : Sub) : Order × Dev :=
  let n := d.orderDim o
  let rpt := d.orderRowsPerTok o
  let rows := (List.range (s.n * rpt)).foldl (fun (t : Tab Row) i =>
    let r := readRow n (Memory.readN d.stage (stageAt s.cell (s.outOff + i * (8 + 4 * n))) (8 + 4 * n))
    let g := s.qFirst * rpt + i
    Tab.set t g (mergeRow (d.freeCtr + 2 * i) (Tab.getD t g (emptyRow n)) r)) o.rows
  ({ o with rows := rows }, { d with freeCtr := d.freeCtr + 2 * s.n * rpt })

/-- Stage areas of a sub-order released (06 R257). -/
def Dev.freeAreas (d : Dev) (s : Sub) : Dev :=
  { d with stageAreas := Tab.del (Tab.del d.stageAreas (stageAt s.cell s.inOff)) (stageAt s.cell s.outOff) }

/-- A thread's hold on its sub-order released: pins, handles, tokens, mark of the handler (06 R257, R258, R263, R291). -/
def Dev.releaseThread (d : Dev) (t : Nat) : Dev :=
  let d := (d.pins.filter fun p => p.thread == t).foldl (fun d p => d.unpin p) d
  let d := (d.thr t).t.foldl (fun d e => d.dropHandle t e.1) d
  d.modThr t fun x => { x with toks := [], sub := none, inExc := false, sticky := 0 }

/-- A sub-order ended with a status: its areas are released and its order learns the outcome (06 R263, R265). -/
def Dev.endSub (d : Dev) (sid status : Nat) (take : Bool) : Dev :=
  match Tab.get? d.subs sid with
  | none => d
  | some s =>
    let d := { d with subs := Tab.del d.subs sid }
    match Tab.get? d.orders s.order with
    | none => d.freeAreas s
    | some o =>
      if s.void then ({ d with orders := Tab.set d.orders s.order { o with dataLost := o.dataLost || s.bad == 4 } }).freeAreas s
      else
        let st := worse o.status (if s.bad ≠ 0 ∧ s.bad ≠ 4 then worse s.bad status else status)
        let (o, d) := if take ∧ o.kind ≠ 4 then d.takeOutput o s else (o, d)
        let o := { o with status := st, dataLost := o.dataLost || s.bad == 4 }
        ({ d with orders := Tab.set d.orders s.order o }).freeAreas s

/-- A core unbound: its threads stop (06 R246, R292). -/
def Dev.unbind (d : Dev) (k : Nat) : Dev :=
  let d := d.setCore k ⟨none, false, []⟩
  (List.range 4).foldl (fun d i => d.setThr (4 * k + i) Thread.reset) d

/-- A core of which a fatal exception asked it, unbound once no thread holds a sub-order (06 R292); so is one whose image
was replaced (06 R300). -/
def Dev.settleCore (d : Dev) (k : Nat) : Dev :=
  let c := d.core k
  let old := match c.image.bind (Tab.get? d.images) with
    | some i => !i.live
    | none => false
  if (c.closing || old) && (List.range 4).all fun i => (d.thr (4 * k + i)).sub.isNone then d.unbind k else d

/-- A thread of a bound core at the image's entry point with every register zero (06 R247). -/
def Dev.restart (d : Dev) (t : Nat) : Dev :=
  match d.thrImage t with
  | some im => d.setThr t { Thread.reset with pc := im.entry, wait := .run, seqKey := seqKey im.stand 0 }
  | none => d.setThr t Thread.reset

/-- A sub-order dispatched again from its start: its output and its queued operations are discarded, RETRIES rises (06
R268). Its thread restarts at the entry point (log 29). -/
def Dev.redispatch (d : Dev) (sid : Nat) : Dev :=
  match Tab.get? d.subs sid with
  | none => d
  | some s =>
    let d : Dev := { d with nbprogs := d.nbprogs.filter fun e => e.2.sub != some sid || e.2.running || e.2.ended }
    let d := match s.st with
      | .running t => (d.releaseThread t).restart t
      | _ => d
    let d := d.freeAreas s
    { d with subs := Tab.set d.subs sid { s with st := .queued, retries := s.retries + 1, inLen := 0, outLen := 0, bad := if s.bad = 4 then 4 else 0 } }

/-! ## Exceptions (06 R290 to R295) -/

/-- An image slot faulted and unbound from every kind (06 R292): KRN_SLOTS.FAULTED, KRN_BIND. -/
def Dev.faultSlot (d : Dev) (s slot : Nat) : Dev :=
  let d := d.setSfld s 0x408 (8 + slot) (8 + slot) 1
  let d := if d.sfld s 0x410 3 3 = 1 ∧ d.sfld s 0x410 2 0 = slot then d.setSfld s 0x410 3 0 0 else d
  if d.sfld s 0x410 7 7 = 1 ∧ d.sfld s 0x410 6 4 = slot then d.setSfld s 0x410 7 4 0 else d

/-- An exception of a thread, at its handler or fatal (06 R291, R292, R295). -/
def Dev.except (d : Dev) (t cause : Nat) (addr : W64) : Dev :=
  match d.thrImage t with
  | none => d
  | some im =>
    let x := d.thr t
    let s := im.stand
    let fatal := im.excEntry = 0 ∨ x.inExc ∨ cause = 14
    let d := d.incSat .stand s 0x418 63 32 1
    let d := d.setSfld s 0x418 11 0 (cause * 256 + (if fatal then 8 else 0) + im.slot)
    if fatal then
      let pc := x.pc
      let sub := x.sub
      let d := d.releaseThread t
      let d := match sub with
        | some sid => d.endSub sid 10 false
        | none => d
      let d := d.modThr t fun x => { x with wait := .stopped }
      let d := d.faultSlot s im.slot
      let c := d.core (t / 4)
      let d := d.setCore (t / 4) { c with closing := true }
      let d := d.raise (0x381 + 4 * s) ⟨.core, t / 4⟩ [s] (BitVec.ofNat 64 (pc + cause * 65536))
      d.settleCore (t / 4)
    else
      d.setThr t { x with excCause := cause, excPc := x.pc, excAddr := (if 2 ≤ cause ∧ cause ≤ 4 then addr else 0#64),
                          inExc := true, pc := im.excEntry, wait := .run }

/-- What an instruction does: completes and goes on, jumps, waits at its place, raises an exception, or stalls for want of a token. -/
inductive InstrRes where
  | ok (d : Dev)
  | jump (d : Dev) (pc : Nat)
  | hold (d : Dev)
  | exc (cause : Nat) (addr : W64)
  | stall

/-- The program counter moved past an instruction (07 R309). -/
def Dev.advance (d : Dev) (t len : Nat) : Dev := d.modThr t fun x => { x with pc := (x.pc + len) % 65536 }

/-- One instruction of a thread: no effect while the thread is not ready; a long instruction whose second word lies
beyond the text raises LOCAL_RANGE (07 R309, R313; 06 R290). -/
def Dev.instr (d : Dev) (t len : Nat) (f : Dev → Thread → InstrRes) : Dev :=
  if d.runnable t then
    if len = 8 ∧ ((d.thrImage t).map (·.textLen)).getD 0 ≤ (d.thr t).pc + 4 then d.except t 3 (BitVec.ofNat 64 ((d.thr t).pc + 4))
    else match f d (d.thr t) with
      | .ok d => d.advance t len
      | .hold d => d
      | .jump d pc => d.modThr t fun x => { x with pc := pc }
      | .exc c a => d.except t c a
      | .stall => d
  else d

/-- ILLEGAL unless a condition on reserved fields holds (07 R312). -/
def legal (ok : Bool) (r : InstrRes) : InstrRes := if ok then r else .exc 1 0#64

end Sys2Proof.Machine
end

