-- ==== Sys2Proof/Machine/Tracts.lean ====
section
/-!
DEFINITION. Tracts: keys, the memory behind them, and the checks of Table 13 that follow the key (11 R535 to R544, R571; 06
R289; 13 R654).
-/
namespace Sys2Proof.Machine

/-! ## Keys (Table 9) -/

/-- A tract that was never registered. -/
def Tract.none_ : Tract :=
  { kind := 0, rights := 0, mode := 0, partner := 0, stand := 0, cell := 0, base := 0, len := 0, gen := 0, check := 0,
    st := .free, frames := [], inflight := 0, cmd := none, own := none, mkey := none, src := none, srcKind := 0,
    srcRights := 0, srcLen := 0, srcEpoch := 0, sends := [], sendNext := 0, nextInt := 0, ints := [] }

/-- The key of a tract at an INDEX. -/
def Tract.key (t : Tract) (i : Nat) : BitVec 32 := BitVec.ofNat 32 (t.gen * 2 ^ 24 + t.check * 2 ^ 16 + i)

/-- INDEX of a key. -/
def keyIndex (k : BitVec 32) : Nat := k.toNat % 65536

/-- CHECK of a key. -/
def keyCheck (k : BitVec 32) : Nat := k.toNat / 65536 % 256

/-- GEN of a key. -/
def keyGen (k : BitVec 32) : Nat := k.toNat / 2 ^ 24

/-- The tract of an INDEX. -/
def Dev.tract? (d : Dev) (i : Nat) : Option Tract := Tab.get? d.tracts i

/-- A tract replaced. -/
def Dev.setTract (d : Dev) (i : Nat) (t : Tract) : Dev := { d with tracts := Tab.set d.tracts i t }

/-- A tract changed, if it is there. -/
def Dev.modTract (d : Dev) (i : Nat) (f : Tract → Tract) : Dev := { d with tracts := Tab.upd d.tracts i f }

/-- True while a tract is registered and not yet revoked: it uses its INDEX and counts in TRC_STAT.IN_USE. -/
def Tract.inUse (t : Tract) : Bool := t.st == .active || t.st == .revoking || t.st == .opening

/-- The tract that a key names for a stand, whatever its kind, when it is active with that GEN and CHECK. -/
def Dev.tractOf (d : Dev) (s : Nat) (k : BitVec 32) : Option (Nat × Tract) :=
  match d.tract? (keyIndex k) with
  | some t => if t.stand = s ∧ t.st = .active ∧ t.check = keyCheck k ∧ t.gen = keyGen k then some (keyIndex k, t) else none
  | none => none

/-- The epoch of a stand's slice (13 R653, R654). -/
def Dev.sliceEpoch (d : Dev) (s : Nat) : Nat := ((Tab.get? d.slices (d.sliceOf s)).map (·.epoch)).getD 1

/-- The tract's epoch for check 8: its own record's, else its stand's slice's (13 R654, R678). -/
def Dev.tractEpoch (d : Dev) (t : Tract) : Nat := match t.own with
  | some e => e.toNat
  | none => d.sliceEpoch t.stand

/-! ## The memory behind a tract -/

/-- Length of a stand's weight region. -/
def Dev.weightLen (d : Dev) (s : Nat) : Nat := (Tab.getD d.weights s ([], false)).1.length * 65536

/-- Bytes that a tract reaches: LEN; a WEIGHT tract follows the region (Table 11). -/
def Dev.tractLen (d : Dev) (t : Tract) : Nat := if t.kind = 6 then d.weightLen t.stand else t.len

/-- Frames of the 64 KiB units behind a tract, and none for one that is not in T1. A lent window (kind 8 of the model) lists
its granules of 256 MiB. -/
def Dev.tractFrames (d : Dev) (t : Tract) : List Nat :=
  if t.kind = 6 then (Tab.getD d.weights t.stand ([], false)).1
  else if t.kind = 8 then t.frames.flatMap fun g => (List.range 4096).map fun i => g + 256 * i
  else t.frames

/-- Bytes [off, off + n) of a list of 64 KiB units. -/
def Dev.unitsRead (d : Dev) (fs : List Nat) (off n : Nat) : List Byte :=
  let bs := ((fs.drop (off / 65536)).take (n / 65536 + 2)).flatMap fun f => Memory.readN d.mem (f * 256) 65536
  recBytes (bs.drop (off % 65536)) 0 n

/-- Bytes written into a list of 64 KiB units, at most n pieces. -/
def Dev.unitsWrite (fs : List Nat) : Nat → Nat → List Byte → Dev → Dev
  | 0, _, _, d => d
  | n + 1, off, bs, d =>
    if bs.isEmpty then d else
    match fs[off / 65536]? with
    | none => d
    | some f =>
      let k := 65536 - off % 65536
      let d : Dev := { d with mem := Memory.write d.mem (f * 256 + off % 65536) (bs.take k) }
      Dev.unitsWrite fs n (off + k) (bs.drop k) d

/-- Stage offset of a STAGE tract's byte. -/
def Dev.stageOff (d : Dev) (t : Tract) (off : Nat) : Nat := (d.region t.stand).1 + t.base + off

/-- Bytes of a BUFFER, STAGE, MERGE or WEIGHT tract. -/
def Dev.tractRead (d : Dev) (t : Tract) (off n : Nat) : List Byte :=
  if t.kind = 1 then Memory.readN d.stage (stageAt t.cell (d.stageOff t off)) n
  else d.unitsRead (d.tractFrames t) off n

/-- Bytes placed in a BUFFER, STAGE, MERGE or WEIGHT tract. -/
def Dev.tractWrite (d : Dev) (t : Tract) (off : Nat) (bs : List Byte) : Dev :=
  if t.kind = 1 then d.stageWrite t.cell (d.stageOff t off) bs
  else Dev.unitsWrite (d.tractFrames t) (bs.length / 65536 + 2) off bs d

/-- T1 frames for n units of 64 KiB, each of 256 frames, in any of the edges that has room. -/
def Dev.allocUnits (d : Dev) (s : Nat) : Nat → List Nat → Option (List Nat × Dev)
  | 0, fs => some (fs, d)
  | n + 1, fs => (d.allocFrom 256 (d.turned 3 (d.tierDies s 1))).bind fun x => Dev.allocUnits (x.2.holdRun x.1 256) s n (fs ++ [x.1])

/-- Units given back: their frames are free and read zero when they are next allocated. -/
def Dev.freeUnits (d : Dev) (fs : List Nat) : Dev :=
  fs.foldl (fun d f => { d with runs := Tab.del d.runs f, mem := Memory.zero d.mem (f * 256) 65536 }) d

/-! ## Query rings and work-order queues (R552, R553; 17 Table 12) -/

/-- A stand's query ring. -/
def Dev.ring (d : Dev) (s : Nat) : List QItem := Tab.getD d.rings s []

/-- A stand's work-order queue. -/
def Dev.workq (d : Dev) (s : Nat) : List QItem := Tab.getD d.wqs s []

/-- Space that open messages of a stand's connections reserve on a tract of a kind. -/
def Dev.reserved (d : Dev) (s kind : Nat) : Nat :=
  (d.conns.map fun e => if e.2.stand = s then (e.2.rx.map fun m =>
    if (d.tract? (keyIndex m.key)).any fun t => t.kind == kind then m.space else 0).sum else 0).sum

/-- Bytes of the query ring in use. -/
def Dev.ringUsed (d : Dev) (s : Nat) : Nat := ((d.ring s).map fun i => i.bytes.length).sum + d.reserved s 2

/-- Work orders queued. -/
def Dev.wqUsed (d : Dev) (s : Nat) : Nat := (d.workq s).length + d.reserved s 3 / 64

/-- A record entered into the query ring. -/
def Dev.enterRing (d : Dev) (s cls : Nat) (bs : List Byte) : Dev :=
  { d with rings := Tab.set d.rings s (d.ring s ++ [⟨bs, cls, d.now⟩]) }

/-- A record entered into the work-order queue. -/
def Dev.enterWq (d : Dev) (s cls : Nat) (bs : List Byte) : Dev :=
  { d with wqs := Tab.set d.wqs s (d.workq s ++ [⟨bs, cls, d.now⟩]) }

/-- True when a node is this one or one to which the stand has an OPEN connection (R554). -/
def Dev.nodeOk (d : Dev) (s n : Nat) : Bool := n == d.node || d.conns.any fun e => e.2.stand == s && e.2.peer == n && e.2.st == 2

/-- The reply check of a query record (R554; 05 Table 1). -/
def Dev.replyOk (d : Dev) (s : Nat) (bs : List Byte) : Bool :=
  d.nodeOk s (recNum bs 64 2) && (recNum bs 84 2 == 0 || d.nodeOk s (recNum bs 66 2))

/-- The reply check of a work order. -/
def Dev.wreplyOk (d : Dev) (s : Nat) (bs : List Byte) : Bool := d.nodeOk s (recNum bs 52 2)

/-! ## Checks 5 to 10 of Table 13 -/

/-- Why a request is refused: NAK code and INFO. -/
structure Refused where
  code : Nat
  info : Nat

/-- Rights that a request needs: READ 1, WRITE 2, ATOMIC 4, NOTICE 8, WORK_ORDER 16 (after Table 13). -/
def needRights (kind ty : Nat) (notice : Bool) : Nat :=
  (if kind = 3 then 16 else if ty = tyGet then 1 else if ty = tyAtom then 4 else if ty = tyNote then 10 else 2) |||
    (if notice && kind != 3 then 8 else 0)

/-- True when a range or length breaks check 10 for a tract's kind: base is the message's base offset. -/
def Dev.outOfBounds (d : Dev) (t : Tract) (ty : Nat) (notice : Bool) (off n base len : Nat) : Bool :=
  d.tractLen t < off + n || (ty == tyAtom && off % 8 != 0) ||
  (t.kind == 2 && (base != 0 || len % 256 != 0 || 1048576 < len)) ||
  (t.kind == 3 && (base != 0 || len != 64)) ||
  (t.kind == 5 && notice && len < 64)

/-- Checks 5 to 9 for a stand (R539, R544, R654; 13 R645): key, generation, revocation, epoch unless it is a local
operation, rights. -/
def Dev.checkKey (d : Dev) (s : Nat) (k : BitVec 32) (ty : Nat) (notice : Bool) (epoch : Option Nat) : Refused ⊕ (Nat × Tract) :=
  match d.tract? (keyIndex k) with
  | none => .inl ⟨3, 0⟩
  | some t =>
    if t.stand ≠ s ∨ t.check ≠ keyCheck k ∨ t.st = .opening then .inl ⟨3, 0⟩
    else if t.gen ≠ keyGen k then .inl ⟨4, 0⟩
    else if t.st ≠ .active then .inl ⟨5, 0⟩
    else if s ≠ 0 ∧ epoch.isSome ∧ d.fld .cmp 0 8 2 0 = 1 then .inl ⟨11, 0⟩
    else if epoch.any fun e => e != d.tractEpoch t then .inl ⟨11, d.tractEpoch t⟩
    else if needRights t.kind ty notice &&& t.rights ≠ needRights t.kind ty notice then .inl ⟨7, 0⟩
    else .inr (keyIndex k, t)

/-! ## Atomics (07 Table 17; 11 R557) -/

/-- The new value of an atomic's target word. -/
def atomNew (op : Nat) (old operand compare : W64) : W64 :=
  match op with
  | 0 => old + operand
  | 1 => operand
  | 2 => if old = compare then operand else old
  | 3 => old &&& operand
  | 4 => old ||| operand
  | _ => if old.ult operand then operand else old

/-- An atomic on a tract's word: the old value and the device. -/
def Dev.atomic (d : Dev) (t : Tract) (off op : Nat) (data : List Byte) : W64 × Dev :=
  let old := BitVec.ofNat 64 (leNat (d.tractRead t off 8))
  let new := atomNew op old (BitVec.ofNat 64 (recNum data 0 8)) (BitVec.ofNat 64 (recNum data 8 8))
  (old, d.tractWrite t off (natLe 8 new.toNat))

/-! ## Sectors that cannot be read (14 R707, R709) -/

/-- The channel of a cell that holds a cell DRAM address: 256-byte granules over 64 bank groups, four to a channel (09 R416,
R418). -/
def Dev.channelOf (frame : Nat) : Nat := frame % 64 / 4

/-- DRAM_UNCORR or EDGE_DRAM_UNCORR for a sector of a tile in a device tier (14 R707): attributed to the owner of the data, if any; a tile of T2 or
T3 lies in no die of the device. -/
def Dev.uncorrectable (d : Dev) (frame : Nat) (stands : List Nat) : Dev :=
  let c := frameDie frame
  if 2 ^ 40 ≤ frame then d
  else if c < 16 then
    d.raise (32 * c + 1) ⟨.channel, 16 * c + Dev.channelOf frame⟩ stands (BitVec.ofNat 64 ((frame - c * 2 ^ 27) * 256))
  else d.raise (0x201 + 8 * (c - 16)) ⟨.edge, c - 16⟩ stands (BitVec.ofNat 64 ((frame - c * 2 ^ 27) * 256))

end Sys2Proof.Machine
end

