-- ==== Sys2Proof/Machine/Mirror.lean ====
section
/-!
DEFINITION. Mirroring: the writes that a source sends and the copies that a partner keeps (11 R556; 13 R668 to R677).
-/
namespace Sys2Proof.Machine

/-! ## The source -/

/-- Length of an asynchronous interval in ns (13 Table 10). -/
def Dev.mirLen (d : Dev) : Nat := d.fld .cmp 0 0x8000 31 16 * 1000

/-- The mirror interval of the present fabric time (R674). -/
def Dev.mirNow (d : Dev) : Nat := d.now / max 1 d.mirLen

/-- The stand's OPEN mirror connection to a node (R665). -/
def Dev.mirConn (d : Dev) (s n : Nat) : Option Nat :=
  (d.conns.find? fun e => e.2.stand == s && e.2.peer == n && e.2.mirror && e.2.st == 2).map (·.1)

/-- The mirror header as bytes (Table 6). -/
def MirHdr.bytes (mop : Nat) (h : MirHdr) : List Byte :=
  natLe 1 mop ++ natLe 1 h.rsv.toNat ++ natLe 2 h.layer.toNat ++ natLe 4 h.first.toNat ++ natLe 8 h.handle.toNat ++
    natLe 8 h.interval.toNat ++ natLe 4 h.arg.toNat ++ natLe 4 h.len.toNat

/-- A mirror write begun: it is listed with its tract until the partner acknowledges it. Its number. -/
def Dev.mirSend (d : Dev) (ti : Nat) (t : Tract) (flush : Bool) (interval : Nat) (m : OutMsg) : Nat × Dev :=
  let num := t.sendNext
  let d := d.setTract ti { t with sends := t.sends ++ [⟨num, interval, false, flush⟩], sendNext := num + 1 }
  match d.mirConn t.stand t.partner with
  | some c => (num, d.startMsg c { m with who := .mirror ti num })
  | none => (num, d.endMsg (.mirror ti num) (0x100 + 21))

/-- A PUT of a mirror header and its data in TC5 at OFFSET 0 (R668). -/
def Dev.mirWrite (d : Dev) (ti mop layer first handle arg : Nat) (data : List Byte) : Nat × Dev :=
  match d.tract? ti with
  | none => (0, d)
  | some t =>
    let iv := if t.mode = 2 then d.mirNow else 0
    let h : MirHdr := ⟨0, BitVec.ofNat 16 layer, BitVec.ofNat 32 first, BitVec.ofNat 64 handle, BitVec.ofNat 64 iv,
      BitVec.ofNat 32 arg, BitVec.ofNat 32 data.length⟩
    let bs := h.bytes mop ++ data
    d.mirSend ti t (mop == 6) iv (mkMsg tyPut 5 false (t.mkey.getD 0) 0 bs bs.length .cruise)

/-- A LAND packet forwarded to the MIRROR tract of a synchronous LANDING tract, with the same OFFSET, ARG and payload. -/
def Dev.mirLand (d : Dev) (ti : Nat) (handle arg : W64) (data : List Byte) : Nat × Dev :=
  match d.tract? ti with
  | none => (0, d)
  | some t =>
    d.mirSend ti t false 0
      { n := 0, ty := tyLand, tc := 5, notice := false, key := t.mkey.getD 0, base := handle, fixedOff := true, data := data,
        len := data.length, pkts := [⟨0, data.length, arg, .unsent, 0, 0, false, false⟩], done := false, naks := 0,
        who := .cruise, recovery := false }

/-- A list of mirror writes, and their numbers. -/
def Dev.mirWrites (d : Dev) : List (Dev → Nat × Dev) → List Nat × Dev
  | [] => ([], d)
  | f :: r =>
    let x := f d
    let y := Dev.mirWrites x.2 r
    (x.1 :: y.1, y.2)

/-- Tokens cut into runs of at most n. -/
def chunksOf {α : Type} (n : Nat) : Nat → List α → List (List α)
  | 0, _ => []
  | k + 1, l => if l.isEmpty then [] else l.take (max 1 n) :: chunksOf n k (l.drop (max 1 n))

/-- A payload of tokens in the layout of R549. -/
def landPayload (p : Profile) (xs : List LandTok) : List Byte :=
  let s := landSecs p xs.length
  let put (i : Nat) (f : LandTok → List Byte) (bs : List Byte) : List Byte := recPut bs (s.1.getD i 0) (xs.flatMap f)
  put 3 (·.vs) (put 2 (·.ve) (put 1 (·.ks) (put 0 (·.ke) (List.replicate s.2 0#8))))

/-- TOKENS writes for landed tokens that follow one another (R668, R671). -/
def Dev.mirTokens (d : Dev) (ti key l : Nat) (pr : Profile) (xs : List LandTok) : List Nat × Dev :=
  let n := ((List.range 4097).filter fun n => (landSecs pr n).2 ≤ 4064).length - 1
  d.mirWrites ((chunksOf n xs.length xs).map fun ys d =>
    d.mirWrite ti 3 l ((ys.head?.map (·.tok)).getD 0) (keyHandle key) ys.length (landPayload pr ys))

/-- BUFFER writes for bytes placed in a mirrored BUFFER. -/
def Dev.mirBuffer (d : Dev) (ti off : Nat) (bs : List Byte) : List Nat × Dev :=
  d.mirWrites ((chunksOf 4064 bs.length bs).zipIdx.map fun (ys, i) d => d.mirWrite ti 5 0 0 (off + 4064 * i) 0 ys)

/-- The mirror of a sequence, when it is mirrored. -/
def Dev.seqMirror (d : Dev) (key : Nat) : Option Nat :=
  match Tab.get? d.mirSeqs key with
  | some m => if m.st = 1 then some m.tract else none
  | none => none

/-- SECTORS writes for sectors of a mirrored sequence's page that a near-bank program wrote (R671; 09 R454): offset in the
uncompressed page and bytes. -/
def Dev.mirSectors (d : Dev) (key l first : Nat) (ws : List (Nat × List Byte)) : List Nat × Dev :=
  match d.seqMirror key with
  | none => ([], d)
  | some ti => d.mirWrites (ws.map fun w d => d.mirWrite ti 4 l first (keyHandle key) w.1 w.2)

/-- True when new writes to a stand's asynchronous tracts are held off: the oldest unacknowledged FLUSH's interval ended
LAG_US ago (R676). -/
def Dev.mirLate (d : Dev) (s : Nat) : Bool :=
  d.tracts.any fun e => e.2.stand == s && e.2.mode == 2 && e.2.st == .active && e.2.sends.any fun m =>
    m.flush && (m.interval + 1) * d.mirLen + d.fld .cmp 0 0x8000 47 32 * 1000 ≤ d.now

/-- R676's answer counted. -/
def Dev.mirHeld (d : Dev) : Dev := d.incSat .cmp 0 0x8008 31 0 1

/-- MIRROR_INTERVAL_END: FLUSH of the oldest interval of an asynchronous tract that has ended, once all its writes have been
sent (R674). -/
def Dev.mirFlush (d : Dev) (ti : Nat) : Dev :=
  match d.tract? ti with
  | none => d
  | some t =>
    let unsent : Bool := match d.mirConn t.stand t.partner with
      | some c => (((d.conn? c).map (·.tx)).getD []).any fun m => (match m.who with
        | .mirror i _ => i == ti
        | _ => false) && m.pkts.any fun p => p.st == .unsent || p.st == .later
      | none => false
    if t.mode ≠ 2 ∨ t.st ≠ .active ∨ t.mkey.isNone ∨ d.mirNow ≤ t.nextInt ∨ unsent then d
    else
      let k := t.nextInt
      let n := (t.sends.filter fun m => m.interval == k && !m.flush).length
      let d := d.setTract ti { t with nextInt := k + 1, sends := t.sends.filter fun m => m.flush || m.interval != k || !m.acked }
      match d.tract? ti with
      | none => d
      | some t =>
        let h : MirHdr := ⟨0, 0, 0, BitVec.ofNat 64 n, BitVec.ofNat 64 k, 0, 0⟩
        (d.mirSend ti t true k (mkMsg tyPut 5 false (t.mkey.getD 0) 0 (h.bytes 6) 32 .cruise)).2

/-! ## The partner -/

/-- A mirror write's payload parsed: MOP, header, data. -/
def parseMir (bs : List Byte) : Nat × MirHdr × List Byte :=
  (recNum bs 0 1, ⟨BitVec.ofNat 8 (recNum bs 1 1), BitVec.ofNat 16 (recNum bs 2 2), BitVec.ofNat 32 (recNum bs 4 4),
    BitVec.ofNat 64 (recNum bs 8 8), BitVec.ofNat 64 (recNum bs 16 8), BitVec.ofNat 32 (recNum bs 24 4),
    BitVec.ofNat 32 (recNum bs 28 4)⟩, recBytes bs 32 (recNum bs 28 4))

/-- True when a stand's profile slot is named by an entry or a copy sequence (04 R113; 13 R667). -/
def Dev.slotNamed (d : Dev) (s slot : Nat) : Bool :=
  (d.shadow.any fun e => keyStand e.1 == s && dvProfile e.2 == slot) ||
  (d.copies.any fun c => keyStand c.1 == s && c.2.profile == slot)

/-- SEQ_NEW at the partner: a copy sequence, or PROFILE_MISMATCH (R670). -/
def Dev.copyNew (d : Dev) (ti s handle attr : Nat) (data : List Byte) : Nat × Dev :=
  let key := seqKey s handle
  let slot := nbits attr 27 25
  let same := Tab.get? d.profiles (s * 8 + slot) == some data
  if (Tab.get? d.copies key).isSome then (0, d)
  else if !same && ((parseProfile data).isNone || (Tab.has d.profiles (s * 8 + slot) && d.slotNamed s slot)) then (23, d)
  else
    let d := if same then d else { d with profiles := Tab.set d.profiles (s * 8 + slot) data }
    match d.newSet key slot (nbits attr 31 28) with
    | none => (13, d)
    | some (set, d) => (0, { d with copies := Tab.set d.copies key ⟨set, slot, attr, ti⟩ })

/-- A copy sequence deleted (R671). -/
def Dev.copyDel (d : Dev) (key : Nat) : Dev :=
  match Tab.get? d.copies key with
  | none => d
  | some c => { d.freeSet c.set with copies := Tab.del d.copies key }

/-- Tokens landed into a copy (R668, R672). -/
def Dev.copyLand (d : Dev) (key l first n : Nat) (data : List Byte) : Nat × Dev :=
  match Tab.get? d.copies key, d.seqProfile? key with
  | some c, some pr =>
    let r := d.land pr key c.set (nbits c.attr 24 23) l true (landToks pr first n data)
    (r.code, r.dev)
  | _, _ => (18, d)

/-- Bytes written into the uncompressed page of a copy. -/
def Dev.copySectors (d : Dev) (key l first off : Nat) (data : List Byte) : Dev :=
  match Tab.get? d.copies key, d.seqProfile? key with
  | some c, some pr =>
    let p := first / pr.tpp
    match d.pte c.set l p with
    | none => d
    | some v =>
      let s := keyStand key
      let t := d.tileOf s v
      if tileFlag t flOpen then d.tileWrite (pteTier v) s (pteFrame v) (descLen + off) data
      else
        let page := recPut (expandTile d.slots t).1 off data
        let cell := d.workCell s (frameDie (pteFrame v)) l p
        let t2 := makeTile { tileHead t with digest := crc64 page }
          (compressPage d.slots (d.fld .cell cell 0x40000 4 0) (pageSections pr) page)
        (d.replaceTile c.set l p v t2).getD d
  | _, _ => d

/-- One mirror write applied to the copy: NAK code or 0. -/
def Dev.mirApply (d : Dev) (ti : Nat) (t : Tract) (bs : List Byte) : Nat × Dev :=
  let (mop, h, data) := parseMir bs
  let key := seqKey t.stand h.handle.toNat
  match mop with
  | 1 => d.copyNew ti t.stand h.handle.toNat h.arg.toNat data
  | 2 => (0, d.copyDel key)
  | 3 => d.copyLand key h.layer.toNat h.first.toNat h.arg.toNat data
  | 4 => (0, d.copySectors key h.layer.toNat h.first.toNat h.arg.toNat data)
  | 5 => (0, Dev.unitsWrite t.frames (data.length / 65536 + 2) h.handle.toNat data d)
  | _ => (0, d)

/-- A mirror write at the partner: applied at once, or kept with its interval; SEQ_NEW is answered at once in either mode
(R670, R675). A reserved MOP is refused as BAD_TYPE (log 20). -/
def Dev.mirTake (d : Dev) (ti : Nat) (t : Tract) (bs : List Byte) : Nat × Dev :=
  let (mop, h, _) := parseMir bs
  if mop = 0 ∨ 6 < mop then (2, d)
  else if t.mode ≠ 2 then d.mirApply ti t bs
  else
    let (code, d) := if mop = 1 then d.mirApply ti t bs else (0, d)
    if code ≠ 0 then (code, d)
    else
      let k := h.interval.toNat
      let iv := Tab.getD t.ints k ⟨[], none⟩
      let iv := if mop = 6 then { iv with flush := some h.handle.toNat } else { iv with writes := iv.writes ++ [bs] }
      (0, d.modTract ti fun t => { t with ints := Tab.set t.ints k iv })

/-- True when every write of an interval and its FLUSH have arrived. -/
def MirInterval.whole (iv : MirInterval) : Bool := match iv.flush with
  | some n => n ≤ iv.writes.length
  | none => false

/-- The writes of an interval applied to the copy. -/
def Dev.mirApplyInt (d : Dev) (ti k : Nat) (t : Tract) (iv : MirInterval) : Dev :=
  let d := iv.writes.foldl (fun d bs => (d.mirApply ti t bs).2) d
  d.modTract ti fun t => { t with nextInt := max t.nextInt (k + 1), ints := Tab.del t.ints k }

/-- MIRROR_INTERVAL_APPLY: the next interval of a copy applied when all its writes and its FLUSH have arrived (R675). The
next interval at first is the one of the copy's opening; an earlier one is applied as it is whole (log 20). -/
def Dev.mirIntApply (d : Dev) (ti : Nat) : Dev :=
  match d.tract? ti with
  | none => d
  | some t => match t.ints.find? fun e => e.1 ≤ t.nextInt && e.2.whole with
    | some (k, iv) => d.mirApplyInt ti k t iv
    | none => d

/-! ## The end of a mirror write at the source -/

/-- An inbound message without one of the mirror writes it waits for. -/
def InMsg.mirDone (m : InMsg) (ti num : Nat) : InMsg :=
  if keyIndex m.key = ti then { m with mirrors := m.mirrors.filter fun k => k != num } else m

/-- A mirror write acknowledged: it leaves the waiting lists of the local messages (R556). -/
def Dev.mirAcked (d : Dev) (ti num : Nat) : Dev :=
  let d : Dev := { d with conns := Tab.mapAll d.conns fun _ (x : Conn) => { x with rx := x.rx.map fun m => m.mirDone ti num } }
  let d : Dev := { d with nbprogs := Tab.mapAll d.nbprogs fun _ (x : NbProg) =>
    if x.mirTract = ti then { x with waits := x.waits.filter fun k => k != num } else x }
  { d with locals := d.locals.map fun (o : LocalOp) =>
    if o.tract = ti then { o with nums := o.nums.filter fun k => k != num } else o }

/-- The list of unacknowledged writes after write num was acknowledged. -/
def Tract.sendsAcked (t : Tract) (num : Nat) : List MirSend :=
  if t.mode = 2 then
    (t.sends.filter fun m => !(m.num == num && (m.flush || m.interval < t.nextInt))).map fun m =>
      { m with acked := m.acked || m.num == num }
  else t.sends.filter fun m => m.num != num

/-- A mirror write of a tract ended with a status: acknowledged, or refused for good; a write that was not acknowledged for
another reason stays unacknowledged (R673). -/
def Dev.mirEnded (d : Dev) (ti num status : Nat) : Dev :=
  match d.tract? ti with
  | none => d
  | some t =>
    if status = 0 then (d.setTract ti { t with sends := t.sendsAcked num }).mirAcked ti num
    else if status = 0x100 + 23 then
      (d.setTract ti { t with sends := t.sends.filter fun m => m.num != num }).mirAcked ti num
    else d

end Sys2Proof.Machine
end

