-- ==== Sys2Proof/Machine/Partial.lean ====
section
/-!
DEFINITION. Partial records, merge slots and what a completed message does at its tract (05 R215 to R234; 11 R551 to R555;
12 R620, R621).
-/
namespace Sys2Proof.Machine

/-! ## Telemetry counts (12 R620, R621, Table 7) -/

/-- Histogram bucket of a latency in ns. -/
def latBucket (lat : Nat) : Nat :=
  if lat < 20 then 0
  else
    let y := lat / 4
    let e := Nat.log2 y - 2
    min 63 (4 * e + (y / 2 ^ e - 4))

/-- A stand's counts. -/
def Dev.telOf (d : Dev) (s : Nat) : TelRec := Tab.getD d.tel s ⟨0, 0, 0, 0, 0, 0, []⟩

/-- A query record whose partial left, counted in the running interval: N, status, LATE, latency. -/
def Dev.telCount (d : Dev) (s n status : Nat) (late : Bool) (lat : Nat) : Dev :=
  let t := d.telOf s
  let t := { t with records := t.records + 1, tokens := t.tokens + (if status = 0 then n else 0),
                    late := t.late + (if late then 1 else 0), dropped := t.dropped + (if status = 7 then 1 else 0) }
  let t := if status = 7 then t else
    { t with max := max t.max (min lat (2 ^ 32 - 1)), sum := t.sum + lat,
             buckets := Tab.set t.buckets (latBucket lat) (Tab.getD t.buckets (latBucket lat) 0 + 1) }
  { d with tel := Tab.set d.tel s t }

/-- The partial of a record has left: its latency ends now (R620). -/
def Dev.partLeft (d : Dev) (j : PartJob) : Dev :=
  match j.entry with
  | some at_ => d.telCount j.stand (recNum j.head 34 2) (recNum j.head 33 1) ((recNum j.head 38 1).testBit 0) (d.now - at_)
  | none => d

/-! ## Merge slots (05 R228 to R234) -/

/-- Bytes of merge bodies in service memory. -/
def Dev.mergeBytes (d : Dev) : Nat := (d.merges.map (·.bytes)).sum

/-- Partials discarded at merge slots, counted. -/
def Dev.mergeDiscard (d : Dev) (s n : Nat) : Dev := d.incSat .stand s 0x308 63 32 n

/-- A slot as it opens. -/
def MergeSlot.fresh (s tag : Nat) : MergeSlot :=
  { stand := s, tag := tag, arm := none, first := none, folded := 0, parts := 0, tokLo := 0, tokCnt := 0, late := false,
    status := 0, dim := 0, rows := [], bytes := 0, sent := false }

/-- A slot that a stand and a TAG name, not yet sent. -/
def Dev.mergeSlot? (d : Dev) (s tag : Nat) : Option MergeSlot := d.merges.find? fun m => m.stand == s && m.tag == tag

/-- A slot put in place of the one of its stand and TAG. -/
def Dev.putMerge (d : Dev) (m : MergeSlot) : Dev :=
  { d with merges := (d.merges.filter fun x => !(x.stand == m.stand && x.tag == m.tag)) ++ [m] }

/-- Room for one more slot: under 8,192, or a slot already sent gives its place (log 21). -/
def Dev.mergeRoom (d : Dev) : Option Dev :=
  if d.merges.length < 8192 then some d
  else match d.pick 7 (d.merges.filter (·.sent)) with
    | some m => some { d with merges := d.merges.erase m }
    | none => none

/-- Rows of a partial header: NQ × HEAD_CNT × GROUP. -/
def partRows (h : List Byte) : Nat := recNum h 34 2 * recNum h 31 1 * recNum h 32 1

/-- The rows of a partial record's body, and their dimension. -/
def bodyRows (rec : List Byte) : Nat × List Row :=
  let n := partRows rec
  let len := recNum rec 56 4
  if len = 0 ∨ n = 0 then (0, [])
  else
    let w := len / n
    let fp32 := (recNum rec 38 1).testBit 1
    let dim := if fp32 then (w - 8) / 4 else (w - 8) / 2
    (dim, (List.range n).map fun i =>
      if fp32 then readRow dim (recBytes rec (64 + i * w) w) else readRowBf dim (recBytes rec (64 + i * w) w))

/-- Fields in which a partial must equal the first one folded (R230). -/
def sameShape (a b : List Byte) : Bool :=
  recBytes a 0 16 == recBytes b 0 16 && recBytes a 28 5 == recBytes b 28 5 && recBytes a 34 2 == recBytes b 34 2

/-- A partial folded into a slot's accumulators (R225, R233, R234). -/
def MergeSlot.fold (m : MergeSlot) (k : Nat) (rec : List Byte) (size : Nat) : MergeSlot :=
  let (dim, rows) := bodyRows rec
  let acc := rows.zipIdx.foldl (fun (t : Tab Row) (r, i) =>
    Tab.set t i (mergeRow (k + 2 * i) (Tab.getD t i (emptyRow dim)) r)) m.rows
  let lo := recNum rec 16 8
  { m with first := some (m.first.getD (recBytes rec 0 64)), folded := m.folded + recNum rec 62 2, parts := m.parts + 1,
           tokLo := if m.first.isNone then lo else min m.tokLo lo, tokCnt := m.tokCnt + recNum rec 24 4,
           late := m.late || (recNum rec 38 1).testBit 0, status := worse m.status (recNum rec 33 1),
           dim := max m.dim dim, rows := acc, bytes := max m.bytes size }

/-! ## Sending a partial record (R223, R224) -/

/-- The connection over which a stand reaches a node: any OPEN one that is no cruise connection (free value; log 21). -/
def Dev.connTo (d : Dev) (s n : Nat) : Option Nat :=
  (d.pick 6 (d.conns.filter fun e => e.2.stand == s && e.2.peer == n && e.2.st == 2 && e.2.cruise.isNone)).map (·.1)

/-- A partial placed at an address of this device, when the checks of R289 pass: its tract and the device. -/
def Dev.placeLocal (d : Dev) (s : Nat) (key : BitVec 32) (off : Nat) (bs : List Byte) : Option (Nat × Tract × Dev) :=
  match d.checkKey s key tyPut true none with
  | .inl _ => none
  | .inr (i, t) =>
    if d.outOfBounds t tyPut true off bs.length off bs.length then none
    else some (i, t, if t.kind = 2 ∨ t.kind = 3 then d else d.tractWrite t off bs)

/-- A notice entry (17 Table 5, KIND 2). -/
def Dev.postNotice (d : Dev) (s node msgId conn : Nat) (key : BitVec 32) (len off opc tbl code : Nat) : Dev :=
  d.post s { tag := BitVec.ofNat 64 (node + msgId * 2 ^ 16 + conn * 2 ^ 32), r0 := BitVec.ofNat 64 (key.toNat + len * 2 ^ 32),
             r1 := BitVec.ofNat 64 off, kind := 2, opcode := opc, tbl := tbl, code := code }

/-- A read of a tract that finds a sector uncorrectable supplies zeros (14 Table 4, R709): a BUFFER's owner gets a notice entry with
status DATA_LOST, a weight region is lost, and a STAGE tract's read is one of the persistent region. -/
def Dev.badTract (d : Dev) (key : BitVec 32) (t : Tract) (off : Nat) : Dev :=
  let f := ((d.tractFrames t)[off / 65536]?).getD 0 + off % 65536 / 256
  if t.kind = 1 then d.raise (32 * t.cell + 2) ⟨.cell, t.cell⟩ [t.stand] 0
  else if t.kind = 6 then
    Dev.uncorrectable { d with weights := Tab.set d.weights t.stand ((Tab.getD d.weights t.stand ([], false)).1, true) } f [t.stand]
  else if t.kind = 8 then d.uncorrectable f []
  else (d.uncorrectable f [t.stand]).postNotice t.stand d.node 0 0 key 0 off 2 0 9

/-- The messages of a partial record that leaves over a connection (R224). -/
def Dev.sendParts (d : Dev) (j : PartJob) (body : List Byte) : Dev :=
  let n := d.partNext
  let total := j.head.length + body.length
  let d : Dev := { d with partNext := n + 1 }
  match d.connTo j.stand j.node with
  | none => d
  | some c =>
    if total ≤ 4194304 then
      let d : Dev := { d with parts := Tab.set d.parts n j }
      d.startMsg c (mkMsg tyPut 3 true j.key j.off (j.head ++ body) total (.whole n))
    else
      let k := ceilDiv body.length 4194304
      let d : Dev := { d with parts := Tab.set d.parts n { j with left := k } }
      (List.range k).foldl (fun d i =>
        let bs := (body.drop (4194304 * i)).take 4194304
        d.startMsg c (mkMsg tyPut 3 false j.key (j.off + 64 + 4194304 * i) bs bs.length (.body n))) d

/-- PARTIAL_HEADER_SEND: the header of a large partial record once every body message has received ACK DONE (R224). -/
def Dev.sendHeader (d : Dev) (n : Nat) : Dev :=
  match Tab.get? d.parts n with
  | none => d
  | some j =>
    if j.left ≠ 0 then d
    else if j.failed then { d with parts := Tab.del d.parts n }
    else match d.connTo j.stand j.node with
      | none => { d with parts := Tab.del d.parts n }
      | some c => d.startMsg c (mkMsg tyPut 3 true j.key j.off j.head j.head.length (.whole n))

/-- A message of a partial record ended (R224, R860). -/
def Dev.partEnded (d : Dev) (n : Nat) (body : Bool) (status : Nat) : Dev :=
  if body then { d with parts := Tab.upd d.parts n fun j => { j with left := j.left - 1, failed := j.failed || status != 0 } }
  else { d with parts := Tab.del d.parts n }

/-! ## A merge slot's record -/

/-- The header of a slot's record (R233, R234). -/
def Dev.mergeHead (d : Dev) (m : MergeSlot) (arm : List Byte) (reached : Bool) (bodyLen : Nat) : List Byte :=
  let f := m.first.getD (List.replicate 64 0#8)
  let fp32 := (recNum arm 60 1).testBit 1
  let late := m.late || (recNum arm 8 8 != 0 && recNum arm 8 8 < d.now)
  let st := if !reached then 9 else m.status
  recBytes f 0 16 ++ natLe 8 m.tokLo ++ natLe 4 m.tokCnt ++ recBytes f 28 5 ++ natLe 1 st ++ recBytes f 34 2 ++
    natLe 2 d.node ++ natLe 1 ((if late then 1 else 0) + (if fp32 then 2 else 0) + 32) ++ [0#8] ++ natLe 8 d.now ++
    natLe 8 m.tag ++ natLe 4 bodyLen ++ recBytes f 60 2 ++ natLe 2 m.folded

/-- A slot's record: header and body in the arm's format. -/
def Dev.mergeRec (d : Dev) (m : MergeSlot) (arm : List Byte) (reached : Bool) : List Byte × List Byte :=
  let fp32 := (recNum arm 60 1).testBit 1
  let body := m.rows.flatMap fun e => if fp32 then rowBytes e.2 else rowBytesBf e.2
  (d.mergeHead m arm reached body.length, body)

/-- A slot sends what it holds: its body is freed and its order completes with the merged status (R231; log 21). The
record that goes to this device itself is left for the caller to place: it is returned. -/
def Dev.mergeSend (d : Dev) (m : MergeSlot) (arm : List Byte) (reached : Bool) : Dev × Option (List Byte × List Byte) :=
  let (h, b) := d.mergeRec m arm reached
  let d := d.putMerge { m with sent := true, rows := [], bytes := 0 }
  let d := d.post m.stand { tag := BitVec.ofNat 64 (recNum arm 0 8), r0 := 0, r1 := 0, kind := 1, opcode := 0, tbl := 2,
                            code := recNum h 33 1 }
  let node := recNum arm 52 2
  if node = d.node then (d, some (h, b))
  else (d.sendParts ⟨m.stand, node, BitVec.ofNat 32 (recNum arm 40 4), recNum arm 24 8, h, 0, false, none⟩ b, none)

/-! ## Completed messages at their tracts (11 R551 to R555) -/

mutual
/-- A record that a merge produced or received on this device: a partial folded into the slots of its stand, its merged
records placed in turn, at most n of them. -/
def Dev.mergeIn (s : Nat) : Nat → List Byte → Dev → Dev
  | 0, _, d => d
  | n + 1, rec, d =>
    let tag := recNum rec 48 8
    match d.mergeSlot? s tag with
    | some m =>
      if m.sent then d.mergeDiscard s 1
      else if m.first.any fun f => !sameShape f rec then d.mergeDiscard s 1
      else
        let size := if recNum rec 56 4 = 0 then 0 else roundUp (partRows rec * (8 + 4 * (bodyRows rec).1)) 65536
        if m.bytes < size ∧ 8 * 2 ^ 30 < d.mergeBytes - m.bytes + size then d.mergeDiscard s 1
        else
          let m := m.fold d.freeCtr rec size
          let d : Dev := { d.putMerge m with freeCtr := d.freeCtr + 2 * partRows rec }
          (match m.arm with
          | some arm =>
            if recNum arm 54 2 ≤ m.folded then
              match d.mergeSend m arm true with
              | (d, none) => d
              | (d, some (h, b)) => Dev.placeRec s n (BitVec.ofNat 32 (recNum arm 40 4)) (recNum arm 24 8) h b d
            else d
          | none => d)
    | none =>
      match d.mergeRoom with
      | none => d.mergeDiscard s 1
      | some d => Dev.mergeIn s n rec (d.putMerge (MergeSlot.fresh s tag))

/-- A record placed at an address of this device, and what its notice does there. -/
def Dev.placeRec (s : Nat) : Nat → BitVec 32 → Nat → List Byte → List Byte → Dev → Dev
  | 0, _, _, _, _, d => d
  | n + 1, key, off, h, b, d =>
    match d.placeLocal s key off (h ++ b) with
    | none => d
    | some (_, t, d) =>
      if t.kind = 5 then Dev.mergeIn s n (h ++ b) d
      else if t.kind = 2 then (if d.replyOk s (h ++ b) then d.enterRing s 3 (h ++ b) else d)
      else d.postNotice s d.node 0 0 key (h.length + b.length) off 1 0 0
end

/-- A partial record of this device on its way: placed here when its address lies on the device, else sent (R223). Its
latency ends at once in the first case (12 R620). -/
def Dev.sendRecord (d : Dev) (j : PartJob) (body : List Byte) : Dev :=
  if j.node = d.node then (Dev.placeRec j.stand (2 * d.merges.length + 4) j.key j.off j.head body d).partLeft j
  else d.sendParts j body

/-- MERGE_DEADLINE: an armed slot that has not reached its PARTS at its deadline and the grace after it (R231). -/
def Dev.mergeDeadline (d : Dev) (s tag : Nat) : Dev :=
  match d.mergeSlot? s tag with
  | none => d
  | some m => match m.arm with
    | none => d
    | some arm =>
      if m.sent ∨ d.now < recNum arm 8 8 + d.sfld s 0x300 47 32 * 1000 then d
      else match d.mergeSend m arm false with
        | (d, none) => d
        | (d, some (h, b)) => Dev.placeRec s (2 * d.merges.length + 4) (BitVec.ofNat 32 (recNum arm 40 4)) (recNum arm 24 8) h b d

/-- MERGE_HOLD_EXPIRY: a slot not armed in time is freed (R232). -/
def Dev.mergeExpire (d : Dev) (s tag : Nat) : Dev :=
  match d.mergeSlot? s tag with
  | none => d
  | some m =>
    if m.arm.isSome then d else Dev.mergeDiscard { d with merges := d.merges.erase m } s m.parts

/-- A MERGE_ARM work order (R229, R231): a slot armed, or NO_SLOT. A slot already sent opens anew (log 21). -/
def Dev.mergeArm (d : Dev) (s : Nat) (arm : List Byte) : Dev :=
  let tag := recNum arm 0 8
  let d := match d.mergeSlot? s tag with
    | some m => if m.sent then { d with merges := d.merges.erase m } else d
    | none => d
  let put (d : Dev) (m : MergeSlot) : Dev :=
    let m := { m with arm := some arm }
    let d := d.putMerge m
    if m.folded ≠ 0 ∧ recNum arm 54 2 ≤ m.folded then
      match d.mergeSend m arm true with
      | (d, none) => d
      | (d, some (h, b)) => Dev.placeRec s (2 * d.merges.length + 4) (BitVec.ofNat 32 (recNum arm 40 4)) (recNum arm 24 8) h b d
    else d
  match d.mergeSlot? s tag with
  | some m => put d m
  | none => match d.mergeRoom with
    | some d => put d (MergeSlot.fresh s tag)
    | none => d.post s { tag := BitVec.ofNat 64 tag, r0 := 0, r1 := 0, kind := 1, opcode := 0, tbl := 2, code := 11 }

/-- What a message does at its tract as it completes (R551 to R555): NAK code or 0. The bytes are those of a RING or WORKQ
message; other tracts hold theirs already. -/
def Dev.deliver (d : Dev) (s : Nat) (t : Tract) (key : BitVec 32) (base len cls : Nat) (bytes : List Byte) (notice : Bool)
    (node msgId conn : Nat) : Nat × Dev :=
  if t.kind = 2 then (if d.replyOk s bytes then (0, d.enterRing s cls bytes) else (10, d))
  else if t.kind = 3 then (if d.wreplyOk s bytes then (0, d.enterWq s cls bytes) else (10, d))
  else if !notice then (0, d)
  else if t.kind = 5 then
    let h := d.tractRead t base 64
    let n := recNum h 56 4
    if (len ≠ 64 ∧ len ≠ 64 + n) ∨ d.tractLen t < base + 64 + n then (0, d.mergeDiscard s 1)
    else (0, Dev.mergeIn s (2 * d.merges.length + 4) (d.tractRead t base (64 + n)) d)
  else (0, d.postNotice s node msgId conn key len base 1 0 0)

end Sys2Proof.Machine
end

