-- ==== Sys2Proof/Machine/Rx.lean ====
section
/-!
DEFINITION. Priol packets received: forwarding, verification, residency, the request checks, placement and answers (11 R518 to
R573; 13 R668 to R677).
-/
namespace Sys2Proof.Machine

/-! ## The end of a connection -/

/-- Every outbound message of a connection failed with CONN_CLOSED (R860). -/
def Dev.failAll (d : Dev) (x : Conn) : Dev := x.tx.foldl (fun d m => d.endMsg m.who (0x100 + 21)) d

/-- A context freed: its messages fail, its inbound messages are abandoned, its parked packets go. -/
def Dev.freeConn (d : Dev) (c : Nat) : Dev :=
  match d.conn? c with
  | none => d
  | some x =>
    let d := d.failAll x
    let d : Dev := { d with conns := Tab.del d.conns c }
    match x.closeCmd with
    | some (s, tag) => d.postCmd s tag 0x11 0 0 0 0
    | none => d

/-- A CONN packet of this device (Table 8). -/
def Dev.sendConn (d : Dev) (s c peer dstConn op reason : Nat) (join epoch : BitVec 32) : Dev :=
  let r := d.header peer 0 dstConn c false false false 0
  let k := mkPkt tyConn r (.conn op ⟨BitVec.ofNat 8 reason, 0, join, epoch, 0⟩)
  match d.wayOut s c peer r.path.toNat 0 with
  | some p => d.took.enqueue p ⟨k, s, c, false⟩ false
  | none => d.took

/-! ## Violations (R571 to R573) -/

/-- A packet dropped from an unverified source (R572). -/
def Dev.dropUnverified (d : Dev) (p : Nat) : Dev := d.incSat .port p 0x28 31 0 1

/-- An entry of the violation log (Table 15). -/
def Dev.vlog (d : Dev) (src c p ty code : Nat) : Dev :=
  let n := d.fld .port 0 0x8400 31 0
  let i := n % 64
  let d := d.wr .port 0 (0x8800 + 16 * i) (BitVec.ofNat 64 d.now)
  let d := d.wr .port 0 (0x8808 + 16 * i)
    (BitVec.ofNat 64 (src * 2 ^ 48 + c * 2 ^ 32 + p * 2 ^ 28 + ty * 2 ^ 24 + code * 2 ^ 16))
  d.incWrap .port 0 0x8400 31 0 1

/-- A violation counted, logged and, when it counts toward the rate, held against VIOL_MAX (R571, R573). -/
def Dev.violation (d : Dev) (p c ty code : Nat) (rate : Bool) : Dev :=
  match d.conn? c with
  | none => d
  | some x =>
    let d := (d.incSat .port p 0x30 31 0 1).vlog x.peer c p ty code
    let iv := d.now / 1000000
    let n := if x.violInt = iv then x.violCnt else 0
    let n := if rate then n + 1 else n
    let d := d.setConn c { x with viol := satAt 32 (x.viol + 1), violInt := iv, violCnt := n }
    if rate ∧ d.fld .port 0 0x9000 63 48 < n ∧ x.st ≠ 4 then
      let d := d.modConn c fun x => { x with st := 4 }
      let d := d.sendConn x.stand c x.peer x.peerConn 3 2 x.join 0
      d.raise (0x383 + 4 * x.stand) ⟨.port, p⟩ [x.stand] (BitVec.ofNat 64 c)
    else d

/-- True for a NAK code of Table 13 that counts toward the rate. -/
def countsRate (code : Nat) : Bool := code != 5 && code != 11

/-- A request refused by a check of Table 13: counted and answered. -/
def Dev.refuse (d : Dev) (p c : Nat) (x : Conn) (k : Pkt) (idx : Nat) (r : Refused) : Dev :=
  (d.violation p c k.ty.toNat r.code (countsRate r.code)).nakPkt x.stand c k r.code idx r.info

/-! ## Acknowledgements (R546 to R548) -/

/-- An ACK of this device for a message. -/
def Dev.sendAck (d : Dev) (c : Nat) (x : Conn) (n tc : Nat) (done : Bool) (ece : Bool) (base bits : Nat) : Dev :=
  d.reply x.stand c tyAck (d.header x.peer tc x.peerConn c false ece false 0)
    (.rsp ⟨BitVec.ofNat 16 n, if done then 1 else 0, 0, BitVec.ofNat 32 base, BitVec.ofNat 64 bits⟩)

/-- The packets of a message placed and not yet acknowledged, acknowledged in runs of 64. -/
def Dev.ackRuns (d : Dev) (c : Nat) (x : Conn) (n tc : Nat) (done ece : Bool) : Nat → List Nat → Dev
  | 0, _ => d
  | f + 1, ids =>
    let base := ids.min?.getD 0
    let now := ids.filter fun i => i < base + 64
    let rest := ids.filter fun i => base + 64 ≤ i
    let d := d.sendAck c x n tc (done && rest.isEmpty) ece base (bitsMask (now.map fun i => i - base))
    if rest.isEmpty then d else Dev.ackRuns d c x n tc done ece f rest

/-- An inbound message replaced. -/
def Dev.setRx (d : Dev) (c : Nat) (m : InMsg) : Dev :=
  d.modConn c fun x => { x with rx := x.rx.map fun y => if y.n == m.n then m else y }

/-- Acknowledgement now of what a message has unacknowledged. -/
def Dev.ackNow (d : Dev) (c : Nat) (m : InMsg) (done : Bool) : Dev :=
  match d.conn? c with
  | none => d
  | some x =>
    let d := d.ackRuns c x m.n m.tc done m.ece (m.unacked.length + 1) m.unacked
    d.setRx c { m with unacked := [], ece := false }

/-- A message finished: completed or abandoned; the window base passes every finished message (R546). -/
def Dev.finish (d : Dev) (c n : Nat) (completed : Bool) : Dev :=
  d.modConn c fun x =>
    let fin := Tab.set x.fin n completed
    let base := x.rxBase + ((List.range 65).takeWhile fun i => Tab.has fin (x.rxBase + i)).length
    { x with rx := x.rx.filter fun m => m.n != n, fin := fin.filter fun e => base ≤ e.1 + 64, rxBase := base }

/-- A message that has all its bytes and waits for no mirror write: delivered, acknowledged with DONE and finished; one
whose reply check fails is answered BAD_REPLY in place of DONE and retired as complete (R547, R554, R556). -/
def Dev.tryComplete (d : Dev) (p c n : Nat) (k : Pkt) : Dev :=
  match d.conn? c with
  | none => d
  | some x => match x.rx.find? fun m => m.n == n with
    | none => d
    | some m =>
      if m.count < m.len ∨ !m.mirrors.isEmpty ∨ m.ty = tyGet ∨ m.ty = tyAtom then d
      else if m.ty = tyLand ∨ m.ty = tyCtrl then (d.ackNow c m true).finish c n true
      else match d.tract? (keyIndex m.key) with
        | none => d
        | some t =>
          if t.st ≠ .active then d
          else
            let bytes := m.held.flatMap (·.2)
            let d := d.setRx c { m with space := 0 }
            let r := d.deliver x.stand t m.key m.base.toNat m.len m.tc bytes m.notice x.peer (n % 65536) c
            if r.1 = 0 then (r.2.ackNow c { m with space := 0 } true).finish c n true
            else ((r.2.violation p c m.ty r.1 (countsRate r.1)).nakPkt x.stand c k r.1 0 0).finish c n true

/-- A packet placed: its bit set, its bytes counted, its acknowledgement due (R547, R548). -/
def Dev.placed (d : Dev) (p c : Nat) (m : InMsg) (k : Pkt) (idx plen : Nat) : Dev :=
  let m := { m with got := m.got ++ [idx], count := m.count + plen, unacked := m.unacked ++ [idx], ece := m.ece || k.r.ce }
  let d := d.setRx c m
  let d := d.tryComplete p c m.n k
  match (d.conn? c).bind fun x => x.rx.find? fun y => y.n == m.n with
  | some m => if 8 ≤ m.unacked.length then d.ackNow c m false else d
  | none => d

/-! ## Requests (R538, R546, R550, R571) -/

/-- Absolute number of a MSG_ID at a receiver: inside the window, finished and carried before, or neither (R546). -/
def Conn.absId (x : Conn) (id : Nat) : Option Nat :=
  let up := (id + 65536 - x.rxBase % 65536) % 65536
  if up < 64 then some (x.rxBase + up)
  else
    let back := 65536 - up
    if back ≤ 64 ∧ back ≤ x.rxBase then some (x.rxBase - back) else none

/-- The sequence that a LAND names on a stand: key, profile, set, tier, and whether it is a copy. -/
def Dev.landSeq (d : Dev) (s : Nat) (handle : W64) : Option (Nat × Profile) :=
  let key := seqKey s handle.toNat
  (d.seqProfile? key).map fun p => (key, p)

/-- Packet index of a request (R517, R549). -/
def Dev.pktIndex (d : Dev) (s ty : Nat) (h : ReqHdr) : Nat :=
  if ty = tyLand then
    match d.landSeq s h.offset with
    | some (_, p) => h.msgOff.toNat / max 1 (landSecs p (bits h.arg 15 8)).2
    | none => 0
  else h.msgOff.toNat / 4096

/-- Check 1 of Table 13, after VER: header fields. -/
def Dev.badHeader (d : Dev) (s ty : Nat) (r : Route) (h : ReqHdr) (data : List Byte) : Bool :=
  let tc := r.tc.toNat
  let off := h.msgOff.toNat
  let plen := h.plen.toNat
  let len := h.msgLen.toNat
  let argBad := if ty = tyAtom then bits h.arg 63 10 != 0 else if ty = tyLand then false else h.arg != 0
  let tcBad := if ty = tyCtrl then tc != 0 else if ty = tyLand then tc != 4 && tc != 5 else tc < 2
  r.ver != 1 || r.rsv || argBad || tcBad || (ty == tyCtrl && (h.offset != 0 || r.epoch != 0)) ||
  (ty != tyLand && off % 4096 != 0) || len < off + plen ||
  data.length != (if ty = tyGet then 0 else plen) || (r.notice && (ty == tyLand || ty == tyGet || ty == tyAtom)) ||
  (ty == tyLand && match d.landSeq s h.offset with
    | none => false
    | some (_, p) =>
      let n := bits h.arg 31 16
      let st := bits h.arg 15 8
      let ps := (landSecs p st).2
      n == 0 || st < n || st == 0 || 4096 < ps || plen != (landSecs p n).2 || off % max 1 ps != 0 ||
      (n < st && off + plen != len))

/-- Checks 1 to 4 of Table 13: the absolute number of the message, or why the request is refused. -/
def Dev.checkHead (d : Dev) (x : Conn) (ty : Nat) (r : Route) (h : ReqHdr) (data : List Byte) : Refused ⊕ Nat :=
  if d.badHeader x.stand ty r h data then .inl ⟨1, 0⟩
  else if ty = tyAtom ∧ 6 ≤ bits h.arg 9 0 then .inl ⟨2, 0⟩
  else if 4096 < h.plen.toNat ∨ 4194304 < h.msgLen.toNat ∨ (ty = tyAtom ∧ h.plen ≠ 16) ∨ (ty = tyNote ∧ h.plen ≠ 8) then
    .inl ⟨9, 0⟩
  else match x.absId h.msgId.toNat with
    | none => .inl ⟨8, 0⟩
    | some n => .inr n

/-- The open message of a packet, opened by the first packet that passes check 4 (log 22). -/
def Dev.openRx (d : Dev) (c n ty : Nat) (r : Route) (h : ReqHdr) : InMsg × Dev :=
  match (d.conn? c).bind fun x => x.rx.find? fun m => m.n == n with
  | some m => (m, d)
  | none =>
    let m : InMsg := { n := n, ty := ty, len := h.msgLen.toNat, notice := r.notice || ty == tyNote, key := h.key,
                       base := h.offset - h.msgOff.setWidth 64, got := [], count := 0, unacked := [], ece := false,
                       tc := r.tc.toNat, held := [], space := 0, mirrors := [] }
    (m, d.modConn c fun x => { x with rx := x.rx ++ [m], rxTop := max x.rxTop (n + 1) })

/-- A packet of a finished message (R546); a held ATOM result is sent again (R557). -/
def Dev.dupFinished (d : Dev) (c : Nat) (x : Conn) (n idx : Nat) (k : Pkt) : Dev :=
  if k.ty = BitVec.ofNat 4 tyAtom then
    match x.atoms.find? fun a => a.1 == n with
    | some (_, v) => d.reply x.stand c tyArsp (d.header x.peer k.r.tc.toNat x.peerConn c false k.r.ce false 0)
        (.rsp ⟨BitVec.ofNat 16 n, 0, 0, 0, v⟩)
    | none => d.sendAck c x n k.r.tc.toNat true k.r.ce idx 1
  else match Tab.get? x.fin n with
    | some true => d.sendAck c x n k.r.tc.toNat true k.r.ce idx 1
    | _ => d.nakPkt x.stand c k 22 idx 0

/-- A retry-after hint in ns: a free value, at least 1,000 (log 22). -/
def Dev.retryHint (d : Dev) : Nat := 1000 + d.nth 9 % 1000000

/-- GRSP packets for a GET request: one, of the range asked for (R541). -/
def Dev.sendGrsp (d : Dev) (c : Nat) (x : Conn) (k : Pkt) (h : ReqHdr) (data : List Byte) : Dev :=
  d.reply x.stand c tyGrsp (d.header x.peer k.r.tc.toNat x.peerConn c false k.r.ce false 0)
    (.req { h with key := 0, offset := 0, arg := 0 } data)

/-- An ATOM answered: its result is kept, and it is finished (R557). -/
def Dev.answerAtom (d : Dev) (c n tc : Nat) (ece : Bool) (old : W64) : Dev :=
  match d.conn? c with
  | none => d
  | some x =>
    let d := d.setConn c { x with atoms := ((n, old) :: x.atoms).take 64 }
    (d.reply x.stand c tyArsp (d.header x.peer tc x.peerConn c false ece false 0) (.rsp ⟨BitVec.ofNat 16 n, 0, 0, 0, old⟩)).finish c n true

/-- Mirror writes of bytes placed in a BUFFER tract, and the numbers that a synchronous message waits for. -/
def Dev.mirPlaced (d : Dev) (ti : Nat) (t : Tract) (off : Nat) (bs : List Byte) : List Nat × Dev :=
  if t.mode = 0 ∨ t.mkey.isNone then ([], d)
  else
    let r := d.mirBuffer ti off bs
    if t.mode = 1 then r else ([], r.2)

/-- A PUT or NOTE that passed the checks, placed by its tract's kind: NAK code and INFO, or the message and the device. -/
def Dev.placePut (d : Dev) (c ti : Nat) (t : Tract) (m : InMsg) (h : ReqHdr) (data : List Byte) : (Nat × Nat × Dev) ⊕ (InMsg × Dev) :=
  if t.kind = 2 ∨ t.kind = 3 then
    let need := if m.space = 0 then m.len else 0
    if (t.kind = 2 ∧ 1048576 < d.ringUsed t.stand + need) ∨ (t.kind = 3 ∧ 4096 < d.wqUsed t.stand + need / 64) then
      .inl (15, d.retryHint, d.took)
    else
      let m := { m with space := m.len, held := Tab.set m.held h.msgOff.toNat data }
      .inr (m, d.setRx c m)
  else if t.kind = 7 then
    let r := d.mirTake ti t data
    if r.1 = 0 then .inr (m, r.2) else .inl (r.1, if nakRetries r.1 then d.retryHint else 0, r.2.took)
  else
    let d := d.tractWrite t h.offset.toNat data
    let r := d.mirPlaced ti t h.offset.toNat data
    let m := { m with mirrors := m.mirrors ++ r.1 }
    .inr (m, r.2.setRx c m)

/-- What becomes of a LAND through a mirrored tract before it is placed (13 R669, R670): a NAK code, or 0. -/
def Dev.landMirror (d : Dev) (ti : Nat) (t : Tract) (key : Nat) (pr : Profile) : Nat × Nat × Dev :=
  if t.mode = 0 ∨ t.mkey.isNone ∨ t.kind ≠ 4 then (0, 0, d)
  else match Tab.get? d.mirSeqs key with
    | some m =>
      if m.st = 1 then (0, 0, d)
      else if m.st = 2 then (17, 0, { d with mirSeqs := Tab.del d.mirSeqs key })
      else (13, 2000, d)
    | none => match d.entry key with
      | none => (18, 0, d)
      | some v =>
        if (d.setPages (dvSet v)).length ≠ 0 then (17, 0, d)
        else
          let arg := dvClass v * 2 ^ 28 + dvProfile v * 2 ^ 25 + dvTier v * 2 ^ 23 + (if dvNoDemote v then 2 ^ 22 else 0)
          let d : Dev := { d with mirSeqs := Tab.set d.mirSeqs key ⟨ti, 0, t.sendNext⟩ }
          let r := d.mirWrite ti 1 0 0 (keyHandle key) arg (profileRecord pr)
          (13, 2000, r.2)

/-- A LAND that passed the checks (R550): NAK code and INFO, or the mirror writes that its message waits for. -/
def Dev.placeLand (d : Dev) (ti : Nat) (t : Tract) (h : ReqHdr) (data : List Byte) : (Nat × Nat × Dev) ⊕ (List Nat × Dev) :=
  let key := seqKey t.stand h.offset.toNat
  let l := bits h.arg 7 0
  let first := bits h.arg 63 32
  let n := bits h.arg 31 16
  if t.kind = 7 then
    let r := d.copyLand key l first n data
    if r.1 = 0 then .inr ([], r.2) else .inl (r.1, if nakRetries r.1 then d.retryHint else 0, r.2.took)
  else match d.entry key, d.seqProfile? key with
    | some v, some pr =>
      let st := bits v 63 61
      if st = stYarded ∨ st = stRestoring ∨ st = stQuar then .inl (17, 0, d)
      else match d.landMirror ti t key pr with
        | (0, _, d) =>
          let mir := d.seqMirror key
          let r := d.land pr key (dvSet v) (dvTier v) l mir.isSome (landToks pr first n data)
          if r.code = 14 then .inl (14, d.retryHint, r.dev.took)
          else
            let (ns, d) := match mir, r.toks with
              | some mi, _ :: _ =>
                if ((d.tract? mi).map (·.mode)) = some 1 then
                  let x := r.dev.mirLand mi h.offset h.arg data
                  ([x.1], x.2)
                else r.dev.mirTokens mi key l pr r.toks
              | _, _ => ([], r.dev)
            let ns := if t.mode = 1 then ns else []
            if r.code = 0 then .inr (ns, d) else .inl (r.code, 0, d)
        | (code, info, d) => .inl (code, info, d)
    | _, _ => .inl (18, 0, d)

/-- A request that passed check 4 on an open message: the rest of the checks, then its effect (R538, R547). -/
def Dev.admitReq (d : Dev) (p c n : Nat) (x : Conn) (k : Pkt) (h : ReqHdr) (data : List Byte) : Dev :=
  let ty := k.ty.toNat
  let idx := d.pktIndex x.stand ty h
  let (m, d) := d.openRx c n ty k.r h
  if m.got.contains idx ∧ ty ≠ tyGet then
    if ty = tyAtom then d else
    let m := { m with unacked := m.unacked.erase idx ++ [idx], ece := m.ece || k.r.ce }
    (d.setRx c m).ackNow c m false
  else match d.checkKey x.stand h.key ty k.r.notice (some k.r.epoch.toNat) with
    | .inl r => d.refuse p c x k idx r
    | .inr (ti, t) =>
      let plen := h.plen.toNat
      let layerBad := match d.landSeq x.stand h.offset with
        | some (_, pr) => pr.layers ≤ bits h.arg 7 0
        | none => false
      let oob := if ty = tyLand then layerBad
        else d.outOfBounds t ty k.r.notice h.offset.toNat plen m.base.toNat m.len
      if t.kind = 8 ∧ (x.cruise.isNone ∨ x.peer ≠ t.partner) then d.refuse p c x k idx ⟨3, 0⟩
      else if oob then d.refuse p c x k idx ⟨6, 0⟩
      else if t.mode = 2 ∧ t.kind ≠ 7 ∧ ty ≠ tyGet ∧ d.mirLate x.stand then d.mirHeld.nakPkt x.stand c k 13 idx 2000
      else if ty = tyGet then
        if d.doing.badRead ∧ t.kind = 8 then (d.badTract h.key t h.offset.toNat).nakPkt x.stand c k 22 idx 0 else
        let d := if d.doing.badRead then (d.badTract h.key t h.offset.toNat).sendGrsp c x k h (List.replicate plen 0#8)
          else d.sendGrsp c x k h (d.tractRead t h.offset.toNat plen)
        let m := { m with got := m.got ++ (if m.got.contains idx then [] else [idx]),
                          count := m.count + (if m.got.contains idx then 0 else plen) }
        let d := d.setRx c m
        if m.len ≤ m.count then d.finish c n true else d
      else if ty = tyAtom then
        let (old, d) := d.atomic t h.offset.toNat (bits h.arg 9 0) data
        let r := d.mirPlaced ti t h.offset.toNat (d.tractRead t h.offset.toNat 8)
        if r.1.isEmpty then r.2.answerAtom c n k.r.tc.toNat k.r.ce old
        else
          let d := r.2.modTract ti fun t => { t with inflight := t.inflight + 1 }
          d.setRx c { m with got := [idx], mirrors := r.1, held := [(old.toNat, [])], ece := k.r.ce }
      else if ty = tyLand then
        (match d.placeLand ti t h data with
        | .inl (code, info, d) => d.nakPkt x.stand c k code idx info
        | .inr (ns, d) => d.placed p c { m with mirrors := m.mirrors ++ ns } k idx plen)
      else match d.placePut c ti t m h data with
        | .inl (code, info, d) =>
          if code = 2 then d.refuse p c x k idx ⟨2, 0⟩ else d.nakPkt x.stand c k code idx info
        | .inr (m, d) => d.placed p c m k idx plen

/-- A CTRL packet that passed checks 1 to 4: taken for the cruise engine (13 R631). One that is not a whole message, or holds
no cruise header, is refused as a bad length, and one on a connection of another stand as a bad type (log 27). -/
def Dev.takeCtrl (d : Dev) (p c n : Nat) (x : Conn) (k : Pkt) (h : ReqHdr) (data : List Byte) : Dev :=
  if x.stand ≠ 0 then d.refuse p c x k 0 ⟨2, 0⟩
  else if h.key ≠ 0 then d.refuse p c x k 0 ⟨3, 0⟩
  else if h.plen.setWidth 32 ≠ h.msgLen ∨ data.length < 16 then d.refuse p c x k 0 ⟨9, 0⟩
  else
    let (m, d) := d.openRx c n tyCtrl k.r h
    let d := d.placed p c m k 0 h.plen.toNat
    { d with cruiseIn := d.cruiseIn ++ [(p, data)] }

/-- A checked request packet of message n, for the packet index idx: a finished message, a closing connection, a cruise message, or
admission (R540, R543, R560). -/
def Dev.serveMsg (d : Dev) (p c : Nat) (x : Conn) (k : Pkt) (h : ReqHdr) (data : List Byte) (idx n : Nat) : Dev :=
  if n < x.rxBase ∨ Tab.has x.fin n then d.dupFinished c x n idx k
  else if x.st = 3 ∧ !(x.rx.any fun m => m.n == n) then d.nakPkt x.stand c k 21 idx 0
  else if k.ty.toNat = tyCtrl then d.takeCtrl p c n x k h data
  else d.admitReq p c n x k h data

/-- A request from a verified source whose context is on chip. -/
def Dev.serveReq (d : Dev) (p c : Nat) (x : Conn) (k : Pkt) (h : ReqHdr) (data : List Byte) : Dev :=
  let ty := k.ty.toNat
  let idx := d.pktIndex x.stand ty h
  (d.checkHead x ty k.r h data).elim (d.refuse p c x k idx) (d.serveMsg p c x k h data idx)

/-! ## Responses -/

/-- GRSP: bytes of a get placed at their destination; the last one ends the message (R560, R565). -/
def Dev.takeGrsp (d : Dev) (c : Nat) (r : Route) (h : ReqHdr) (data : List Byte) : Dev :=
  match (d.conn? c).bind fun x => x.msg? h.msgId.toNat with
  | none => d
  | some m =>
    let i := h.msgOff.toNat / 4096
    if m.ty ≠ tyGet ∨ !(m.pkts[i]?.any fun p => !p.got && p.len == data.length) then d
    else
      let d := d.ackPkt c m i r.ece
      let d := match m.who with
        | .thread t tok op dst =>
          (match Tab.get? (d.thr t).toks tok with
          | some k => if k.kind = TokKind.remote op then d.stageWrite (t / 32) (dst + h.msgOff.toNat) data else d
          | none => d)
        | .lent id =>
          let migrs := d.migrs.map fun (g : Migr) =>
            if g.id == id then { g with tile := recPut (recBytes g.tile 0 m.len) h.msgOff.toNat data } else g
          { d with migrs := migrs }
        | _ => d
      match (d.conn? c).bind fun x => x.msg? h.msgId.toNat with
      | none => d
      | some m => if m.pkts.all (·.got) then (d.dropMsg c m 0).pump c else d.pump c

/-- ARSP: the old value of an atomic, written to byte 0 of the operand block (R560; 07 R364). -/
def Dev.takeArsp (d : Dev) (c : Nat) (r : Route) (h : RspHdr) : Dev :=
  match (d.conn? c).bind fun x => x.msg? h.msgId.toNat with
  | none => d
  | some m =>
    if m.ty ≠ tyAtom then d
    else
      let d := d.ackPkt c m 0 r.ece
      let d := match m.who with
        | .thread t tok op dst =>
          (match Tab.get? (d.thr t).toks tok with
          | some k => if k.kind = TokKind.remote op then d.stageWrite (t / 32) dst (natLe 8 h.info.toNat) else d
          | none => d)
        | _ => d
      (d.dropMsg c m 0).pump c

/-! ## Arrival (R518 to R522, R526, R531 to R533, R569, R572) -/

/-- A packet forwarded, answered by HOP_LIMIT or NO_ROUTE in its destination's place (log 22), or held upstream for want of
a buffer (R518, R521, R568). -/
def Dev.forward (d : Dev) (p : Nat) (k : Pkt) : Dev :=
  let lim := d.fld .port 0 0x8000 3 0
  let answer (d : Dev) (code : Nat) : Dev :=
    match k.body with
    | .req h _ =>
      if isRequest k.ty.toNat then
        let r := { d.header k.r.srcNode.toNat k.r.tc.toNat k.r.srcConn.toNat k.r.dstConn.toNat false false false 0 with
                   srcNode := k.r.dstNode }
        d.reply 32 k.r.tc.toNat tyNak r
          (.rsp ⟨h.msgId, BitVec.ofNat 8 code, 0, BitVec.ofNat 32 (h.msgOff.toNat / 4096), BitVec.ofNat 64 d.node⟩)
      else d
    | _ => d
  if lim ≤ k.r.hops.toNat then answer (d.incSat .port p 0x28 63 48 1) 19
  else if d.bufFree = 0 then d
  else match d.route k.r.dstNode.toNat k.r.path.toNat k.r.tc.toNat with
    | none => answer d 20
    | some q => d.enqueue q ⟨{ k with r := { k.r with hops := k.r.hops + 1 } }, 32, k.r.tc.toNat, false⟩ false

/-- The context of a packet from a verified source (R526). -/
def Dev.verified (d : Dev) (r : Route) : Option Conn :=
  (d.conn? r.dstConn.toNat).bind fun x =>
    if (x.st = 2 ∨ x.st = 3) ∧ x.peer = r.srcNode.toNat ∧ x.peerConn = r.srcConn.toNat then some x else none

/-- A fetch of a context begun, from service or host memory (R532). -/
def Dev.fetchCtx (d : Dev) (c : Nat) (x : Conn) : Dev :=
  if x.res = 3 then d
  else
    let d1 := d.setConn c { x with res := 3 }
    if x.res = 2 then
      d1.issueDma 0 (.ctxFetch c) fun i => .dmaRead 0 i (d.fld .port 0 0x9018 63 12 * 4096 + 256 * c) 256
    else d1

/-- A packet whose context is not on chip: parked, or answered NOT_RESIDENT (R532, R533). -/
def Dev.park (d : Dev) (p c : Nat) (x : Conn) (k : Pkt) (idx : Nat) : Dev :=
  if d.bufOk x.stand then
    let d := d.fetchCtx c x
    d.modConn c fun x => { x with parked := x.parked ++ [⟨p, k⟩] }
  else d.took.nakPkt x.stand c k 12 idx d.retryHint

/-- A packet for a context on chip. -/
def Dev.servePkt (d : Dev) (p c : Nat) (x : Conn) (k : Pkt) : Dev :=
  match k.body with
  | .req h data => if k.ty.toNat = tyGrsp then d.takeGrsp c k.r h data else d.serveReq p c x k h data
  | .rsp h =>
    if k.ty.toNat = tyAck then d.takeAck c k.r h
    else if k.ty.toNat = tyNak then d.takeNak c h
    else if k.ty.toNat = tyArsp then d.takeArsp c k.r h
    else d
  | _ => d

/-- Packet index of a packet, for a NAK. -/
def Dev.idxOf (d : Dev) (s : Nat) (k : Pkt) : Nat := match k.body with
  | .req h _ => d.pktIndex s k.ty.toNat h
  | _ => 0

/-- An eviction cancelled by a packet for its context (R531). -/
def Dev.touchConn (d : Dev) (c : Nat) : Dev :=
  d.modConn c fun x => { x with seen := d.up, evict := none, res := if x.evict.isSome then 1 else x.res }

/-- The common part of an arrival: the port must carry the class, a packet for another node is forwarded, a bad ICRC is
dropped. f is what a packet for this node does. -/
def Dev.arrive (d : Dev) (p : Nat) (k : Pkt) (f : Dev → Dev) : Dev :=
  if !d.portActive p || d.halted then d
  else if !d.portCarries p k.r.tc.toNat then d.dropUnverified p
  else if k.r.dstNode.toNat ≠ d.node then (if k.ty.toNat = tyTime then d else d.forward p k)
  else if !k.icrcOk then d.incSat .port p 0x28 47 32 1
  else f d

/-- A packet of a type other than CONN and TIME that arrives for this node. -/
def Dev.rxPkt (d : Dev) (p : Nat) (k : Pkt) : Dev :=
  d.arrive p k fun d =>
    match d.verified k.r with
    | none => d.dropUnverified p
    | some _ =>
      let c := k.r.dstConn.toNat
      let d := d.touchConn c
      match d.conn? c with
      | none => d
      | some x =>
        if x.res ≠ 0 then d.park p c x k (d.idxOf x.stand k)
        else if !d.bufOk x.stand then d.nakPkt x.stand c k 13 (d.idxOf x.stand k) 2000
        else d.servePkt p c x k

/-- A request packet of a type (Table 3). -/
def reqPkt (ty : Nat) (r : Route) (h : ReqHdr) (data : List Byte) (icrc : BitVec 32) : Pkt := ⟨BitVec.ofNat 4 ty, r, .req h data, icrc⟩

/-- A response packet of a type. -/
def rspPkt (ty : Nat) (r : Route) (h : RspHdr) (icrc : BitVec 32) : Pkt := ⟨BitVec.ofNat 4 ty, r, .rsp h, icrc⟩

/-! ## Timers of messages and contexts -/

/-- ACK_TIMER: 1 µs after a placement its packets are acknowledged (R548). -/
def Dev.ackTimer (d : Dev) (c n : Nat) : Dev :=
  match (d.conn? c).bind fun x => x.rx.find? fun m => m.n == n with
  | some m => if m.unacked.isEmpty then d else d.ackNow c m false
  | none => d

/-- MESSAGE_TIMEOUT: an inbound message abandoned; so is one of which nothing arrived while a later one has (R559; log 22). -/
def Dev.msgTimeout (d : Dev) (c n : Nat) : Dev :=
  match d.conn? c with
  | none => d
  | some x =>
    if n < x.rxBase ∨ x.rxTop ≤ n ∨ Tab.has x.fin n then d
    else if x.rx.any fun m => m.n == n && m.len ≤ m.count then d
    else d.finish c n false

/-- CONTEXT_EVICT: an idle context goes to the host area (R530). -/
def Dev.evictCtx (d : Dev) (c : Nat) : Dev :=
  match d.conn? c with
  | none => d
  | some x =>
    let cfg := d.rd .port 0 0x9000
    if !bitAt cfg 15 ∨ x.res = 2 ∨ x.res = 3 ∨ x.evict.isSome ∨ !x.rx.isEmpty ∨ (x.tx.any fun m => m.unacked) ∨ x.st ≠ 2 ∨
      d.fld .port 0 0x9020 24 0 * 1024 < 256 * (c + 1) then d
    else
      let d1 := d.setConn c { x with evict := some d.dmaNext }
      d1.issueDma 0 (.ctxEvict c) fun _ => .dmaWrite 0 (d.fld .port 0 0x9018 63 12 * 4096 + 256 * c) []

/-- An eviction's host write ended: it commits, unless a packet cancelled it; a failed one is cancelled (R531). -/
def Dev.evictDone (d : Dev) (c id : Nat) (ok : Bool) : Dev :=
  d.modConn c fun x =>
    if x.evict = some id then { x with evict := none, res := if ok then 2 else 1 } else x

/-- CONTEXT_FETCH_DONE: the context is on chip and its parked packets are checked and placed (R532). -/
def Dev.fetchDone (d : Dev) (c : Nat) : Dev :=
  match d.conn? c with
  | none => d
  | some x =>
    if x.res ≠ 3 then d
    else
      let d := d.setConn c { x with res := 0, parked := [] }
      x.parked.foldl (fun d q => match d.conn? c with
        | some x => if x.st = 2 ∨ x.st = 3 then d.servePkt q.port c x q.pkt else d.dropUnverified q.port
        | none => d.dropUnverified q.port) d

/-- CONTEXT_FETCH_HOLD: every packet still parked is answered NOT_RESIDENT (R533). -/
def Dev.fetchHold (d : Dev) (c : Nat) : Dev :=
  match d.conn? c with
  | none => d
  | some x =>
    if x.res ≠ 3 then d
    else
      let d := d.setConn c { x with parked := [] }
      x.parked.foldl (fun d q => d.took.nakPkt x.stand c q.pkt 12 (d.idxOf x.stand q.pkt) d.retryHint) d

/-- Atomics and messages whose mirror writes have all been acknowledged, answered and completed (R556). -/
def Dev.mirRelease (d : Dev) (ti : Nat) : Dev :=
  d.conns.foldl (fun d e => e.2.rx.foldl (fun d m =>
    if keyIndex m.key ≠ ti ∨ !m.mirrors.isEmpty then d
    else if m.ty = tyAtom then
      (match m.held with
      | (old, _) :: _ => (d.modTract ti fun t => { t with inflight := t.inflight - 1 }).answerAtom e.1 m.n m.tc m.ece (BitVec.ofNat 64 old)
      | [] => d)
    else d.tryComplete 0 e.1 m.n (reqPkt m.ty (d.header d.node m.tc e.1 e.2.peerConn false false false 0)
      ⟨m.key, BitVec.ofNat 16 m.n, 0, 0, 0, 0, 0⟩ [] 0)) d) d

end Sys2Proof.Machine
end

