-- ==== Sys2Proof/Machine/Cruise.lean ====
section
/-!
DEFINITION. Connections opened and closed, and cruise messages sent and flooded (11 R524 to R528, R859; 13 R629 to R636; log
23 gives the layouts of the message bodies that the spec names without offsets).
-/
namespace Sys2Proof.Machine

/-! ## Connections (11 R524 to R528, R859) -/

/-- A context in state OPENING. -/
def Conn.opening (s peer : Nat) (join : BitVec 32) (w : Nat) : Conn :=
  { st := 1, stand := s, peer := peer, peerConn := 0, join := join, epoch := 0, res := 0, evict := none, parked := [],
    w := w, acked := 0, hold := 0, inflight := 0, srtt := 0, viol := 0, violInt := 0, violCnt := 0, txNext := 0, tx := [],
    rxBase := 0, rxTop := 0, rx := [], fin := [], atoms := [], openCmd := none, closeCmd := none, reason := 0,
    closeSent := false, cruise := none, mirror := false, wait := [], seen := 0 }

/-- Connections of a stand: STD_USE_CONN. -/
def Dev.useConn (d : Dev) (s : Nat) : Nat := Tab.count d.conns fun _ x => x.stand == s

/-- An OPEN_REQ sent by the end with the lower node ID (R525). -/
def Dev.openReq (d : Dev) (c : Nat) : Dev :=
  match d.conn? c with
  | some x =>
    if x.st = 1 ∧ d.node < x.peer then
      d.sendConn x.stand c x.peer 0xFFFF 1 0 x.join (BitVec.ofNat 32 (d.sliceEpoch x.stand))
    else d
  | none => d

/-- A context created in state OPENING, at any free ID; none when all are in use. -/
def Dev.newConn (d : Dev) (s peer : Nat) (join : BitVec 32) (f : Conn → Conn) : Option (Nat × Dev) :=
  (Tab.freeAt d.conns 65536 (d.hint 65536) fun _ => true).map fun c =>
    (c, (d.took.setConn c (f (Conn.opening s peer join (d.fld .port 0 0x9008 31 16 * 1024)))).openReq c)

/-- A context becomes OPEN: its open command completes and its waiting cruise messages start (R525). -/
def Dev.connOpened (d : Dev) (c peerConn : Nat) (epoch : BitVec 32) : Dev :=
  match d.conn? c with
  | none => d
  | some x =>
    let d := d.setConn c { x with st := 2, peerConn := peerConn, epoch := epoch, openCmd := none, wait := [], seen := d.up }
    let d := x.wait.foldl (fun d bs => d.startMsg c (mkMsg tyCtrl 0 false 0 0 bs bs.length .cruise)) d
    match x.openCmd with
    | some (s, tag) => d.postCmd s tag 0x11 0 0 (BitVec.ofNat 64 c) 0
    | none => d

/-- OPEN_REQ for this node (R525). -/
def Dev.rxOpenReq (d : Dev) (p : Nat) (r : Route) (h : ConnHdr) : Dev :=
  let src := r.srcNode.toNat
  let sc := r.srcConn.toNat
  let own (x : Conn) : Bool := match x.cruise with
    | some q => q == p || q == 16
    | none => true
  let cs := d.conns.filter fun e => e.2.peer == src && e.2.join == h.join
  match (cs.find? fun e => e.2.st == 2 && e.2.peerConn == sc) <|> (cs.find? fun e => e.2.st == 1 && own e.2) <|>
      (cs.find? fun e => e.2.st == 1) with
  | none => d.dropUnverified p
  | some (c, x) =>
    let d := if x.st = 1 then d.connOpened c sc h.epoch else d
    d.sendConn x.stand c src sc 2 0 x.join (BitVec.ofNat 32 (d.sliceEpoch x.stand))

/-- OPEN_ACK for this node (R525). -/
def Dev.rxOpenAck (d : Dev) (p : Nat) (r : Route) (h : ConnHdr) : Dev :=
  let c := r.dstConn.toNat
  match d.conn? c with
  | some x =>
    if x.st = 1 ∧ x.peer = r.srcNode.toNat ∧ x.join = h.join then d.connOpened c r.srcConn.toNat h.epoch
    else if x.st = 2 ∧ x.peer = r.srcNode.toNat ∧ x.peerConn = r.srcConn.toNat then d
    else d.dropUnverified p
  | none => d.dropUnverified p

/-- CLOSE for this node (R859). -/
def Dev.rxClose (d : Dev) (r : Route) (h : ConnHdr) : Dev :=
  match d.verified r with
  | none => d
  | some x =>
    let d := d.sendConn x.stand r.dstConn.toNat x.peer x.peerConn 4 0 h.join 0
    d.freeConn r.dstConn.toNat

/-- CLOSE_ACK for this node (R528, R859). -/
def Dev.rxCloseAck (d : Dev) (r : Route) : Dev :=
  match d.verified r with
  | some x => if x.st = 3 then d.freeConn r.dstConn.toNat else d
  | none => d

/-- A CONN packet that arrives for this node. -/
def Dev.rxConn (d : Dev) (p op : Nat) (r : Route) (h : ConnHdr) (icrc : BitVec 32) : Dev :=
  d.arrive p ⟨BitVec.ofNat 4 tyConn, r, .conn op h, icrc⟩ fun d =>
    match op with
    | 1 => d.rxOpenReq p r h
    | 2 => d.rxOpenAck p r h
    | 3 => d.rxClose r h
    | _ => d.rxCloseAck r

/-- A connection put in CLOSING by a command or a stand reset; one that is OPENING or QUARANTINED is freed at once (R528). -/
def Dev.closeConn (d : Dev) (c reason : Nat) : Dev :=
  match d.conn? c with
  | none => d
  | some x =>
    if x.st = 1 then
      let d := match x.openCmd with
        | some (s, tag) => d.postCmd s tag 0x11 0 5 0 0
        | none => d
      d.freeConn c
    else if x.st = 4 then d.freeConn c
    else if x.st = 2 then d.setConn c { x with st := 3, reason := reason }
    else d

/-- CONN_CLOSE_SEND: CLOSE once every message of a CLOSING connection has finished (R528). -/
def Dev.closeSend (d : Dev) (c : Nat) : Dev :=
  match d.conn? c with
  | some x =>
    if x.st = 3 ∧ x.tx.isEmpty ∧ x.rx.isEmpty ∧ !x.closeSent then
      (d.setConn c { x with closeSent := true }).sendConn x.stand c x.peer x.peerConn 3 x.reason x.join 0
    else d
  | none => d

/-- CLOSE_ACK_TIMEOUT: 10 ms after CLOSE was sent the context is freed (R528). -/
def Dev.closeAckTimeout (d : Dev) (c : Nat) : Dev :=
  match d.conn? c with
  | some x => if x.st = 3 ∧ x.closeSent then d.freeConn c else d
  | none => d

/-- CONN_OPEN_TIMEOUT: a context still OPENING is freed and its command completes with TIMEOUT (R525). -/
def Dev.openTimeout (d : Dev) (c : Nat) : Dev :=
  match d.conn? c with
  | some x => if x.st = 1 then d.closeConn c 0 else d
  | none => d

/-! ## Cruise messages (13 R629 to R633) -/

/-- The module's cruise epoch and state (13 Table 9). -/
def Dev.cruiseEpoch (d : Dev) : Nat := d.fld .cmp 0 8 63 32
def Dev.cmpState (d : Dev) : Nat := d.fld .cmp 0 8 2 0

/-- The cruise header as bytes (13 Table 1). -/
def CruiseHdr.bytes (op : Nat) (h : CruiseHdr) : List Byte :=
  natLe 1 op ++ natLe 1 h.flags.toNat ++ natLe 2 h.origin.toNat ++ natLe 4 h.version.toNat ++ natLe 4 h.epoch.toNat ++
    natLe 4 h.rsv.toNat

/-- A cruise message given to a connection: sent when it is OPEN, kept until it opens while it is OPENING. -/
def Dev.ctrlTo (d : Dev) (c : Nat) (bs : List Byte) : Dev :=
  match d.conn? c with
  | none => d
  | some x =>
    if x.st = 1 then d.setConn c { x with wait := x.wait ++ [bs] }
    else d.startMsg c (mkMsg tyCtrl 0 false 0 0 bs bs.length .cruise)

/-- The cruise connection of a port. -/
def Dev.cruiseOf (d : Dev) (p : Nat) : Option Nat := (d.conns.find? fun e => e.2.cruise == some p).map (·.1)

/-- The cruise connection to a node: a port's, or a further one, opened when there is none; the least recently used of 48
such gives its place (R629). -/
def Dev.cruiseTo (d : Dev) (n : Nat) : Option (Nat × Dev) :=
  match d.conns.find? fun e => e.2.cruise.isSome && e.2.peer == n && (e.2.st == 1 || e.2.st == 2) with
  | some (c, _) => some (c, d)
  | none =>
    let far := d.conns.filter fun e => e.2.cruise == some 16
    let d := if far.length < 48 then d else
      match d.pick 15 (far.filter fun e => far.all fun f => e.2.seen ≤ f.2.seen) with
      | some (c, _) => d.closeConn c 0
      | none => d
    d.newConn 0 n 0 fun x => { x with cruise := some 16 }

/-- VERSION raised by one for a message that this node creates (R633), and remembered as taken. -/
def Dev.newVersion (d : Dev) : Nat × Dev :=
  let v := (d.version + 1) % 2 ^ 32
  (v, { d with version := v, seenMsgs := Tab.set d.seenMsgs d.node ((v :: Tab.getD d.seenMsgs d.node []).take 256) })

/-- A message of this node: header and body. -/
def Dev.newCruise (d : Dev) (op flags : Nat) (body : List Byte) : List Byte × Dev :=
  let (v, d) := d.newVersion
  ((CruiseHdr.mk (BitVec.ofNat 8 flags) (BitVec.ofNat 16 d.node) (BitVec.ofNat 32 v) (BitVec.ofNat 32 d.cruiseEpoch) 0).bytes op
    ++ body, d)

/-- A cruise message to one node; one to this node itself is not sent. -/
def Dev.cruiseMsg (d : Dev) (n op : Nat) (body : List Byte) : Dev :=
  if n = d.node then d
  else
    let (bs, d) := d.newCruise op 0 body
    match d.cruiseTo n with
    | some (c, d) => d.ctrlTo c bs
    | none => d

/-- A message passed on over the cruise connection of every ACTIVE port but one; one of row scope to partners of the own
row (R632). -/
def Dev.relay (d : Dev) (bs : List Byte) (row : Bool) (except_ : Option Nat) : Dev :=
  (List.range 16).foldl (fun d p =>
    if !d.portActive p || except_ == some p || (row && nodeRow (d.peerNode p) != nodeRow d.node) then d
    else match d.cruiseOf p with
      | some c => d.ctrlTo c bs
      | none => d) d

/-- A message of this node flooded. -/
def Dev.flood (d : Dev) (op : Nat) (row : Bool) (body : List Byte) : Dev :=
  let (bs, d) := d.newCruise op 1 body
  d.relay bs row none

/-! ## The map entry (13 Table 3) -/

/-- The 64 KiB units of a stand's quotas not covered by capacity: what is unused of a tier. -/
def Dev.unusedQuota (d : Dev) (tier : Nat) : Nat :=
  (if tier = 0 then d.t0Cap else d.t1Cap) - ((List.range 32).map fun s => d.quotaOf s tier).sum

/-- Granules of 256 MiB that this node offers for lending (10 R490, R491; 13 R645). -/
def Dev.lendOffer (d : Dev) : Nat :=
  if d.fld .cell 0 0x60810 0 0 = 0 ∨ !d.lendIn.isEmpty ∨ d.cmpState = 1 then 0 else min 255 (d.unusedQuota 1 / 4096)

/-- Mask of the ports in ACTIVE. -/
def Dev.activePorts (d : Dev) : Nat := bitsMask ((List.range 16).filter fun p => d.portActive p)

/-- Mask of the cells not fenced. -/
def Dev.okCells (d : Dev) : Nat := bitsMask ((List.range 16).filter fun c => !d.cellFenced c)

/-- The owner of a slice slot; slice 0 is this node's until it is listed. -/
def Dev.sliceOwner (d : Dev) (k : Nat) : Nat := match Tab.get? d.slices k with
  | some s => s.owner
  | none => if k = 0 then d.node else 0

/-- This node's map entry, with the VERSION of the message that carries it. -/
def Dev.ownEntry (d : Dev) (version : Nat) : List Byte :=
  let slices := bitsMask (0 :: (d.slices.map (·.1)))
  natLe 2 d.node ++ natLe 1 (if d.halted then 4 else d.cmpState) ++
    natLe 1 (d.fld .ftm 0 0x10 4 4 + (if d.fld .ftm 0 0x10 2 0 = 2 ∨ d.fld .ftm 0 0x10 3 3 = 1 then 2 else 0)) ++
    natLe 4 version ++ natLe 4 d.cruiseEpoch ++ natLe 2 d.okCells ++ natLe 2 d.activePorts ++
    natLe 4 (d.unusedQuota 0) ++ natLe 4 (d.unusedQuota 1) ++ natLe 1 d.lendOffer ++ natLe 1 0 ++ natLe 2 slices ++ natLe 4 0 ++
    (List.range 16).flatMap fun k => natLe 2 (d.sliceOwner k)

/-- ENTRY flooded in the row (R634). -/
def Dev.floodEntry (d : Dev) : Dev :=
  let e := d.ownEntry (d.version + 1)
  let d : Dev := { d with rowMap := Tab.set d.rowMap d.node e }
  d.flood 3 true e

/-- The fields of an entry whose change is flooded: STATE, CELLS_OK, PORTS_ACTIVE, SLICE_OWNER. -/
def entryMain (e : List Byte) : List Byte := recBytes e 2 1 ++ recBytes e 12 4 ++ recBytes e 32 32

/-- ENTRY flooded when one of those fields has changed since it was last flooded. -/
def Dev.entryCheck (d : Dev) : Dev :=
  match Tab.get? d.rowMap d.node with
  | some e => if entryMain e = entryMain (d.ownEntry 0) then d else d.floodEntry
  | none => if d.activePorts = 0 then d else d.floodEntry

/-- HELLO to the partner of a port: its map entry; YOU_FAILED for a node in the failed set (R641). -/
def Dev.sendHello (d : Dev) (p : Nat) : Dev :=
  match d.cruiseOf p with
  | none => d
  | some c =>
    let flags := if d.failed.contains (d.peerNode p) then 2 else 0
    let (bs, d) := d.newCruise 1 flags (d.ownEntry (d.version + 1))
    (d.ctrlTo c bs).modLink p fun l => { l with helloOut := true }

/-- DEGRADED while the module has fewer cells or ports than at the last EPOCH_ADVANCE, else ACTIVE (R646). -/
def Dev.refreshComp (d : Dev) : Dev :=
  if d.cmpState ≠ 2 ∧ d.cmpState ≠ 3 then d
  else
    let fewer (then_ now : Nat) : Bool := (maskBits 16 now).length < (maskBits 16 then_).length
    let st := if fewer d.lastAdv.1 d.okCells || fewer d.lastAdv.2 d.activePorts then 3 else 2
    if st = d.cmpState then d else d.setFld .cmp 0 8 2 0 st

/-! ## Host commands TRACT and CONN (11 R524, R528, R536, R537, R540) -/

/-- CONN OPEN. -/
def Dev.hConnOpen (d : Dev) (s : Nat) (e : CmdEntry) : Dev :=
  d.hostCmd s 0x11 e 10 10 fun d a =>
    let bs := e.payload
    let peer := recNum bs 2 2
    if recNum bs 0 1 ≠ 1 ∨ recNum bs 1 1 ≠ 0 ∨ recNum bs 8 2 ≠ 0 ∨ peer = d.node then d.postCmd s e.tag 0x11 0 1 0 0
    else if a ≠ 0 ∧ d.cmpState = 1 then d.postCmd s e.tag 0x11 0 2 0 0
    else if (d.std a).quota.conn ≤ d.useConn a then d.postCmd s e.tag 0x11 0 3 0 0
    else match d.newConn a peer (BitVec.ofNat 32 (recNum bs 4 4)) fun x => { x with openCmd := some (s, e.tag) } with
      | some (_, d) => d
      | none => d.postCmd s e.tag 0x11 0 6 0 0

/-- CONN CLOSE: a connection of the stand that is not closing (R528). It completes when the context is freed. -/
def Dev.hConnClose (d : Dev) (s : Nat) (e : CmdEntry) : Dev :=
  d.hostCmd s 0x11 e 10 10 fun d a =>
    let bs := e.payload
    let c := recNum bs 8 2
    if recNum bs 0 1 ≠ 2 ∨ recNum bs 1 7 ≠ 0 then d.postCmd s e.tag 0x11 0 1 0 0
    else match d.conn? c with
      | some x =>
        if x.stand ≠ a then d.postCmd s e.tag 0x11 0 1 0 0
        else if x.st = 3 then d.postCmd s e.tag 0x11 0 2 0 0
        else (d.setConn c { x with closeCmd := some (s, e.tag) }).closeConn c 0
      | none => d.postCmd s e.tag 0x11 0 1 0 0

/-- True when a tract record's fields keep Tables 10 and 11 for a registration by stand a (R537). -/
def Dev.tractRecOk (d : Dev) (a : Nat) (bs : List Byte) : Bool :=
  let kind := recNum bs 1 1
  let rights := recNum bs 2 1
  let mir := recNum bs 3 1
  let cell := recNum bs 6 2
  let base := recNum bs 16 8
  let len := recNum bs 24 8
  let only (m : Nat) : Bool := rights ||| m == m
  recNum bs 0 1 == 1 && kind < 7 && mir < 3 && (mir != 0 || recNum bs 4 2 == 0) && (kind == 1 || (cell == 0 && base == 0)) &&
  recNum bs 8 8 == 0 && (recBytes bs 32 32).all (· == 0#8) && (mir == 0 || kind == 0 || kind == 4) &&
  (match kind with
  | 0 => only 15 && len % 65536 == 0 && 0 < len && len ≤ 96 * 2 ^ 30
  | 1 => only 15 && cell < 16 && 32 ≤ len && base + len ≤ (d.region a).2
  | 2 => rights == 10 && len == 1048576
  | 3 => rights == 16 && len == 64
  | 4 => only 2 && len == 0
  | 5 => rights == 10 && len % 1048576 == 0 && 0 < len && len ≤ 2 ^ 30
  | _ => only 3 && len == 0) &&
  (kind == 0 || kind == 1 || kind == 4 || !(d.tracts.any fun e => e.2.stand == a && e.2.kind == kind && e.2.inUse))

/-- A new tract at an INDEX: GEN raised, CHECK drawn. -/
def Dev.newTract (d : Dev) (i : Nat) (t : Tract) : Dev :=
  let gen := match d.tract? i with
    | some o => (o.gen + 1) % 256
    | none => 0
  d.took.setTract i { t with gen := gen, check := d.hint 256 }

/-- A free INDEX: none in use or held. -/
def Dev.freeIndex (d : Dev) : Option Nat :=
  let used := d.tracts.filter fun e => e.2.inUse || e.2.st == .hold
  Tab.freeAt used 65536 (d.nth 8 % 65536) fun _ => true

/-- The MIRROR_OPEN body (log 23): stand, kind, mode, rights, source key, LEN, source epoch, 4 bytes zero, 8 profile records. -/
def Dev.mirOpenBody (d : Dev) (i : Nat) (t : Tract) : List Byte :=
  natLe 1 t.stand ++ natLe 1 t.kind ++ natLe 1 t.mode ++ natLe 1 t.rights ++ natLe 4 (t.key i).toNat ++ natLe 8 t.len ++
    natLe 4 (d.tractEpoch t) ++ natLe 4 0 ++
    (List.range 8).flatMap fun k => recBytes (Tab.getD d.profiles (t.stand * 8 + k) []) 0 16

/-- TRACT REGISTER (R535 to R537; 13 R645, R663). -/
def Dev.hTractRegister (d : Dev) (s : Nat) (e : CmdEntry) : Dev :=
  d.hostCmd s 0x10 e 64 64 fun d a =>
    let bs := e.payload
    let fail (d : Dev) (code : Nat) : Dev := d.postCmd s e.tag 0x10 0 code 0 0
    let kind := recNum bs 1 1
    let len := recNum bs 24 8
    let partner := recNum bs 4 2
    if !d.tractRecOk a bs then fail d 1
    else if a ≠ 0 ∧ d.cmpState = 1 then fail d 2
    else match d.freeIndex with
      | none => fail d 4
      | some i =>
        let units := if kind = 0 ∨ kind = 5 then ceilDiv len 65536 else 0
        if (d.std a).quota.t1 < d.useOf a 1 + units ∧ units ≠ 0 then fail d 3
        else if recNum bs 3 1 ≠ 0 ∧ sameRack partner d.node then fail d 7
        else match d.allocUnits a units [] with
          | none => fail d 3
          | some (fs, d) =>
            let t := { Tract.none_ with kind := kind, rights := recNum bs 2 1, mode := recNum bs 3 1, partner := partner,
                                        stand := a, cell := recNum bs 6 2, base := recNum bs 16 8, len := len, frames := fs,
                                        st := .active, nextInt := d.mirNow }
            if recNum bs 3 1 = 0 then
              let d := d.newTract i t
              let key := ((d.tract? i).map fun t => t.key i).getD 0
              d.postCmd s e.tag 0x10 0 0 (key.setWidth 64) 0
            else
              let d := d.newTract i { t with st := .opening, cmd := some (s, e.tag) }
              d.cruiseMsg partner 15 (d.mirOpenBody i ((d.tract? i).getD t))

/-- A tract set to REVOKING; the copy of a mirrored one is closed (R540; 13 R677). -/
def Dev.revoke (d : Dev) (i : Nat) (cmd : Option (Nat × W64)) : Dev :=
  match d.tract? i with
  | none => d
  | some t =>
    if t.st ≠ .active then d
    else
      let d := d.setTract i { t with st := .revoking, cmd := cmd }
      let d : Dev := { d with mirSeqs := d.mirSeqs.filter fun m => m.2.tract != i }
      if t.mode ≠ 0 ∧ t.kind ≠ 7 then d.cruiseMsg t.partner 17 (natLe 4 (t.key i).toNat) else d

/-- TRACT REVOKE: a key that names no active tract of the stand is out of range (BAD_COMMAND). -/
def Dev.hTractRevoke (d : Dev) (s : Nat) (e : CmdEntry) : Dev :=
  d.hostCmd s 0x10 e 64 64 fun d a =>
    let bs := e.payload
    let key := BitVec.ofNat 32 (recNum bs 8 4)
    if recNum bs 0 1 ≠ 2 ∨ recNum bs 1 7 ≠ 0 ∨ recNum bs 12 4 ≠ 0 ∨ !((recBytes bs 16 48).all (· == 0#8)) then
      d.postCmd s e.tag 0x10 0 1 0 0
    else match d.tractOf a key with
      | some (i, t) => if t.kind = 7 then d.postCmd s e.tag 0x10 0 1 0 0 else d.revoke i (some (s, e.tag))
      | none => d.postCmd s e.tag 0x10 0 1 0 0

/-- A revoked tract's memory and charges released: it is in HOLD (R542, R544). -/
def Dev.tractGone (d : Dev) (i : Nat) (t : Tract) : Dev :=
  (d.freeUnits t.frames).setTract i { t with st := .hold, frames := [], cmd := none, sends := [], ints := [] }

/-- TRACT_REVOKED: the in-flight count is zero, and the revoke command completes (R542). -/
def Dev.tractRevoked (d : Dev) (i : Nat) : Dev :=
  match d.tract? i with
  | none => d
  | some t =>
    if t.st ≠ .revoking ∨ t.inflight ≠ 0 then d
    else
      let d := d.tractGone i t
      match t.cmd with
      | some (s, tag) => d.postCmd s tag 0x10 0 0 0 0
      | none => d

/-- TRACT_HOLD_EXPIRY (R544). -/
def Dev.tractHoldEnd (d : Dev) (i : Nat) : Dev :=
  d.modTract i fun t => if t.st = .hold then { t with st := .free } else t

end Sys2Proof.Machine
end

