-- ==== Sys2Proof/Machine/Links.lean ====
section
/-!
DEFINITION. Ports: training, link frames, replay and credit, and a port that leaves ACTIVE (11 R509 to R514, R850; 13 R629,
R637, R641).
-/
namespace Sys2Proof.Machine

/-! ## Port state (11 Table 14) -/

/-- PRT_STATUS.STATE. -/
def Dev.portState (d : Dev) (p : Nat) : Nat := d.fld .port p 8 2 0

/-- PRT_STATUS.STATE set. -/
def Dev.setPort (d : Dev) (p st : Nat) : Dev := d.setFld .port p 8 2 0 st

/-- PRT_CTL.EN. -/
def Dev.portEn (d : Dev) (p : Nat) : Bool := bitAt (d.rd .port p 0) 0

/-- True when a port may train: enabled, not fenced, the module in S0 and not halted (14 Table 5; 15 R760). -/
def Dev.mayTrain (d : Dev) (p : Nat) : Bool :=
  d.portEn p && !d.portFenced p && !d.halted && d.fld .pwr 0 0 35 32 == 0

/-- A port's link as it is DOWN: no partner, no lanes, nothing to replay; its egress queue is discarded (log 24). -/
def Dev.portReset (d : Dev) (p : Nat) : Dev :=
  let d := (d.wr .port p 8 0).setLink p PortLink.reset
  { d with egress := Tab.del d.egress p }

/-- Step 1 of training, or DOWN for a port that may not train. -/
def Dev.portTrain (d : Dev) (p : Nat) : Dev := if d.mayTrain p then (d.portReset p).setPort p 1 else d.portReset p

/-- LINK_DOWN for a port of this module flooded in the row: node, port, 1 byte zero (13 R637; log 23). -/
def Dev.floodDown (d : Dev) (p : Nat) : Dev :=
  let d : Dev := { d with downLinks := if d.downLinks.contains (d.node, p) then d.downLinks else d.downLinks ++ [(d.node, p)] }
  d.flood 5 true (natLe 2 d.node ++ natLe 1 p ++ natLe 1 0)

/-- A port leaves ACTIVE: its cruise connection closes, its link state goes, LINK_DOWN is flooded, and PORT_LOST is raised
unless PRT_CTL is the cause (13 R629, R637; 14 Table 1). A port in training only stops training. -/
def Dev.portLeave (d : Dev) (p : Nat) (byCtl : Bool) : Dev :=
  if !d.portActive p then d.portReset p
  else
    let d := match d.cruiseOf p with
      | some c => d.freeConn c
      | none => d
    let d := d.portReset p
    let d := if byCtl then d else d.raise (0x221 + 2 * p) ⟨.port, p⟩ [] 0
    d.floodDown p

/-- A port taken down and trained again. -/
def Dev.retrain (d : Dev) (p : Nat) (byCtl : Bool) : Dev := (d.portLeave p byCtl).portTrain p

/-- A write to PRT_CTL: EN is stored; a change of EN, or RETRAIN, takes the port down and trains it when it is enabled. -/
def Dev.prtCtlWrite (d : Dev) (p : Nat) (v : W64) : Dev :=
  let old := d.portEn p
  let d := d.wr .port p 0 (putBits 0 0 0 (bits v 0 0))
  if old ≠ bitAt v 0 ∨ bitAt v 1 then d.retrain p true else d

/-! ## Training (Table 1, R512, R850) -/

/-- Credit granted to the partner for one class: at least 4 frames (R510). -/
def Dev.grant (d : Dev) (p cls : Nat) (second : Bool) : Dev :=
  d.took.emit (.frame p (.credit (BitVec.ofNat 3 cls) second (BitVec.ofNat 8 (4 + d.hint 61))))

/-- Credit granted for every class, and for the second set of a ring port (R514). -/
def Dev.grantAll (d : Dev) (p : Nat) : Dev :=
  let d := (List.range 8).foldl (fun d c => d.grant p c false) d
  if 7 ≤ p ∧ p ≤ 10 then (List.range 8).foldl (fun d c => d.grant p c true) d else d

/-- PORT_TRAINED: the remaining steps of training have passed; the port enters ACTIVE with the partner's identity and its
credits, opens its cruise connection and sends HELLO (R511, R629, R641, R850). -/
def Dev.portTrained (d : Dev) (p : Nat) (node : BitVec 16) (pport : BitVec 4) (grants : List (BitVec 8)) : Dev :=
  let st := d.portState p
  if st = 0 ∨ 6 ≤ st ∨ !d.mayTrain p then d
  else
    let lanes := if (d.link p).lost = 0 then 8 else 4
    let d := d.wr .port p 8 (BitVec.ofNat 64 (node.toNat * 2 ^ 48 + pport.toNat * 2 ^ 44 + lanes * 2 ^ 8 + 6))
    let d := d.modLink p fun l => { l with credits := grants.zipIdx.map fun (n, i) => (i, n.toNat) }
    let d : Dev := { d with downLinks := d.downLinks.filter fun x => x != (d.node, p) }
    let d := d.grantAll p
    match d.newConn 0 node.toNat 0 fun x => { x with cruise := some p } with
    | some (_, d) => d.sendHello p
    | none => d

/-- TRAINING_STEP_TIMEOUT: a step fails on a set of lanes. Steps 1 to 3 go on when lanes 0 to 3 or 4 to 7 have passed; else
training fails and waits 100 ms (R512, R850). -/
def Dev.trainTimeout (d : Dev) (p : Nat) (lanes : BitVec 8) : Dev :=
  let st := d.portState p
  if st = 0 ∨ 6 ≤ st then d
  else
    let lost := (d.link p).lost ||| lanes.toNat
    if st ≤ 3 ∧ lanes ≠ 0 ∧ (lost % 16 = 0 ∨ lost / 16 = 0) then
      (d.modLink p fun l => { l with lost := lost }).setPort p (st + 1)
    else (d.portReset p).modLink p fun l => { l with retry := true }

/-- TRAINING_RETRY: 100 ms after training failed it starts from step 1, while PRT_CTL.EN is 1. -/
def Dev.trainRetry (d : Dev) (p : Nat) : Dev := if (d.link p).retry ∧ d.portState p = 0 then d.portTrain p else d

/-! ## Link frames (R509 to R511, R513) -/

/-- Frames up to a sequence number leave the replay buffer. -/
def ackReplay (seq : Nat) (r : List (Nat × Option Pkt)) : List (Nat × Option Pkt) :=
  if r.any fun e => e.1 == seq then (r.dropWhile fun e => e.1 != seq).drop 1 else r

/-- One frame sent: it takes the next sequence number and a place in the replay buffer. -/
def Dev.sendFrame (d : Dev) (p : Nat) (k : Option Pkt) : Dev :=
  let n := (d.link p).txSeq
  let d := d.modLink p fun l => { l with txSeq := (n + 1) % 4096, replay := l.replay ++ [(n, k)] }
  d.emit (match k with
    | some k => .packet p n k
    | none => .frame p .idle)

/-- The frames from a sequence number on sent again, and counted (R509). -/
def Dev.replayFrom (d : Dev) (p seq : Nat) : Dev :=
  let fs := (d.link p).replay.dropWhile fun e => e.1 != seq
  let d := d.incWrap .port p 0x20 63 0 fs.length
  fs.foldl (fun d e => d.emit (match e.2 with
    | some k => .packet p e.1 k
    | none => .frame p .idle)) d

/-- Uncorrectable codewords of a frame counted; more than LIMIT in any 1 ms of fabric time raise FEC_EXHAUST and retrain the
port (R511). True when that happened. -/
def Dev.fecCount (d : Dev) (p : Nat) (f : LinkFrame) : Dev × Bool :=
  let d := (d.incWrap .port p 0x10 31 0 f.corrected.toNat).incSat .port p 0x10 63 32 f.uncorrectable.toNat
  if f.uncorrectable = 0 then (d, false)
  else
    let log := ((d.link p).fec.filter fun e => d.now < e.1 + 1000000) ++ [(d.now, f.uncorrectable.toNat)]
    let d := d.modLink p fun l => { l with fec := log }
    if d.fld .port p 0x18 15 0 < (log.map (·.2)).sum then ((d.raise (0x220 + 2 * p) ⟨.port, p⟩ [] 0).retrain p false, true)
    else (d, false)

/-- A good frame in sequence: taken, acknowledged, and credit returned for a packet's (R509, R510); the packet itself arrives
by its own row. One out of sequence asks for the missing frames, one already taken is only acknowledged. -/
def Dev.takeFrame (d : Dev) (p : Nat) (f : LinkFrame) : Dev :=
  let want := (d.link p).rxSeq
  let ahead := (f.seq.toNat + 4096 - want) % 4096
  if ahead = 0 then
    (d.modLink p fun l => { l with rxSeq := (want + 1) % 4096 }).emit (.frame p (.ack f.seq))
  else if ahead < 2048 then d.emit (.frame p (.again (BitVec.ofNat 12 want)))
  else d.emit (.frame p (.ack f.seq))

/-- LINK_FRAME_RX. -/
def Dev.linkRx (d : Dev) (p : Nat) (f : LinkFrame) : Dev :=
  if !d.portActive p then d
  else
    let (d, gone) := d.fecCount p f
    if gone then d
    else if !f.crcOk ∨ f.uncorrectable ≠ 0 then d.emit (.frame p (.again (BitVec.ofNat 12 (d.link p).rxSeq)))
    else match f.kind with
      | .ack n => d.modLink p fun l => { l with replay := ackReplay n.toNat l.replay }
      | .again n => d.replayFrom p n.toNat
      | .credit c two n =>
        let i := c.toNat + (if two then 8 else 0)
        (d.modLink p fun l => { l with credits := Tab.set l.credits i (Tab.getD l.credits i 0 + n.toNat) }).takeFrame p f
      | .idle => d.takeFrame p f
      | .data c two =>
        let fresh := f.seq.toNat = (d.link p).rxSeq
        let d := d.takeFrame p f
        if fresh then d.emit (.frame p (.credit c two 1)) else d

/-- IDLE_FRAME_TIMER: an ACTIVE port with nothing to send for 1 µs sends an idle frame (R513). -/
def Dev.idleFrame (d : Dev) (p : Nat) : Dev :=
  if d.portActive p ∧ (d.egq p).isEmpty ∧ (d.link p).replay.length < 64 then d.sendFrame p none else d

/-- LINK_RX_TIMEOUT: a port that received no frame for 10 µs goes down and retrains (R513). -/
def Dev.linkTimeout (d : Dev) (p : Nat) : Dev := if d.portActive p then d.retrain p false else d

end Sys2Proof.Machine
end

