-- ==== Sys2Proof/Machine/Sched.lean ====
section
/-!
DEFINITION. The schedulers: privileged buckets, weighted fair queueing over stands, deficit round robin below, rate limits and
the calendar wheel, rotation lists, and egress (12 R601 to R618; 11 R510, R514). Virtual times and TATs are fixed point in
units of 2^-32 (log 25).
-/
namespace Sys2Proof.Machine

/-- An item as a scheduler sees it: upper and lower queue, class, cost, whether it is recovery traffic, and its place in the
list of items, which is in order of arrival. -/
structure SItem where
  upper : Nat
  lower : Nat
  cls : Nat
  cost : Nat
  recovery : Bool
  ref : Nat
  deriving DecidableEq, Repr

/-- One unit of virtual time and of a TAT's ns. -/
def vUnit : Nat := 2 ^ 32

/-- Present fabric time in TAT units. -/
def Dev.now32 (d : Dev) : Nat := d.fab * 65536

/-! ## What a scheduler instance holds -/

/-- An upper queue that was never backlogged. -/
def UpperQ.reset : UpperQ := { back := false, s := 0, f := 0, tat := 0, act := [], defs := [], wheel := none }

/-- Instance i. -/
def Dev.sched (d : Dev) (i : Nat) : Sched := Tab.getD d.scheds i ⟨0, [], []⟩

/-- Instance i replaced. -/
def Dev.setSched (d : Dev) (i : Nat) (x : Sched) : Dev := { d with scheds := Tab.set d.scheds i x }

/-- Upper queue u of an instance. -/
def Dev.upq (d : Dev) (i u : Nat) : UpperQ := Tab.getD (d.sched i).uq u UpperQ.reset

/-- An upper queue replaced. -/
def Dev.setUpq (d : Dev) (i u : Nat) (q : UpperQ) : Dev :=
  let x := d.sched i
  d.setSched i { x with uq := Tab.set x.uq u q }

/-- Weight of an upper queue (R606): STD_Q_ENG in compute instances, SCH_ST_CFG in egress, TRANSIT_WEIGHT for transit. -/
def Dev.schWeight (d : Dev) (i u : Nat) : Nat :=
  max 1 (if u = 32 then d.fld .sch i 8 31 16 else if i < 17 then (d.std u).quota.eng else d.fld .sch i (0x100 + 32 * u) 47 32)

/-- DRR quantum of an upper queue. -/
def Dev.schQuantum (d : Dev) (i u : Nat) : Nat := max 1 (d.fld .sch i (0x100 + 32 * u) 31 0)

/-! ## Rotation lists (R614 to R618) -/

/-- The entry in force at a place of the cycle, and its mask. -/
def Dev.rotEntry (d : Dev) (i len pos : Nat) : Nat → Nat → Nat → Nat × Nat
  | 0, j, _ => (j, d.fld .sch i (0x1200 + 8 * j) 39 32)
  | n + 1, j, start =>
    let stop := start + d.fld .sch i (0x1200 + 8 * j) 31 0
    if pos < stop ∨ len ≤ j + 1 then (j, d.fld .sch i (0x1200 + 8 * j) 39 32)
    else Dev.rotEntry d i len pos n (j + 1) stop

/-- Operational entry and gates at a fabric time in ns (R615, R616). -/
def Dev.rotAt (d : Dev) (i t : Nat) : Nat × Nat :=
  let c := d.rd .sch i 0x820
  if !bitAt c 40 then (0, 255)
  else
    let base := (d.rd .sch i 0x818).toNat
    if t < base then (0, d.fld .sch i 0x1200 39 32)
    else d.rotEntry i (bits c 38 32) ((t - base) % max 1 (bits c 31 0)) 64 0 0

/-- The gates of the present fabric time shown in SCH_ROT_STATUS. -/
def Dev.rotNow (d : Dev) (i : Nat) : Dev :=
  let e := d.rotAt i d.now
  (d.setFld .sch i 0x828 23 16 e.2).setFld .sch i 0x828 9 4 e.1

/-- True when a class gate is open, and stays open for the sending time of an item of an egress instance (R608). -/
def Dev.gateOk (d : Dev) (i cls cost : Nat) : Bool :=
  nbit (d.fld .sch i 0x828 23 16) cls &&
  (i < 17 || (List.range (ceilDiv cost (if d.fld .port (i - 17) 8 11 8 = 4 then 100 else 200))).all fun k =>
    nbit (d.rotAt i (d.now + k)).2 cls)

/-- ROT_CHANGE: the first time at least 1 µs ahead that is ADMIN_BASE + n × ADMIN_CYCLE (R617, R618). -/
def Dev.rotChange (d : Dev) (i : Nat) : Dev :=
  if bitAt (d.rd .sch i 0x828) 0 then d
  else
    let base := (d.rd .sch i 0x808).toNat
    let cyc := max 1 (d.fld .sch i 0x810 31 0)
    let lim := d.now + 1000
    let t := if lim ≤ base then base else base + ceilDiv (lim - base) cyc * cyc
    (d.wr .sch i 0x830 (BitVec.ofNat 64 t)).setFld .sch i 0x828 0 0 1

/-- ROT_CANCEL (R618). -/
def Dev.rotCancel (d : Dev) (i : Nat) : Dev := d.setFld .sch i 0x828 0 0 0

/-- ROT_SWAP: at the chosen time the administrative list becomes the operational one. -/
def Dev.rotSwap (d : Dev) (i : Nat) : Dev :=
  if !bitAt (d.rd .sch i 0x828) 0 ∨ d.now < (d.rd .sch i 0x830).toNat then d
  else
    let d := (d.wr .sch i 0x818 (d.rd .sch i 0x808)).wr .sch i 0x820 (d.rd .sch i 0x810)
    let d := (List.range 64).foldl (fun d j => d.wr .sch i (0x1200 + 8 * j) (d.rd .sch i (0x1000 + 8 * j))) d
    (d.setFld .sch i 0x828 0 0 0).rotNow i

/-! ## Rate limits (R609, R610, R612, R613) -/

/-- Tokens of a limiter in 2^-32 units × 1,000: RATE in units per µs, BURST in units (R609). -/
def tokensAt (rate burst tat now : Nat) : Int :=
  let b : Int := burst * vUnit * 1000
  min b (b - ((tat : Int) - now) * rate)

/-- True when a limiter admits an item. A rate of 0 does not limit. -/
def rateAdmits (rate burst tat now cost : Nat) : Bool :=
  rate == 0 || decide (((min cost burst * vUnit * 1000 : Nat) : Int) ≤ tokensAt rate burst tat now)

/-- TAT after an item was served. -/
def rateServe (rate tat now cost : Nat) : Nat := if rate = 0 then tat else max tat now + cost * 1000 * vUnit / rate

/-- Eligible time of an item in ns, rounded up to 250 ns (R610). -/
def rateEligible (rate burst tat cost : Nat) : Nat :=
  roundUp (ceilDiv (tat - (burst - min cost burst) * 1000 * vUnit / max 1 rate) vUnit) 250

/-- RATE and BURST of an upper queue; transit is not limited. -/
def Dev.schRate (d : Dev) (i u : Nat) : Nat × Nat :=
  if u = 32 then (0, 0) else (d.fld .sch i (0x108 + 32 * u) 31 0, d.fld .sch i (0x110 + 32 * u) 31 0)

/-- RATE, BURST, SEL and EN of a privileged bucket. -/
def Dev.privCfg (d : Dev) (i k : Nat) : Nat × Nat × Nat × Bool :=
  let w := d.rd .sch i (0x600 + 16 * k)
  (bits w 63 32, bits w 31 8, bits w 3 1, bitAt w 0)

/-- TAT of a bucket. -/
def Dev.privTat (d : Dev) (i k : Nat) : Nat := Tab.getD (d.sched i).ptat k 0

/-- A bucket's TAT set. -/
def Dev.setPrivTat (d : Dev) (i k t : Nat) : Dev :=
  let x := d.sched i
  d.setSched i { x with ptat := Tab.set x.ptat k t }

/-- TAT after the reset of R612. -/
def Dev.resetTat (d : Dev) (i rate burst : Nat) : Nat :=
  if d.fld .sch i 0x10 0 0 = 0 ∨ rate = 0 then d.now32 else d.now32 + burst * 1000 * vUnit / rate

/-! ## Queues over the list of items -/

/-- True when a selector takes an item (Table 6). -/
def selTakes (sel : Nat) (x : SItem) : Bool :=
  match sel with
  | 0 => x.cls == 1
  | 1 => x.upper == 0 && x.cls == 0
  | 2 => x.cls == 5
  | 3 => x.recovery
  | _ => false

/-- The enabled bucket that takes an item, the lowest (R611). -/
def Dev.privOf (d : Dev) (i : Nat) (x : SItem) : Option Nat :=
  (List.range 8).find? fun k => let c := d.privCfg i k; c.2.2.2 && selTakes c.2.2.1 x

/-- The first item of a lower queue. -/
def firstOf (xs : List SItem) (u l : Nat) : Option SItem := xs.find? fun x => x.upper == u && x.lower == l

/-- One upper queue's active list brought up to its items: queues without items leave with deficit 0, new ones join at the
back. -/
def UpperQ.sync (q : UpperQ) (xs : List SItem) (u : Nat) : UpperQ :=
  let ls := ((xs.filter fun x => x.upper == u).map (·.lower)).eraseDups
  let act := q.act.filter ls.contains
  { q with act := act ++ ls.filter (fun l => !act.contains l), defs := q.defs.filter fun e => ls.contains e.1 }

/-- Deficit round robin: the queue at the front that covers its first item, at most n quanta (R605). -/
def UpperQ.spin (xs : List SItem) (u quantum : Nat) : Nat → UpperQ → UpperQ
  | 0, q => q
  | n + 1, q =>
    match q.act with
    | [] => q
    | l :: r =>
      match firstOf xs u l with
      | none => q
      | some x =>
        let dd := Tab.getD q.defs l 0
        if (x.cost : Int) ≤ dd then q
        else
          let dd := dd + quantum
          let q := { q with defs := Tab.set q.defs l dd }
          if (x.cost : Int) ≤ dd then q else UpperQ.spin xs u quantum n { q with act := r ++ [l] }

/-- The head of an upper queue: DRR's choice, or for transit the first item of the lowest class. -/
def UpperQ.head (q : UpperQ) (xs : List SItem) (u quantum : Nat) : Option SItem × UpperQ :=
  if u = 32 then
    let t := xs.filter fun x => x.upper == 32
    (t.find? fun x => t.all fun y => x.cls ≤ y.cls, q)
  else
    let need := (q.act.map fun l => match firstOf xs u l with
      | some x => ((x.cost : Int) - Tab.getD q.defs l 0).toNat
      | none => 0).foldl max 0
    let q := UpperQ.spin xs u quantum ((q.act.length + 1) * (need / quantum + 2)) q
    ((q.act.head?).bind fun l => firstOf xs u l, q)

/-- Every upper queue brought up to its items; a queue that becomes backlogged gets its start and finish time (R605). -/
def Dev.schSync (d : Dev) (i : Nat) (xs : List SItem) : Dev :=
  (List.range 33).foldl (fun d u =>
    let q := (d.upq i u).sync xs u
    if q.act.isEmpty then (if (d.upq i u).back || !(d.upq i u).act.isEmpty then d.setUpq i u { q with back := false } else d)
    else
      let (h, q) := q.head xs u (d.schQuantum i u)
      if q.back then d.setUpq i u q
      else
        let s := max (d.sched i).v q.f
        d.setUpq i u { q with back := true, s := s, f := s + ((h.map (·.cost)).getD 0) * vUnit / d.schWeight i u }) d

/-- The head of an upper queue as it stands. -/
def Dev.schHead (d : Dev) (i : Nat) (xs : List SItem) (u : Nat) : Option SItem := ((d.upq i u).head xs u (d.schQuantum i u)).1

/-- Units served for a stand counted. -/
def Dev.schServed (d : Dev) (i : Nat) (x : SItem) : Dev :=
  if x.upper < 32 then d.incWrap .sch i (0x118 + 32 * x.upper) 63 0 x.cost else d

/-- A queue that its limiter holds back entered on the wheel (R610). -/
def Dev.schWheel (d : Dev) (i u : Nat) (x : SItem) : Dev :=
  let q := d.upq i u
  let r := d.schRate i u
  if q.wheel.isSome ∨ rateAdmits r.1 r.2 q.tat d.now32 x.cost then d
  else d.setUpq i u { q with wheel := some (rateEligible r.1 r.2 q.tat x.cost) }

/-- The first privileged bucket whose next item it admits: bucket and item (R611). -/
def Dev.schPriv (d : Dev) (i : Nat) (xs : List SItem) (ok : SItem → Bool) : Option (Nat × SItem) :=
  (List.range 8).findSome? fun k =>
    let c := d.privCfg i k
    match xs.find? fun x => d.privOf i x == some k with
    | some x => if rateAdmits c.1 c.2.1 (d.privTat i k) d.now32 x.cost && ok x then some (k, x) else none
    | none => none

/-- The eligible upper queue with the least finish time, the lowest among equals, and its head (R605). -/
def Dev.schBest (d : Dev) (i : Nat) (ys : List SItem) (ok : SItem → Bool) : Option (Nat × SItem) :=
  ((List.range 33).filterMap fun u =>
    let q := d.upq i u
    let r := d.schRate i u
    match (if q.back && q.wheel.isNone then d.schHead i ys u else none) with
    | some x =>
      if rateAdmits r.1 r.2 q.tat d.now32 x.cost && d.gateOk i x.cls x.cost && ok x then some (u, x) else none
    | none => none).foldl (fun (b : Option (Nat × SItem)) e => match b with
      | none => some e
      | some y => if (d.upq i e.1).f < (d.upq i y.1).f then some e else b) none

/-- The item x of upper queue u served: virtual time, deficits, TAT and the queue's next finish time (R605, R609). -/
def Dev.schServe (d : Dev) (i u : Nat) (ys : List SItem) (x : SItem) : Dev :=
  let back := (List.range 33).filter fun w => (d.upq i w).back
  let sumW := (back.map fun w => d.schWeight i w).sum
  let minS := (back.map fun w => (d.upq i w).s).min?.getD 0
  let sc := d.sched i
  let d := d.setSched i { sc with v := max (sc.v + x.cost * vUnit / max 1 sumW) minS }
  let rest := ys.erase x
  let q := d.upq i u
  let q := { q with tat := rateServe (d.schRate i u).1 q.tat d.now32 x.cost,
                    defs := Tab.set q.defs x.lower (Tab.getD q.defs x.lower 0 - x.cost) }
  let q := q.sync rest u
  let (h, q) := q.head rest u (d.schQuantum i u)
  let q := match h with
    | some y => { q with s := q.f, f := q.f + y.cost * vUnit / d.schWeight i u }
    | none => { q with back := false }
  (d.setUpq i u q).schServed i x

/-- The next item of an instance: a privileged bucket's, else the best upper queue's; queues that their limiters hold back
go on the wheel. ok tells whether an item can go at all. -/
def Dev.choose (d : Dev) (i : Nat) (xs : List SItem) (ok : SItem → Bool) : Option SItem × Dev :=
  let ys := xs.filter fun x => (d.privOf i x).isNone
  let d := d.schSync i ys
  match d.schPriv i xs ok with
  | some (k, x) =>
    let c := d.privCfg i k
    (some x, (d.setPrivTat i k (rateServe c.1 (d.privTat i k) d.now32 x.cost)).schServed i x)
  | none =>
    match d.schBest i ys ok with
    | some (u, x) => (some x, d.schServe i u ys x)
    | none =>
      (none, (List.range 33).foldl (fun d u => match d.schHead i ys u with
        | some x => d.schWheel i u x
        | none => d) d)

/-- WHEEL_ELIGIBLE: a queue's eligible time is reached and it is eligible again (R610). -/
def Dev.wheelEligible (d : Dev) (i u : Nat) : Dev :=
  let q := d.upq i u
  match q.wheel with
  | some t => if t ≤ d.now then d.setUpq i u { q with wheel := none } else d
  | none => d

/-- The further cost of a KIND 4 order at its completion (R607). -/
def Dev.schCharge (d : Dev) (i u l cost : Nat) : Dev :=
  let q := d.upq i u
  d.setUpq i u { q with f := q.f + cost * vUnit / d.schWeight i u, defs := Tab.set q.defs l (Tab.getD q.defs l 0 - cost) }

/-- A write to SCH_ST_RATE, SCH_ST_BURST or SCH_PRIV_CFG resets the tokens of its queue or bucket; a queue on the wheel
leaves it, and the next choice enters it again at its new eligible time unless it is admitted (R612, R613). -/
def Dev.schRateReset (d : Dev) (i off : Nat) : Dev :=
  if 0x600 ≤ off then
    let k := (off - 0x600) / 16
    let c := d.privCfg i k
    d.setPrivTat i k (d.resetTat i c.1 c.2.1)
  else
    let u := (off - 0x100) / 32
    let r := d.schRate i u
    d.setUpq i u { d.upq i u with tat := d.resetTat i r.1 r.2, wheel := none }

/-! ## Egress (R600 to R605, R608; 11 R509, R514) -/

/-- True when a packet takes the second credit set of a ring port: from the hop at which it passes sled 0 onwards (11 R514).
Where a packet from another rack entered the ring is not known; it takes the second set when this module is sled 0 (log 24). -/
def Dev.secondSet (d : Dev) (p : Nat) (k : Pkt) : Bool :=
  if p < 7 ∨ 10 < p then false
  else
    let me := nodeSled d.node
    let src := nodeSled k.r.srcNode.toNat
    if !sameRack k.r.srcNode.toNat d.node then me == 0
    else if p % 2 = 0 then decide (me < src)
    else (me == 0 && src != 0) || decide (src < me)

/-- Credit index of a packet at a port. -/
def Dev.creditIdx (d : Dev) (p : Nat) (k : Pkt) : Nat := k.r.tc.toNat + (if d.secondSet p k then 8 else 0)

/-- A TIME packet stamped as it is sent: TA of a SYNC_REQ, TC of a SYNC_RSP (R583). -/
def Dev.stamp (d : Dev) (p : Nat) (k : Pkt) : Pkt × Dev :=
  match k.body with
  | .time op h =>
    if op = 1 then
      let b := PktBody.time op { h with ta := BitVec.ofNat 80 d.fab }
      (mkPkt tyTime k.r b, d.modLink p fun l => { l with req := some ⟨h.seq.toNat, d.fab⟩ })
    else
      let b := PktBody.time op { h with tc := BitVec.ofNat 80 d.fab }
      (mkPkt tyTime k.r b, d)
  | _ => (k, d)

/-- The last packet of a partial record's message leaves the port for the first time: its latency ends (R620). -/
def Dev.recordLeft (d : Dev) (i : EgItem) : Dev :=
  match i.pkt.body with
  | .req h _ =>
    if i.upper = 32 ∨ i.pkt.ty.toNat ≠ tyPut ∨ i.pkt.r.retx ∨ h.msgOff.toNat + h.plen.toNat ≠ h.msgLen.toNat then d
    else match (d.conn? i.lower).bind fun x => x.msg? h.msgId.toNat with
      | some m => match m.who with
        | .whole n => match Tab.get? d.parts n with
          | some j => d.partLeft j
          | none => d
        | _ => d
      | none => d
  | _ => d

/-- A port's packets as its scheduler sees them. -/
def egItems (q : List EgItem) : List SItem :=
  q.zipIdx.map fun (x, n) => ⟨x.upper, x.lower, x.pkt.r.tc.toNat, x.pkt.len, x.recovery, n⟩

/-- EGRESS_SELECT: the next packet of an ACTIVE port is sent in a link frame, when a place in the replay buffer and link
credit for its class allow; its buffer is free for the next (R605; 11 R509, R510). -/
def Dev.egressSelect (d : Dev) (p : Nat) : Dev :=
  let q := d.egq p
  if !d.portActive p ∨ 64 ≤ (d.link p).replay.length ∨ d.halted then d
  else
    let cr := (d.link p).credits
    let ok (x : SItem) : Bool := match q[x.ref]? with
      | some e => 0 < Tab.getD cr (d.creditIdx p e.pkt) 0
      | none => false
    match d.choose (17 + p) (egItems q) ok with
    | (none, d) => d
    | (some x, d) =>
      match q[x.ref]? with
      | none => d
      | some e =>
        let d : Dev := { d with egress := Tab.set d.egress p (q.eraseIdx x.ref) }
        let i := d.creditIdx p e.pkt
        let d := d.modLink p fun l => { l with credits := Tab.set l.credits i (Tab.getD l.credits i 0 - 1) }
        let (k, d) := d.stamp p e.pkt
        ((d.sendFrame p (some k)).recordLeft e).pumpAll

end Sys2Proof.Machine
end

