-- ==== Sys2Proof/Machine/FabricTime.lean ====
section
/-!
DEFINITION. Fabric time: TIME packets, the parent, correction, PPS, and contract telemetry (12 R576 to R594, R619 to R624).
-/
namespace Sys2Proof.Machine

/-! ## The FTM block's status (12 Table 9) -/

/-- FTM_STATUS.STATE: 0 FREE, 1 ACQUIRING, 2 LOCKED, 3 HOLDOVER. -/
def Dev.ftmState (d : Dev) : Nat := d.fld .ftm 0 0x10 2 0

/-- FTM_STATUS.REF. -/
def Dev.isRef (d : Dev) : Bool := bitAt (d.rd .ftm 0 0x10) 3

/-- FTM_STATUS.PPS_VALID. -/
def Dev.ppsValid (d : Dev) : Bool := bitAt (d.rd .ftm 0 0x10) 4

/-- FTM_STATUS.REF_NODE. -/
def Dev.refNode (d : Dev) : Nat := d.fld .ftm 0 0x10 63 48

/-- TIME_OK and HOLDOVER of the running telemetry interval brought up to the present state. -/
def Dev.telNote (d : Dev) : Dev :=
  { d with telOk := d.telOk && (d.ftmState == 2 || d.isRef), telHold := d.telHold || d.ftmState == 3 }

/-- FTM_STATUS.STATE set; entry to HOLDOVER is counted and raises the clock loss fault (R592). -/
def Dev.setFtm (d : Dev) (st : Nat) : Dev :=
  if d.ftmState = st then d
  else
    let d := (d.setFld .ftm 0 0x10 2 0 st).telNote
    if st = 3 then (d.incWrap .ftm 0 0x30 31 0 1).raise 0x254 ⟨.edge, 2⟩ [] 0 else d

/-! ## Steps and slewing (R588, R589) -/

/-- Fabric time stepped to a value in units of 2^-16 ns; the step is counted. -/
def Dev.stepFab (d : Dev) (t : Nat) : Dev :=
  let d : Dev := { d with fab := t, slew := 0, slewAcc := 0 }
  let d : Dev := { d with telStep := t / 65536 / 1000000 + 1, telInt := min d.telInt (t / 65536 / 1000000),
                          heatEpoch := min d.heatEpoch (t / 65536 / 1048576) }
  d.incWrap .ftm 0 0x30 63 32 1

/-- An offset in units of 2^-17 ns corrected: slewed when it is at most STEP_NS or negative, else stepped forward (R588). -/
def Dev.correct (d : Dev) (off : Int) : Dev :=
  let lim : Int := d.fld .ftm 0 0x20 31 0 * 131072
  if off ≤ lim then { d with slew := off, slewAcc := 0 } else d.stepFab (d.fab + (off / 2).toNat)

/-- One ns of the device clock: fabric time moves 1 ns, faster or slower by at most SLEW_PPM while an offset is being slewed
(R588). -/
def Dev.fabTick (d : Dev) : Dev :=
  let acc := d.slewAcc + d.fld .ftm 0 0x20 41 32 * 131072
  let u : Int := min (acc / 1000000 : Nat) d.slew.natAbs
  let x : Int := if d.slew < 0 then -u else u
  let y := x / 2 * 2
  if d.slew = 0 then { d with fab := d.fab + 65536 }
  else { d with fab := ((d.fab : Int) + 65536 + y / 2).toNat, slew := d.slew - y, slewAcc := acc - y.natAbs * 1000000 }

/-! ## The parent (R585) -/

/-- The ACTIVE port whose partner reports the lowest DIST with the chosen reference, the lowest among equals. -/
def Dev.bestParent (d : Dev) : Option Nat :=
  let ps := (List.range 16).filter fun p => d.portActive p && (d.link p).refNode == d.refNode && (d.link p).dist < 255
  ps.find? fun p => ps.all fun q => (d.link p).dist ≤ (d.link q).dist

/-- FTM_STATUS shows the parent; a new parent starts a new run of exchanges. -/
def Dev.refreshParent (d : Dev) : Dev :=
  if d.isRef then ((d.setFld .ftm 0 0x10 47 32 0).setFld .ftm 0 0x10 31 28 0).setFld .ftm 0 0x10 27 20 0
  else match d.bestParent with
    | some p =>
      let same : Bool := d.fld .ftm 0 0x10 27 20 != 255 && d.fld .ftm 0 0x10 31 28 == p
      let d := ((d.setFld .ftm 0 0x10 47 32 (d.peerNode p)).setFld .ftm 0 0x10 31 28 p).setFld .ftm 0 0x10 27 20
        (min 255 ((d.link p).dist + 1))
      if same then d else d.modLink p fun l => { l with run := [] }
    | none => ((d.setFld .ftm 0 0x10 47 32 0).setFld .ftm 0 0x10 31 28 0).setFld .ftm 0 0x10 27 20 255

/-- True when a port is the parent port. -/
def Dev.isParent (d : Dev) (p : Nat) : Bool :=
  !d.isRef && d.fld .ftm 0 0x10 27 20 != 255 && d.fld .ftm 0 0x10 31 28 == p

/-- The reference that cruise chose: a module that becomes it is LOCKED and keeps its time; one that ceases to be it
acquires (R585, R587). -/
def Dev.setRef (d : Dev) (n : Nat) : Dev :=
  let was := d.isRef
  let d := d.setFld .ftm 0 0x10 63 48 n
  if n = d.node then
    if was then d
    else
      let d := ((d.setFld .ftm 0 0x10 3 3 1).setFtm 2).refreshParent
      { d with slew := 0, slewAcc := 0 }
  else
    let d := if was then (d.setFld .ftm 0 0x10 3 3 0).setFtm 1 else d
    d.refreshParent.telNote

/-! ## TIME packets (R582 to R584) -/

/-- A TIME packet of this device to the partner of a port; its time stamp is written as it is sent. -/
def Dev.timePkt (d : Dev) (p op : Nat) (seq : BitVec 32) (ta tb : BitVec 80) : Dev :=
  let st := min 3 d.ftmState + (if d.ppsValid then 4 else 0)
  let h : TimeHdr := ⟨BitVec.ofNat 8 (d.fld .ftm 0 0x10 27 20), BitVec.ofNat 16 d.refNode, seq, ta, BitVec.ofNat 16 st, tb, 0, 0, 0⟩
  let r := d.header (d.peerNode p) 1 0 0 false false false 0
  d.took.enqueue p ⟨mkPkt tyTime r (.time op h), 0, 0, false⟩ false

/-- SYNC_TIMER: a SYNC_REQ on a port (R584). -/
def Dev.syncTimer (d : Dev) (p : Nat) : Dev :=
  if !d.portActive p then d
  else
    let n := (d.link p).reqSeq
    (d.modLink p fun l => { l with reqSeq := (n + 1) % 2 ^ 32 }).timePkt p 1 (BitVec.ofNat 32 n) 0 0

/-- A TIME packet that arrives: dropped when it is not for this node, fails its ICRC or is not verified (R582). f is what a
packet of the partner does. -/
def Dev.arriveTime (d : Dev) (p op : Nat) (r : Route) (h : TimeHdr) (icrc : BitVec 32) (f : Dev → Dev) : Dev :=
  let k : Pkt := ⟨BitVec.ofNat 4 tyTime, r, .time op h, icrc⟩
  if !d.portActive p ∨ d.halted ∨ r.dstNode.toNat ≠ d.node then d
  else if !k.icrcOk then d.incSat .port p 0x28 47 32 1
  else if r.srcNode.toNat ≠ d.peerNode p then d.dropUnverified p
  else f ((d.modLink p fun l => { l with dist := h.dist.toNat, refNode := h.refNode.toNat }).refreshParent)

/-- SYNC_REQ: answered with a SYNC_RSP that carries its receive time (R584). -/
def Dev.rxSyncReq (d : Dev) (p : Nat) (r : Route) (h : TimeHdr) (icrc : BitVec 32) : Dev :=
  let t2 := BitVec.ofNat 80 d.fab
  d.arriveTime p 1 r h icrc fun d => d.timePkt p 2 h.seq h.ta t2

/-- FTM_OFFSET: the last used offset and delay in ns. -/
def Dev.showOffset (d : Dev) (off delay : Int) : Dev :=
  d.wr .ftm 0 0x18 ((BitVec.ofInt 32 (off / 131072)) ++ (BitVec.ofInt 32 (delay / 131072)))

/-- A used sample: LOCKED after 16 within 20 ns, ACQUIRING after one above 100 ns; then the correction (R586, R588, R590). -/
def Dev.useSample (d : Dev) (s : Int × Int) : Dev :=
  let d := d.showOffset s.2 s.1
  let n := s.2.natAbs
  let d : Dev := { d with lockRun := if n ≤ 20 * 131072 then d.lockRun + 1 else 0 }
  let d := if 100 * 131072 < n then d.setFtm 1 else if 16 ≤ d.lockRun then d.setFtm 2 else d
  d.correct s.2

/-- An exchange with the parent (R586, R589, R592). -/
def Dev.exchange (d : Dev) (p : Nat) (delay off : Int) : Dev :=
  if d.ftmState = 0 then
    let d := d.showOffset off delay
    (d.stepFab ((d.fab : Int) + off / 2).toNat).setFtm 1
  else
    let d := if d.ftmState = 3 then { d.setFtm 1 with lockRun := 0 } else d
    let run := (d.link p).run ++ [(delay, off)]
    if run.length < 8 then d.modLink p fun l => { l with run := run }
    else
      let d := d.modLink p fun l => { l with run := [] }
      match d.pick 17 (run.filter fun a => run.all fun b => a.1 ≤ b.1) with
      | some s => d.useSample s
      | none => d

/-- SYNC_RSP: matched with the port's outstanding request, at most 100 µs old; offset and delay are formed, doubled, in units
of 2^-17 ns (R584). -/
def Dev.rxSyncRsp (d : Dev) (p : Nat) (r : Route) (h : TimeHdr) (icrc : BitVec 32) : Dev :=
  let t4 : Int := d.fab
  d.arriveTime p 2 r h icrc fun d =>
    match (d.link p).req with
    | none => d
    | some q =>
      if q.seq ≠ h.seq.toNat then d
      else
        let d := d.modLink p fun l => { l with req := none }
        let t1 : Int := q.t1
        if (100000 * 65536 : Int) < t4 - t1 then d
        else
          let t2 : Int := h.tb.toNat
          let t3 : Int := h.tc.toNat
          let corr := (BitVec.ofNat 16 (d.fld .ftm 0 (0x100 + 8 * p) 15 0)).toInt
          let delay := (t4 - t1) - (t3 - t2)
          let off := (t2 - t1) - (t4 - t3) - corr * 16384
          if d.isParent p then d.exchange p delay off else d

/-- PARENT_TIMEOUT: the parent has sent no valid response for 1 ms; without another path to the reference the device enters
HOLDOVER (R592). A module that is FREE has acquired nothing to hold and stays FREE (log 26). -/
def Dev.parentTimeout (d : Dev) (p : Nat) : Dev :=
  if !d.isParent p then d
  else
    let d := (d.modLink p fun l => { l with dist := 255 }).refreshParent
    if d.fld .ftm 0 0x10 27 20 = 255 ∧ d.ftmState ≠ 0 then d.setFtm 3 else d

/-- The parent looked for again after ports or partners changed; a module that is left without a path holds over. -/
def Dev.parentCheck (d : Dev) : Dev :=
  let had := !d.isRef && d.fld .ftm 0 0x10 27 20 != 255
  let d := d.refreshParent
  if had && d.fld .ftm 0 0x10 27 20 == 255 && d.ftmState != 0 then d.setFtm 3 else d

/-! ## PPS and FTM_SET (R579 to R581) -/

/-- PPS_EDGE: an edge some ns after the one before it, as XTAL1 measures; three in time make PPS valid, and the reference
steers to whole seconds. -/
def Dev.ppsEdge (d : Dev) (interval : BitVec 32) : Dev :=
  let n := interval.toNat
  let good : Bool := decide (999999000 ≤ n) && decide (n ≤ 1000001000)
  let d : Dev := { d with ppsRun := if good then d.ppsRun + 1 else 0 }
  let d := if 3 ≤ d.ppsRun then d.setFld .ftm 0 0x10 4 4 1 else d
  if d.isRef ∧ d.ppsValid then
    let sec := 1000000000 * 65536
    let r := d.fab % sec
    d.correct (if r < sec / 2 then -(2 * r : Int) else 2 * (sec - r : Int))
  else d

/-- PPS_TIMEOUT: no edge within 1.5 s (R579). -/
def Dev.ppsTimeout (d : Dev) : Dev := { d.setFld .ftm 0 0x10 4 4 0 with ppsRun := 0 }

/-- FTM_SET written (R581). -/
def Dev.ftmSet (d : Dev) (v : W64) : Dev :=
  let sec := 1000000000
  if !d.isRef ∨ bitAt (d.rd .ftm 0 0x10) 5 ∨ v.toNat < d.now then d
  else (d.stepFab (roundUp v.toNat sec * 65536)).setFld .ftm 0 0x10 5 5 1

/-! ## Contract telemetry (R619 to R624) -/

/-- A stand's interval record (Table 7). -/
def Dev.telRecord (d : Dev) (s n : Nat) : List Byte :=
  let t := d.telOf s
  let flags := (if d.telOk then 1 else 0) + (if d.telHold then 2 else 0) + (if n < d.telStep then 4 else 0)
  natLe 8 n ++ natLe 8 d.now ++ natLe 1 s ++ natLe 1 flags ++ natLe 2 0 ++ natLe 4 t.records ++ natLe 8 t.tokens ++
    natLe 4 t.late ++ natLe 4 t.dropped ++ natLe 4 t.max ++ natLe 4 0 ++ natLe 8 t.sum ++ natLe 8 0 ++
    (List.range 64).flatMap fun b => natLe 4 (satAt 32 (Tab.getD t.buckets b 0))

/-- A record dropped and counted (R624). -/
def Dev.telLost (d : Dev) : Dev := (d.incWrap .ftm 0 0x60 63 0 1).raise 0x246 ⟨.edge, 0⟩ [] 0

/-- Records the area holds. -/
def Dev.telCap (d : Dev) : Nat := d.fld .ftm 0 0x48 23 0 * 1024 / 320

/-- The next record's write begun, when none is under way; records that cannot be written are dropped (R623, R624; 17 R817). -/
def Dev.telPump : Nat → Dev → Dev
  | 0, d => d
  | n + 1, d =>
    match d.telQ with
    | [] => d
    | rec :: rest =>
      if d.dma.any fun q => q.use == DmaUse.telemetry then d
      else if d.telCap = 0 ∨ !d.fnLive 0 then Dev.telPump n ({ d with telQ := rest }).telLost
      else
        let at_ := d.fld .ftm 0 0x40 63 12 * 4096 + 320 * ((d.rd .ftm 0 0x58).toNat % d.telCap)
        d.issueDma 0 .telemetry fun _ => .dmaWrite 0 at_ rec

/-- A record's write ended: FTM_TEL_HEAD rises, or the record is dropped. -/
def Dev.telDone (d : Dev) (ok : Bool) : Dev :=
  let d : Dev := { d with telQ := d.telQ.drop 1 }
  let d := if ok then d.incWrap .ftm 0 0x58 63 0 1 else d.telLost
  Dev.telPump (d.telQ.length + 1) d

/-- TELEMETRY_INTERVAL_END: the running interval has ended; each selected stand's record is closed (R619, R623). -/
def Dev.telEnd (d : Dev) : Dev :=
  let n := d.telInt
  if d.now < (n + 1) * 1000000 then d
  else
    let mask := d.fld .ftm 0 0x50 63 32
    let recs := if d.telOn then (maskBits 32 mask).map fun s => d.telRecord s n else []
    let d : Dev := { d with telInt := n + 1, tel := [], telOn := bitAt (d.rd .ftm 0 0x50) 0,
                            telOk := d.ftmState == 2 || d.isRef, telHold := d.ftmState == 3, telQ := d.telQ ++ recs }
    Dev.telPump (d.telQ.length + 1) d

end Sys2Proof.Machine
end

