-- ==== Sys2Proof/Machine/Compose.lean ====
section
/-!
DEFINITION. Cruise: epochs, the row map and summaries, heartbeats and the lookout, slices and ownership (13 R632 to R661; 14
R716; log 23 gives the layouts of message bodies that the spec names without offsets, log 27 the readings).
-/
namespace Sys2Proof.Machine

/-! ## Cruise epochs (R643, R644; 14 R716) -/

/-- The cruise epoch raised: fences lifted at a lower epoch go, and their units return to allocation. -/
def Dev.setEpoch (d : Dev) (e : Nat) : Dev :=
  let gone (f : FenceInfo) : Bool := f.lift.any fun l => decide (l < e)
  let ports := (List.range 16).filter fun p => (Tab.get? d.fences (FUnit.key ⟨.port, p⟩)).any gone
  let d : Dev := { d.setFld .cmp 0 8 63 32 e with fences := d.fences.filter fun x => !gone x.2 }
  ports.foldl (fun d p => d.portTrain p) d

/-- A higher epoch adopted. -/
def Dev.adoptEpoch (d : Dev) (e : Nat) : Dev := if d.cruiseEpoch < e then d.setEpoch e else d

/-- STANDBY entered: the epoch held is remembered. -/
def Dev.enterStandby (d : Dev) : Dev := { d.setFld .cmp 0 8 2 0 1 with standbyEpoch := d.cruiseEpoch }

/-- EPOCH_ADVANCE applied: the failed set is cleared, a STANDBY module becomes ACTIVE, and cells and ports are counted anew. -/
def Dev.epochAdvance (d : Dev) (e : Nat) : Dev :=
  let d := d.adoptEpoch e
  let d : Dev := { d with failed := [], lastAdv := (d.okCells, d.activePorts) }
  let d := if d.cmpState = 1 ∧ d.standbyEpoch < e then d.setFld .cmp 0 8 2 0 2 else d
  d.refreshComp

/-- CMP_CTL.ADVANCE. -/
def Dev.cmpAdvance (d : Dev) : Dev :=
  let e := (d.cruiseEpoch + 1) % 2 ^ 32
  let d := d.adoptEpoch e
  (d.flood 7 false (natLe 4 e ++ natLe 4 0)).epochAdvance e

/-! ## The row map (R634 to R638) -/

/-- Nodes of the row with their entries, this one's own included, in ascending order. -/
def Dev.rowNodes (d : Dev) : Tab (List Byte) := Tab.set d.rowMap d.node (d.ownEntry d.version)

/-- STATE of a node of the row: 5 when it is in the failed set, 0 when nothing is known of it. -/
def Dev.nodeState (d : Dev) (n : Nat) : Nat :=
  if d.failed.contains n then 5
  else if n = d.node then d.cmpState
  else match Tab.get? d.rowMap n with
    | some e => recNum e 2 1
    | none => 0

/-- True for STATE ACTIVE, DEGRADED or STANDBY. -/
def Dev.nodeLive (d : Dev) (n : Nat) : Bool := let s := d.nodeState n; s == 1 || s == 2 || s == 3

/-- The lookout of a node (R638). -/
def Dev.lookoutOf (d : Dev) (x : Nat) : Nat :=
  let ns := (d.rowNodes.map (·.1)).filter fun n => n != x && d.nodeLive n
  match ns.find? fun n => sameSled n x with
  | some n => n
  | none => match ns.find? fun n => sameRack n x with
    | some n => n
    | none => match ns.find? fun n => nodeRow n == nodeRow x with
      | some n => n
      | none => d.refNode

/-- The row summary (log 23): row, zero, counts ACTIVE, DEGRADED, STANDBY, FAILED, lowest live node and lowest with PPS valid
(0xFFFF for none), 2 bytes zero, T0_FREE and T1_FREE sums of 8 bytes, highest epoch, 4 bytes zero. -/
def Dev.summaryBody (d : Dev) : List Byte :=
  let ns := d.rowNodes.filter fun e => nodeRow e.1 == nodeRow d.node
  let count (s : Nat) : Nat := (ns.filter fun e => d.nodeState e.1 == s).length
  let live := (ns.filter fun e => d.nodeLive e.1)
  let low := (live.head?.map (·.1)).getD 0xFFFF
  let pps := ((live.find? fun e => (recNum e.2 3 1).testBit 0).map (·.1)).getD 0xFFFF
  natLe 1 (nodeRow d.node) ++ natLe 1 0 ++ natLe 2 (count 2) ++ natLe 2 (count 3) ++ natLe 2 (count 1) ++ natLe 2 (count 5) ++
    natLe 2 low ++ natLe 2 pps ++ natLe 2 0 ++ natLe 8 ((live.map fun e => recNum e.2 16 4).sum) ++
    natLe 8 ((live.map fun e => recNum e.2 20 4).sum) ++ natLe 4 ((ns.map fun e => recNum e.2 8 4).foldl max 0) ++ natLe 4 0

/-- The time reference chosen from the summaries held (R636). -/
def Dev.refreshRef (d : Dev) : Dev :=
  let lows (off : Nat) : Option Nat := ((d.rowSums.map fun e => recNum e.2 off 2).filter fun n => n != 0xFFFF).min?
  match lows 12 with
  | some n => d.setRef n
  | none => match lows 10 with
    | some n => d.setRef n
    | none => d

/-- A row's summary held. -/
def Dev.takeSummary (d : Dev) (body : List Byte) : Dev :=
  ({ d with rowSums := Tab.set d.rowSums (recNum body 0 1 % 64) (recBytes body 0 40) }).refreshRef

/-- SUMMARY_TIMER: the lowest live node of the row floods the summary (R635). -/
def Dev.summaryTimer (d : Dev) : Dev :=
  let ns := d.rowNodes.filter fun e => nodeRow e.1 == nodeRow d.node && d.nodeLive e.1
  if ns.head?.map (·.1) = some d.node then
    let b := d.summaryBody
    (d.flood 4 false b).takeSummary b
  else d

/-- HEARTBEAT_TIMER: HEARTBEAT to every link partner (R637). -/
def Dev.heartbeats (d : Dev) : Dev :=
  (List.range 16).foldl (fun d p =>
    if !d.portActive p then d
    else match d.cruiseOf p with
      | some c => let r := d.newCruise 2 0 []; r.2.ctrlTo c r.1
      | none => d) d

/-- HEARTBEAT_TIMEOUT: the port's link is down for cruise (R637). -/
def Dev.heartbeatLost (d : Dev) (p : Nat) : Dev :=
  if d.portActive p ∧ !d.downLinks.contains (d.node, p) then (d.modLink p fun l => { l with hb := false }).floodDown p else d

/-! ## Ownership records (R647, R653, Table 5) -/

/-- The record of a slice: slice 0 belongs to this module at epoch 1 until something changes it. -/
def Dev.slice? (d : Dev) (k : Nat) : Option Slice :=
  match Tab.get? d.slices k with
  | some s => some s
  | none => if k = 0 then some ⟨0, 0, 0, d.node, 1, none⟩ else none

/-- A record written. -/
def Dev.setSlice (d : Dev) (k : Nat) (s : Slice) : Dev := { d with slices := Tab.set d.slices k s }

/-- True when this module owns a slice of its own and has not disclaimed it. -/
def Dev.owns (d : Dev) (k : Nat) : Bool := (d.slice? k).any fun s => s.owner == d.node && s.offer.isNone

/-- A record as bytes: HOME, SLICE, STATE, OWNER, TARGET, EPOCH, OFFER_TIME (Table 5). -/
def Dev.recordBody (d : Dev) (k : Nat) : List Byte :=
  let s := (d.slice? k).getD ⟨0, 0, 0, 0, 0, none⟩
  let st := if (d.slice? k).isNone then 0 else if s.offer.isSome then 2 else 1
  natLe 2 d.node ++ natLe 1 k ++ natLe 1 st ++ natLe 2 s.owner ++ natLe 2 ((s.offer.map (·.1)).getD 0) ++ natLe 4 s.epoch ++
    natLe 8 ((s.offer.map (·.2)).getD 0)

/-- CMP_STAT.REFUSED raised. -/
def Dev.sliceRefused (d : Dev) : Dev := d.incSat .cmp 0 0x20 15 0 1

/-- Mirror partners of the tracts of a slice's stands (R679). -/
def Dev.mirPartners (d : Dev) (k : Nat) : List Nat :=
  ((d.tracts.filter fun e => e.2.mode != 0 && e.2.kind != 7 && e.2.st == .active && d.sliceOf e.2.stand == k).map fun e =>
    e.2.partner).eraseDups

/-- A commit as home: owner and epoch set, any offer gone, COMMIT sent to the old and the new owner and to the mirror partners
(R656, R679). The change of owner is flooded with the map entry. -/
def Dev.commitSlice (d : Dev) (k owner : Nat) : Dev :=
  match d.slice? k with
  | none => d
  | some s =>
    let d := (d.setSlice k { s with owner := owner, epoch := s.epoch + 1, offer := none }).incWrap .cmp 0 0x20 63 32 1
    let body := d.recordBody k
    (([s.owner, owner] ++ d.mirPartners k).eraseDups).foldl (fun d n => d.cruiseMsg n 10 body) d

/-- An offer reverted: the slice stays its owner's, REVERT goes to both, and the orphan is counted (R658). -/
def Dev.revertSlice (d : Dev) (k : Nat) : Dev :=
  match d.slice? k with
  | none => d
  | some s => match s.offer with
    | none => d
    | some (n, _) =>
      let d := (d.setSlice k { s with offer := none }).incSat .cmp 0 0x20 31 16 1
      let body := d.recordBody k
      ([s.owner, n].eraseDups).foldl (fun d m => d.cruiseMsg m 11 body) d

/-- Body of OFFER and ACCEPT: home, slice, zero, epoch, node, zero (log 23). -/
def handBody (home slice epoch node : Nat) : List Byte :=
  natLe 2 home ++ natLe 1 slice ++ natLe 1 0 ++ natLe 4 epoch ++ natLe 2 node ++ natLe 6 0

/-- A disclaim remembered. -/
def Dev.disclaim (d : Dev) (home slice epoch : Nat) (accepted : Bool) : Dev :=
  { d with disclaims := (d.disclaims.filter fun x => !(x.home == home && x.slice == slice)) ++
      [⟨home, slice, BitVec.ofNat 32 epoch, accepted, d.now⟩] }

/-- An ACCEPT at the home: a commit, an expiry when OWNER is zero, or REFUSE (R656 to R658). -/
def Dev.homeAccept (d : Dev) (from_ k epoch old : Nat) : Dev :=
  match d.slice? k with
  | some s => match s.offer with
    | some (n, _) =>
      if n = from_ ∧ s.epoch = epoch ∧ s.owner = old then d.commitSlice k n
      else if n = from_ ∧ s.epoch = epoch ∧ old = 0 then d.revertSlice k
      else d.cruiseMsg from_ 12 (d.recordBody k)
    | none => d.cruiseMsg from_ 12 (d.recordBody k)
  | none => d.cruiseMsg from_ 12 (d.recordBody k)

/-- The new owner's answer to an offer, sent to the home or given to it on this module (R656). -/
def Dev.answerOffer (d : Dev) (home k epoch old : Nat) (accept : Bool) : Dev :=
  let who := if accept then old else 0
  let d := if accept ∧ home ≠ d.node then d.disclaim home k epoch true else d
  if home = d.node then d.homeAccept d.node k epoch who else d.cruiseMsg home 9 (handBody home k epoch who)

/-- OFFER: the home takes its copy; the new owner accepts at once, or shows the offer in CMP_OFFER_IN (R656). -/
def Dev.rxOffer (d : Dev) (origin : Nat) (body : List Byte) : Dev :=
  let home := recNum body 0 2
  let k := recNum body 2 1
  let epoch := recNum body 4 4
  let n := recNum body 8 2
  let d := if home ≠ d.node then d else
    match d.slice? k with
    | some s =>
      if s.offer.isNone ∧ s.owner = origin ∧ s.epoch = epoch then d.setSlice k { s with offer := some (n, d.now) }
      else if s.offer.any fun o => o.1 == n then d
      else d.cruiseMsg origin 12 (d.recordBody k)
    | none => d.cruiseMsg origin 12 (d.recordBody k)
  if n ≠ d.node then d
  else if bitAt (d.rd .cmp 0 0x10) 0 then d.answerOffer home k epoch origin true
  else (d.wr .cmp 0 0x400 (BitVec.ofNat 64 (home * 2 ^ 48 + origin * 2 ^ 32 + 16 + k % 16))).wr .cmp 0 0x408 (BitVec.ofNat 64 epoch)

/-- A write to CMP_OFFER_CTL while an offer waits (R656, R657). -/
def Dev.offerCtl (d : Dev) (accept : Bool) : Dev :=
  let w := d.rd .cmp 0 0x400
  if !bitAt w 4 then d
  else (d.setFld .cmp 0 0x400 4 4 0).answerOffer (bits w 63 48) (bits w 3 0) (d.fld .cmp 0 0x408 31 0) (bits w 47 32) accept

/-- A home's record that settles what this node believes: disclaims of the slice end, connections to the home and mirror
copies fed by it take a higher epoch (R655, R659, R679; log 27). -/
def Dev.takeRecord (d : Dev) (body : List Byte) (newEpoch : Bool) : Dev :=
  let home := recNum body 0 2
  let k := recNum body 2 1
  let e := recNum body 8 4
  let d : Dev := { d with disclaims := d.disclaims.filter fun x => !(x.home == home && x.slice == k) }
  if !newEpoch ∨ home = d.node then d
  else
    let d : Dev := { d with conns := Tab.mapAll d.conns fun _ (x : Conn) =>
      if x.peer = home ∧ x.cruise.isNone ∧ x.epoch.toNat < e then { x with epoch := BitVec.ofNat 32 e } else x }
    { d with tracts := Tab.mapAll d.tracts fun _ (t : Tract) =>
      if t.kind = 7 ∧ (t.src.any fun s => s.1 == home) ∧ t.srcEpoch.toNat < e then { t with srcEpoch := BitVec.ofNat 32 e } else t }

/-- ORPHAN_TIMEOUT: an offer still pending ORPHAN_MS after OFFER_TIME reverts (R658). -/
def Dev.orphan (d : Dev) (k : Nat) : Dev :=
  match (d.slice? k).bind (·.offer) with
  | some (_, t) => if t + d.fld .cmp 0 0x10 63 48 * 1000000 ≤ d.now then d.revertSlice k else d
  | none => d

/-- OWNER_QUERY_TIMEOUT: a node with neither COMMIT nor REVERT asks the home (R659). -/
def Dev.ownerQuery (d : Dev) (home k : Nat) : Dev :=
  match d.disclaims.find? fun x => x.home == home && x.slice == k with
  | some x =>
    if x.since + d.fld .cmp 0 0x10 63 48 * 1000000 ≤ d.now then
      (d.disclaim home k x.epoch.toNat x.accepted).cruiseMsg home 13 (natLe 1 k ++ natLe 3 0)
    else d
  | none => d

/-! ## Slice operations (R648 to R652, R656, R661) -/

/-- DEFINE of slice k. -/
def Dev.sliceDefine (d : Dev) (k : Nat) : Dev :=
  let cells := d.fld .cmp 0 (0x100 + 32 * k) 47 32
  let ports := d.fld .cmp 0 (0x100 + 32 * k) 31 16
  let stands := d.fld .cmp 0 (0x108 + 32 * k) 31 0
  let clash := d.slices.any fun e => e.1 != 0 && e.1 != k &&
    (e.2.cells &&& cells != 0 || e.2.ports &&& ports != 0 || e.2.stands &&& stands != 0)
  if k = 0 ∨ cells = 0 ∨ ports = 0 ∨ clash ∨ !d.owns 0 ∨ (Tab.has d.slices k && !d.owns k) then d.sliceRefused
  else
    let e := ((maskBits 32 stands).map d.sliceEpoch).foldl max 0 + 1
    (d.setSlice k ⟨cells, ports, stands, d.node, e, none⟩).incWrap .cmp 0 0x20 63 32 1

/-- RELEASE of slice k: what it held is slice 0's again, at slice 0's epoch plus 1. -/
def Dev.sliceRelease (d : Dev) (k : Nat) : Dev :=
  match d.slice? 0 with
  | some s0 => ({ d with slices := Tab.del d.slices k }).setSlice 0 { s0 with epoch := s0.epoch + 1 }
  | none => d

/-- OFFER of slice k to a node: this module is its owner and its home, so it disclaims and its record is OFFERED at once. -/
def Dev.sliceOffer (d : Dev) (k target : Nat) : Dev :=
  match d.slice? k with
  | some s =>
    let body := handBody d.node k s.epoch target
    let d := d.setSlice k { s with offer := some (target, d.now) }
    if target = d.node then d.rxOffer d.node body else d.cruiseMsg target 8 body
  | none => d

/-- A write to CMP_SLICE_CTL[k]. -/
def Dev.sliceCtl (d : Dev) (k op target : Nat) : Dev :=
  match op with
  | 1 => d.sliceDefine k
  | 2 => if d.owns k then d.sliceOffer k target else d.sliceRefused
  | 3 => if k ≠ 0 ∧ d.owns k ∧ d.owns 0 then d.sliceRelease k else d.sliceRefused
  | 4 => if (d.slice? k).isSome then d.commitSlice k d.node else d.sliceRefused
  | _ => d

/-- Every slice but slice 0 released, and slice 0 this module's again (R642, R652). -/
def Dev.wholeDevice (d : Dev) : Dev :=
  let d := (d.slices.filter fun e => e.1 != 0).foldl (fun d e => d.sliceRelease e.1) d
  d.commitSlice 0 d.node

/-- A slice that has lost every cell or every port makes the whole device one slice (R652); looked at when a unit is fenced or
a port goes down. -/
def Dev.sliceFallback (d : Dev) : Dev :=
  if d.slices.any fun e => e.1 != 0 && (e.2.cells &&& d.okCells == 0 || e.2.ports &&& d.activePorts == 0) then
    let d := (d.slices.map (·.1)).foldl (fun d k => d.commitSlice k d.node) d
    let d := (d.slices.filter fun e => e.1 != 0).foldl (fun d e => d.sliceRelease e.1) d
    d.floodEntry
  else d

/-! ## A module that is FAILED to the hall (R640, R642) -/

/-- What a module does that treats itself as FAILED: tracts, connections and sequences of stands 1 to 31 go, every slice
returns to slice 0, and it enters STANDBY. -/
def Dev.selfFailed (d : Dev) : Dev :=
  let d := d.raise 0x260 ⟨.edge, 0⟩ [] 0
  let d := d.tracts.foldl (fun d e => if e.2.stand = 0 then d else d.revoke e.1 none) d
  let d := d.conns.foldl (fun d e => if e.2.stand = 0 then d else d.closeConn e.1 0) d
  let d := d.shadow.foldl (fun d e => if keyStand e.1 = 0 then d else d.quarSeq e.1) d
  d.wholeDevice.enterStandby

/-- SELF_FAIL_TIMEOUT: no port has carried heartbeats for FAIL_US (R640). -/
def Dev.selfFailTimeout (d : Dev) : Dev :=
  if (List.range 16).any fun p => d.portActive p && (d.link p).hb then d else d.selfFailed

/-! ## HELLO, ENTRY and the like (R632 to R637, R641) -/

/-- The map entry of another node of the row held; LINK_DOWN records of it are settled (log 27). -/
def Dev.takeEntry (d : Dev) (e : List Byte) : Dev :=
  let n := recNum e 0 2
  if n = d.node ∨ nodeRow n ≠ nodeRow d.node then d
  else { d with rowMap := Tab.set d.rowMap n (recBytes e 0 64), downLinks := d.downLinks.filter fun x => x.1 != n }

/-- HELLO from the partner of a port: the first since the port became ACTIVE is answered (log 27); YOU_FAILED has the effect
of R642. -/
def Dev.rxHello (d : Dev) (p flags : Nat) (body : List Byte) : Dev :=
  let first := !(d.link p).helloIn
  let d := (d.modLink p fun l => { l with helloIn := true }).takeEntry body
  let d := if first then d.sendHello p else d
  if flags.testBit 1 then d.selfFailed else d

/-- HEARTBEAT: the link is alive for cruise. -/
def Dev.rxHeartbeat (d : Dev) (p : Nat) : Dev :=
  { d.modLink p fun l => { l with hb := true } with downLinks := d.downLinks.filter fun x => x != (d.node, p) }

/-- LINK_DOWN of another node. -/
def Dev.rxLinkDown (d : Dev) (body : List Byte) : Dev :=
  let x := (recNum body 0 2, recNum body 2 1)
  { d with downLinks := if d.downLinks.contains x then d.downLinks else d.downLinks ++ [x] }

/-- QUERY to this home. -/
def Dev.rxQuery (d : Dev) (origin : Nat) (body : List Byte) : Dev := d.cruiseMsg origin 14 (d.recordBody (recNum body 0 1))

/-- True when a flooded message was taken before; else it is remembered among the last 256 of its origin (R632). -/
def Dev.seenBefore (d : Dev) (origin version : Nat) : Bool × Dev :=
  let l := Tab.getD d.seenMsgs origin []
  if l.contains version then (true, d) else (false, { d with seenMsgs := Tab.set d.seenMsgs origin ((version :: l).take 256) })

end Sys2Proof.Machine
end

