-- ==== Sys2Proof/Machine/Lending.lean ====
section
/-!
DEFINITION. Mirrors opened, closed and promoted, failed nodes, lent windows, and migrations to and from T2 and T3 (13 R660,
R663 to R666, R677 to R681, R685; 10 R483 to R497, R500, R503).
-/
namespace Sys2Proof.Machine

/-! ## Opening and closing a mirror (13 R663 to R666, R677) -/

/-- The stand's mirror connection to a node, opened at this end when there is none; it is charged to STD_Q_CONN and never
refused for it (03 R95). -/
def Dev.openMirConn (d : Dev) (s n : Nat) : Dev :=
  if d.conns.any fun e => e.2.stand == s && e.2.peer == n && e.2.mirror && (e.2.st == 1 || e.2.st == 2) then d
  else match d.newConn s n 1 fun x => { x with mirror := true } with
    | some (_, d) => d
    | none => d

/-- MIRROR_ACK (log 23): source key, status, mirror key, 4 bytes zero. -/
def Dev.mirrorAck (d : Dev) (n : Nat) (skey : BitVec 32) (status : Nat) (key : BitVec 32) : Dev :=
  d.cruiseMsg n 16 (natLe 4 skey.toNat ++ natLe 4 status ++ natLe 4 key.toNat ++ natLe 4 0)

/-- MIRROR_OPEN at the partner (R664 to R666). -/
def Dev.rxMirrorOpen (d : Dev) (origin : Nat) (body : List Byte) : Dev :=
  let s := recNum body 0 1 % 32
  let kind := recNum body 1 1
  let len := recNum body 8 8
  let skey := BitVec.ofNat 32 (recNum body 4 4)
  let units := if kind = 0 then ceilDiv len 65536 else 0
  let sameProfiles := (List.range 8).all fun k =>
    recBytes (Tab.getD d.profiles (s * 8 + k) []) 0 16 == recBytes body (24 + 16 * k) 16
  if d.cmpState = 1 then d.mirrorAck origin skey 2 0
  else if (d.std s).quota.t1 < d.useOf s 1 + units ∧ units ≠ 0 then d.mirrorAck origin skey 3 0
  else if kind = 4 ∧ !sameProfiles then d.mirrorAck origin skey 8 0
  else match d.freeIndex with
    | none => d.mirrorAck origin skey 4 0
    | some i => match d.allocUnits s units [] with
      | none => d.mirrorAck origin skey 3 0
      | some (fs, d) =>
        let d := d.newTract i { Tract.none_ with kind := 7, rights := 10, mode := recNum body 2 1, partner := origin, stand := s,
                                                 len := 4096, frames := fs, st := .active, src := some (origin, skey),
                                                 srcKind := kind, srcRights := recNum body 3 1, srcLen := len,
                                                 srcEpoch := BitVec.ofNat 32 (recNum body 16 4), nextInt := d.mirNow }
        let key := ((d.tract? i).map fun t => t.key i).getD 0
        (d.openMirConn s origin).mirrorAck origin skey 0 key

/-- The tract of this module that waits for MIRROR_ACK under a key. -/
def Dev.openingTract (d : Dev) (key : BitVec 32) : Option (Nat × Tract) :=
  match d.tract? (keyIndex key) with
  | some t => if t.st = .opening ∧ t.key (keyIndex key) = key then some (keyIndex key, t) else none
  | none => none

/-- A mirrored registration that fails: the tract goes, the command completes with a status (R663). -/
def Dev.mirrorFail (d : Dev) (i : Nat) (t : Tract) (code : Nat) : Dev :=
  let d := (d.freeUnits t.frames).setTract i { t with st := .free, frames := [], cmd := none }
  match t.cmd with
  | some (s, tag) => d.postCmd s tag 0x10 0 code 0 0
  | none => d

/-- MIRROR_ACK at the source (R663, R665). -/
def Dev.rxMirrorAck (d : Dev) (origin : Nat) (body : List Byte) : Dev :=
  let key := BitVec.ofNat 32 (recNum body 0 4)
  match d.openingTract key with
  | none => d
  | some (i, t) =>
    if t.partner ≠ origin then d
    else if recNum body 4 4 ≠ 0 then d.mirrorFail i t (recNum body 4 4)
    else
      let d := d.setTract i { t with st := .active, mkey := some (BitVec.ofNat 32 (recNum body 8 4)), cmd := none, nextInt := d.mirNow }
      let d := d.openMirConn t.stand origin
      match t.cmd with
      | some (s, tag) => d.postCmd s tag 0x10 0 0 (key.setWidth 64) 0
      | none => d

/-- MIRROR_OPEN_TIMEOUT: no MIRROR_ACK within 1 ms (R663). -/
def Dev.mirrorTimeout (d : Dev) (i : Nat) : Dev :=
  match d.tract? i with
  | some t => if t.st = .opening then d.mirrorFail i t 5 else d
  | none => d

/-- MIRRORED cleared in every page of a set. -/
def Dev.clearMirrored (d : Dev) (set s : Nat) : Dev :=
  (d.setPages set).foldl (fun d lp => match d.pte set lp.1 lp.2 with
    | some v =>
      let t := d.tileRead (pteTier v) s (pteFrame v) descLen
      d.tileWrite (pteTier v) s (pteFrame v) 0 (setTileFlag t flMirrored false)
    | none => d) d

/-- A mirrored tract set to unmirrored: its messages complete on local placement, its sequences are mirrored no more, and its
stand is told MIRROR_LOST (R677). -/
def Dev.unmirror (d : Dev) (i : Nat) : Dev :=
  match d.tract? i with
  | none => d
  | some t =>
    if t.mode = 0 ∨ t.kind = 7 ∨ t.st ≠ .active then d
    else
      let d := d.setTract i { t with mode := 0, partner := 0, mkey := none, sends := [] }
      let d := t.sends.foldl (fun d m => d.mirAcked i m.num) d
      let keys := (d.mirSeqs.filter fun e => e.2.tract == i).map (·.1)
      let d : Dev := { d with mirSeqs := d.mirSeqs.filter fun e => e.2.tract != i }
      let d := keys.foldl (fun d k => match d.entry k with
        | some v => d.clearMirrored (dvSet v) (keyStand k)
        | none => d) d
      let d := d.postNotice t.stand t.partner 0 0 (t.key i) 0 0 3 0 10
      (d.raise 0x261 ⟨.edge, 0⟩ [t.stand] (BitVec.ofNat 64 i)).mirRelease i

/-- The copy that a MIRROR tract feeds deleted, and the tract gone (R677). -/
def Dev.dropCopy (d : Dev) (i : Nat) (t : Tract) : Dev :=
  let d := ((d.copies.filter fun c => c.2.tract == i).map (·.1)).foldl (fun d k => d.copyDel k) d
  d.tractGone i t

/-- MIRROR_CLOSE: at a partner the copy goes; at a source the tract is unmirrored (R677; log 27). -/
def Dev.rxMirrorClose (d : Dev) (origin : Nat) (body : List Byte) : Dev :=
  let key := BitVec.ofNat 32 (recNum body 0 4)
  match d.tracts.find? fun e => e.2.kind == 7 && e.2.st == .active && e.2.src == some (origin, key) with
  | some (i, t) => d.dropCopy i t
  | none => match d.tract? (keyIndex key) with
    | some t => if t.key (keyIndex key) = key ∧ t.partner = origin then d.unmirror (keyIndex key) else d
    | none => d

/-! ## Promotion (R678 to R681) -/

/-- Whole intervals applied in order, at most n of them. -/
def Dev.promoteInts (i : Nat) : Nat → Dev → Dev
  | 0, d => d
  | n + 1, d =>
    match (d.tract? i).bind fun t => (t.ints.find? fun e => e.1 ≤ t.nextInt && e.2.whole).map fun e => (t, e) with
    | some (t, (k, iv)) => Dev.promoteInts i n (d.mirApplyInt i k t iv)
    | none => d

/-- A copy sequence becomes a sequence: its entry is inserted resident with the attributes of its SEQ_NEW (R678). One that
exists already is left. -/
def Dev.promoteCopy (d : Dev) (key : Nat) (c : CopySeq) : Dev :=
  let d := (d.clearMirrored c.set (keyStand key))
  let d : Dev := { d with copies := Tab.del d.copies key }
  if (d.entry key).isSome then d
  else
    let v := BitVec.ofNat 64 (stResident * 2 ^ 61 + nbits c.attr 24 23 * 2 ^ 59 + nbits c.attr 22 22 * 2 ^ 58 +
      nbits c.attr 31 28 * 2 ^ 28 + c.profile * 2 ^ 25 + c.set)
    { d with shadow := Tab.set d.shadow key v, dirOps := d.dirOps ++ [⟨key, some v, .none⟩] }

/-- PROMOTED held (R681): the newest for a source tract. -/
def Dev.holdPromoted (d : Dev) (p : Promoted) : Dev :=
  { d with promoted := (d.promoted.filter fun q => !(q.node == p.node && q.key == p.key)) ++ [p] }

/-- One MIRROR tract fed by a failed node promoted by the steps of R678. -/
def Dev.promote (d : Dev) (i node : Nat) : Dev :=
  match d.tract? i with
  | none => d
  | some t0 =>
    let d := if t0.mode = 2 then Dev.promoteInts i (t0.ints.length + 1) d else d
    match d.tract? i, t0.src with
    | some t, some (_, skey) =>
      let d := d.incWrap .cmp 0 0x8018 31 0 t.ints.length
      let d := (d.copies.filter fun c => c.2.tract == i).foldl (fun d c => d.promoteCopy c.1 c.2) d
      let e := t.srcEpoch + 1
      let d := d.setTract i { t with kind := t.srcKind, rights := t.srcRights, mode := 0, partner := 0, len := t.srcLen,
                                     own := some e, ints := [] }
      let d := (d.incWrap .cmp 0 0x8018 63 32 1).holdPromoted ⟨node, skey, d.node, t.key i, e⟩
      d.flood 18 false (natLe 2 node ++ natLe 2 d.node ++ natLe 4 skey.toNat ++ natLe 4 (t.key i).toNat ++ natLe 4 e.toNat)
    | _, _ => d

/-- PROMOTED (R655, R681; log 27). -/
def Dev.rxPromoted (d : Dev) (body : List Byte) : Dev :=
  let n := recNum body 2 2
  let e := BitVec.ofNat 32 (recNum body 12 4)
  let d := d.holdPromoted ⟨recNum body 0 2, BitVec.ofNat 32 (recNum body 4 4), n, BitVec.ofNat 32 (recNum body 8 4), e⟩
  { d with conns := Tab.mapAll d.conns fun _ (x : Conn) =>
    if x.peer = n ∧ x.cruise.isNone ∧ x.epoch.toNat < e.toNat then { x with epoch := e } else x }

/-! ## Lent windows (10 R490 to R497; 13 R685) -/

/-- Frames of a granule of 256 MiB. -/
def granFrames : Nat := 1048576

/-- TIE_T2_HELD brought up to the windows lent and held; a window that is reclaimed no longer counts as held (R494). -/
def Dev.showLent (d : Dev) : Dev :=
  let held := ((d.lendIn.filter fun w => !w.closing).map (·.frames)).sum / 4096
  let lent := ((d.lendOut.map fun w => w.granules.length).sum) * 256
  (d.setFld .cell 0 0x60818 31 0 held).setFld .cell 0 0x60818 63 32 lent

/-- Free frames of T1. -/
def Dev.t1Free (d : Dev) : Nat := (d.dieFree 16) + (d.dieFree 17) + (d.dieFree 18) + (d.dieFree 19)

/-- T1 short of 1/64: LEND_ASK to the sled neighbour that offers most (R685). One is out at a time (log 28). -/
def Dev.lendCheck (d : Dev) : Dev :=
  let total := 4 * (2 ^ 27 - d.svcRes * 2 ^ 20)
  if total ≤ d.t1Free * 64 then (if d.lendAsk then { d with lendAsk := false } else d)
  else if d.lendAsk ∨ d.fld .cell 0 0x60810 0 0 = 1 ∨ d.cmpState = 1 ∨ !d.lendOut.isEmpty then d
  else
    let ns := d.rowMap.filter fun e => sameSled e.1 d.node && d.nodeLive e.1 && recNum e.2 24 1 != 0
    match d.pick 5 (ns.filter fun e => ns.all fun f => recNum f.2 24 1 ≤ recNum e.2 24 1) with
    | some (n, e) => ({ d with lendAsk := true }).cruiseMsg n 19 (natLe 1 (min 7 (recNum e 24 1)) ++ natLe 7 0)
    | none => d

/-- Granules taken from the edges, at most n. -/
def Dev.takeGranules (d : Dev) : Nat → List Nat → List Nat × Dev
  | 0, fs => (fs, d)
  | n + 1, fs => ((d.allocFrom granFrames (d.turned 3 [16, 17, 18, 19])).map fun x =>
      Dev.takeGranules (x.2.holdRun x.1 granFrames) n (fs ++ [x.1])).getD (fs, d)

/-- Body of LEND_GRANT, RECLAIM and RELEASE: granules, 3 bytes zero, key, base (log 23). -/
def lendBody (n : Nat) (key : BitVec 32) : List Byte := natLe 1 n ++ natLe 3 0 ++ natLe 4 key.toNat ++ natLe 8 0

/-- LEND_ASK at the lender (R490, R491): LEND_GRANT, or nothing. -/
def Dev.rxLendAsk (d : Dev) (origin : Nat) (body : List Byte) : Dev :=
  let mine := ((d.lendOut.filter fun w => w.borrower == origin).map fun w => w.granules.length).sum
  let n := min (recNum body 0 1) (min d.lendOffer (min 7 (d.fld .cell 0 0x60810 10 8) - mine))
  if n = 0 ∨ !sameSled origin d.node ∨ origin = d.node then d
  else
    let (fs, d) := d.takeGranules n []
    if fs.isEmpty then d
    else match d.freeIndex with
      | none => d
      | some i =>
        let d := d.newTract i { Tract.none_ with kind := 8, rights := 3, partner := origin, stand := 0,
                                                 len := fs.length * 2 ^ 28, frames := fs, st := .active }
        let key := ((d.tract? i).map fun t => t.key i).getD 0
        let d : Dev := { d with lendOut := d.lendOut ++ [⟨origin, key.toNat, fs, false⟩] }
        d.showLent.cruiseMsg origin 20 (lendBody fs.length key)

/-- LEND_GRANT at the borrower. -/
def Dev.rxLendGrant (d : Dev) (origin : Nat) (body : List Byte) : Dev :=
  let n := recNum body 0 1
  if n = 0 ∨ 7 < n ∨ !d.lendOut.isEmpty then d
  else
    let first := (d.lendIn.map fun w => w.first + w.frames).foldl max 0
    let w : LendIn := ⟨origin, recNum body 4 4, first, n * granFrames, false⟩
    ({ d with lendAsk := false, lendIn := d.lendIn ++ [w] }).showLent

/-- A lent window taken back: its granules are free, its tract is gone. -/
def Dev.takeBack (d : Dev) (w : LendOut) : Dev :=
  let i := keyIndex (BitVec.ofNat 32 w.tract)
  let d := w.granules.foldl (fun d f =>
    { d with runs := Tab.del d.runs f, mem := Memory.zero d.mem (f * 256) (granFrames * 256) }) d
  let d := d.modTract i fun t => { t with st := .hold, frames := [] }
  ({ d with lendOut := d.lendOut.erase w }).showLent

/-- The lender reclaims its windows of which a condition holds (R494). -/
def Dev.reclaim (d : Dev) (p : LendOut → Bool) : Dev :=
  d.lendOut.foldl (fun d w =>
    if w.reclaimed || !p w then d
    else
      let d : Dev := { d with lendOut := d.lendOut.map fun x => if x == w then { x with reclaimed := true } else x }
      d.cruiseMsg w.borrower 21 (lendBody w.granules.length (BitVec.ofNat 32 w.tract))) d

/-- A write to TIE_LEND_CFG: EN 0 reclaims every window, a lower MAX_GRAN those of a borrower that holds more (log 28). -/
def Dev.lendCfg (d : Dev) : Dev :=
  let en := d.fld .cell 0 0x60810 0 0
  let most := d.fld .cell 0 0x60810 10 8
  d.reclaim fun w => en == 0 ||
    decide (most < ((d.lendOut.filter fun x => x.borrower == w.borrower).map fun x => x.granules.length).sum)

/-- RECLAIM at the borrower: no tile is placed in the window any more, and it is evacuated (R494). -/
def Dev.rxReclaim (d : Dev) (origin : Nat) (body : List Byte) : Dev :=
  let ws := d.lendIn.map fun (w : LendIn) =>
    if w.lender = origin ∧ w.tract = recNum body 4 4 then { w with closing := true } else w
  ({ d with lendIn := ws }).showLent

/-- RELEASE at the lender. -/
def Dev.rxRelease (d : Dev) (origin : Nat) (body : List Byte) : Dev :=
  match d.lendOut.find? fun w => w.borrower == origin && w.tract == recNum body 4 4 with
  | some w => d.takeBack w
  | none => d

/-- True when no tile and no move's destination lies in a window. -/
def Dev.windowEmpty (d : Dev) (w : LendIn) : Bool := (d.runsIn (tileFrame 2 0 w.first, w.frames)).isEmpty

/-- Reclaimed windows that are empty released (R494). -/
def Dev.releaseCheck (d : Dev) : Dev :=
  d.lendIn.foldl (fun d w =>
    if w.closing && d.windowEmpty w then
      let d : Dev := { d with lendIn := d.lendIn.erase w }
      (d.showLent.incWrap .cell 0 0x60828 31 0 1).cruiseMsg w.lender 22 (lendBody (w.frames / granFrames) (BitVec.ofNat 32 w.tract))
    else d) d

/-- Pages whose tile lies in a window: number and record. -/
def Dev.windowPages (d : Dev) (w : LendIn) : Tab PageInfo :=
  d.pages.filter fun e => (d.pte (pkSet e.1) (pkLayer e.1) (pkPage e.1)).any fun v =>
    pteTier v == 2 && w.first ≤ pteFrame v && pteFrame v < w.first + w.frames

/-- A window lost: its pages are quarantined and T2_LOST is raised for their stands; the window is gone (R496, R497). -/
def Dev.windowLost (d : Dev) (w : LendIn) (counted : Bool) : Dev :=
  let ps := d.windowPages w
  let d := d.abandonMigrs fun m => ps.any fun e => pkSet e.1 == m.set && pkLayer e.1 == m.layer && pkPage e.1 == m.page
  let d := d.abandonMigrs fun m => m.tier == 2 && w.first ≤ m.frame && m.frame < w.first + w.frames
  let d := ps.foldl (fun d e => d.quarPage (pkSet e.1) (pkLayer e.1) (pkPage e.1)) d
  let d := if counted then d.incSat .cell 0 0x60828 63 32 ps.length else d
  let ss := (ps.map fun e => e.2.stand).eraseDups
  let d := if ps.isEmpty then d else d.raise 0x262 ⟨.edge, 0⟩ ss 0
  ({ d with lendIn := d.lendIn.erase w }).showLent

/-- LEND_DEADLINE with a node: the lender's 10 ms passed before the release. As lender this module takes its window back; as
borrower it quarantines what it had not moved (R496). -/
def Dev.lendDeadline (d : Dev) (n : Nat) : Dev :=
  let d := (d.lendOut.filter fun w => w.borrower == n && w.reclaimed).foldl (fun d w => d.takeBack w) d
  (d.lendIn.filter fun w => w.lender == n && w.closing).foldl (fun d w => d.windowLost w true) d

/-! ## A node declared FAILED (R639, R660, R677, R678; 10 R497) -/

/-- What every module does when a node is declared FAILED; steps already done are skipped (R680). -/
def Dev.nodeFailed (d : Dev) (x : Nat) : Dev :=
  if x = d.node then d
  else
    let d : Dev := { d with failed := if d.failed.contains x then d.failed else d.failed ++ [x] }
    let d := d.slices.foldl (fun d e => if e.2.owner = x then d.commitSlice e.1 d.node else d) d
    let d := d.tracts.foldl (fun d e => if e.2.partner = x && e.2.kind != 7 then d.unmirror e.1 else d) d
    let d := d.tracts.foldl (fun d e =>
      if e.2.kind = 7 ∧ e.2.st = .active ∧ (e.2.src.any fun s => s.1 == x) then d.promote e.1 x else d) d
    let d := (d.lendIn.filter fun w => w.lender == x).foldl (fun d w => d.windowLost w false) d
    (d.lendOut.filter fun w => w.borrower == x).foldl (fun d w => d.takeBack w) d

/-- A node declared FAILED by its lookout: FAIL is flooded in the hall (log 23: failed node, lookout's node, 4 bytes zero). -/
def Dev.declareFailed (d : Dev) (x : Nat) : Dev :=
  if d.failed.contains x ∨ d.lookoutOf x ≠ d.node ∨ x = d.node then d
  else (d.flood 6 false (natLe 2 x ++ natLe 2 d.node ++ natLe 4 0)).nodeFailed x

/-- LOOKOUT_TIMEOUT: no link to a watched node has carried heartbeats for FAIL_US (R639). -/
def Dev.lookoutTimeout (d : Dev) (x : Nat) : Dev :=
  if (List.range 16).any fun p => d.portActive p && d.peerNode p == x && (d.link p).hb then d else d.declareFailed x

/-- ENTRY: held; one with STATE HALTED makes its lookout declare the node FAILED at once (R639). -/
def Dev.rxEntry (d : Dev) (body : List Byte) : Dev :=
  let d := d.takeEntry body
  if recNum body 2 1 = 4 then d.declareFailed (recNum body 0 2) else d

/-- FAIL; one that a module sends about itself is taken as any other (R639). -/
def Dev.rxFail (d : Dev) (body : List Byte) : Dev := d.nodeFailed (recNum body 0 2)

/-- FAIL of this module about itself, before a module reset or a halt (R639). -/
def Dev.failSelf (d : Dev) : Dev := d.flood 6 false (natLe 2 d.node ++ natLe 2 d.node ++ natLe 4 0)

/-! ## Migrations from and to T2 and T3 (10 R485, R487, R492, R495, R500) -/

/-- The window that holds a T2 frame. -/
def Dev.windowOf (d : Dev) (frame : Nat) : Option LendIn :=
  d.lendIn.find? fun w => w.first ≤ frame && frame < w.first + w.frames

/-- A move replaced. -/
def Dev.setMigr (d : Dev) (m : Migr) : Dev := { d with migrs := d.migrs.map fun x => if x.id == m.id then m else x }

/-- A TC6 message to a window, over the cruise connection to its lender (R492, R516). -/
def Dev.lentMsg (d : Dev) (frame ty : Nat) (tile : List Byte) (len id : Nat) (recovery : Bool) : Dev :=
  match d.windowOf frame with
  | none => d.endMsg (.lent id) (0x100 + 21)
  | some w =>
    match d.cruiseTo w.lender with
    | none => d.endMsg (.lent id) (0x100 + 21)
    | some (c, d) =>
      d.startMsg c { mkMsg ty 6 false (BitVec.ofNat 32 w.tract) ((frame - w.first) * 256) tile len (.lent id) with recovery := recovery }

/-- The write of a move's tile into T2 or T3 begun. -/
def Dev.migrWrite (d : Dev) (m : Migr) (tile : List Byte) (recovery : Bool) : Dev :=
  let d := d.setMigr { m with leg := 2, tile := tile }
  let s := keyStand (d.setKey m.set)
  if m.tier = 2 then d.lentMsg m.frame tyPut tile tile.length m.id recovery
  else d.issueDma 0 (.migrate m.id) fun _ => .dmaWrite 0 (d.zoneAddr s m.frame) tile

/-- MIGRATION_START: a move of a page begins as migrate gives, a promotion in place of an eviction or recode in flight (10 Table
2); one from T2 or T3 reads its tile first, one to T2 or T3 writes it. -/
def Dev.migrateStart (d : Dev) (set l p : Nat) : Dev :=
  let d := if d.promos.any fun q => q.set == set && q.layer == l && q.page == p then d.cancelFor set l p else d
  match d.pte set l p with
  | none => d
  | some v =>
    if pteTier v = 3 ∧ (!d.fnLive 0 ∨ !d.zoneActive (keyStand (d.setKey set))) then d
    else
      let d1 := d.migrate set l p
      match d1.migrs.find? fun m => m.id == d.migNext with
      | none => d1
      | some m =>
        let s := keyStand (d.setKey set)
        let n := tileLen (pteClen v)
        if pteTier v = 2 then (d1.setMigr { m with leg := 1 }).lentMsg (pteFrame v) tyGet [] n m.id (d.inClosing v)
        else if pteTier v = 3 then
          (d1.setMigr { m with leg := 1 }).issueDma 0 (.migrate m.id) fun i => .dmaRead 0 i (d.zoneAddr s (pteFrame v)) n
        else if 2 ≤ m.tier then d1.migrWrite m (d.tileOf s v) (pteTier v == 0 && d.t0Out (frameDie (pteFrame v)))
        else d1

/-- One leg of a move ended: the tile was read, and is committed or written on; or it was written, and is committed; a failed
leg abandons the move (R487; a tile of T3 that cannot be read is quarantined). -/
def Dev.migrLeg (d : Dev) (id : Nat) (ok : Bool) (data : Option (List Byte)) : Dev :=
  match d.migrs.find? fun m => m.id == id && m.leg != 0 with
  | none => d
  | some m =>
    if !ok then
      let d1 := d.abandonMigrs fun x => x.id == id
      if m.leg = 1 ∧ data.isSome then d1.quarPage m.set m.layer m.page else d1
    else if m.leg = 1 then
      let tile := data.getD m.tile
      if 2 ≤ m.tier ∧ dcrcOk tile then d.migrWrite m tile true else d.commitMigr m (some tile)
    else d.commitMigr m (some m.tile)

end Sys2Proof.Machine
end

