-- ==== Sys2Proof/Machine/Crypto.lean ====
section
/-!
DEFINITION. The published algorithms that the spec names: SHA-384 (FIPS 180-4), HMAC (RFC 2104) and ECDSA verification over
P-384 (FIPS 186-5) (03 R77; 06 R297; 16 R785; log 31).
-/
namespace Sys2Proof.Machine

/-! ## SHA-384 -/

/-- The largest r below 2^(n+1) + r0 with r^k at most x, found bit by bit from r0. -/
def rootBits (k x : Nat) : Nat → Nat → Nat
  | 0, r => if (r + 1) ^ k ≤ x then r + 1 else r
  | n + 1, r => rootBits k x n (if (r + 2 ^ (n + 1)) ^ k ≤ x then r + 2 ^ (n + 1) else r)

/-- The first 80 primes. -/
def primes80 : List Nat := (List.range 410).filter fun n => 2 ≤ n && [2, 3, 5, 7, 11, 13, 17, 19].all fun m => m == n || n % m != 0

/-- Round constants: the first 64 bits of the fractions of the cube roots of the first 80 primes. -/
def shaK : List Nat := primes80.map fun p => rootBits 3 (p * 2 ^ 192) 68 0 % 2 ^ 64

/-- Initial hash value: the first 64 bits of the fractions of the square roots of the ninth to sixteenth primes. -/
def shaH0 : List Nat := ((primes80.drop 8).take 8).map fun p => rootBits 2 (p * 2 ^ 128) 68 0 % 2 ^ 64

/-- A 64-bit word rotated right by n. -/
def shaRot (x n : Nat) : Nat := (x >>> n ||| x <<< (64 - n)) % 2 ^ 64

/-- A big-endian number. -/
def beNat : List Byte → Nat := fun bs => bs.foldl (fun n b => n * 256 + b.toNat) 0

/-- n big-endian bytes. -/
def natBe (n v : Nat) : List Byte := (natLe n v).reverse

/-- The message padded to a multiple of 128 bytes. -/
def shaPad (m : List Byte) : List Byte :=
  m ++ [0x80#8] ++ List.replicate ((128 + 111 - m.length % 128) % 128) 0#8 ++ natBe 16 (8 * m.length)

/-- Blocks of 128 bytes, at most n. -/
def shaBlocks : Nat → List Byte → List (List Byte)
  | 0, _ => []
  | n + 1, m => if m.isEmpty then [] else m.take 128 :: shaBlocks n (m.drop 128)

/-- Message schedule words 16 to 79: the last sixteen words, newest first, and words still to make. -/
def shaSched : Nat → List Nat → List Nat
  | 0, w => w
  | n + 1, w =>
    let a := w.getD 1 0
    let b := w.getD 14 0
    let s1 := shaRot a 19 ^^^ shaRot a 61 ^^^ (a >>> 6)
    let s0 := shaRot b 1 ^^^ shaRot b 8 ^^^ (b >>> 7)
    shaSched n ((s1 + w.getD 6 0 + s0 + w.getD 15 0) % 2 ^ 64 :: w)

/-- The eight working variables, each below 2^64. -/
structure ShaVars where
  a : Nat
  b : Nat
  c : Nat
  d : Nat
  e : Nat
  f : Nat
  g : Nat
  h : Nat

/-- One round. -/
def ShaVars.round (v : ShaVars) (k w : Nat) : ShaVars :=
  let t1 := v.h + (shaRot v.e 14 ^^^ shaRot v.e 18 ^^^ shaRot v.e 41) + ((v.e &&& v.f) ^^^ ((2 ^ 64 - 1 - v.e) &&& v.g)) + k + w
  let t2 := (shaRot v.a 28 ^^^ shaRot v.a 34 ^^^ shaRot v.a 39) + ((v.a &&& v.b) ^^^ (v.a &&& v.c) ^^^ (v.b &&& v.c))
  ⟨(t1 + t2) % 2 ^ 64, v.a, v.b, v.c, (v.d + t1) % 2 ^ 64, v.e, v.f, v.g⟩

/-- One block folded into the hash value. -/
def shaBlock (k : List Nat) (v : ShaVars) (blk : List Byte) : ShaVars :=
  let w := (List.range 16).map fun i => beNat ((blk.drop (8 * i)).take 8)
  let ws := (shaSched 64 w.reverse).reverse
  let r := (k.zip ws).foldl (fun v kw => v.round kw.1 kw.2) v
  ⟨(v.a + r.a) % 2 ^ 64, (v.b + r.b) % 2 ^ 64, (v.c + r.c) % 2 ^ 64, (v.d + r.d) % 2 ^ 64, (v.e + r.e) % 2 ^ 64, (v.f + r.f) % 2 ^ 64,
    (v.g + r.g) % 2 ^ 64, (v.h + r.h) % 2 ^ 64⟩

/-- SHA-384 of a message, as 48 bytes. -/
def sha384 (m : List Byte) : List Byte :=
  let h := shaH0
  let v : ShaVars := ⟨h.getD 0 0, h.getD 1 0, h.getD 2 0, h.getD 3 0, h.getD 4 0, h.getD 5 0, h.getD 6 0, h.getD 7 0⟩
  let p := shaPad m
  let r := (shaBlocks (p.length / 128 + 1) p).foldl (shaBlock shaK) v
  [r.a, r.b, r.c, r.d, r.e, r.f].flatMap fun w => natBe 8 w

/-- HMAC with SHA-384. -/
def hmac384 (key m : List Byte) : List Byte :=
  let k := if 128 < key.length then sha384 key else key
  let k := k ++ List.replicate (128 - k.length) 0#8
  sha384 ((k.map fun b => b ^^^ 0x5c#8) ++ sha384 ((k.map fun b => b ^^^ 0x36#8) ++ m))

/-! ## ECDSA over P-384 -/

/-- The field prime. -/
def p384 : Nat := 2 ^ 384 - 2 ^ 128 - 2 ^ 96 + 2 ^ 32 - 1

/-- The group order. -/
def n384 : Nat := 0xffffffffffffffffffffffffffffffffffffffffffffffffc7634d81f4372ddf581a0db248b0a77aecec196accc52973

/-- Coefficient b of the curve. -/
def b384 : Nat := 0xb3312fa7e23ee7e4988e056be3f82d19181d9c6efe8141120314088f5013875ac656398d8a2ed19d2a85c8edd3ec2aef

/-- Base point. -/
def gx384 : Nat := 0xaa87ca22be8b05378eb1c71ef320ad746e1d3b628ba79b9859f741e082542a385502f25dbf55296c3a545e3872760ab7
def gy384 : Nat := 0x3617de4a96262c6f5d9e98bf9292dc29f8f41dbd289a147ce9da3113b5f0b8c00a60b1ce1d7e819d7a431d7c90ea0e5f

/-- A power modulo m: n bits of the exponent from bit n - 1 down. -/
def powMod (b m e : Nat) : Nat → Nat
  | 0 => 1 % m
  | n + 1 =>
    let r := powMod b m (e / 2) n
    let r := r * r % m
    if e % 2 = 1 then r * b % m else r

/-- The inverse modulo a prime. -/
def invMod (a m : Nat) : Nat := powMod (a % m) m (m - 2) 384

/-- Subtraction modulo the field prime. -/
def subP (a b : Nat) : Nat := (a + p384 - b % p384) % p384

/-- A point in Jacobian coordinates; z = 0 is the point at infinity. -/
structure EcPt where
  x : Nat
  y : Nat
  z : Nat

/-- Doubling on a curve with a = -3. -/
def EcPt.dbl (p : EcPt) : EcPt :=
  let m := p384
  let zz := p.z * p.z % m
  let s := 4 * p.x * (p.y * p.y % m) % m
  let n := 3 * (subP p.x zz) * (p.x + zz) % m
  let x := subP (n * n % m) (2 * s)
  let y4 := (p.y * p.y % m) * (p.y * p.y % m) % m
  ⟨x, subP (n * subP s x % m) (8 * y4), 2 * p.y * p.z % m⟩

/-- Addition. -/
def EcPt.add (p q : EcPt) : EcPt :=
  if p.z = 0 then q else if q.z = 0 then p else
  let m := p384
  let z1 := p.z * p.z % m
  let z2 := q.z * q.z % m
  let u1 := p.x * z2 % m
  let u2 := q.x * z1 % m
  let s1 := p.y * (q.z * z2 % m) % m
  let s2 := q.y * (p.z * z1 % m) % m
  if u1 = u2 then (if s1 = s2 then p.dbl else ⟨1, 1, 0⟩)
  else
    let h := subP u2 u1
    let r := subP s2 s1
    let h2 := h * h % m
    let h3 := h * h2 % m
    let v := u1 * h2 % m
    let x := subP (subP (r * r % m) h3) (2 * v)
    ⟨x, subP (r * subP v x % m) (s1 * h3 % m), h * (p.z * q.z % m) % m⟩

/-- k times a point, over the low n bits of k. -/
def EcPt.mul (p : EcPt) (k : Nat) : Nat → EcPt
  | 0 => ⟨1, 1, 0⟩
  | n + 1 =>
    let r := (EcPt.mul p (k / 2) n).dbl
    if k % 2 = 1 then r.add p else r

/-- True when a point lies on the curve. -/
def onCurve (x y : Nat) : Bool :=
  x < p384 && y < p384 && y * y % p384 == subP ((x * x % p384) * x % p384 + b384) (3 * x)

/-- Verification of a signature, r then s, of a message under a public key, X then Y, all big-endian (06 R297). -/
def ecdsaVerify (pub m sig : List Byte) : Bool :=
  let x := beNat (recBytes pub 0 48)
  let y := beNat (recBytes pub 48 48)
  let r := beNat (recBytes sig 0 48)
  let s := beNat (recBytes sig 48 48)
  if pub.length ≠ 96 ∨ sig.length ≠ 96 ∨ !onCurve x y ∨ r = 0 ∨ n384 ≤ r ∨ s = 0 ∨ n384 ≤ s then false
  else
    let e := beNat (sha384 m)
    let w := invMod s n384
    let u1 := e * w % n384
    let u2 := r * w % n384
    let g : EcPt := ⟨gx384, gy384, 1⟩
    let q : EcPt := ⟨x, y, 1⟩
    let p := (g.mul u1 384).add (q.mul u2 384)
    if p.z = 0 then false
    else
      let zi := invMod p.z p384
      p.x * (zi * zi % p384) % p384 % n384 == r

end Sys2Proof.Machine
end

