-- ==== Sys2Proof/Machine/IsaInt.lean ====
section
/-!
DEFINITION. Integer and control instructions of the limber threads (07 R320 to R327).
-/
namespace Sys2Proof.Machine

/-! ## Integer instructions (R320 to R324) -/

/-- How an instruction takes its immediate (R321): it has no Immediate form, or the immediate is sign-extended,
zero-extended, or a shift count. -/
inductive ImmKind where
  | none | sext | zext | shift
  deriving DecidableEq, Repr

/-- The second source of an Immediate form, when its reserved bits are zero and the form exists. -/
def ImmKind.value (k : ImmKind) (imm : BitVec 15) : Option W64 :=
  match k with
  | .none => Option.none
  | .sext => some (imm.signExtend 64)
  | .zext => some (imm.zeroExtend 64)
  | .shift => if imm.toNat < 64 then some (imm.zeroExtend 64) else Option.none

/-- An integer instruction: gd = op u ga gb, where U may be set only for some (R320). -/
def Dev.alu (d : Dev) (t : Nat) (f : AluF) (k : ImmKind) (uOk : Bool) (op : Bool → W64 → W64 → W64) : Dev :=
  d.instr t 4 fun d x =>
    match f with
    | .reg rd a b u rsv =>
      legal (rsv == 0 && (uOk || !u)) (.ok (d.setG t rd.toNat (op u (x.rg a.toNat) (x.rg b.toNat))))
    | .imm rd a imm =>
      match k.value imm with
      | some v => .ok (d.setG t rd.toNat (op false (x.rg a.toNat) v))
      | none => .exc 1 0

/-- Bits [127:64] of a product, signed or unsigned. -/
def mulHigh (u : Bool) (a b : W64) : W64 :=
  if u then BitVec.ofNat 64 (a.toNat * b.toNat / 2 ^ 64) else BitVec.ofInt 64 (a.toInt * b.toInt / 2 ^ 64)

/-- a < b, signed or unsigned. -/
def lessThan (u : Bool) (a b : W64) : Bool := if u then a.ult b else a.slt b

/-- The smaller and the larger of two values. -/
def minW (u : Bool) (a b : W64) : W64 := if lessThan u b a then b else a
def maxW (u : Bool) (a b : W64) : W64 := if lessThan u a b then b else a

/-- The comparison that FUNC[2:0] selects (Table 5). -/
def cmpCond (c : Nat) (a b : W64) : Bool :=
  match c with
  | 0 => a == b
  | 1 => a != b
  | 2 => a.slt b
  | 3 => !a.slt b
  | 4 => a.ult b
  | _ => !a.ult b

/-- CMP (R323). -/
def Dev.cmp (d : Dev) (t : Nat) (f : RegF) : Dev :=
  d.instr t 4 fun d x =>
    legal (f.d.toNat < 8 && f.func.toNat < 6)
      (.ok (d.modThr t fun x' => x'.wp f.d.toNat (cmpCond f.func.toNat (x.rg f.a.toNat) (x.rg f.b.toNat))))

/-- LI and LUI (R324). -/
def Dev.li (d : Dev) (t : Nat) (f : WideF) : Dev :=
  d.instr t 4 fun d _ => .ok (d.setG t f.d.toNat (f.imm.signExtend 64))
def Dev.lui (d : Dev) (t : Nat) (f : WideF) : Dev :=
  d.instr t 4 fun d x => .ok (d.setG t f.d.toNat (x.rg f.d.toNat <<< 20 ||| f.imm.zeroExtend 64))

/-! ## Control instructions (R325 to R327) -/

/-- Text bytes of a thread's image. -/
def Dev.textLen (d : Dev) (t : Nat) : Nat := ((d.thrImage t).map (·.textLen)).getD 0

/-- The target of a branch: pc + 4 × OFF (R325). -/
def target (x : Thread) (off : BitVec 20) : Int := x.pc + 4 * off.toInt

/-- True when a target lies in the text and is a multiple of 4 (R326). -/
def Dev.inText (d : Dev) (t : Nat) (p : Int) : Bool := decide (0 ≤ p) && decide (p < d.textLen t) && p % 4 == 0

/-- A jump, or LOCAL_RANGE with no effect when the target is not in the text (R326). f is the rest of the effect. -/
def Dev.jumpTo (d : Dev) (t : Nat) (p : Int) (f : Dev → Dev) : InstrRes :=
  if d.inText t p then .jump (f d) p.toNat else .exc 3 (BitVec.ofInt 64 p)

/-- BR. -/
def Dev.br (d : Dev) (t : Nat) (f : BranchF) : Dev :=
  d.instr t 4 fun d x => legal (f.c == 0) (d.jumpTo t (target x f.off) id)

/-- BC: a branch that is not taken does not look at its target (log 13). -/
def Dev.bc (d : Dev) (t : Nat) (f : BranchF) : Dev :=
  d.instr t 4 fun d x =>
    legal (f.c.toNat < 8) (if x.rp f.c.toNat then d.jumpTo t (target x f.off) id else .ok d)

/-- CALL: the target is checked before the stack (log 13); 16 return addresses already there raise STACK (06 R252). -/
def Dev.call (d : Dev) (t : Nat) (f : BranchF) : Dev :=
  d.instr t 4 fun d x =>
    legal (f.c == 0)
      (if d.inText t (target x f.off) ∧ 16 ≤ x.stack.length then .exc 10 0
       else d.jumpTo t (target x f.off) fun d => d.modThr t fun x => { x with stack := (x.pc + 4) :: x.stack })

/-- RET: an empty stack raises STACK (06 R252), a popped target outside the text LOCAL_RANGE (R326). -/
def Dev.ret (d : Dev) (t : Nat) (f : RegF) : Dev :=
  d.instr t 4 fun d x =>
    legal (f.d == 0 && f.a == 0 && f.b == 0 && f.func == 0)
      (match x.stack with
       | [] => .exc 10 0
       | p :: r => d.jumpTo t p fun d => d.modThr t fun x => { x with stack := r })

/-- LOOP: C names ga (R325 to R327). -/
def Dev.loop (d : Dev) (t : Nat) (f : BranchF) : Dev :=
  d.instr t 4 fun d x =>
    let v := x.rg f.c.toNat - 1
    if d.inText t (target x f.off) then
      let d := d.setG t f.c.toNat v
      if v = 0 then .ok d else .jump d (target x f.off).toNat
    else .exc 3 (BitVec.ofInt 64 (target x f.off))

/-- YIELD: another thread's turn; the model keeps no turns (log 14). -/
def Dev.yield (d : Dev) (t : Nat) (f : RegF) : Dev :=
  d.instr t 4 fun d _ => legal (f.d == 0 && f.a == 0 && f.b == 0 && f.func == 0) (.ok d)

/-- HALT: stops the thread, or is a fatal exception of cause 14 while it holds a sub-order (06 R294). -/
def Dev.halt (d : Dev) (t : Nat) (f : RegF) : Dev :=
  d.instr t 4 fun d x =>
    legal (f.d == 0 && f.a == 0 && f.b == 0 && f.func == 0)
      (if x.sub.isSome then .exc 14 0
       else .ok ((d.modThr t fun x => { x with wait := .stopped }).settleCore (t / 4)))

/-! ## Local memory instructions (R328 to R332) -/

/-- Bytes that SIZE selects (R329). -/
def sizeBytes (size : BitVec 2) : Nat := 2 ^ size.toNat

/-- The exception of an access of n bytes at an address, in the order of R332: LOCAL_RANGE, ALIGN, SPACE. -/
def memExc (a : W64) (n : Nat) : Option Nat :=
  if adTag a = 0 ∧ 262144 ≤ adOff a then some 3
  else if a.toNat % n ≠ 0 then some 2
  else if adTag a = 0 ∨ adTag a = 1 ∨ adTag a = 3 then none else some 4

/-- LD (R328 to R330). -/
def Dev.ld (d : Dev) (t : Nat) (f : MemF) : Dev :=
  d.instr t 4 fun d x =>
    let a := addOff (x.rg f.a.toNat) f.off.toInt
    match memExc a (sizeBytes f.size) with
    | some c => .exc c a
    | none => let r := d.memRead t a (sizeBytes f.size); .ok (r.2.setG t f.d.toNat (BitVec.ofNat 64 (leNat r.1)))

/-- ST: the D field names gs (R330). -/
def Dev.st (d : Dev) (t : Nat) (f : MemF) : Dev :=
  d.instr t 4 fun d x =>
    let a := addOff (x.rg f.a.toNat) f.off.toInt
    match memExc a (sizeBytes f.size) with
    | some c => .exc c a
    | none => .ok (d.memWrite t a (natLe (sizeBytes f.size) (x.rg f.d.toNat).toNat))

/-- LDV: 64 bytes at ga + 64 × OFF. -/
def Dev.ldv (d : Dev) (t : Nat) (f : MemF) : Dev :=
  d.instr t 4 fun d x =>
    let a := addOff (x.rg f.a.toNat) (64 * f.off.toInt)
    legal (f.size == 0) (match memExc a 64 with
    | some c => .exc c a
    | none => let r := d.memRead t a 64; .ok (r.2.modThr t fun x => x.wv f.d.toNat (BitVec.ofNat 512 (leNat r.1))))

/-- STV. -/
def Dev.stv (d : Dev) (t : Nat) (f : MemF) : Dev :=
  d.instr t 4 fun d x =>
    let a := addOff (x.rg f.a.toNat) (64 * f.off.toInt)
    legal (f.size == 0) (match memExc a 64 with
    | some c => .exc c a
    | none => .ok (d.memWrite t a (natLe 64 (x.rv f.d.toNat).toNat)))

/-- PREF changes no register and no memory, and counts nothing (R331). Its access size is taken as one byte, and it may
name service memory, as R331 says and 06 Table 2 does not list (log 13). -/
def Dev.pref (d : Dev) (t : Nat) (f : MemF) : Dev :=
  d.instr t 4 fun d x =>
    let a := addOff (x.rg f.a.toNat) f.off.toInt
    legal (f.size == 0) (match memExc a 1 with
    | some c => .exc c a
    | none => .ok d)

end Sys2Proof.Machine
end

