-- ==== Sys2Proof/Machine/IsaVec.lean ====
section
/-!
DEFINITION. Vector instructions of the limber threads (07 R333 to R338).
-/
namespace Sys2Proof.Machine

/-- Lane i of a vector in lanes of w bits. -/
def lane (v : BitVec 512) (w i : Nat) : Nat := (v.toNat >>> (w * i)) % 2 ^ w

/-- A vector from its lanes of w bits, lane 0 first. -/
def ofLanes (w : Nat) (ls : List Nat) : BitVec 512 :=
  BitVec.ofNat 512 (ls.foldr (fun x a => a * 2 ^ w + x % 2 ^ w) 0)

/-- Lane width of a type: 0 f32, 1 bf16, 2 i64 (Table 8). -/
def tyBits : Nat → Nat
  | 0 => 32 | 1 => 16 | _ => 64

/-- Format of a floating lane type. -/
def tyFmt : Nat → Fmt
  | 0 => fmtF32 | _ => fmtBf16

/-- A floating operation on two or three lanes of one type, rounded once; NaN gives the quiet NaN (R335). -/
def flane (ty : Nat) (op : Fv → Fv → Fv → Fv) (d a b : Nat) : Nat :=
  (tyFmt ty).encode false (op ((tyFmt ty).decode d) ((tyFmt ty).decode a) ((tyFmt ty).decode b))

/-- A lane-wise operation of va and vb on old vd. -/
def lanes (w : Nat) (op : Nat → Nat → Nat → Nat) (d a b : BitVec 512) : BitVec 512 :=
  ofLanes w ((List.range (512 / w)).map fun i => op (lane d w i) (lane a w i) (lane b w i))

/-- A vector instruction: legal lane types, and its result from the old vd, va and vb (R333, R334). -/
def Dev.vec (d : Dev) (t : Nat) (f : VecF) (types : List Nat) (op : Nat → BitVec 512 → BitVec 512 → BitVec 512 → BitVec 512) :
    Dev :=
  d.instr t 4 fun d x =>
    legal (f.pn == 0 && types.contains f.ty.toNat)
      (.ok (d.modThr t fun x' =>
        x'.wv f.d.toNat (op f.ty.toNat (x.rv f.d.toNat) (x.rv f.a.toNat) (x.rv f.b.toNat))))

/-- VADD. -/
def vadd (ty : Nat) (d a b : BitVec 512) : BitVec 512 :=
  if ty = 2 then lanes 64 (fun _ x y => x + y) d a b else lanes (tyBits ty) (flane ty fun _ x y => x.add y) d a b

/-- VMUL. -/
def vmul (ty : Nat) (d a b : BitVec 512) : BitVec 512 := lanes (tyBits ty) (flane ty fun _ x y => x.mul y) d a b

/-- VFMA. -/
def vfma (ty : Nat) (d a b : BitVec 512) : BitVec 512 := lanes (tyBits ty) (flane ty fun z x y => z.add (x.mul y)) d a b

/-- VMAX; signed for i64. -/
def vmax (ty : Nat) (d a b : BitVec 512) : BitVec 512 :=
  if ty = 2 then lanes 64 (fun _ x y => (maxW false (BitVec.ofNat 64 x) (BitVec.ofNat 64 y)).toNat) d a b
  else lanes (tyBits ty) (flane ty fun _ x y => x.max y) d a b

/-- Every lane set to one value. -/
def splat (ty : Nat) (v : Nat) : BitVec 512 := ofLanes (tyBits ty) (List.replicate (512 / tyBits ty) v)

/-- The lanes of a floating vector as values. -/
def fvals (ty : Nat) (a : BitVec 512) : List Fv := (List.range (512 / tyBits ty)).map fun i => (tyFmt ty).decode (lane a (tyBits ty) i)

/-- VRMAX: the largest lane in every lane; NaN when any is. -/
def vrmax (ty : Nat) (_ a _b : BitVec 512) : BitVec 512 :=
  match fvals ty a with
  | [] => 0
  | x :: r => splat ty ((tyFmt ty).encode false (r.foldl Fv.max x))

/-- Neighbouring values added, each sum rounded to the format (R336). -/
def pairSums (f : Fmt) : List Fv → List Fv
  | x :: y :: r => f.round false (x.add y) :: pairSums f r
  | l => l

/-- VRSUM: pairs of neighbours added until one value remains; six rounds serve 32 lanes. -/
def vrsum (ty : Nat) (_ a _b : BitVec 512) : BitVec 512 :=
  let s := (List.range 6).foldl (fun l _ => pairSums (tyFmt ty) l) (fvals ty a)
  splat ty ((tyFmt ty).encode false (s.headD .zero))

/-- A function of bounded error on every f32 lane; lane i uses the free value k + i (R337). -/
def vfun (k : Nat) (g : Nat → BitVec 32 → BitVec 32) (a : BitVec 512) : BitVec 512 :=
  ofLanes 32 ((List.range 16).map fun i => (g (k + i) (BitVec.ofNat 32 (lane a 32 i))).toNat)

/-- VEXP2, VRSQRT or VRCP. -/
def Dev.vecFun (d : Dev) (t : Nat) (f : VecF) (g : Nat → BitVec 32 → BitVec 32) : Dev :=
  let k := d.freeCtr
  (if d.runnable t then { d with freeCtr := k + 16 } else d).vec t f [0] fun _ _ a _ => vfun k g a

/-- Type of a VCVT code: element bits and format (R338). -/
def cvtType : Nat → Nat × Fmt
  | 0 => (32, fmtF32) | 1 => (16, fmtBf16) | 2 => (8, fmtE4m3) | _ => (8, fmtE5m2)

/-- VCVT (R338): the B field holds 0, the source type and the destination type. A narrowing to FP8 saturates; an
infinity narrowed to FP8 is the largest finite magnitude. -/
def vcvt (b : Nat) (a : BitVec 512) : BitVec 512 :=
  let s := cvtType (b / 4 % 4)
  let r := cvtType (b % 4)
  let n := 512 / max s.1 r.1
  ofLanes r.1 ((List.range n).map fun i => r.2.encode (decide (r.1 = 8 ∧ s.1 ≠ 8)) (s.2.decode (lane a s.1 i)))

/-- VCVT. -/
def Dev.vecCvt (d : Dev) (t : Nat) (f : VecF) : Dev :=
  d.instr t 4 fun d x =>
    legal (f.pn == 0 && f.ty == 0 && f.b.toNat < 16)
      (.ok (d.modThr t fun x' => x'.wv f.d.toNat (vcvt f.b.toNat (x.rv f.a.toNat))))

/-- VSEL: FUNC[7:5] names the predicate; any defined lane type (R333). -/
def Dev.vecSel (d : Dev) (t : Nat) (f : VecF) : Dev :=
  d.instr t 4 fun d x =>
    legal (f.ty.toNat < 3)
      (.ok (d.modThr t fun x' => x'.wv f.d.toNat (if x.rp f.pn.toNat then x.rv f.a.toNat else x.rv f.b.toNat)))

/-- VSHUF: byte k of vd is byte (vb byte k & 63) of va. -/
def vshuf (_ : Nat) (_ a b : BitVec 512) : BitVec 512 :=
  ofLanes 8 ((List.range 64).map fun k => lane a 8 (lane b 8 k % 64))

end Sys2Proof.Machine
end

