-- ==== Sys2Proof/Machine/IsaTile.lean ====
section
/-!
DEFINITION. Tile instructions of the limber threads: TFETCH forms, the attention steps, TMM, TMERGE, TCHK, TSTORE and TWAIT
(05 R196 to R219, R242; 06 R270 to R283; 07 R339 to R346).
-/
namespace Sys2Proof.Machine

/-- What a tile instruction does: raises an exception, or takes effect with the status and the fetched tile of its token. -/
inductive TileRes where
  | exc (cause : Nat) (addr : W64)
  | done (d : Dev) (status : Nat) (src : Option Nat)

/-- One tile instruction: its handle operands, its token and its effect (R311, R312; 06 R281). Y is an operand or zero. -/
def Dev.tile (d : Dev) (t : Nat) (f : LongF) (ok useY : Bool) (body : Dev → Thread → Nat → Nat → TileRes) : Dev :=
  d.instr t 8 fun d x =>
    match x.handleOf f.x, (if useY then x.handleOf f.y else if f.y = 0 then some 0 else none) with
    | some h, some y =>
      legal ok (if x.tokFree = 0 then .stall else
        match body d x h y with
        | .exc c a => .exc c a
        | .done d st src =>
          match d.takeTok t f.d.toNat (.tile src) (some st) with
          | some (_, d) => .ok d
          | none => .stall)
    | _, _ => .exc 1 0

/-- The sub-order of a thread, with its order. -/
def Dev.thrSub (d : Dev) (t : Nat) : Option (Sub × Order) :=
  ((d.thr t).sub.bind (Tab.get? d.subs)).bind fun s => (Tab.get? d.orders s.order).map fun o => (s, o)

/-- A sub-order of a thread marked: DATA_LOST 4 stands above ENGINE_FAULT 8 (06 R265; 05 R220). -/
def Dev.badSub (d : Dev) (t st : Nat) : Dev :=
  match (d.thr t).sub with
  | some sid => { d with subs := Tab.upd d.subs sid fun s => { s with bad := if s.bad = 4 then 4 else st } }
  | none => d

/-- ENGINES of a thread's sub-order; none without one. -/
def Dev.enginesOf (d : Dev) (t : Nat) : Nat := ((d.thrSub t).map (·.1.engines)).getD 0

/-- A stage address as an exception, if it is not one or not aligned (Table 19; log 15). -/
def stageExc (a : W64) (align : Nat) : Option Nat := if adTag a ≠ 1 then some 4 else if a.toNat % align ≠ 0 then some 2 else none

/-! ## Elements -/

/-- Element i of an element section with its scale section (04 R117). -/
def secVal (fmt : Nat) (es ss : List Byte) (i : Nat) : Fv :=
  let b := fmtBits fmt
  mxValue fmt (bitField (es.drop (i * b / 8)) (i * b % 8) b) (recNum ss (i / 32) 1)

/-- Bytes that the spec does not fix. -/
def freeBytes (k n : Nat) : List Byte := (List.range n).map fun i => BitVec.ofNat 8 (Config.choice (k + i))

/-- The page bytes of a part: a window's as they are; of a page its blocks expanded, zeros for one that fails (08 R408),
free values for one that the block mask left out. -/
def KvPart.page (slots : Tab CodecSlot) (k : Nat) (p : KvPart) : List Byte × Bool :=
  if p.window then (p.bytes, false) else
  let bl := (List.range 16).map fun b =>
    if p.mask.testBit b then expandBlock slots p.bytes b else some (freeBytes (k + 4096 * b) 4096)
  (bl.flatMap fun x => x.getD (List.replicate 4096 0#8), bl.any (·.isNone))

/-- Element j of head h of token i of a part; a head or an element that the part does not hold is a free value (log 16). -/
def KvPart.elem (p : KvPart) (key : Bool) (page : List Byte) (k i h j : Nat) : Fv :=
  if h < p.headLo ∨ p.headLo + p.heads ≤ h ∨ p.prof.dim ≤ j then f32 (BitVec.ofNat 32 (Config.choice (k + i * 256 + j)))
  else if p.window then
    let n := (i * p.heads + (h - p.headLo)) * p.prof.dim + j
    if key then secVal p.prof.kFmt (page.drop (p.secs.getD 0 0)) (page.drop (p.secs.getD 1 0)) n
    else secVal p.prof.vFmt (page.drop (p.secs.getD 2 0)) (page.drop (p.secs.getD 3 0)) n
  else
    let e := pageElem p.prof key page i h j
    mxValue (if key then p.prof.kFmt else p.prof.vFmt) e.1 e.2

/-- A key or value of an operand: whether it is the window's, its token index, its elements. -/
structure OpTok where
  window : Bool
  tok : Nat
  e : List Fv

/-- The keys or values of one KV head of an operand, in the order of its parts; and whether a block failed. -/
def KvOperand.toks (o : KvOperand) (slots : Tab CodecSlot) (k : Nat) (key : Bool) (h dim : Nat) : List OpTok × Option KvPart :=
  o.parts.foldl (fun (acc : List OpTok × Option KvPart) p =>
    let r := p.page slots k
    (acc.1 ++ (List.range p.count).map fun i => ⟨p.window, p.tok0 + i, (List.range dim).map fun j => p.elem key r.1 k i h j⟩,
      if r.2 && acc.2.isNone then some p else acc.2)) ([], none)

/-- A block of a part failed its expander: EXP_LEN, the page quarantined, the sub-order DATA_LOST (08 R408). -/
def Dev.expFailed (d : Dev) (t engine : Nat) (p : KvPart) : Dev :=
  let c := t / 32
  let (set, l, pg) := p.src
  let d := d.incSat .cell c 0x40028 31 0 1
  let d := d.raise (32 * c + 10 + engine) ⟨.engine, 6 * c + engine⟩ [d.thrStand t] ((d.pte set l pg).getD 0)
  (d.quarPage set l pg).badSub t 4

/-! ## TFETCH.Q (06 Table 4) -/

/-- What a staged record means to a sub-order: profile, tokens of the slice, first token, heads, group. A KIND 4 kernel's
record counts as one slice (log 15). -/
structure RecCtx where
  pr : Profile
  n : Nat
  qFirst : Nat
  headLo : Nat
  headCnt : Nat
  g : Nat

/-- The context of a staged record of a thread. -/
def Dev.recCtx (d : Dev) (t : Nat) (hdr : List Byte) : Option RecCtx :=
  (d.thrSub t).bind fun (s, o) => (d.seqProfile? o.key).map fun pr =>
    let b := if o.kind = 4 then hdr else o.bytes
    { pr := pr, n := (if o.kind = 4 then recNum hdr 56 2 else s.n), qFirst := (if o.kind = 4 then 0 else s.qFirst),
      headLo := recNum b 54 1, headCnt := recNum b 55 1, g := recNum b 52 2 / pr.heads }

/-- Format of a record's queries (05 R175). -/
def queryFmt (hdr : List Byte) : Nat := let f := recNum hdr 51 1; if f.testBit 0 then (if f.testBit 1 then 4 else 3) else 5

/-- Bytes of a query section of n tokens with w query elements each (05 R175). -/
def querySize (fmt n w : Nat) : Nat := if fmt = 5 then 2 * n * w else roundUp (n * w) 32 + n * w / 32

/-- Reserved row set slots that bound handles other than h take. -/
def Thread.slotsUsed (x : Thread) (h : Nat) : List Nat :=
  x.t.filterMap fun e => if e.1 = h then none else
    match e.2 with
    | .rows r => some r.slot
    | .mat m => some m.slot
    | _ => none

/-- The next unused reserved row set slot of a thread and its engine (06 R271, R275). -/
def Dev.nextSlot (d : Dev) (t h : Nat) : Option (Nat × Nat) :=
  match d.thrSub t with
  | none => none
  | some (s, _) =>
    ((List.range s.rowEng.length).find? fun i => !((d.thr t).slotsUsed h).contains i).map fun i => (i, s.rowEng.getD i 0)

/-- A handle bound. -/
def Dev.bind (d : Dev) (t h : Nat) (v : Handle) : Dev :=
  (d.dropHandle t h).modThr t fun x => { x with t := Tab.set x.t h v, vers := x.vers + 1 }

/-- True when a handle is bound as an operand. -/
def Thread.isOperand (x : Thread) (h : Nat) : Bool :=
  match Tab.get? x.t h with
  | some (.kv _) => true
  | some (.weight _) => true
  | _ => false

/-- TFETCH.Q. -/
def Dev.fetchQ (d : Dev) (t : Nat) (x : Thread) (h : Nat) (ga gb : W64) : TileRes :=
  match stageExc ga 32 with
  | some c => .exc c ga
  | none =>
    if x.isOperand h then .exc 6 0 else
    match d.nextSlot t h with
    | none => .exc 6 0
    | some (slot, eng) =>
      let (hdr, d1) := d.memRead t ga 128
      match d1.recCtx t hdr with
      | none => .exc 8 0
      | some c =>
        let rel := bits gb 7 0
        let first := bits gb 23 8
        let cnt := bits gb 39 24
        if c.headCnt ≤ rel ∨ c.n < first + cnt ∨ 128 < cnt * c.g then .exc 8 0
        else
          let fmt := queryFmt hdr
          let w := c.headCnt * c.g * c.pr.dim
          let (qs, d2) := d1.memRead t (ga + 128) (querySize fmt c.n w)
          let ss := qs.drop (roundUp (c.n * w) 32)
          let rows := (List.range cnt).flatMap fun i => (List.range c.g).map fun j =>
            let r := (first + i) * (c.headCnt * c.g) + rel * c.g + j
            ({ idx := r, pos := recNum hdr 16 8 + c.qFirst + first + i,
               q := (List.range c.pr.dim).map fun e => secVal fmt qs ss (r * c.pr.dim + e),
               st := emptyRow c.pr.dim, c := 0, a := 0, n := 0 } : QRow)
          let rs : RowSet :=
            { engine := eng, slot := slot, kvHead := c.headLo + rel, dim := c.pr.dim, qFmt := fmt, vFmt := c.pr.vFmt,
              check := (recNum hdr 51 1).testBit 3 || bitAt (d.rd .stand (d.thrStand t) 0x300) 1,
              kind := recNum hdr 50 1, q0 := recNum hdr 16 8, posBase := recNum hdr 24 8, mask := recNum hdr 59 1,
              arg := recNum hdr 60 4, rows := rows, scores := [], probs := [], scale := [], skip := true, last := none,
              pFmt := 5 }
          .done (d2.bind t h (.rows rs)) 0 none

/-! ## TFETCH of pages and windows -/

/-- The tile that an entry names, when its frame holds a page of a stand (06 R259): first frame, tile, set, layer, page,
profile. -/
def Dev.tileNamed (d : Dev) (s : Nat) (e : W64) : Option (Nat × List Byte × (Nat × Nat × Nat) × Profile) :=
  let f := tileFrame (pteTier e) s (pteFrame e)
  let known := bitAt e 63 && (Tab.get? d.runs f).any fun r => r.tile
  if !known then none else
  let t := d.tileRead (pteTier e) s (pteFrame e) descLen
  let key := recNum t 0 8
  match d.entry key, d.seqProfile? key with
  | some v, some pr =>
    if keyStand key = s then
      some (f, Memory.readN d.mem (f * 256) (tileLen (tileClen t)), (dvSet v, recNum t 8 2, recNum t 16 4 / pr.tpp), pr)
    else none
  | _, _ => none

/-- The page part of a fetch, its status, and the device after what the fetch entails: heat (10 R476), a lost zone (10
R504), a failed DCRC (04 R123, R158). -/
def Dev.pagePart (d : Dev) (t : Nat) (e : W64) (mask : Nat) : KvPart × Nat × Option Nat × Dev :=
  let s := d.thrStand t
  match d.tileNamed s e with
  | none =>
    (⟨false, 0, 0, ⟨0, 1, 1, 5, 5, 1, 0⟩, 0, 0, [], [], (0, 0, 0), 0⟩, 0, none, d.kernelViol s false e.toNat)
  | some (f, tile, (set, l, p), pr) =>
    let lost := pteTier e = 3 ∧ d.sfld s 0x618 1 0 = 2
    let bad := 2 ≤ pteTier e ∧ !dcrcOk tile
    let d := d.heatUp set l p
    let d := if lost ∨ bad then d.quarPage set l p else d
    let st := if lost ∨ bad ∨ tileFlag tile flQuar then 4 else 0
    let d := if st = 4 then d.badSub t 4 else d
    let tile := if lost then tile.take descLen ++ List.replicate (tile.length - descLen) 0#8 else tile
    (⟨false, recNum tile 16 4, recNum tile 12 2, pr, 0, pr.heads, tile, [], (set, l, p), mask⟩, st, some f, d)

/-- The window part of a staged record (05 R177; 06 R261), when the record has one. -/
def Dev.windowPart (d : Dev) (t : Nat) (ga : W64) : Option (KvPart × Dev) :=
  let (hdr, d) := d.memRead t ga 128
  (d.recCtx t hdr).map fun c =>
    let fmt := queryFmt hdr
    let n := if recNum hdr 50 1 = 1 then recNum hdr 56 2 else 0
    let w := n * c.headCnt * c.pr.dim
    let at0 := 128 + roundUp (querySize fmt c.n (c.headCnt * c.g * c.pr.dim)) 32
    let el (f : Nat) : Nat := roundUp (w * fmtBits f / 8) 32
    let sc (f : Nat) : Nat := if f = 5 then 0 else roundUp (w / 32) 32
    let a1 := el c.pr.kFmt
    let a2 := a1 + sc c.pr.kFmt
    let a3 := a2 + el c.pr.vFmt
    let r := d.memRead t (ga + BitVec.ofNat 64 at0) (a3 + sc c.pr.vFmt)
    (⟨true, 0, n, c.pr, c.headLo, c.headCnt, r.1, [0, a1, a2, a3], (0, 0, 0), 0⟩, r.2)

/-- Operand handles other than h on engine e. -/
def Thread.regionsUsed (x : Thread) (h e : Nat) : Nat :=
  (x.t.filter fun y => y.1 != h && (match y.2 with
    | .kv o => o.engines.testBit e
    | .weight o => o.engines.testBit e
    | _ => false)).length

/-- The exception of binding an operand handle to the engines of a mask: wrong kind or regions short TILE_HANDLE, an engine
outside ENGINES TILE_ENGINE (06 R275, R276). -/
def Dev.bindExc (d : Dev) (t : Nat) (x : Thread) (h mask : Nat) : Option Nat :=
  if (Tab.has x.t h) && !x.isOperand h then some 6
  else if mask &&& d.enginesOf t ≠ mask then some 7
  else if (List.range 6).any fun e => mask.testBit e && ((d.thrImage t).map (·.regions)).getD 0 ≤ x.regionsUsed h e then some 6
  else none

/-- True when a handle's parts break R274: more than 256 positions, more than 8 pages, two windows. -/
def partsBad (ps : List KvPart) : Bool :=
  256 < (ps.map (·.count)).sum || 8 < (ps.filter fun p => !p.window).length || 1 < (ps.filter (·.window)).length

/-- A new operand of one part bound, with its codec copies counted (08 R392). -/
def Dev.bindKv (d : Dev) (t h : Nat) (o : KvOperand) (p : KvPart) : Dev :=
  let d := d.dropHandle t h
  (d.slotsUp p.slots).modThr t fun x =>
    { x with t := Tab.set x.t h (.kv { o with version := x.vers + 1 }), vers := x.vers + 1 }

/-- TFETCH.N: with ga 0 the handle is emptied. -/
def Dev.fetchN (d : Dev) (t : Nat) (x : Thread) (h : Nat) (ga gb : W64) : TileRes :=
  let mask := bits gb 5 0
  let blocks := if bits gb 31 16 = 0 then 65535 else bits gb 31 16
  if ga = 0 then
    (if Tab.has x.t h && !x.isOperand h then .exc 6 0 else .done (d.dropHandle t h) 0 none)
  else match d.bindExc t x h mask with
    | some c => .exc c 0
    | none =>
      let (p, st, src, d1) := d.pagePart t ga blocks
      if partsBad [p] then .exc 8 0 else .done (d1.bindKv t h ⟨mask, [p], 0⟩ p) st src

/-- An append to a KV operand: the part's codec copies are counted. -/
def Dev.appendKv (d : Dev) (t h : Nat) (o : KvOperand) (p : KvPart) : Dev :=
  (d.slotsUp p.slots).modThr t fun x =>
    { x with t := Tab.set x.t h (.kv { o with parts := o.parts ++ [p], version := x.vers + 1 }), vers := x.vers + 1 }

/-- The KV operand that an append names, or its exception; the mask must be a subset of ENGINES. -/
def Dev.appendTo (d : Dev) (t : Nat) (x : Thread) (h mask : Nat) : Nat ⊕ KvOperand :=
  match Tab.get? x.t h with
  | some (.kv o) => if mask &&& d.enginesOf t ≠ mask then .inl 7 else .inr o
  | _ => .inl 6

/-- TFETCH.A. -/
def Dev.fetchA (d : Dev) (t : Nat) (x : Thread) (h : Nat) (ga gb : W64) : TileRes :=
  match d.appendTo t x h (bits gb 5 0) with
  | .inl c => .exc c 0
  | .inr o =>
    let (p, st, src, d1) := d.pagePart t ga (if bits gb 31 16 = 0 then 65535 else bits gb 31 16)
    if partsBad (o.parts ++ [p]) then .exc 8 0 else .done (d1.appendKv t h o p) st src

/-- TFETCH.WN. -/
def Dev.fetchWN (d : Dev) (t : Nat) (x : Thread) (h : Nat) (ga gb : W64) : TileRes :=
  match stageExc ga 32, d.bindExc t x h (bits gb 5 0) with
  | some c, _ => .exc c ga
  | none, some c => .exc c 0
  | none, none =>
    match d.windowPart t ga with
    | none => .exc 8 0
    | some (p, d1) => if partsBad [p] then .exc 8 0 else .done (d1.bindKv t h ⟨bits gb 5 0, [p], 0⟩ p) 0 none

/-- TFETCH.WA. -/
def Dev.fetchWA (d : Dev) (t : Nat) (x : Thread) (h : Nat) (ga gb : W64) : TileRes :=
  match stageExc ga 32, d.appendTo t x h (bits gb 5 0) with
  | some c, _ => .exc c ga
  | none, .inl c => .exc c 0
  | none, .inr o =>
    match d.windowPart t ga with
    | none => .exc 8 0
    | some (p, d1) => if partsBad (o.parts ++ [p]) then .exc 8 0 else .done (d1.appendKv t h o p) 0 none

/-- KV format code of an activation format of TFETCH.M (07 Table 10). -/
def actFmt : Nat → Nat
  | 0 => 5 | 1 => 3 | _ => 4

/-- TFETCH.M (R340, R342). -/
def Dev.fetchM (d : Dev) (t : Nat) (x : Thread) (h : Nat) (ga gb : W64) : TileRes :=
  let rows := bits gb 7 0
  let k := bits gb 16 8
  let fc := bits gb 18 17
  match stageExc ga 32 with
  | some c => .exc c ga
  | none =>
    if x.isOperand h then .exc 6 0 else
    match d.nextSlot t h with
    | none => .exc 6 0
    | some (slot, eng) =>
      if rows = 0 ∨ 128 < rows ∨ k < 32 ∨ 256 < k ∨ k % 32 ≠ 0 ∨ 2 < fc ∨ bits gb 63 19 ≠ 0 then .exc 8 0
      else
        let fmt := actFmt fc
        let (bs, d1) := d.memRead t ga (querySize fmt rows k)
        let ss := bs.drop (roundUp (rows * k) 32)
        let m : MatRows :=
          { engine := eng, slot := slot, rows := rows, k := k, fmt := fmt,
            a := (List.range rows).map fun r => (List.range k).map fun e => secVal fmt bs ss (r * k + e),
            score := List.replicate rows (List.replicate 256 0), n := 0 }
        .done (d1.bind t h (.mat m)) 0 none

/-- Bytes [off, off + n) of a stand's weight region, when they lie in it. -/
def Dev.weightRead (d : Dev) (s off n : Nat) : Option (List Byte × Bool) :=
  match Tab.get? d.weights s with
  | none => none
  | some (pages, lost) =>
    if off + n ≤ pages.length * 65536 then
      let first := off / 65536
      let bs := ((pages.drop first).take (n / 65536 + 2)).flatMap fun f => Memory.readN d.mem (f * 256) 65536
      some ((bs.drop (off % 65536)).take n, lost)
    else none

/-- A weight region of which a read found a sector uncorrectable (14 Table 4). -/
def Dev.badWeights (d : Dev) (s off : Nat) : Dev :=
  let w := Tab.getD d.weights s ([], false)
  Dev.uncorrectable { d with weights := Tab.set d.weights s (w.1, true) } ((w.1[off / 65536]?).getD 0 + off % 65536 / 256) [s]

/-- TFETCH.W (R341, R342). -/
def Dev.fetchW (d : Dev) (t : Nat) (x : Thread) (h : Nat) (ga gb : W64) : TileRes :=
  let mask := bits gb 5 0
  let fmt := bits gb 15 8
  let n := bits gb 24 16
  let k := bits gb 33 25
  match d.bindExc t x h mask with
  | some c => .exc c 0
  | none =>
    if ga.toNat % 256 ≠ 0 ∨ bits gb 7 6 ≠ 0 ∨ 5 < fmt ∨ n = 0 ∨ 256 < n ∨ k < 32 ∨ 256 < k ∨ k % 32 ≠ 0 ∨
       bits gb 63 34 ≠ 0 then .exc 8 0
    else
      let el := n * k * fmtBits fmt / 8
      let size := if fmt = 5 then el else roundUp el 32 + n * k / 32
      let s := d.thrStand t
      let zeros := List.replicate n (List.replicate k Fv.zero)
      let d := if d.doing.badRead ∧ (d.weightRead s ga.toNat size).isSome then d.badWeights s ga.toNat else d
      let (w, lost, d1) := match d.weightRead s ga.toNat size with
        | none => (zeros, false, d.kernelViol s false ga.toNat)
        | some (bs, true) => let _ := bs; (zeros, true, d)
        | some (bs, false) =>
          let ss := bs.drop (roundUp el 32)
          ((List.range n).map fun j => (List.range k).map fun e => secVal fmt bs ss (j * k + e), false, d)
      .done (d1.bind t h (.weight ⟨mask, fmt, n, k, w, lost, x.vers + 1⟩)) 0 none

/-! ## Attention steps (05 R198) -/

/-- Visible under the mask of a record (05 R205, R206): stored keys at or above Q0 are no keys of a window's queries. -/
def RowSet.visible (r : RowSet) (qpos : Nat) (k : OpTok) : Bool :=
  let pos := if k.window then r.q0 + k.tok else r.posBase + k.tok
  let m := match r.mask with
    | 1 => decide (pos ≤ qpos) && decide (qpos < pos + r.arg)
    | 2 => decide (pos ≤ qpos) || (decide (pos < r.arg) && decide (qpos < r.arg))
    | _ => decide (pos ≤ qpos)
  if k.window then decide (pos ≤ qpos) && m
  else if r.kind = 1 then decide (pos < r.q0) && m else m

/-- A query operand at the precision that the instruction asks for (05 Table 5, R213). -/
def quantQuery (quant : Nat) (q : List Fv) : List Fv :=
  match quant with
  | 1 => mxQuant 3 q
  | 2 => mxQuant 0 q
  | _ => q

/-- FORMAT under 05 R214: quantisation against BF16 keys, or to FP4 against keys that are not MXFP4. -/
def quantBad (quant : Nat) (o : KvOperand) : Bool :=
  o.parts.any fun p => p.count != 0 && ((quant != 0 && p.prof.kFmt == 5) || (quant == 2 && p.prof.kFmt != 0))

/-- Format of the p operand (05 Table 5). -/
def probFmt (quant qFmt : Nat) (o : KvOperand) : Nat :=
  if o.parts.any fun p => p.count != 0 && p.prof.kFmt == 5 then 5
  else if quant ≠ 0 ∨ qFmt ≠ 5 then 3 else 5

/-- A row set and a KV operand on one engine, or the exception of naming them (06 R275, R276; 07 R342). -/
def pairOf (x : Thread) (h y : Nat) : Nat ⊕ (RowSet × KvOperand) :=
  match Tab.get? x.t h, Tab.get? x.t y with
  | some (.rows r), some (.kv o) => if o.engines.testBit r.engine then .inr (r, o) else .inl 7
  | _, _ => .inl 6

/-- A row set put back. -/
def Dev.setRows (d : Dev) (t h : Nat) (r : RowSet) : Dev := d.modThr t fun x => { x with t := Tab.set x.t h (.rows r) }

/-- Free values taken. -/
def Dev.tookN (d : Dev) (n : Nat) : Dev := { d with freeCtr := d.freeCtr + n }

/-- The nearest FP32 to 1 / √dim. -/
def invSqrt (dim : Nat) : BitVec 32 := toF32 (rsqrtRef dim 0)

/-- TQK. -/
def Dev.tqk (d : Dev) (t : Nat) (x : Thread) (quant h y : Nat) : TileRes :=
  match pairOf x h y with
  | .inl c => .exc c 0
  | .inr (r, o) =>
    if quantBad quant o then .exc 5 0
    else
      let k0 := d.freeCtr
      let (keys, bad) := o.toks d.slots k0 true r.kvHead r.dim
      let nk := keys.length
      let scores := r.rows.zipIdx.map fun (q, i) =>
        let qv := quantQuery quant q.q
        keys.zipIdx.map fun (key, j) =>
          if r.visible q.pos key then
            some (fmul (toF32 (sumFree (k0 + 70000 + 2 * r.dim * (i * nk + j)) (List.zipWith Fv.mul qv key.e))) (invSqrt r.dim))
          else none
      let r2 := { r with scores := scores, skip := !(scores.any fun s => s.any (·.isSome)), last := some (y, o.version),
                         pFmt := probFmt quant r.qFmt o }
      let d := (d.tookN (70000 + 2 * r.dim * r.rows.length * nk)).setRows t h r2
      match bad with
      | none => .done d 0 none
      | some p => .done (d.expFailed t r.engine p) 4 none

/-- A score as an FP32 word: -∞ where it is masked. -/
def scoreWord : Option (BitVec 32) → BitVec 32
  | some w => w
  | none => f32NegInf

/-- One row of the online softmax: new row, probabilities, rescale factor. -/
def smxRow (k pFmt : Nat) (r : Row) (s : List (Option (BitVec 32))) : Row × List Fv × BitVec 32 :=
  let mt := toF32 (s.foldl (fun a x => a.max (f32 (scoreWord x))) (f32 r.m))
  let neg := mt ^^^ 0x80000000#32
  let a := if mt = f32NegInf then f32One else expF k (fadd r.m neg)
  let ps := s.zipIdx.map fun (x, j) =>
    if mt = f32NegInf then Fv.zero else (kvFmt pFmt).round true (f32 (expF (k + 1 + j) (fadd (scoreWord x) neg)))
  ({ r with m := mt, l := fadd (fmul r.l a) (toF32 (sumFree (k + 1 + s.length) ps)) }, ps, a)

/-- The row set that a handle names, or none (TILE_HANDLE). -/
def Thread.rowsOf (x : Thread) (h : Nat) : Option RowSet :=
  match Tab.get? x.t h with
  | some (.rows r) => some r
  | _ => none

/-- TSMX. -/
def Dev.tsmx (d : Dev) (t : Nat) (x : Thread) (h : Nat) : TileRes :=
  match x.rowsOf h with
  | none => .exc 6 0
  | some r =>
    if r.skip then .done d 0 none
    else
      let k0 := d.freeCtr
      let rs := r.rows.zipIdx.map fun (q, i) => smxRow (k0 + 1000 * i) r.pFmt q.st (r.scores.getD i [])
      let r2 := { r with rows := List.zipWith (fun (q : QRow) (s : Row × List Fv × BitVec 32) => { q with st := s.1 }) r.rows rs,
                         probs := rs.map (·.2.1), scale := rs.map (·.2.2) }
      .done ((d.tookN (1000 * r.rows.length)).setRows t h r2) 0 none

/-- One row of the value step, with its check accumulators (05 R198, R218). -/
def tpvRow (k : Nat) (check : Bool) (seen : Nat) (q : QRow) (a : BitVec 32) (ps : List Fv) (vals : List OpTok) : QRow :=
  let o := q.st.o.zipIdx.map fun (w, e) =>
    fadd (fmul w a) (toF32 (sumFree (k + 1024 * e) (List.zipWith (fun p (v : OpTok) => p.mul (v.e.getD e .zero)) ps vals)))
  let st := { q.st with o := o }
  if check then
    let cs (f : Fv → Fv) : List Fv := vals.zipIdx.map fun (v, j) => sumFree (k + 300000 + 512 * j) (v.e.map f)
    { q with st := st, n := q.n + seen,
             c := fadd (fmul q.c a) (toF32 (sumFree k (List.zipWith Fv.mul ps (cs id)))),
             a := fadd (fmul q.a a) (toF32 (sumFree k (List.zipWith Fv.mul ps (cs Fv.abs)))) }
  else { q with st := st, n := q.n + seen }

/-- TPV (06 R277). -/
def Dev.tpv (d : Dev) (t : Nat) (x : Thread) (h y : Nat) : TileRes :=
  match pairOf x h y with
  | .inl c => .exc c 0
  | .inr (r, o) =>
    if r.last ≠ some (y, o.version) then .exc 8 0
    else if r.skip then .done d 0 none
    else
      let k0 := d.freeCtr
      let (vals, bad) := o.toks d.slots k0 false r.kvHead r.dim
      let rows := r.rows.zipIdx.map fun (q, i) =>
        tpvRow (k0 + 70000 + 500000 * i) r.check ((r.scores.getD i []).filter (·.isSome)).length q (r.scale.getD i f32One)
          (r.probs.getD i []) vals
      let d := (d.tookN (70000 + 500000 * r.rows.length)).setRows t h { r with rows := rows }
      match bad with
      | none => .done d 0 none
      | some p => .done (d.expFailed t r.engine p) 4 none

/-! ## The check, storing and merging rows -/

/-- ABFT factor of a value format (05 Table 6). -/
def abftF : Nat → Nat
  | 5 => 8 | 3 => 2 | 4 => 2 | _ => 1

/-- One row passes its check (05 R219); NaN raises no fault (05 R203). -/
def rowPasses (k vFmt dim : Nat) (q : QRow) : Bool :=
  let s := sumFree k (q.st.o.map f32)
  let diff := (s.add (f32 q.c).neg).abs
  let bound := (f32 q.a).mul (.fin false (abftF vFmt * (q.n + 2 * dim)) (-24))
  !(bound.lt diff)

/-- The check of a row set in check mode: a failure raises ENG_ABFT and marks the sub-order (05 R220). Status and device. -/
def Dev.abft (d : Dev) (t : Nat) (r : RowSet) : Nat × Dev :=
  let k0 := d.freeCtr
  let ok := r.rows.zipIdx.all fun (q, i) => rowPasses (k0 + 512 * i) r.vFmt r.dim q
  let d := d.tookN (512 * r.rows.length)
  if !r.check || ok then (0, d)
  else
    let order := ((d.thrSub t).map (·.1.order)).getD 0
    let c := t / 32
    (8, (d.raise (32 * c + 4 + r.engine) ⟨.engine, 6 * c + r.engine⟩ [d.thrStand t] (BitVec.ofNat 64 order)).badSub t 8)

/-- TCHK (R346). -/
def Dev.tchk (d : Dev) (t : Nat) (x : Thread) (h : Nat) : TileRes :=
  match x.rowsOf h with
  | none => .exc 6 0
  | some r => let a := d.abft t r; .done a.2 a.1 none

/-- TSTORE: FP32 rows at their indices under the base; the handle and its slot are freed. -/
def Dev.tstore (d : Dev) (t : Nat) (x : Thread) (h : Nat) (ga : W64) : TileRes :=
  match x.rowsOf h, stageExc ga 8 with
  | none, _ => .exc 6 0
  | some _, some c => .exc c ga
  | some r, none =>
    let (st, d) := d.abft t r
    let d := r.rows.foldl (fun d q => d.memWrite t (ga + BitVec.ofNat 64 (q.idx * (8 + 4 * r.dim))) (rowBytes q.st)) d
    .done (d.dropHandle t h) st none

/-- TMERGE (R345): row r of tR folds the row at ga + r × (8 + 4d), or 8 + 2d with o in BF16. What the check accumulators
hold after a merge the spec does not state: a free value (log 16). -/
def Dev.tmerge (d : Dev) (t : Nat) (x : Thread) (h : Nat) (ga gb : W64) : TileRes :=
  match x.rowsOf h, stageExc ga 8 with
  | none, _ => .exc 6 0
  | some _, some c => .exc c ga
  | some r, none =>
    let bf := bitAt gb 0
    let n := 8 + (if bf then 2 else 4) * r.dim
    let (bs, d) := d.memRead t ga (n * r.rows.length)
    let k0 := d.freeCtr
    let rows := r.rows.zipIdx.map fun (q, i) =>
      let b := (bs.drop (n * i)).take n
      { q with st := mergeRow (k0 + 4 * i) q.st (if bf then readRowBf r.dim b else readRow r.dim b),
               c := BitVec.ofNat 32 (Config.choice (k0 + 4 * i + 2)), a := BitVec.ofNat 32 (Config.choice (k0 + 4 * i + 3)) }
    .done ((d.tookN (4 * r.rows.length)).setRows t h { r with rows := rows }) 0 none

/-! ## Matrix steps (R343, R344) -/

/-- TMM: score[r][j] = (Z ? 0 : score[r][j]) + Σ a × w in FP32. -/
def Dev.tmm (d : Dev) (t : Nat) (x : Thread) (z : Bool) (h y : Nat) : TileRes :=
  match Tab.get? x.t h, Tab.get? x.t y with
  | some (.mat m), some (.weight w) =>
    if !w.engines.testBit m.engine then .exc 7 0
    else if m.k ≠ w.k then .exc 8 0
    else
      let k0 := d.freeCtr
      let score := (m.a.zip m.score).zipIdx.map fun ((a, s), r) => s.zipIdx.map fun (old, j) =>
        if j < w.n then
          toF32 (sumFree (k0 + 600 * (256 * r + j))
            (f32 (if z then 0 else old) :: List.zipWith Fv.mul a (w.w.getD j [])))
        else old
      let d := (d.tookN (600 * 256 * m.rows)).modThr t fun x =>
        { x with t := Tab.set x.t h (.mat { m with score := score, n := w.n }) }
      .done (if w.lost then d.badSub t 4 else d) (if w.lost then 4 else 0) none
  | _, _ => .exc 6 0

/-- TSTORE.S: row r of the score tile, n FP32 values, at ga + 1,024 × r. -/
def Dev.tstoreS (d : Dev) (t : Nat) (x : Thread) (h : Nat) (ga : W64) : TileRes :=
  match Tab.get? x.t h, stageExc ga 8 with
  | some (.mat m), none =>
    .done (m.score.zipIdx.foldl (fun d (s, r) =>
      d.memWrite t (ga + BitVec.ofNat 64 (1024 * r)) ((s.take m.n).flatMap fun w => natLe 4 w.toNat)) d) 0 none
  | some (.mat _), some c => .exc c ga
  | _, _ => .exc 6 0

end Sys2Proof.Machine
end

