-- ==== Sys2Proof/Machine/IsaTable.lean ====
section
/-!
DEFINITION. Memory-system instructions of the limber threads (07 R348 to R359; 04 R135, R141 to R157; 06 R258).
-/
namespace Sys2Proof.Machine

/-- A memory-system instruction: FUNC (and B where the table gives it zero) is zero (R348). -/
def Dev.msys (d : Dev) (t : Nat) (f : RegF) (useB : Bool) (body : Dev → Thread → InstrRes) : Dev :=
  d.instr t 4 fun d x => legal (f.func == 0 && (useB || f.b == 0)) (body d x)

/-- The key of a handle for a thread's stand (04 R141). -/
def Dev.thrKey (d : Dev) (t : Nat) (handle : W64) : Nat := seqKey (d.thrStand t) handle.toNat

/-! ## PWALK (04 R135; 07 R349 to R351; 06 R258) -/

/-- The pin of a thread on a layer of a set. -/
def Dev.pinOf (d : Dev) (t set l : Nat) : Option Pin := d.pins.find? fun p => p.thread == t && p.set == set && p.layer == l

/-- Root of a pinned generation. -/
def Dev.pinRoot (d : Dev) (p : Pin) : Nat :=
  let lw := d.layerWord p.set p.layer
  if bits lw 63 32 = p.gen then bits lw 31 0
  else match d.oldGens.find? fun g => g.set == p.set && g.layer == p.layer && g.gen == p.gen with
    | some g => g.root
    | none => 0

/-- A walk through a generation: the entry of the page that holds a token, or 0. -/
def Dev.walkFrom (d : Dev) (root tpp tok : Nat) : W64 :=
  if 262144 ≤ tok / tpp then 0 else (d.pteAt root (tok / tpp)).getD 0

/-- PWALK of a layer whose sequence is resident or running. -/
def Dev.pwalkLive (d : Dev) (t gd set l tok : Nat) (pr : Profile) : InstrRes :=
  match d.pinOf t set l with
  | some p => .ok (d.setG t gd (d.walkFrom (d.pinRoot p) pr.tpp tok))
  | none =>
    if d.root set l = 0 then .ok (d.setG t gd 0)
    else if 16 ≤ (d.pins.filter fun p => p.thread == t).length then .exc 9 0
    else .ok ((d.pin set l t).setG t gd (d.walkFrom (d.root set l) pr.tpp tok))

/-- PWALK: it takes an anonymous token, which completes with the walk (R350). A quarantined sequence sets DATA_LOST as the
sticky status and marks the sub-order (R349; 14 R708). -/
def Dev.pwalk (d : Dev) (t : Nat) (f : RegF) : Dev :=
  d.msys t f true fun d x =>
    if x.tokFree = 0 then .stall else
    let gd := f.d.toNat
    let l := (x.rg f.a.toNat).toNat
    let key := x.seqKey
    match d.look key, d.seqProfile? key with
    | some v, some pr =>
      if bits v 63 61 = stQuar then .ok (((d.setG t gd 0).modThr t fun x => x.stick 4).badSub t 4)
      else if (bits v 63 61 ≠ stResident ∧ bits v 63 61 ≠ stRunning) ∨ pr.layers ≤ l then .ok (d.setG t gd 0)
      else d.pwalkLive t gd (dvSet v) l (x.rg f.b.toNat).toNat pr
    | _, _ => .ok (d.setG t gd 0)

/-- PWALK.R: FUNC 1, D and B zero; a layer that is not pinned is left (R350). -/
def Dev.pwalkR (d : Dev) (t : Nat) (f : RegF) : Dev :=
  d.instr t 4 fun d x =>
    legal (f.func == 1 && f.d == 0 && f.b == 0)
      (let set := match d.entry x.seqKey with
        | some v => dvSet v
        | none => 0
      match d.pinOf t set (x.rg f.a.toNat).toNat with
      | some p => .ok (d.unpin p)
      | none => .ok d)

/-! ## Directory instructions (R352, R353) -/

/-- DLOOK: SET_PTR reads zero for a stand other than 0; parity as Dev.lookup. -/
def Dev.dlook (d : Dev) (t : Nat) (f : RegF) (parity : Bool) : Dev :=
  d.msys t f false fun d x =>
    match d.lookup (d.thrKey t (x.rg f.a.toNat)) parity with
    | (none, d) => .ok (d.setG t f.d.toNat 0)
    | (some v, d) => .ok (d.setG t f.d.toNat (if d.thrStand t = 0 then v else putBits v 24 0 0))

/-- A status in gd at once, or a wait until the entry moves end (log 17). -/
def Dev.tableRes (r : Nat × Dev) (t gd : Nat) : InstrRes :=
  if r.1 = dsOk then .hold (r.2.modThr t fun x => { x with wait := .table gd })
  else .ok (r.2.setG t gd (BitVec.ofNat 64 r.1))

/-- DINS. -/
def Dev.dins (d : Dev) (t : Nat) (f : RegF) : Dev :=
  d.msys t f true fun d x =>
    Dev.tableRes (d.insert (d.thrKey t (x.rg f.a.toNat)) (x.rg f.b.toNat).toNat (.thread t f.d.toNat)) t f.d.toNat

/-- DDEL. -/
def Dev.ddel (d : Dev) (t : Nat) (f : RegF) : Dev :=
  d.msys t f false fun d x =>
    Dev.tableRes (d.delete (d.thrKey t (x.rg f.a.toNat)) (.thread t f.d.toNat)) t f.d.toNat

/-- A thread's insertion or deletion ended: its status is written if the thread still waits for it, and discarded
otherwise (R359). -/
def Dev.tableDone (d : Dev) (t gd st : Nat) : Dev :=
  if (d.thr t).wait = .table gd then
    ((d.setG t gd (BitVec.ofNat 64 st)).modThr t fun x => { x with wait := .run }).advance t 4
  else d

/-! ## MHINT (R354) -/

/-- HEAT written in every entry of a layer, or of every layer. -/
def Dev.hintHeat (d : Dev) (set : Nat) (all : Bool) (l heat : Nat) : Dev :=
  (d.setPages set).foldl (fun d lp =>
    if all || lp.1 == l then d.modPte set lp.1 lp.2 fun v => putBits v 57 50 heat else d) d

/-- MHINT on a sequence: status and device, for ga and the hint of gb. -/
def Dev.mhintSeq (d : Dev) (key : Nat) (ga : W64) (hint : Nat) : Nat × Dev :=
  match d.look key with
  | none => (dsNotFound, d)
  | some v =>
    if bits v 63 61 ≠ stResident ∧ bits v 63 61 ≠ stRunning then (dsBusy, d)
    else match hint with
      | 0 => (dsOk, d.hintHeat (dvSet v) (bitAt ga 63) ga.toNat 255)
      | 1 => (dsOk, d.hintHeat (dvSet v) (bitAt ga 63) ga.toNat 0)
      | 2 => (dsOk, d.setEntry key (putBits v 60 59 0))
      | 3 => (dsOk, d.setEntry key (putBits v 60 59 1))
      | 4 => (dsOk, d.setEntry key (putBits v 58 58 1))
      | 5 => (dsOk, d.setEntry key (putBits v 58 58 0))
      | _ => (dsBadProfile, d)

/-- MHINT. -/
def Dev.mhint (d : Dev) (t : Nat) (f : RegF) : Dev :=
  d.msys t f true fun d x =>
    let r := d.mhintSeq x.seqKey (x.rg f.a.toNat) (bits (x.rg f.b.toNat) 2 0)
    .ok (r.2.setG t f.d.toNat (BitVec.ofNat 64 r.1))

/-! ## YARD, RESTORE and DIGEST (R355 to R358) -/

/-- YARD. -/
def Dev.kYard (d : Dev) (t : Nat) (f : RegF) : Dev :=
  d.msys t f false fun d x =>
    let r := d.yard (d.thrKey t (x.rg f.a.toNat))
    .ok (r.2.setG t f.d.toNat (BitVec.ofNat 64 r.1))

/-- RESTORE. -/
def Dev.kRestore (d : Dev) (t : Nat) (f : RegF) : Dev :=
  d.msys t f false fun d x =>
    let r := d.restore (d.thrKey t (x.rg f.a.toNat))
    .ok (r.2.setG t f.d.toNat (BitVec.ofNat 64 r.1))

/-- DIGEST of the page that an entry names: status and device. -/
def Dev.digestPage (d : Dev) (t : Nat) (e : W64) : Nat × Dev :=
  let s := d.thrStand t
  match d.tileNamed s e with
  | none => (dsNotFound, d.kernelViol s false e.toNat)
  | some (_, tile, (set, l, p), _) =>
    if tileFlag tile flQuar then (dsDataLost, d.badSub t 4)
    else if tileFlag tile flOpen ∨ 2 ≤ pteTier e then (dsBusy, d)
    else
      let (page, bad) := expandTile d.slots tile
      if bad then (dsDataLost, (d.quarPage set l p).badSub t 4)
      else (dsOk, d.tileWrite (pteTier e) s (pteFrame e) 0
        ((setTileFlag (recPut tile 64 (natLe 8 (crc64 page))) flStale false).take descLen))

/-- DIGEST. -/
def Dev.digest (d : Dev) (t : Nat) (f : RegF) : Dev :=
  d.msys t f false fun d x =>
    let r := d.digestPage t (x.rg f.a.toNat)
    .ok (r.2.setG t f.d.toNat (BitVec.ofNat 64 r.1))

end Sys2Proof.Machine
end

