-- ==== Sys2Proof/Machine/Wake.lean ====
section
/-!
DEFINITION. What a waiting thread waits for, the ends of remote operations, and the queue, token and time instructions of the
limber threads (06 R260 to R266, R281 to R285; 07 R362, R369 to R373).
-/
namespace Sys2Proof.Machine

/-! ## Waits (06 R245, R263, R283 to R285) -/

/-- A thread that has waited enough: its result written, and the program counter past the waiting instruction. -/
def Dev.resume (d : Dev) (t len gd : Nat) (v : W64) : Dev :=
  ((d.setG t gd v).modThr t fun x => { x with wait := .run }).advance t len

/-- A sub-order ended by QPUSH (06 R263): pins, handles, reservations and areas are released, and the mark of the handler is
cleared (R291). -/
def Dev.pushEnd (d : Dev) (t status : Nat) : Dev :=
  match (d.thr t).sub with
  | none => d.resume t 4 0 0
  | some sid =>
    let d := ((d.releaseThread t).endSub sid status true).resume t 4 0 0
    if (d.core (t / 4)).closing then d.settleCore (t / 4) else d

/-- True when a token of an operation that a fence waits for has not completed. -/
def Thread.pendingRemote (x : Thread) (n : Nat) : Bool := match Tab.get? x.toks n with
  | some k => k.done.isNone
  | none => false

/-- A thread's wait ended if what it waits for has come. -/
def Dev.wake (d : Dev) (t : Nat) : Dev :=
  let x := d.thr t
  match x.wait with
  | .twait gd n => (match Tab.get? x.toks n with
    | some k => (match k.done with
      | some st => (d.resume t 8 gd (BitVec.ofNat 64 st)).modThr t fun x => { x with toks := Tab.del x.toks n }
      | none => d)
    | none => d)
  | .twaitAll gd =>
    if x.allDone then (d.resume t 8 gd (BitVec.ofNat 64 x.sticky)).modThr t fun x => { x with sticky := 0 } else d
  | .nbwait gd n => (match Tab.get? x.toks n with
    | some k => (match k.kind, k.done with
      | .nbx prog, some st =>
        if Tab.has d.nbprogs prog then d
        else (d.resume t 4 gd (BitVec.ofNat 64 st)).modThr t fun x => { x with toks := Tab.del x.toks n }
      | _, _ => d)
    | none => d)
  | .rfence gd ns =>
    if ns.any x.pendingRemote then d
    else (d.resume t 8 gd (BitVec.ofNat 64 x.rfirst)).modThr t fun x => { x with rfirst := 0 }
  | .qpush st => if x.allDone then d.pushEnd t st else d
  | _ => d

/-! ## Ends of operations on tokens (06 R281, R282, R285) -/

/-- A remote operation of a thread ended: its token completes, unless it was taken by another operation since. -/
def Dev.remoteEnd (d : Dev) (t tok op status : Nat) : Dev :=
  match Tab.get? (d.thr t).toks tok with
  | some k =>
    if k.kind = TokKind.remote op then
      (d.modThr t fun x => { x.completeTok tok status with rfirst := if x.rfirst = 0 then status else x.rfirst }).wake t
    else d
  | none => d

/-- A near-bank program ended: its token completes (06 R284). -/
def Dev.nbxEnd (d : Dev) (t tok prog status : Nat) : Dev :=
  match Tab.get? (d.thr t).toks tok with
  | some k => if k.kind = TokKind.nbx prog then (d.modThr t fun x => x.completeTok tok status).wake t else d
  | none => d

/-- The entry of a tile by its first address in the tile memory. -/
def frameEntry (f : Nat) : W64 :=
  if f < 2 ^ 40 then mkPte (frameTier f) f 0 else if f < 2 ^ 42 then mkPte 2 (f - 2 ^ 40) 0 else mkPte 3 ((f - 2 ^ 42) % 2 ^ 37) 0

/-- TILE_OP_DONE: the operation on a token has been carried out. A fetch that met an uncorrectable sector quarantines the page
and completes with DATA_LOST (04 R158; 06 R281; 14 R707). -/
def Dev.tileOpDone (d : Dev) (t tok : Nat) (bad : Bool) : Dev :=
  match Tab.get? (d.thr t).toks tok with
  | some k => (match k.kind, k.ready, k.done with
    | .tile src, some st, none =>
      let d := match src with
        | some f => d.demandFrame 0 f
        | none => d
      let (st, d) := match bad, src with
        | true, some f =>
          let d := (d.uncorrectable f [d.thrStand t]).badSub t 4
          let d := match d.tileNamed (d.thrStand t) (frameEntry f) with
            | some (_, _, (set, l, p), _) => d.quarPage set l p
            | none => d
          (4, d)
        | _, _ => (st, d)
      (d.modThr t fun x => x.completeTok tok st).wake t
    | _, _, _ => d)
  | none => d

/-! ## Remote operations on this device (06 R289) -/

/-- What a local operation on a tract still does once its mirror writes are acknowledged: the atomic's result, the notice,
the token. -/
def Dev.localDone (d : Dev) (o : LocalOp) : Dev :=
  let d := match o.old, Tab.get? (d.thr o.t).toks o.tok with
    | some (dst, v), some k => if k.kind = TokKind.remote o.op then d.stageWrite (o.t / 32) dst (natLe 8 v.toNat) else d
    | _, _ => d
  let d := match o.note with
    | some (key, base, len) => match d.tract? o.tract with
      | some tr =>
        (d.took.deliver tr.stand tr key base len 0 [] true d.node (d.hint 65536) 0).2
      | none => d
    | none => d
  d.remoteEnd o.t o.tok o.op 0

/-- Local operations whose mirror writes have all been acknowledged. -/
def Dev.localsDone (d : Dev) : Dev :=
  (d.locals.filter fun o => o.nums.isEmpty).foldl (fun d o => Dev.localDone { d with locals := d.locals.erase o } o) d

/-- A local operation after its checks: bytes placed at a tract, its status when it ends at once. -/
def Dev.localPut (d : Dev) (o : LocalOp) (tr : Tract) (key : BitVec 32) (off tc : Nat) (notice : Bool) (data : List Byte) : Dev :=
  let endNow (d : Dev) (st : Nat) : Dev := d.remoteEnd o.t o.tok o.op st
  if tr.kind = 2 ∧ 1048576 < d.ringUsed tr.stand + data.length then endNow d (0x100 + 15)
  else if tr.kind = 3 ∧ 4096 < d.wqUsed tr.stand + 1 then endNow d (0x100 + 15)
  else if tr.mode = 2 ∧ d.mirLate tr.stand then endNow d.mirHeld (0x100 + 13)
  else if tr.kind = 2 ∨ tr.kind = 3 then
    let r := d.deliver tr.stand tr key off data.length tc data notice d.node 0 0
    endNow r.2 (if r.1 = 0 then 0 else 0x100 + r.1)
  else
    let d := d.tractWrite tr off data
    let r := d.mirPlaced o.tract tr off data
    { r.2 with locals := r.2.locals ++ [{ o with nums := r.1, note := if notice then some (key, off, data.length) else none }] }

/-- A remote operation whose NODE is this device (06 R289): the checks of an arriving packet, then its effect. -/
def Dev.localRemote (d : Dev) (t tok op ty tc : Nat) (notice : Bool) (key : BitVec 32) (off len fn : Nat) (data : List Byte)
    (dst : Nat) : Dev :=
  match d.checkKey (d.thrStand t) key ty notice none with
  | .inl r => d.remoteEnd t tok op (0x100 + r.code)
  | .inr (ti, tr) =>
    if d.outOfBounds tr ty notice off len off len then d.remoteEnd t tok op (0x100 + 6)
    else
      let o : LocalOp := ⟨t, tok, op, ti, [], none, none⟩
      if ty = tyGet then (d.stageWrite (t / 32) dst (d.tractRead tr off len)).remoteEnd t tok op 0
      else if ty = tyAtom then
        let (old, d) := d.atomic tr off fn data
        let r := d.mirPlaced ti tr off (d.tractRead tr off 8)
        ({ r.2 with locals := r.2.locals ++ [{ o with nums := r.1, old := some (dst, old) }] }).localsDone
      else (d.localPut o tr key off tc notice data).localsDone

/-! ## Remote instructions (06 R286 to R289; 07 R363 to R368) -/

/-- A remote descriptor read from local memory, or none when it is invalid (06 Table 7, R287): reserved fields, TC, LEN. -/
def Dev.remoteDesc (d : Dev) (t : Nat) (a : W64) (eight : Bool) : Option (List Byte) :=
  let r := d.localRead t (adOff a) 32
  let len := recNum r 16 4
  let tc := recNum r 20 1
  if 262144 < adOff a + 32 ∨ !(tc == 2 || tc == 3 || tc == 4 || tc == 7) ∨ 1 < recNum r 21 1 ∨ recNum r 22 10 ≠ 0 ∨
    len = 0 ∨ 4194304 < len ∨ (eight ∧ len ≠ 8) then none
  else some r

/-- The stage range of a remote instruction: start and length, and whether the device writes it; none for RNOTE. -/
structure StageArg where
  addr : W64
  len : Nat
  write : Bool

/-- A remote instruction begun on a token: sent over its connection, placed on this device, or neither (06 R288, R289; 07
R366). -/
def Dev.remoteStart (d : Dev) (t tok op ty fn : Nat) (r : List Byte) (sa : Option StageArg) (val : W64) : Dev :=
  let node := recNum r 0 2
  let c := recNum r 2 2
  let key := BitVec.ofNat 32 (recNum r 4 4)
  let off := recNum r 8 8
  let len := if ty = tyAtom then 16 else recNum r 16 4
  let tc := recNum r 20 1
  let notice := ty == tyNote || (ty == tyPut && recNum r 21 1 == 1)
  let s := d.thrStand t
  match sa with
  | some a =>
    if !d.ownsStage t (adOff a.addr) a.len a.write then (d.kernelViol s a.write a.addr.toNat).remoteEnd t tok op 0
    else
      let data := if ty = tyGet then [] else d.stageRead t (adOff a.addr) a.len
      go d s node c key off len tc notice data (adOff a.addr)
  | none => go d s node c key off len tc notice (natLe 8 val.toNat) 0
where
  go (d : Dev) (s node c : Nat) (key : BitVec 32) (off len tc : Nat) (notice : Bool) (data : List Byte) (dst : Nat) : Dev :=
    if node = d.node then d.localRemote t tok op ty tc notice key off (if ty = tyAtom then 8 else len) fn data dst
    else match d.conn? c with
      | some x =>
        if x.st = 2 ∧ x.stand = s ∧ x.peer = node then
          d.startMsg c { mkMsg ty tc notice key off data len (.thread t tok op dst) with
            pkts := if ty = tyAtom then [⟨0, 16, BitVec.ofNat 64 fn, .unsent, 0, 0, false, false⟩]
                    else cutPkts len 0 }
        else closed d
      | none => closed d
  closed (d : Dev) : Dev :=
    let d := d.kernelViol (d.thrStand t) (ty != tyGet) (recNum r 8 8)
    let d := match sa with
      | some a => if ty = tyGet then d.stageWrite (t / 32) (adOff a.addr) (List.replicate a.len 0#8) else d
      | none => d
    d.remoteEnd t tok op 0

/-- A remote instruction (07 R363, R365): stage gives the length and direction of its stage range from the descriptor. -/
def Dev.remote (d : Dev) (t : Nat) (f : LongF) (ok : Bool) (ty fn : Nat) (stage : Option (Nat × Bool)) (eight : Bool) : Dev :=
  d.instr t 8 fun d x =>
    let ga := x.rg f.a.toNat
    let gb := x.rg f.b.toNat
    legal (ok && f.x == 0 && f.y == 0 && f.ext == 0)
      (if adTag ga ≠ 0 then .exc 4 ga
      else if ga.toNat % 32 ≠ 0 then .exc 2 ga
      else if stage.isSome ∧ adTag gb ≠ 1 then .exc 4 gb
      else if ty = tyAtom ∧ gb.toNat % 16 ≠ 0 then .exc 2 gb
      else match d.remoteDesc t ga eight with
        | none => .exc 1 0
        | some r =>
          if x.tokFree = 0 then .stall
          else match d.takeTok t f.d.toNat (.remote d.opNext) none with
            | none => .stall
            | some (tok, d) =>
              let op := d.opNext
              let d : Dev := { d with opNext := op + 1 }
              .ok (d.remoteStart t tok op ty fn r
                (stage.map fun s => ⟨gb, if s.1 = 0 then recNum r 16 4 else s.1, s.2⟩) gb))

/-- RPUT. -/
def Dev.rput (d : Dev) (t : Nat) (f : LongF) (func : BitVec 10) : Dev := d.remote t f (func == 0) tyPut 0 (some (0, false)) false

/-- RGET. -/
def Dev.rget (d : Dev) (t : Nat) (f : LongF) (func : BitVec 10) : Dev := d.remote t f (func == 0) tyGet 0 (some (0, true)) false

/-- RATOM: operations 0 to 5 (07 Table 17). -/
def Dev.ratom (d : Dev) (t : Nat) (f : LongF) (func : BitVec 10) : Dev :=
  d.remote t f (func.toNat < 6) tyAtom func.toNat (some (16, true)) true

/-- RNOTE. -/
def Dev.rnote (d : Dev) (t : Nat) (f : LongF) (func : BitVec 10) : Dev := d.remote t f (func == 0) tyNote 0 none true

/-- RFENCE (06 R285). -/
def Dev.rfence (d : Dev) (t : Nat) (f : LongF) (func : BitVec 10) : Dev :=
  d.instr t 8 fun d x =>
    legal (func == 0 && f.a == 0 && f.b == 0 && f.x == 0 && f.y == 0 && f.ext == 0)
      (let ns := (x.toks.filter fun e => match e.2.kind with
        | .remote _ => e.2.done.isNone
        | _ => false).map (·.1)
      if ns.isEmpty then .ok ((d.setG t f.d.toNat (BitVec.ofNat 64 x.rfirst)).modThr t fun x => { x with rfirst := 0 })
      else .hold (d.modThr t fun x => { x with wait := .rfence f.d.toNat ns }))

/-! ## TWAIT and NBWAIT (06 R283, R284) -/

/-- TWAIT. -/
def Dev.twait (d : Dev) (t : Nat) (f : LongF) (func : BitVec 10) : Dev :=
  d.instr t 8 fun d x =>
    legal (func == 0 && f.b == 0 && f.x == 0 && f.y == 0)
      (if f.a = 0 then .hold ((d.modThr t fun x => { x with wait := .twaitAll f.d.toNat }).wake t)
      else
        let n := (x.rg f.a.toNat).toNat
        if Tab.has x.toks n then .hold ((d.modThr t fun x => { x with wait := .twait f.d.toNat n }).wake t)
        else .exc 12 0)

/-- NBWAIT: a token of no near-bank program raises TOKEN (06 R284). -/
def Dev.nbwait (d : Dev) (t : Nat) (f : RegF) : Dev :=
  d.instr t 4 fun d x =>
    legal (f.func == 0 && f.b == 0)
      (let n := (x.rg f.a.toNat).toNat
      match Tab.get? x.toks n with
      | some k => (match k.kind with
        | .nbx _ => .hold ((d.modThr t fun x => { x with wait := .nbwait f.d.toNat n }).wake t)
        | _ => .exc 12 0)
      | none => .exc 12 0)

/-! ## The sub-order queue (06 R260 to R266; 07 R370) -/

/-- QPOP: the thread waits for a sub-order. Its mark as in a handler is cleared, and a core that is to be unbound is. The
descriptor goes to local memory at ga with its low six bits dropped and modulo the memory (log 30). -/
def Dev.qpop (d : Dev) (t : Nat) (f : RegF) : Dev :=
  d.instr t 4 fun d x =>
    legal (f.b == 0)
      (if f.func ≠ 0 ∨ x.sub.isSome then .exc 11 0
      else
        let a := (x.rg f.a.toNat).toNat % 262144 / 64 * 64
        .hold ((d.setThr t { x with inExc := false, wait := .qpop f.d.toNat a d.up }).settleCore (t / 4)))

/-- QPUSH: statuses 0 to 11 (05 Table 3). -/
def Dev.qpush (d : Dev) (t : Nat) (f : RegF) : Dev :=
  d.instr t 4 fun d x =>
    let st := x.rg f.a.toNat
    legal (f.d == 0 && f.b == 0)
      (if f.func ≠ 0 ∨ x.sub.isNone ∨ 11 < st.toNat then .exc 11 0
      else .hold ((d.modThr t fun x => { x with wait := .qpush st.toNat, inExc := false }).wake t))

/-- Image on which a queued sub-order is to run: KIND 4 names its slot, the other kinds the slot bound to them (06 R267). -/
def Dev.subSlot (d : Dev) (o : Order) : Option Nat :=
  let slot? := if o.kind = 4 then some (recNum o.bytes 59 1)
    else if o.kind = 1 then (if d.sfld o.stand 0x410 3 3 = 1 then some (d.sfld o.stand 0x410 2 0) else none)
    else (if d.sfld o.stand 0x410 7 7 = 1 then some (d.sfld o.stand 0x410 6 4) else none)
  slot?

/-- The live image in a slot of a stand. -/
def Dev.slotImage (d : Dev) (s slot : Nat) : Option Nat := Tab.get? d.slotImg (s * 8 + slot)

/-- Sub-orders queued in a cell for an image slot of a stand. -/
def Dev.queuedFor (d : Dev) (c s slot : Nat) : Nat :=
  Tab.count d.subs fun _ u => u.cell == c && u.st == .queued && (match Tab.get? d.orders u.order with
    | some o => o.stand == s && d.subSlot o == some slot
    | none => false)

/-- QPEEK. -/
def Dev.qpeek (d : Dev) (t : Nat) (f : RegF) : Dev :=
  d.instr t 4 fun d _ =>
    legal (f.a == 0 && f.b == 0)
      (if f.func ≠ 0 then .exc 11 0
      else
        let n := match d.thrImage t with
          | some im => d.queuedFor (t / 32) im.stand im.slot
          | none => 0
        .ok (d.setG t f.d.toNat (BitVec.ofNat 64 (min n 65535))))

/-! ## Time (07 R371, R372) -/

/-- TIME. -/
def Dev.time (d : Dev) (t : Nat) (f : RegF) : Dev :=
  d.instr t 4 fun d _ =>
    legal (f.a == 0 && f.b == 0 && f.func.toNat < 2)
      (.ok (d.setG t f.d.toNat (if f.func = 0 then BitVec.ofNat 64 d.now else BitVec.ofNat 64 (d.fab % 2 ^ 64))))

/-- TSLEEP. -/
def Dev.tsleep (d : Dev) (t : Nat) (f : RegF) : Dev :=
  d.instr t 4 fun d x =>
    legal (f.d == 0 && f.b == 0 && f.func.toNat < 2)
      (let g := (x.rg f.a.toNat).toNat
      if f.func = 0 then (if g ≤ d.now then .ok d else .hold (d.modThr t fun x => { x with wait := .tsleep (g * 65536) }))
      else if g = 0 then .ok d
      else .hold (d.modThr t fun x => { x with wait := .tsleep (d.fab + g * 65536) }))

/-- TSLEEP_WAKE: the time that a thread sleeps for is reached. -/
def Dev.tsleepWake (d : Dev) (t : Nat) : Dev :=
  match (d.thr t).wait with
  | .tsleep g => if g ≤ d.fab then d.resume t 4 0 0 else d
  | _ => d

/-! ## FAULT and BLAZE (07 R373; 06 R306, R307) -/

/-- FAULT: the kernel assertion fault of the thread's stand. -/
def Dev.kfault (d : Dev) (t : Nat) (f : RegF) : Dev :=
  d.instr t 4 fun d x =>
    let s := d.thrStand t
    legal (f.d == 0 && f.b == 0)
      (.ok (d.raise (0x382 + 4 * s) ⟨.core, t / 4⟩ [s]
        (BitVec.ofNat 64 (f.func.toNat * 2 ^ 48 + bits (x.rg f.a.toNat) 47 0))))

/-- Blaze registers of a stand. -/
def Dev.blaze (d : Dev) (s : Nat) : Blaze := Tab.getD d.blazes s ⟨0, 0, 0, 0, 0⟩

/-- A blaze record (06 Table 13). -/
def Dev.blazeRec (d : Dev) (t : Nat) (x : Thread) (val : W64) (id : Nat) : List Byte :=
  let order := ((d.thrSub t).map (·.1.order)).getD 0
  let b := d.blaze (d.thrStand t)
  natLe 8 d.now ++ natLe 8 val.toNat ++ natLe 4 b.seq.toNat ++ natLe 4 order ++ natLe 2 id ++ natLe 1 (t / 32) ++
    natLe 1 (t % 32) ++ natLe 2 (x.pc / 4) ++ natLe 1 (((d.thrImage t).map (·.slot)).getD 0) ++ natLe 1 (d.thrStand t)

/-- The tract of a stand's blaze ring: one of the stand that holds plain bytes, with write rights, that the ring lies in. -/
def Dev.blazeTract (d : Dev) (s : Nat) (b : Blaze) : Option (Nat × Tract) :=
  match d.tractOf s b.key with
  | some (i, tr) =>
    if (tr.kind = 0 ∨ tr.kind = 1 ∨ tr.kind = 5 ∨ tr.kind = 6) ∧ tr.rights &&& 2 = 2 ∧ b.off.toNat + b.len.toNat ≤ d.tractLen tr
    then some (i, tr) else none
  | none => none

/-- BLAZE. -/
def Dev.blazeOp (d : Dev) (t : Nat) (f : RegF) : Dev :=
  d.instr t 4 fun d x =>
    let s := d.thrStand t
    let b := d.blaze s
    legal (f.d == 0 && f.b == 0)
      (.ok (if b.len = 0 then { d with blazes := Tab.set d.blazes s { b with drop := b.drop + 1 } }
      else match d.blazeTract s b with
        | none => { d with blazes := Tab.set d.blazes s { b with drop := b.drop + 1 } }
        | some (i, tr) =>
          let off := b.off.toNat + 32 * (b.seq.toNat % (b.len.toNat / 32))
          let bs := d.blazeRec t x (x.rg f.a.toNat) f.func.toNat
          let d := d.tractWrite tr off bs
          let r := d.mirPlaced i tr off bs
          { r.2 with blazes := Tab.set r.2.blazes s { b with seq := b.seq + 1 } }))

end Sys2Proof.Machine
end

