-- ==== Sys2Proof/Machine/Kernels.lean ====
section
/-!
DEFINITION. Kernel images, persistent stage regions, weight and scratch regions, and the host commands on them (05 R240 to
R243; 06 R296 to R303; 09 R438 to R440; 17 Table 6, R815).
-/
namespace Sys2Proof.Machine

/-! ## Kernel images (06 R296 to R298) -/

/-- True when the header fields of an image lie in Table 9 and its sections neither overlap nor pass TOTAL_LEN. -/
def imageOk (b : List Byte) : Bool :=
  let f (o n : Nat) : Nat := recNum b o n
  let total := f 8 4
  let tOff := f 12 4
  let tLen := f 16 4
  let dOff := f 20 4
  let dLen := f 24 4
  let name := recBytes b 64 32
  f 0 4 == 0x4D494B47 && name.all (fun c => decide (c < 128)) && (name.dropWhile (· != 0)).all (· == 0) && f 4 2 == 1 && f 6 2 == 256 && total == b.length && 352 ≤ total &&
  tOff % 4 == 0 && tLen % 4 == 0 && tLen ≤ 65536 && dLen ≤ f 28 4 && f 28 4 ≤ 262144 &&
  f 32 4 % 4 == 0 && f 32 4 < tLen && (f 36 4 == 0 || (f 36 4 % 4 == 0 && f 36 4 < tLen)) &&
  f 44 1 < 8 && f 45 1 < 4 && f 46 1 ≤ 16 && f 47 1 ≤ 2 && f 52 1 < 2 && f 53 3 == 0 &&
  (recBytes b 96 160).all (· == 0#8) &&
  256 ≤ tOff && tOff + tLen ≤ total - 96 && (dLen == 0 || (256 ≤ dOff && dOff + dLen ≤ total - 96)) &&
  (dLen == 0 || tOff + tLen ≤ dOff || dOff + dLen ≤ tOff)

/-- The image of a file for a stand and slot. -/
def parseImage (s slot : Nat) (b : List Byte) (pages : List Nat) : Image :=
  let f (o n : Nat) : Nat := recNum b o n
  { stand := s, slot := slot, textLen := f 16 4, dataOff := f 20 4, dataLen := f 24 4, entry := f 32 4, excEntry := f 36 4,
    kinds := f 44 1, rowsets := f 46 1, regions := f 47 1, stageLen := f 48 4, service := f 52 1 == 1, bytes := b,
    digest := BitVec.ofNat 384 (leNat (sha384 (b.take (b.length - 96)))), pages := pages, live := true }

/-- n service pages. -/
def Dev.svcPagesFor (d : Dev) : Nat → List Nat → Option (List Nat × Dev)
  | 0, ps => some (ps, d)
  | n + 1, ps => d.svcAlloc.bind fun x => Dev.svcPagesFor x.2 n (ps ++ [x.1])

/-- The checks of Table 10 but for NO_SPACE: a code. -/
def Dev.imageCheck (d : Dev) (s : Nat) (b : List Byte) : Nat :=
  if !imageOk b then 1
  else match Tab.get? d.cfg.kkeys (recNum b 45 1) with
    | none => 2
    | some k =>
      if !ecdsaVerify k (b.take (b.length - 96)) (b.drop (b.length - 96)) then 3
      else if !(recNum b 40 4).testBit s then 4
      else if recNum b 52 1 = 1 ∧ s ≠ 0 then 5
      else if d.sfld s 0x400 15 0 * 1024 < recNum b 48 4 then 6
      else 0

/-! ## Stage areas and regions (06 R253, R257, R261, R303) -/

/-- True when [a, a + n) of a cell's stage memory holds no sub-order's area. -/
def Dev.stageClear (d : Dev) (cell a n : Nat) : Bool :=
  !d.stageAreas.any fun e => e.1 / 2 ^ 26 == cell && e.1 % 2 ^ 26 < a + n && a < e.1 % 2 ^ 26 + e.2

/-- True when [a, a + n) lies outside the persistent regions of the stands but one. -/
def Dev.regionClear (d : Dev) (a n : Nat) (but : Option Nat) : Bool :=
  !d.stageRegion.any fun e => some e.1 != but && e.2.1 < a + n && a < e.2.1 + e.2.2

/-- The candidate starts for n bytes: the stage's start and the end of each region and area of a cell. -/
def Dev.stageEnds (d : Dev) (cell : Nat) : List Nat :=
  0 :: (d.stageRegion.map fun e => e.2.1 + e.2.2) ++
    ((d.stageAreas.filter fun e => e.1 / 2 ^ 26 == cell).map fun e => roundUp (e.1 % 2 ^ 26 + e.2) 64)

/-- Room for an area of n bytes in a cell, 64-byte aligned: any free place (free value). -/
def Dev.stageRoom (d : Dev) (cell n : Nat) : Option Nat :=
  let ok (a : Nat) : Bool := a + n ≤ stageSize && d.stageClear cell a n && d.regionClear a n none
  let h := d.hint (stageSize / 64) * 64
  if ok h then some h else (d.stageEnds cell).find? ok

/-- Stage bytes that a stand's region must keep: what its loaded images, its STAGE tracts and its scratch entries use. -/
def Dev.regionUsed (d : Dev) (s : Nat) : Nat :=
  let im := ((d.images.filter fun e => e.2.stand == s && e.2.live).map (·.2.stageLen)).foldl max 0
  let tr := ((d.tracts.filter fun e => e.2.stand == s && e.2.kind == 1 && e.2.inUse).map fun e => e.2.base + e.2.len).foldl max 0
  max im (max tr (8 * ceilDiv (Tab.getD d.scratches s []).length 16))

/-- A stand's region after an image load (R303): STAGE_KIB, or what is in use of it when that is more. It stays where it is
when it fits there, and else moves with its contents to any place that is free in every cell (log 32). -/
def Dev.setRegion (d : Dev) (s : Nat) : Dev :=
  let want := max (d.sfld s 0x400 15 0 * 1024) (d.regionUsed s)
  let (off, len) := d.region s
  let ok (a : Nat) : Bool :=
    a + want ≤ stageSize && d.regionClear a want (some s) && (List.range 16).all fun c => d.stageClear c a want
  if want = len then d
  else if want = 0 then { d with stageRegion := Tab.del d.stageRegion s }
  else if len ≠ 0 ∧ (want < len ∨ ok off) then { d with stageRegion := Tab.set d.stageRegion s (off, want) }
  else
    let h := d.nth 13 % (stageSize / 64) * 64
    match (if ok h then some h
      else (0 :: (d.stageRegion.map fun e => e.2.1 + e.2.2) ++ (d.stageAreas.map fun e => roundUp (e.1 % 2 ^ 26 + e.2) 64)).find? ok) with
    | none => d
    | some a =>
      let d := (List.range 16).foldl (fun d c =>
        let bs := Memory.readN d.stage (stageAt c off) len
        { d with stage := Memory.write (Memory.zero d.stage (stageAt c off) len) (stageAt c a) bs }) d
      { d.took with stageRegion := Tab.set d.stageRegion s (a, want) }

/-! ## KLOAD and KUNLOAD (06 R299 to R301) -/

/-- A kind bound to a slot, or unbound from it (R299): WINDOW 1, CHUNK 2 in STD_KRN_BIND. -/
def Dev.bindKind (d : Dev) (s slot lo : Nat) (on : Bool) : Dev :=
  if on then d.setSfld s 0x410 (lo + 3) lo (8 + slot)
  else if d.sfld s 0x410 (lo + 3) lo = 8 + slot then d.setSfld s 0x410 (lo + 3) lo 0
  else d

/-- A slot bound to a set of kinds, and unbound from the others. -/
def Dev.bindKinds (d : Dev) (s slot kinds : Nat) : Dev :=
  let d := (d.bindKind s slot 0 (kinds.testBit 0)).bindKind s slot 4 (kinds.testBit 1)
  { d with slot4 := if kinds.testBit 2 then Tab.set d.slot4 (s * 8 + slot) () else Tab.del d.slot4 (s * 8 + slot) }

/-- True while a dispatched sub-order runs on an image. -/
def Dev.imageBusy (d : Dev) (im : Nat) : Bool := d.subs.any fun e => match e.2.st with
  | .running _ => e.2.image == im
  | _ => false

/-- Idle cores of images no longer live unbound, and such images freed once no sub-order runs on them (R300, R301). -/
def Dev.reapImages (d : Dev) : Dev :=
  let d := d.cores.foldl (fun d e => if (List.range 4).all fun i => match (d.thr (4 * e.1 + i)).wait with
    | .qpop _ _ _ => true
    | .stopped => true
    | _ => false then d.settleCore e.1 else d) d
  let gone := d.images.filter fun e => !e.2.live && !d.imageBusy e.1 && !d.cores.any fun c => c.2.image == some e.1
  gone.foldl (fun d e => e.2.pages.foldl (fun d p => d.svcFree p) { d with images := Tab.del d.images e.1 }) d

/-- The image of a slot taken out of it. -/
def Dev.emptySlot (d : Dev) (s slot : Nat) : Dev :=
  match d.slotImage s slot with
  | none => d
  | some im =>
    let d : Dev := { d with slotImg := Tab.del d.slotImg (s * 8 + slot), images := Tab.upd d.images im fun x => { x with live := false } }
    (d.setSfld s 0x408 slot slot 0).reapImages

/-- Unloads whose slot's last sub-order has ended, completed (R301). -/
def Dev.unloadCheck (d : Dev) : Dev :=
  (d.unloads.filter fun u => !d.imageBusy u.image).foldl (fun d u =>
    let d : Dev := { d with unloads := d.unloads.erase u }
    let d := if d.slotImage u.stand u.slot = some u.image then d.emptySlot u.stand u.slot else d
    if u.silent then d else d.postCmd u.issuer u.tag 0x15 0 0 0 0) d

/-- KLOAD: a load completes a pending unload of the slot first (log 32). Kinds outside the image's KINDS are not bound. -/
def Dev.hKload (d : Dev) (s : Nat) (e : CmdEntry) : Dev :=
  d.hostCmd s 0x14 e 352 1048576 fun d a =>
    let slot := nbits e.arg.toNat 2 0
    let b := e.payload
    let code := d.imageCheck a b
    if code ≠ 0 then d.postCmd s e.tag 0x14 4 code 0 0
    else match d.svcPagesFor (ceilDiv b.length 4096) [] with
      | none => d.postCmd s e.tag 0x14 4 7 0 0
      | some (ps, d) =>
        let us := d.unloads.filter fun u => u.stand == a && u.slot == slot
        let d : Dev := { d with unloads := d.unloads.filter fun u => !(u.stand == a && u.slot == slot) }
        let d := us.foldl (fun d u => if u.silent then d else d.postCmd u.issuer u.tag 0x15 0 0 0 0) d
        let d := d.emptySlot a slot
        let n := d.imgNext
        let im := parseImage a slot b ps
        let svc := ps.zipIdx.foldl (fun m (p, i) => Memory.write m (p * 4096) ((b.drop (4096 * i)).take 4096)) d.svc
        let d : Dev := { d with images := Tab.set d.images n im, imgNext := n + 1, slotImg := Tab.set d.slotImg (a * 8 + slot) n,
                                svc := svc }
        let d := (d.setSfld a 0x408 slot slot 1).setSfld a 0x408 (8 + slot) (8 + slot) 0
        let d := d.bindKinds a slot (nbits e.arg.toNat 10 8 &&& im.kinds)
        (d.setRegion a).postCmd s e.tag 0x14 4 0 0 0

/-- KUNLOAD: an empty slot is unloaded at once (R301). -/
def Dev.hKunload (d : Dev) (s : Nat) (e : CmdEntry) : Dev :=
  d.hostCmd s 0x15 e 0 0 fun d a =>
    let slot := nbits e.arg.toNat 2 0
    match d.slotImage a slot with
    | none => d.postCmd s e.tag 0x15 0 0 0 0
    | some im =>
      let d := d.bindKinds a slot 0
      Dev.unloadCheck { d with unloads := d.unloads ++ [⟨a, s, slot, e.tag, im, false⟩] }

/-- True when a slot takes new sub-orders: loaded, not faulted, not being unloaded. -/
def Dev.slotLive (d : Dev) (s slot : Nat) : Bool :=
  (d.slotImage s slot).isSome && d.sfld s 0x408 (8 + slot) (8 + slot) == 0 && !d.unloads.any fun u => u.stand == s && u.slot == slot

/-! ## WEIGHT and SCRATCH (05 R240, R243; 09 R438 to R440; 17 R815) -/

/-- The weight region of a stand defined: its frames replaced by n units that read as zero; a HIF code. -/
def Dev.defineWeights (d : Dev) (s n : Nat) : Nat × Dev :=
  let (old, _) := Tab.getD d.weights s ([], false)
  let d0 : Dev := { d.freeUnits old with weights := Tab.del d.weights s }
  if n = 0 then (0, d0)
  else if (d0.std s).quota.t1 < d0.useOf s 1 + n then (3, d)
  else match d0.allocUnits s n [] with
    | some (fs, d) => (0, { d with weights := Tab.set d.weights s (fs, false) })
    | none => (3, d)

/-- The descriptor of scratch page n: 16 raw blocks of zeros (09 R439). -/
def scratchTile (s n : Nat) : List Byte := rawTile ⟨seqKey s 0, 0, 0, 0, 0, 2 ^ flOpen, n, 0, 0⟩ []

/-- Scratch pages allocated one by one: page i in cell S[i mod C]. -/
def Dev.scratchPages (d : Dev) (s : Nat) : Nat → List Nat → Option (List Nat × Dev)
  | 0, fs => some (fs, d)
  | n + 1, fs =>
    let st := d.stripe s
    (d.allocFrom 257 [st.getD (fs.length % max 1 st.length) 0]).bind fun x =>
      Dev.scratchPages ((x.2.storeTile 0 s x.1 (scratchTile s fs.length)).holdRun x.1 257) s n (fs ++ [x.1])

/-- Each cell's scratch entries written at offset 0 of the stand's persistent region, as far as it reaches (09 R440). -/
def Dev.scratchEntries (d : Dev) (s : Nat) (fs : List Nat) : Dev :=
  let (off, len) := d.region s
  (List.range 16).foldl (fun d c =>
    let es := (fs.filter fun f => frameDie f == c).flatMap fun f => natLe 8 (mkPte 0 f 2048).toNat
    d.stageWrite c off (es.take len)) d

/-- The scratch region of a stand defined: n pages in place of the old ones; a HIF code. -/
def Dev.defineScratch (d : Dev) (s n : Nat) : Nat × Dev :=
  let old := Tab.getD d.scratches s []
  let d0 := old.foldl (fun d f => d.freeTile 0 s f) d
  let d0 : Dev := { d0 with scratches := Tab.del d.scratches s }
  if n = 0 then (0, d0)
  else if (d0.std s).quota.t0 < d0.useOf s 0 + n ∨ (d0.stripe s).isEmpty then (3, d)
  else match d0.scratchPages s n [] with
    | some (fs, d) => (0, Dev.scratchEntries { d with scratches := Tab.set d.scratches s fs } s fs)
    | none => (3, d)

/-- Region commands whose sub-orders have all ended, carried out and completed (R815; log 32). -/
def Dev.regionCheck (d : Dev) : Dev :=
  (d.regionCmds.filter fun r => !r.waits.any fun n => Tab.has d.subs n).foldl (fun d r =>
    let d : Dev := { d with regionCmds := d.regionCmds.erase r }
    let (code, d) := if r.scratch then d.defineScratch r.stand r.amount else d.defineWeights r.stand r.amount
    d.postCmd r.issuer r.tag (if r.scratch then 0x13 else 0x12) 0 code
      (if r.scratch ∧ code = 0 then BitVec.ofNat 64 r.amount else 0) 0) d

/-- Dispatched sub-orders of a stand. -/
def Dev.runningSubs (d : Dev) (s : Nat) : List Nat :=
  (d.subs.filter fun e => (match e.2.st with
    | .running _ => true
    | _ => false) && e.2.stand == s).map (·.1)

/-- WEIGHT. -/
def Dev.hWeight (d : Dev) (s : Nat) (e : CmdEntry) : Dev :=
  d.hostCmd s 0x12 e 0 0 fun d a =>
    let n := e.arg.toNat
    if n % 65536 ≠ 0 then d.postCmd s e.tag 0x12 0 1 0 0
    else Dev.regionCheck { d with regionCmds := d.regionCmds ++ [⟨a, s, e.tag, false, n / 65536, d.runningSubs a⟩] }

/-- SCRATCH. -/
def Dev.hScratch (d : Dev) (s : Nat) (e : CmdEntry) : Dev :=
  d.hostCmd s 0x13 e 0 0 fun d a =>
    Dev.regionCheck { d with regionCmds := d.regionCmds ++ [⟨a, s, e.tag, true, e.arg.toNat, d.runningSubs a⟩] }

end Sys2Proof.Machine
end

