-- ==== Sys2Proof/Machine/NearBank.lean ====
section
/-!
DEFINITION. Near-bank units: programs, their arithmetic, slices, refresh pauses and errors (09 R416 to R464; 07 R360, R361).
-/
namespace Sys2Proof.Machine

/-! ## Arithmetic (09 R428, R429, R435) -/

/-- The quotient of two values as an exact value that rounds to f32 as the true quotient does: 64 further bits and a sticky bit. -/
def Fv.div (a b : Fv) : Fv :=
  match a, b with
  | .nan, _ => .nan
  | _, .nan => .nan
  | .inf _, .inf _ => .nan
  | .inf x, .fin y _ _ => .inf (x != y)
  | .fin x _ _, .inf y => .fin (x != y) 0 0
  | .fin x m e, .fin y n g =>
    if n = 0 then (if m = 0 then .nan else .inf (x != y))
    else
      let s := 64 + Nat.log2 n
      let q := m * 2 ^ s / n
      .fin (x != y) (2 * q + (if m * 2 ^ s % n = 0 then 0 else 1)) (e - g - s - 1)

/-- f32 quotient and difference, rounded once. -/
def fdiv (a b : BitVec 32) : BitVec 32 := toF32 ((f32 a).div (f32 b))
def fsub (a b : BitVec 32) : BitVec 32 := toF32 ((f32 a).add (f32 b).neg)

/-- √(m × 2^e) as an exact value accurate to about 2^-100. -/
def sqrtRef (m : Nat) (e : Int) : Fv :=
  let m2 := if e % 2 = 0 then m else 2 * m
  let e2 := if e % 2 = 0 then e else e - 1
  .fin false (isqrt (m2 * 2 ^ 256)) (e2 / 2 - 128)

/-- A square root with a relative error of at most 2^-22. -/
def sqrtF (k : Nat) (x : BitVec 32) : BitVec 32 :=
  match f32 x with
  | .nan => f32Nan
  | .inf n => if n then f32Nan else x
  | .fin n m e => if m = 0 then x else if n then f32Nan else within 22 k x (sqrtRef m e)

/-- x / (1 + e^-z) accurate to about 2^-90: SILU with z = x, GELU with z twice its argument of tanh. -/
def logistic (x z : Fv) : Fv :=
  match z with
  | .fin n m e => x.div (Fv.one.add (exp2Ref (!n) (m * fxLog2e) (e - fxBits)))
  | _ => .nan

/-- SILU. Of an infinity the formula has no value in every case: a free value (log 34). -/
def siluF (k : Nat) (x : BitVec 32) : BitVec 32 :=
  match f32 x with
  | .nan => f32Nan
  | .inf _ => Config.approx k x.toNat
  | .fin n m e => within 22 k x (logistic (.fin n m e) (.fin n m e))

/-- √(2/π) in fixed point: 2^128 × √(2/π), rounded down. -/
def fxRoot2Pi : Nat := 0xCC42299EA1B28468753C0E1AB0BFC54C

/-- GELU: 0.5 w (1 + tanh y) = w / (1 + e^-2y). -/
def geluF (k : Nat) (x : BitVec 32) : BitVec 32 :=
  match f32 x with
  | .nan => f32Nan
  | .inf _ => Config.approx k x.toNat
  | .fin n m e =>
    let w := Fv.fin n m e
    let c := (Fv.ofNat 44715).div (Fv.ofNat 1000000)
    let y := (w.add (c.mul (w.mul (w.mul w)))).mul (.fin false fxRoot2Pi (1 - (fxBits : Int)))
    within 22 k x (logistic w y)

/-! ### Sine and cosine of a rotary angle, in fixed point of 640 bits -/

/-- Fixed-point bits of the angle. -/
def ropeBits : Nat := 640

/-- Σ z^(2k+1) / (2k+1) with alternating signs when alt is set: n terms from power z at divisor i. -/
def oddSeries (alt : Bool) (z2 : Nat) : Nat → Nat → Nat → Bool → Int
  | 0, _, _, _ => 0
  | n + 1, z, i, neg =>
    let t : Int := (z / i : Nat)
    (if neg then -t else t) + oddSeries alt z2 n (z * z2 / 2 ^ ropeBits) (i + 2) (alt && !neg)

/-- 2 atanh z for a fixed-point z below 1/2: the logarithm of (1 + z) / (1 - z). -/
def lnSeries (z : Nat) : Nat := 2 * (oddSeries false (z * z / 2 ^ ropeBits) 330 z 1 false).toNat

/-- arctan (1 / n) in fixed point. -/
def arctanInv (n : Nat) : Int := oddSeries true (2 ^ ropeBits / (n * n)) 330 (2 ^ ropeBits / n) 1 false

/-- 2π in fixed point, by Machin's formula. -/
def fx2Pi : Nat := (2 * (16 * arctanInv 5 - 4 * arctanInv 239)).toNat

/-- ln 2 in fixed point. -/
def fxLn2Long : Nat := lnSeries (2 ^ ropeBits / 3)

/-- ln (m × 2^e), m not 0. -/
def lnFx (m : Nat) (e : Int) : Int :=
  let k := Nat.log2 m
  let x := m * 2 ^ ropeBits / 2 ^ k
  (lnSeries ((x - 2 ^ ropeBits) * 2 ^ ropeBits / (x + 2 ^ ropeBits)) : Int) + (e + k) * fxLn2Long

/-- Σ r^i / i!: n terms from the i-th, t. -/
def expSeries (r : Nat) : Nat → Nat → Nat → Nat
  | 0, _, _ => 0
  | n + 1, i, t => t + expSeries r n (i + 1) (t * r / 2 ^ ropeBits / i)

/-- e^y in fixed point, for any y. -/
def expFx (y : Int) : Nat :=
  let k := y / fxLn2Long
  let v := expSeries (y - k * fxLn2Long).toNat 160 1 (2 ^ ropeBits)
  if 0 ≤ k then v * 2 ^ k.toNat else v / 2 ^ (-k).toNat

/-- Σ (-1)^j r^(2j) / (2j)! or its odd companion: n terms, the first t, its divisor's next factor i. -/
def trigSeries (r2 : Nat) : Nat → Nat → Nat → Bool → Int
  | 0, _, _, _ => 0
  | n + 1, t, i, neg => (if neg then -(t : Int) else t) + trigSeries r2 n (t * r2 / 2 ^ ropeBits / (i * (i + 1))) (i + 2) (!neg)

/-- A fixed-point integer as a value. -/
def fxVal (x : Int) : Fv := .fin (decide (x < 0)) x.natAbs (-(ropeBits : Int))

/-- Cosine and sine of position × IMM^(-2i / D) for a positive finite IMM = m × 2^e. -/
def ropeRef (pos m : Nat) (e : Int) (i dRot : Nat) : Fv × Fv :=
  let th := pos * expFx (-(2 * (i : Int) * lnFx m e / (dRot : Int)))
  let r := th % fx2Pi
  let r2 := r * r / 2 ^ ropeBits
  (fxVal (trigSeries r2 200 (2 ^ ropeBits) 1 false), fxVal (trigSeries r2 200 r 2 false))

/-- A proposed sine or cosine when it lies within the bounds of R435 of the reference, 2^-20 of the angle and 2^-22 of the
function; else the reference rounded. -/
def trigF (k x : Nat) (r : Fv) : BitVec 32 :=
  let h := Config.approx k x
  match f32 h with
  | .fin n m e => if (Fv.fin false 5 (-22)).lt ((Fv.fin n m e).add r.neg).abs then toF32 r else h
  | _ => toF32 r

/-- Cosine and sine for a pair of ROPE. For an IMM that is not positive and finite the spec states no angle: free values (log 34). -/
def ropeCs (k pos imm i dRot : Nat) : BitVec 32 × BitVec 32 :=
  match f32 (BitVec.ofNat 32 imm) with
  | .fin false m e =>
    if m = 0 then (Config.approx k pos, Config.approx (k + 1) pos)
    else
      let r := ropeRef pos m e i dRot
      (trigF k pos r.1, trigF (k + 1) pos r.2)
  | _ => (Config.approx k pos, Config.approx (k + 1) pos)

/-! ## The program's fields (09 Tables 1 and 2) -/

/-- A field of a program's descriptor. -/
def NbProg.fld (g : NbProg) (at_ n : Nat) : Nat := recNum g.desc at_ n

/-- A FLAGS bit: 0 WRITE, 1 FROM_STAGE, 2 TO_STAGE. -/
def NbProg.flag (g : NbProg) (b : Nat) : Bool := (g.fld 1 1).testBit b

/-- SECTION, ROW_LEN, ROW_FIRST, ROW_CNT. -/
def NbProg.section_ (g : NbProg) : Nat := g.fld 2 1
def NbProg.rowLen (g : NbProg) : Nat := g.fld 4 2
def NbProg.rowFirst (g : NbProg) : Nat := g.fld 6 2
def NbProg.rowCnt (g : NbProg) : Nat := g.fld 8 2

/-- Parts of an operation word. -/
def opCode (w : W64) : Nat := bits w 63 56
def opPoff (w : W64) : Nat := bits w 55 40
def opMode (w : W64) : Nat := bits w 39 32
def opImm (w : W64) : Nat := bits w 31 0

/-- Elements of a section: 0 key, 1 value, 2 a whole scratch page; none for a section that the page does not have (R427, R436). -/
def NbPage.elems (p : NbPage) (sec : Nat) : Option Nat :=
  if p.scratch then (if sec = 2 then some 32768 else none)
  else if sec < 2 then some (p.prof.tpp * p.prof.heads * p.prof.dim) else none

/-- Element format of a section. -/
def NbPage.fmt (p : NbPage) (sec : Nat) : Nat := if p.scratch then 5 else if sec = 0 then p.prof.kFmt else p.prof.vFmt

/-- First element byte and first scale byte of a section in the uncompressed page. -/
def NbPage.starts (p : NbPage) (sec : Nat) : Nat × Nat :=
  if p.scratch then (0, 0) else if sec = 0 then (0, keyScaleStart p.prof) else (valueStart p.prof, valueScaleStart p.prof)

/-- Bytes of the rows [a, b) in the page: element bytes and scale bytes, each as start and length. -/
def NbProg.ranges (g : NbProg) (a b : Nat) : List (Nat × Nat) :=
  let f := g.target.fmt g.section_
  let (e0, s0) := g.target.starts g.section_
  let lo := a * g.rowLen
  let n := (b - a) * g.rowLen
  (e0 + lo * fmtBits f / 8, n * fmtBits f / 8) :: (if f = 5 then [] else [(s0 + lo / 32, n / 32)])

/-- True when the checks of R436 fail. Values outside Table 1 that R436 does not list by name count as failing too (log 34). -/
def NbProg.bad (g : NbProg) : Bool :=
  let toStage := g.flag 2
  let of_ := g.fld 3 1
  let plen := g.fld 12 2
  let n := g.target.elems g.section_
  let opBad (w : W64) : Bool :=
    let c := opCode w
    c == 0 || decide (16 < c) || (!(c == 3 || c == 4 || c == 12) && opPoff w != 0) || (c != 12 && opMode w != 0) ||
    ((c == 3 || c == 4) && decide (plen < 2 * (opPoff w + g.rowLen))) ||
    (c == 12 && (opPoff w % 2 == 1 || decide (g.rowLen < opPoff w) || decide (1 < opMode w))) ||
    ((c == 5 || c == 6) && (match g.aux with
      | some x => x.elems g.section_ != n || n.isNone
      | none => false))
  g.fld 0 1 == 0 || decide (16 < g.fld 0 1) || decide (8 ≤ g.fld 1 1) || decide (2 < g.section_) ||
  (if toStage then !(of_ == 3 || of_ == 4 || of_ == 5) else of_ != 0) ||
  g.rowLen % 32 != 0 || g.rowLen == 0 || decide (32768 < g.rowLen) || g.rowCnt == 0 || g.fld 10 1 == 0 ||
  g.fld 11 1 != 0 || plen % 2 == 1 || decide (16384 < plen) || g.fld 14 2 != 0 || g.fld 60 4 % 32 != 0 ||
  (match n with
    | none => true
    | some e => e % g.rowLen != 0 || decide (e / g.rowLen < g.rowFirst + g.rowCnt)) ||
  g.ops.any opBad || decide (1 < (g.ops.filter fun w => opCode w == 16).length)

/-- Stage ranges of a program: address, bytes from it, and whether the program writes it (R432 to R434). -/
def NbProg.stageRanges (g : NbProg) : List (W64 × Nat × Bool) :=
  let k := min 256 g.rowLen
  let blocks := ceilDiv g.rowLen 256
  let ad (o : Nat) : W64 := BitVec.ofNat 64 (g.fld o 8)
  (if g.flag 1 then [(ad 32, (blocks - 1) * g.fld 56 4 + 1024 * (g.rowCnt - 1) + 4 * k, false)] else []) ++
  (if g.flag 2 then [(ad 40, (blocks - 1) * g.fld 60 4 + querySize (g.fld 3 1) g.rowCnt k, true)] else []) ++
  (if g.ops.any fun w => 13 ≤ opCode w && opCode w ≤ 15 then [(ad 48, 4 * g.rowCnt, true)] else [])

/-! ## Pages named by NBX -/

/-- The page of a stand that an entry names: a page of a sequence, or a scratch page (R441; 07 R361). -/
def Dev.nbPage (d : Dev) (s : Nat) (e : W64) : Option NbPage :=
  match d.tileNamed s e with
  | some (_, t, (set, l, p), pr) => some ⟨e, false, recNum t 0 8, set, l, p, pr⟩
  | none =>
    let fs := Tab.getD d.scratches s []
    if bitAt e 63 ∧ pteTier e = 0 ∧ fs.contains (pteFrame e)
    then some ⟨e, true, 0, 0, 0, fs.idxOf (pteFrame e), ⟨0, 1, 1, 5, 5, 1, 0⟩⟩ else none

/-- The present entry of a page of a sequence that still exists. -/
def Dev.nbLive (d : Dev) (p : NbPage) : Option W64 :=
  if p.scratch then none
  else match d.entry p.key with
    | some v => if dvSet v = p.set then d.pte p.set p.layer p.page else none
    | none => none

/-- The entry of a page at its present location; a scratch page, and a page whose sequence was deleted, keep the last one. -/
def Dev.nbEntry (d : Dev) (p : NbPage) : W64 := (d.nbLive p).getD p.pte

/-- The tile of a page at an entry. -/
def Dev.nbTile (d : Dev) (s : Nat) (e : W64) : List Byte :=
  let f := tileFrame (pteTier e) s (pteFrame e)
  let t := Memory.readN d.mem (f * 256) descLen
  Memory.readN d.mem (f * 256) (tileLen (tileClen t))

/-- The NBU of a cell that serves an address, by its 256-byte granule; the next of its group ring that is not fenced takes a
fenced unit's share (R418, R462). -/
def Dev.nbuOf (d : Dev) (c granule : Nat) : Nat :=
  let u := granule % 64
  ((List.range 4).map fun i => u / 4 * 4 + (u % 4 + i) % 4).find? (fun w => !d.unitFenced ⟨.nbu, 64 * c + w⟩) |>.getD u

/-- Place in a tile of a byte of its uncompressed page, for a raw block. -/
def pageByteAt (t : List Byte) (x : Nat) : Nat := descLen + 32 * blockOff t (x / 4096) + x % 4096

/-- NBUs that hold bytes of the rows [a, b) of a program. -/
def Dev.nbUnits (d : Dev) (g : NbProg) (a b : Nat) : List Nat :=
  let e := d.nbEntry g.target
  let t := d.tileRead (pteTier e) g.stand (pteFrame e) descLen
  let xs := (g.ranges a b).flatMap fun (lo, n) => if n = 0 then [] else ((List.range (n / 128 + 1)).map fun i => lo + min (128 * i) (n - 1)) ++ [lo + n - 1]
  ((xs.map fun x => d.nbuOf g.cell (pteFrame e + pageByteAt t x / 256)).eraseDups)

/-! ## One row (09 R428 to R435) -/

/-- Elements of 32-element block b of a section. -/
def NbPage.block (p : NbPage) (sec : Nat) (page : List Byte) (b : Nat) : List Fv :=
  let f := p.fmt sec
  let (e0, s0) := p.starts sec
  let w := fmtBits f
  let bs := recBytes page (e0 + b * 4 * w) (4 * w)
  let sc := if f = 5 then 127 else recNum page (s0 + b) 1
  (List.range 32).map fun i => mxValue f (bitField bs (w * i) w) sc

/-- Row r of a section, as f32 words. -/
def NbPage.row (p : NbPage) (sec rowLen : Nat) (page : List Byte) (r : Nat) : List (BitVec 32) :=
  (List.range (rowLen / 32)).flatMap fun i => (p.block sec page (r * rowLen / 32 + i)).map toF32

/-- Codes of w bits packed into bytes, the first lowest. -/
def packCodes (w : Nat) (cs : List Nat) : List Byte := natLe (cs.length * w / 8) (cs.foldr (fun c n => n * 2 ^ w + c % 2 ^ w) 0)

/-- A row in a format: element bytes and scale bytes (R430, R433; 05 R213, R849). -/
def rowCodes (fmt : Nat) (w : List (BitVec 32)) : List Byte × List Byte :=
  if fmt = 5 then (w.flatMap fun x => natLe 2 (fmtBf16.encode false (f32 x)), [])
  else
    let bl := (chunks32 (w.length / 32 + 1) (w.map f32)).map (mxBlock fmt)
    (bl.flatMap fun b => packCodes (fmtBits fmt) b.2, bl.flatMap fun b => natLe 1 b.1)

/-- The state of one row: its elements, stores asked for, reduction results, and the counter of free values. -/
structure NbRow where
  w : List (BitVec 32)
  kept : Option (List (BitVec 32))
  red : Option (BitVec 32)
  k : Nat

/-- Elements combined with those of a list. -/
def zipF (f : BitVec 32 → BitVec 32 → BitVec 32) (w x : List (BitVec 32)) : List (BitVec 32) := List.zipWith f w x

/-- One operation on a row: x is row r of the AUX page, pos the row's position (Table 3). -/
def nbOp (g : NbProg) (x : List (BitVec 32)) (pos : Nat) (s : NbRow) (o : W64) : NbRow :=
  let imm : BitVec 32 := BitVec.ofNat 32 (opImm o)
  let n := s.w.length
  let len := toF32 (Fv.ofNat n)
  let prm : List (BitVec 32) := (List.range n).map fun j => toF32 (fmtBf16.decode (recNum g.params (2 * (opPoff o + j)) 2))
  let vals := s.w.map f32
  let mapK (f : Nat → BitVec 32 → BitVec 32) : NbRow :=
    { s with w := s.w.zipIdx.map fun (v, i) => f (s.k + i) v, k := s.k + n }
  match opCode o with
  | 1 => { s with w := s.w.map fun v => fadd v imm }
  | 2 => { s with w := s.w.map fun v => fmul v imm }
  | 3 => { s with w := zipF fadd s.w prm }
  | 4 => { s with w := zipF fmul s.w prm }
  | 5 => { s with w := zipF fadd s.w x }
  | 6 => { s with w := zipF fmul s.w x }
  | 7 => mapK expF
  | 8 => mapK siluF
  | 9 => mapK geluF
  | 10 =>
    let ss := toF32 (sumFree s.k (vals.map fun v => v.mul v))
    let q := sqrtF (s.k + 2 * n) (fadd (fdiv ss len) imm)
    { s with w := s.w.map fun v => fdiv v q, k := s.k + 2 * n + 1 }
  | 11 =>
    let mu := fdiv (toF32 (sumFree s.k vals)) len
    let ds := s.w.map fun v => fsub v mu
    let var := fdiv (toF32 (sumFree (s.k + 2 * n) (ds.map fun v => (f32 v).mul (f32 v)))) len
    let q := sqrtF (s.k + 4 * n) (fadd var imm)
    { s with w := ds.map fun v => fdiv v q, k := s.k + 4 * n + 1 }
  | 12 =>
    let dr := opPoff o
    let ia (i : Nat) : Nat × Nat := if opMode o = 0 then (i, i + dr / 2) else (2 * i, 2 * i + 1)
    let w := (List.range (dr / 2)).foldl (fun w i =>
      let (a, b) := ia i
      let (c, sn) := ropeCs (s.k + 2 * i) pos (opImm o) i dr
      let va := s.w.getD a 0
      let vb := s.w.getD b 0
      (w.set a (fsub (fmul va c) (fmul vb sn))).set b (fadd (fmul va sn) (fmul vb c))) s.w
    { s with w := w, k := s.k + dr }
  | 13 => { s with red := some (toF32 (sumFree s.k vals)), k := s.k + 2 * n }
  | 14 => { s with red := some (toF32 (vals.foldl Fv.max (.inf true))) }
  | 15 => { s with red := some (toF32 (sumFree s.k (vals.map fun v => v.mul v))), k := s.k + 2 * n }
  | 16 => { s with kept := some s.w }
  | _ => s

/-- True when a program's stage range is owned now: by its sub-order while its thread has it, else as the stand's region. -/
def Dev.nbOwns (d : Dev) (g : NbProg) (off n : Nat) (write : Bool) : Bool :=
  let r := d.region g.stand
  if g.sub.isSome ∧ (d.thr g.thread).sub = g.sub then d.ownsStage g.thread off n write
  else inside off n r.1 r.2 && decide (off + n ≤ stageSize)

/-- Stage bytes that a program writes; what it no longer owns is ignored and counted (06 R256). -/
def Dev.nbStageWrite (d : Dev) (g : NbProg) (a : Nat) (bs : List Byte) : Dev :=
  let off := a % 2 ^ 60
  if d.nbOwns g off bs.length true then d.stageWrite (g.thread / 32) off bs else d.kernelViol g.stand true a

/-- Stage bytes that a program reads. -/
def Dev.nbStageRead (d : Dev) (g : NbProg) (a n : Nat) : List Byte :=
  let off := a % 2 ^ 60
  if d.nbOwns g off n false then Memory.readN d.stage (stageAt (g.thread / 32) off) n else List.replicate n 0#8

/-- One sector of a page, as it stands in its tile. -/
def Dev.sectorAt (d : Dev) (s : Nat) (e : W64) (t : List Byte) (x : Nat) : List Byte :=
  Memory.readN d.mem (tileFrame (pteTier e) s (pteFrame e) * 256 + pageByteAt t x) 32

/-- The 32-byte sectors of a page that cover a range, in runs of at most 127 (R454). -/
def Dev.sectorsOf (d : Dev) (s : Nat) (e : W64) (t : List Byte) (lo n : Nat) : List (Nat × List Byte) :=
  let a := lo / 32
  let b := ceilDiv (lo + n) 32
  (chunksOf 127 (b - a) (List.range (b - a))).map fun is =>
    (32 * (a + is.headD 0), is.flatMap fun i => d.sectorAt s e t (32 * (a + i)))

/-- Bytes written into a page at its tile, block by block. -/
def Dev.pageWrite (d : Dev) (s : Nat) (e : W64) (t : List Byte) (lo : Nat) (bs : List Byte) : Dev :=
  bs.zipIdx.foldl (fun d (b, i) => d.tileWrite (pteTier e) s (pteFrame e) (pageByteAt t (lo + i)) [b]) d

/-- A row stored in its page (R430): elements and scales; the descriptor of a sealed page is marked DIGEST_STALE (R449); the
mirror writes it gives (R454). -/
def Dev.nbStore (d : Dev) (id : Nat) (g : NbProg) (r : Nat) (w : List (BitVec 32)) : Dev :=
  let e := d.nbEntry g.target
  let t := d.tileRead (pteTier e) g.stand (pteFrame e) descLen
  let (es, ss) := rowCodes (g.target.fmt g.section_) w
  let rs := g.ranges r (r + 1)
  let d := if tileFlag t flOpen then d else d.tileWrite (pteTier e) g.stand (pteFrame e) 0 (setTileFlag t flStale true)
  let d := d.pageWrite g.stand e t (rs.headD (0, 0)).1 es
  let d := match rs[1]? with
    | some (lo, _) => d.pageWrite g.stand e t lo ss
    | none => d
  if g.target.scratch ∨ !tileFlag t flMirrored then d
  else
    let key := g.target.key
    let ws := rs.flatMap fun (lo, n) => d.sectorsOf g.stand e t lo n
    let (ns, d) := d.mirSectors key g.target.layer (g.target.page * g.target.prof.tpp) ws
    match d.seqMirror key with
    | some ti =>
      let sync := (d.tract? ti).any fun x => x.mode == 1
      if sync then { d with nbprogs := Tab.upd d.nbprogs id fun x => { x with mirTract := ti, waits := x.waits ++ ns } } else d
    | none => d

/-- One row of a program performed (R428, R432 to R434). -/
def Dev.nbRow (d : Dev) (id : Nat) (g : NbProg) (page aux : List Byte) (r : Nat) : Dev :=
  let rel := r - g.rowFirst
  let w0 := if g.flag 1 then
      (List.range (ceilDiv g.rowLen 256)).flatMap (fun c =>
        let n := min 256 (g.rowLen - 256 * c)
        let bs := d.nbStageRead g (g.fld 32 8 + c * g.fld 56 4 + 1024 * rel) (4 * n)
        (List.range n).map fun j => BitVec.ofNat 32 (recNum bs (4 * j) 4))
    else g.target.row g.section_ g.rowLen page r
  let x := (g.aux.getD g.target).row g.section_ g.rowLen aux r
  let s := g.ops.foldl (fun (s : NbRow) o => nbOp g x (g.fld 16 8 + r / g.fld 10 1) s o) ⟨w0, none, none, d.freeCtr⟩
  let d : Dev := { d with freeCtr := s.k }
  let d := match s.red with
    | some v => d.nbStageWrite g (g.fld 48 8 + 4 * rel) (natLe 4 v.toNat)
    | none => d
  let d := if g.flag 0 then d.nbStore id g r (s.kept.getD s.w) else d
  if !g.flag 2 then d
  else
    let k := min 256 g.rowLen
    let fmt := g.fld 3 1
    (List.range (ceilDiv g.rowLen 256)).foldl (fun d c =>
      let (es, ss) := rowCodes fmt ((s.w.drop (256 * c)).take k)
      let base := g.fld 40 8 + c * g.fld 60 4
      let d := d.nbStageWrite g (base + rel * k * fmtBits fmt / 8) es
      if fmt = 5 then d else d.nbStageWrite g (base + roundUp (g.rowCnt * k) 32 + rel * k / 32) ss) d

/-! ## Issue (07 R360, R361; 09 R431, R436, R437, R447) -/

/-- The promotion of a page to T0 that a program needs, at high priority (R442; 10 R480). -/
def Dev.nbPromote (d : Dev) (p : NbPage) : Dev :=
  if (d.nbLive p).isNone ∨ pteTier (d.nbEntry p) = 0 ∨ d.promos.any (fun q => q.set == p.set && q.layer == p.layer && q.page == p.page && q.tier == 0)
  then d
  else
    let ps := d.promos.filter fun q => !(q.set == p.set && q.layer == p.layer && q.page == p.page)
    { d with promos := ⟨p.set, p.layer, p.page, 0⟩ :: ps }

/-- The cell in which a page's program counts: where it lies in T0, else its stripe cell. -/
def Dev.nbCell (d : Dev) (s : Nat) (p : NbPage) : Nat :=
  let e := d.nbEntry p
  if pteTier e = 0 then frameDie (pteFrame e) else d.stripeCell s p.layer p.page

/-- A program refused: its token completes at once. -/
def Dev.nbRefuse (d : Dev) (t gd status : Nat) : InstrRes :=
  match d.takeTok t gd (.nbx d.nbNext) (some status) with
  | some (n, d) => .ok (Dev.modThr { d with nbNext := d.nbNext + 1 } t fun x => x.completeTok n status)
  | none => .stall

/-- The program that a descriptor in a core's local memory asks for, on a page (09 R426, R431): its operations and its
parameters follow the descriptor; its token is taken later. -/
def Dev.nbProgOf (d : Dev) (t : Nat) (ga : W64) (p : NbPage) : NbProg :=
  let s := d.thrStand t
  let a := adOff ga % 262144
  let desc := d.localRead t a 64
  let nops := min 16 (recNum desc 0 1)
  let aux := recNum desc 24 8
  { cell := d.nbCell s p, thread := t, tok := 0, stand := s, order := ((d.thrSub t).map (·.1.order)).getD 0, sub := (d.thr t).sub,
    desc := desc, ops := (List.range nops).map fun i => BitVec.ofNat 64 (recNum (d.localRead t (a + 64 + 8 * i) 8) 0 8),
    params := d.localRead t (a + 64 + 8 * nops) (min 16384 (recNum desc 12 2)), target := p,
    aux := if aux = 0 then none else d.nbPage s (BitVec.ofNat 64 aux), running := false, paused := false,
    ended := false, tokens := 0, row := 0, post := 0, mirTract := 0, waits := [] }

/-- True when an operation of the program reads the AUX page. -/
def NbProg.usesAux (g : NbProg) : Bool := g.ops.any fun w => opCode w == 5 || opCode w == 6

/-- NBX. -/
def Dev.nbx (d : Dev) (t : Nat) (f : RegF) : Dev :=
  d.instr t 4 fun d x =>
    let ga := x.rg f.a.toNat
    let gb := x.rg f.b.toNat
    let s := d.thrStand t
    legal (f.func == 0)
      (if ga.toNat % 64 ≠ 0 then .exc 2 ga
      else if x.tokFree = 0 then .stall
      else match d.nbPage s gb with
        | none => (d.kernelViol s false gb.toNat).nbRefuse t f.d.toNat 0
        | some p =>
          let cell := d.nbCell s p
          if 256 ≤ (d.nbprogs.filter fun e => e.2.cell == cell && !e.2.ended).length then .stall
          else
            let g := d.nbProgOf t ga p
            let aux := recNum g.desc 24 8
            if g.bad then (d.incSat .stand s 0x500 63 32 1).nbRefuse t f.d.toNat 0
            else if g.usesAux ∧ aux ≠ 0 ∧ g.aux.isNone then (d.kernelViol s false aux).nbRefuse t f.d.toNat 0
            else match g.stageRanges.find? fun r => adTag r.1 != 1 || !d.ownsStage t (adOff r.1) r.2.1 r.2.2 with
              | some r => (d.kernelViol s r.2.2 r.1.toNat).nbRefuse t f.d.toNat 0
              | none => match d.takeTok t f.d.toNat (.nbx d.nbNext) none with
                | some (n, d) =>
                  .ok (Dev.nbPromote { d with nbprogs := Tab.set d.nbprogs d.nbNext { g with tok := n }, nbNext := d.nbNext + 1 } p)
                | none => .stall)

/-! ## Running (09 R441 to R462) -/

/-- True when two pages are one page. -/
def NbPage.same (p q : NbPage) : Bool :=
  p.scratch == q.scratch && (if p.scratch then p.pte == q.pte else p.set == q.set && p.layer == q.layer && p.page == q.page)

/-- A program changed. -/
def Dev.modNb (d : Dev) (id : Nat) (f : NbProg → NbProg) : Dev := { d with nbprogs := Tab.upd d.nbprogs id f }

/-- A program that is not run completes its token with a status. -/
def Dev.nbDrop (d : Dev) (id : Nat) (g : NbProg) (status : Nat) : Dev :=
  Dev.nbxEnd { d with nbprogs := Tab.del d.nbprogs id } g.thread g.tok id status

/-- The coded blocks that a program writes, rewritten as raw blocks in a new tile that is committed as a seal is (08 R409). -/
def Dev.nbRaw (d : Dev) (g : NbProg) (e : W64) : Option Dev :=
  let t := d.nbTile g.stand e
  let bs := ((g.ranges g.rowFirst (g.rowFirst + g.rowCnt)).flatMap fun (lo, n) =>
    if n = 0 then [] else (List.range ((lo + n - 1) / 4096 + 1 - lo / 4096)).map fun i => lo / 4096 + i).eraseDups
  if !g.flag 0 ∨ g.target.scratch ∨ bs.all fun b => blockRaw t b then some d
  else
    let (page, _) := expandTile d.slots t
    let blocks := (List.range 16).map fun b =>
      if blockRaw t b ∨ !bs.contains b then (if blockRaw t b then none else some (blockSlot t b), blockBytes t b)
      else (none, recBytes page (4096 * b) 4096)
    d.replaceTile g.target.set g.target.layer g.target.page e (makeTile (tileHead t) blocks)

/-- NB_PROGRAM_START: a queued program starts once its page lies in T0, no migration of it is in flight and every earlier program
on the page has ended (R441 to R446, R449). -/
def Dev.nbStart (d : Dev) (id : Nat) : Dev :=
  match Tab.get? d.nbprogs id with
  | none => d
  | some g =>
    let p := g.target
    let e := d.nbEntry p
    let t := d.tileRead (pteTier e) g.stand (pteFrame e) descLen
    let known := p.scratch || (d.nbLive p).isSome
    if g.running ∨ g.ended ∨ d.halted then d
    else if d.nbprogs.any fun x => x.1 < id && !x.2.ended && x.2.target.same p then d
    else if !known ∨ tileFlag t flYarded then d.nbDrop id g 0
    else if tileFlag t flQuar then (d.badSub g.thread 4).nbDrop id g 4
    else if pteTier e ≠ 0 ∨ pteMig e ≠ 0 then d.nbPromote p
    else match d.nbRaw g e with
      | none => d
      | some d =>
        let d := d.incWrap .stand g.stand 0x500 31 0 1
        let d := if p.scratch then d else d.modPage p.set p.layer p.page fun i => { i with hold := some id }
        let e := d.nbEntry p
        d.modNb id fun g => { g with running := true, cell := frameDie (pteFrame e), tokens := recNum t 12 2,
                                     target := { p with pte := e } }

/-- A running program ended with a status: its token completes; its page stays held until write-back (06 R284). -/
def Dev.nbEnd (d : Dev) (id status : Nat) : Dev :=
  match Tab.get? d.nbprogs id with
  | none => d
  | some g => (d.modNb id fun g => { g with running := false, paused := false, ended := true }).nbxEnd g.thread g.tok id status

/-- A page given up: QUARANTINED in its descriptor, and its sequence quarantined (R460, R461; 04 R158). -/
def Dev.nbQuar (d : Dev) (g : NbProg) : Dev :=
  let e := d.nbEntry g.target
  let d := if g.target.scratch then
      d.tileWrite (pteTier e) g.stand (pteFrame e) 0 (setTileFlag (d.tileRead (pteTier e) g.stand (pteFrame e) descLen) flQuar true)
    else if (d.nbLive g.target).isNone then d
    else d.quarPage g.target.set g.target.layer g.target.page
  if (d.thr g.thread).sub = g.sub then d.badSub g.thread 4 else d

/-- An error of an NBU: kind and count in its register. -/
def Dev.nbErr (d : Dev) (c u kind : Nat) : Dev :=
  (d.setFld .cell c (0x50028 + 0x400 * u) 33 32 kind).incSat .cell c (0x50028 + 0x400 * u) 31 0 1

/-- NBU_ERROR: an internal error of an NBU that a running program uses ends the program (R461): 1 lane parity, 2 chain check; 0
for a unit that was fenced. -/
def Dev.nbuError (d : Dev) (id u kind : Nat) : Dev :=
  match Tab.get? d.nbprogs id with
  | none => d
  | some g =>
    if !g.running then d
    else
      let d := d.nbErr g.cell u kind
      let d := d.raise (32 * g.cell + 16) ⟨.nbu, 64 * g.cell + u⟩ [g.stand] (BitVec.ofNat 64 (kind * 2 ^ 32 + g.order % 2 ^ 32))
      (d.nbQuar g).nbEnd id 4

/-- tREFI of a cell's bank groups in tenths of a ns (R456). -/
def Dev.tRefi (d : Dev) (c : Nat) : Nat :=
  if 85 < d.dieTemp (2 * c + 1) then 19500 else 39000

/-- NB_SLICE_END: a slice of some rows has run; post refreshes of its bank groups are now postponed. bad tells that the NBU of
unit u met an uncorrectable sector after those rows (R455 to R460). -/
def Dev.nbSlice (d : Dev) (id rows post : Nat) (bad : Option Nat) : Dev :=
  match Tab.get? d.nbprogs id with
  | none => d
  | some g =>
    if !g.running ∨ g.paused ∨ (d.nbUnits g (g.rowFirst + g.row) (g.rowFirst + g.row + 1)).any (fun u => d.underPatrol ⟨.nbu, 64 * g.cell + u⟩) then d
    else
      let left := g.rowCnt - g.row
      let n := if bad.isSome then min rows left else min (max 1 rows) left
      let e := d.nbEntry g.target
      let t := d.nbTile g.stand e
      let (page, _) := expandTile d.slots t
      let ax := g.aux.getD g.target
      let aux := if g.aux.isNone then page else (expandTile d.slots (d.nbTile g.stand (d.nbEntry ax))).1
      let a := g.rowFirst + g.row
      let openSeq := tileFlag t flOpen && !g.target.scratch
      let lim := g.tokens * g.target.prof.heads * g.target.prof.dim
      let d := (List.range n).foldl (fun d i =>
        if openSeq ∧ lim < (a + i + 1) * g.rowLen then d else d.nbRow id g page aux (a + i)) d
      let d := (d.nbUnits g a (a + n)).foldl (fun d u =>
        (d.incWrap .cell g.cell (0x50008 + 0x400 * u) 63 0 1).setFld .cell g.cell (0x50000 + 0x400 * u) 11 8 (min 8 post)) d
      let d := d.modNb id fun g => { g with row := g.row + n, post := min 8 post }
      match bad with
      | some u =>
        let d := d.nbErr g.cell u 3
        let d := d.uncorrectable (pteFrame e + (u + 64 - pteFrame e % 64) % 64) [g.stand]
        (d.nbQuar g).nbEnd id 4
      | none =>
        if g.rowCnt ≤ g.row + n then d.nbEnd id 0
        else
          let slice := d.fld .cell g.cell (0x50040 + 0x400 * ((d.nbUnits g a (a + 1)).headD 0)) 10 0
          if 8 < post + ceilDiv (slice * 10) (d.tRefi g.cell) then d.modNb id fun g => { g with paused := true } else d

/-- REFRESH_PAUSE_END: the postponed refreshes, each of 350 ns, have been issued, and the program resumes (R457, R458). -/
def Dev.refreshEnd (d : Dev) (id : Nat) : Dev :=
  match Tab.get? d.nbprogs id with
  | none => d
  | some g =>
    if !g.paused then d
    else
      let d := (d.nbUnits g g.rowFirst (g.rowFirst + g.rowCnt)).foldl (fun d u =>
        ((d.incWrap .cell g.cell (0x50010 + 0x400 * u) 63 0 1).incWrap .cell g.cell (0x50018 + 0x400 * u) 63 0 (350 * g.post)).setFld
          .cell g.cell (0x50000 + 0x400 * u) 11 8 0) d
      d.modNb id fun g => { g with paused := false, post := 0 }

/-- NB_PROGRAM_END: an ended program's sectors have been written back, a synchronous mirror's with their acknowledgements; the
hold is released (06 R284; R445, R454). -/
def Dev.nbDone (d : Dev) (id : Nat) : Dev :=
  match Tab.get? d.nbprogs id with
  | none => d
  | some g =>
    if !g.ended ∨ !g.waits.isEmpty then d
    else
      let p := g.target
      let d : Dev := { d with nbprogs := Tab.del d.nbprogs id }
      let d := if p.scratch then d
        else d.modPage p.set p.layer p.page fun i => { i with hold := if i.hold = some id then none else i.hold }
      let d : Dev := { d with lateFree := d.lateFree.map fun (x : DeferFree) => { x with waits := x.waits.filter fun w => w != holdWait id } }
      d.wake g.thread

end Sys2Proof.Machine
end

