-- ==== Sys2Proof/Machine/Orders.lean ====
section
/-!
DEFINITION. Query records and work orders: admission, bucking, dispatch to limber threads and completion (05 R173 to R195,
R217, R221 to R237; 06 R246 to R248, R260 to R271; 12 R601 to R604).
-/
namespace Sys2Proof.Machine

/-! ## Query records (05 Table 1) -/

/-- HANDLE of a query record. -/
def qHandle (r : List Byte) : Nat := recNum r 0 8 % 2 ^ 59

/-- A FLAGS bit of a query record: 0 Q_FP8, 1 Q_E5M2, 2 Q_INDIRECT, 3 ABFT, 4 O_FP32. -/
def qFlag (r : List Byte) (b : Nat) : Bool := (recNum r 51 1).testBit b

/-- KIND, N, Q0, POS_BASE, HEAD_CNT and LAYER of a query record. -/
def qKind (r : List Byte) : Nat := recNum r 50 1
def qN (r : List Byte) : Nat := recNum r 56 2
def qQ0 (r : List Byte) : Nat := recNum r 16 8
def qPos (r : List Byte) : Nat := recNum r 24 8
def qHeadCnt (r : List Byte) : Nat := recNum r 55 1
def qLayer (r : List Byte) : Nat := recNum r 48 2

/-- G of a record under a profile. -/
def qGroup (pr : Profile) (r : List Byte) : Nat := recNum r 52 2 / pr.heads

/-- True when the device reads the query section from the query buffer (R176). -/
def qIndirect (r : List Byte) : Bool := qKind r == 2 || qFlag r 2

/-- Query elements of one token: covered query heads × d. -/
def qWidth (pr : Profile) (r : List Byte) : Nat := qHeadCnt r * qGroup pr r * pr.dim

/-- The checks of R178 that need no profile; HEAD_CNT 0 and an APPEND above N lie outside Table 1 too (log 33). -/
def qBadStatic (r : List Byte) : Bool :=
  let mask := recNum r 59 1
  let arg := recNum r 60 4
  let app := recNum r 58 1
  decide (2 ^ 59 ≤ recNum r 0 8) || !(qKind r == 1 || qKind r == 2) || decide (32 ≤ recNum r 51 1) || qHeadCnt r == 0 ||
  qN r == 0 || decide ((if qKind r = 1 then 32 else 8192) < qN r) || decide (2 < mask) ||
  (mask == 1 && arg == 0) || (mask == 0 && arg != 0) || (app != 0 && qKind r == 2) || decide (qN r < app) ||
  recNum r 100 4 != 0 || (recBytes r 112 16).any (· != 0#8)

/-- Sections of the window of n tokens: starts of key scales, values and value scales, and the end of the last (R177). -/
def winSecs (pr : Profile) (heads n : Nat) : Nat × Nat × Nat × Nat :=
  let w := n * heads * pr.dim
  let el (f : Nat) : Nat := w * fmtBits f / 8
  let sc (f : Nat) : Nat := if f = 5 then 0 else w / 32
  let a1 := roundUp (el pr.kFmt) 32
  let a2 := a1 + roundUp (sc pr.kFmt) 32
  let a3 := a2 + roundUp (el pr.vFmt) 32
  (a1, a2, a3, if pr.vFmt = 5 then a2 + el pr.vFmt else a3 + sc pr.vFmt)

/-- First byte of the window sections in a record (R177). -/
def winAt (pr : Profile) (r : List Byte) : Nat :=
  roundUp (128 + (if qIndirect r then 0 else querySize (queryFmt r) (qN r) (qWidth pr r))) 32

/-- Bytes that the sections of a record need. -/
def qNeed (pr : Profile) (r : List Byte) : Nat :=
  if qKind r = 1 then winAt pr r + (winSecs pr (qHeadCnt r) (qN r)).2.2.2 else 128

/-- True when [off, off + n) lies wholly in a tract of plain bytes that a stand owns with read rights. -/
def Dev.readableAt (d : Dev) (s : Nat) (key : BitVec 32) (off n : Nat) : Option Tract :=
  match d.tractOf s key with
  | some (_, t) =>
    if (t.kind = 0 ∨ t.kind = 1 ∨ t.kind = 5 ∨ t.kind = 6) ∧ t.rights &&& 1 = 1 ∧ off + n ≤ d.tractLen t then some t else none
  | none => none

/-- The checks of R178 that need the sequence's profile. -/
def Dev.qBadProfile (d : Dev) (s : Nat) (pr : Profile) (r : List Byte) : Bool :=
  let qh := recNum r 52 2
  qh % pr.heads != 0 || qGroup pr r == 0 || decide (64 < qGroup pr r) || decide (pr.heads < recNum r 54 1 + qHeadCnt r) ||
  (recNum r 58 1 != 0 && !(recNum r 54 1 == 0 && qHeadCnt r == pr.heads)) ||
  decide (recNum r 86 2 * 256 < qNeed pr r) ||
  (qIndirect r && (d.readableAt s (BitVec.ofNat 32 (recNum r 96 4)) (recNum r 104 8)
    (querySize (queryFmt r) (qN r) (qWidth pr r))).isNone)

/-- The status under R154 of a work order of a sequence that has not started; 0 when it may run (04 R154, R163). -/
def Dev.seqStop (d : Dev) (key : Nat) : Nat :=
  match d.entry key with
  | none => 1
  | some v =>
    let st := dvState (some v)
    if st = stYarded then 2 else if st = stRestoring then 3 else if st = stQuar then 4
    else if d.preemptPending (dvSet v) then 2 else 0

/-- True when an order is dropped for its deadline (R236). -/
def Dev.dropLate (d : Dev) (s deadline : Nat) : Bool :=
  bitAt (d.rd .stand s 0x300) 0 && deadline != 0 && decide (deadline < d.now)

/-- True when a kind of query record has an image bound that takes sub-orders. -/
def Dev.kindServed (d : Dev) (s kind : Nat) : Bool :=
  let w := d.rd .stand s 0x410
  if kind = 1 then bitAt w 3 && d.slotLive s (bits w 2 0) else bitAt w 7 && d.slotLive s (bits w 6 4)

/-- The status that ends a query record at admission; 0 for one that is computed (log 33 gives the order of the checks). -/
def Dev.qCheck (d : Dev) (s : Nat) (r : List Byte) : Nat :=
  let key := seqKey s (qHandle r)
  if qBadStatic r then 5
  else match d.seqProfile? key with
    | none => 1
    | some pr =>
      if d.qBadProfile s pr r then 5
      else if pr.layers ≤ qLayer r then 6
      else if d.seqStop key ≠ 0 then d.seqStop key
      else if d.dropLate s (recNum r 40 8) then 7
      else if !d.kindServed s (qKind r) then 10
      else 0

/-! ## Appending window tokens (05 R181 to R183) -/

/-- The window tokens of a record appended at admission: APPEND_RES and the device. -/
def Dev.qAppend (d : Dev) (s : Nat) (pr : Profile) (r : List Byte) : Nat × Dev :=
  let a := recNum r 58 1
  let key := seqKey s (qHandle r)
  match d.entry key with
  | none => (0, d)
  | some v =>
    let set := dvSet v
    let l := qLayer r
    if a = 0 then (0, d)
    else
      let len := d.layerLen set l pr.tpp
      if len + qPos r ≠ qQ0 r then (2, d)
      else
        let (a1, a2, a3, _) := winSecs pr pr.heads (qN r)
        let body := r.drop (winAt pr r)
        let k := tokenBytes pr pr.kFmt
        let w := tokenBytes pr pr.vFmt
        let toks := (List.range a).map fun i =>
          (⟨len + i, recBytes body (i * k.1) k.1, recBytes body (a1 + i * k.2) k.2, recBytes body (a2 + i * w.1) w.1,
            recBytes body (a3 + i * w.2) w.2⟩ : LandTok)
        let quota := d.land pr key set (dvTier v) l (d.seqMirror key).isSome toks
        if pr.maxLen < len + a then
          -- no token is appended; a pre-emption starts as for a landing
          let need := ((toks.map fun x => x.tok / pr.tpp).eraseDups).filter fun p => (d.pte set l p).isNone
          let excess := d.useOf s (dvTier v) + need.length - d.quotaOf s (dvTier v)
          (3, if 0 < excess ∧ bitAt (d.rd .dir 0 (0x300 + 8 * s)) 32 then d.preempt s (dvTier v) excess else d)
        else if quota.code ≠ 0 then (3, quota.dev)
        else match d.seqMirror key with
          | some ti => (1, (quota.dev.mirTokens ti key l pr quota.toks).2)
          | none => (1, quota.dev)

/-! ## Bucking (05 R189 to R192, R205 to R209) -/

/-- Query tokens of one slice (R190). -/
def sliceTokens (pr : Profile) (r : List Byte) : Nat :=
  let rows := qHeadCnt r * qGroup pr r
  let tok := rows * (8 + 4 * pr.dim) + (if qFlag r 0 then rows * (pr.dim + pr.dim / 32) else rows * 2 * pr.dim)
  let fit := 4194304 / tok
  let unit := 128 / qGroup pr r
  if qN r ≤ fit then qN r else if unit ≤ fit then fit / unit * unit else max 1 fit

/-- The slices of a record: first token and tokens. -/
def qSlices (pr : Profile) (r : List Byte) : List (Nat × Nat) :=
  let q := max 1 (sliceTokens pr r)
  (List.range (ceilDiv (qN r) q)).map fun i => (i * q, min q (qN r - i * q))

/-- The positions [lo, hi) in which a stored key is visible to some query of a slice (R205, R206). -/
def slicePos (r : List Byte) (first n : Nat) : Nat × Nat :=
  let qa := qQ0 r + first
  let qb := qa + n
  let m := recNum r 59 1
  let p := recNum r 60 4
  let lo := if m = 1 then qa + 1 - p else 0
  let hi := if m = 2 ∧ qa < p then max qb p else qb
  (lo, if qKind r = 1 then min hi (qQ0 r) else hi)

/-- The pages of a layer with their TOKENS, in ascending order. -/
def Dev.pageTokens (d : Dev) (set l : Nat) : List (Nat × Nat) :=
  (d.layerPages set l).filterMap fun p => (d.pageDesc set l p).map fun x => (p, recNum x.2 12 2)

/-- Pages of a list with a key visible to some query of a slice. -/
def visiblePages (pr : Profile) (r : List Byte) (pages : List (Nat × Nat)) (first n : Nat) : List (Nat × Nat) :=
  let (lo, hi) := slicePos r first n
  pages.filter fun x =>
    let a := qPos r + x.1 * pr.tpp
    decide (max lo a < min hi (a + x.2))

/-- What a record considers: lowest position, count, and the highest position + 1; none when it holds nothing (R206 to R208).
KIND 1 takes the stored keys below Q0. -/
def considered (pr : Profile) (r : List Byte) (pages : List (Nat × Nat)) : Option (Nat × Nat × Nat) :=
  let runs := (pages.map fun x =>
    let a := qPos r + x.1 * pr.tpp
    (a, if qKind r = 1 then min (a + x.2) (qQ0 r) else a + x.2)).filter fun x => x.1 < x.2
  runs.foldl (fun acc x => match acc with
    | none => some (x.1, x.2 - x.1, x.2)
    | some (lo, n, hi) => some (min lo x.1, n + (x.2 - x.1), max hi x.2)) none

/-- Cost in engine clocks of k keys against n query tokens of a record (12 Table 5; 05 R204): depth 32 for BF16 keys, else 64
(log 33). -/
def keyCost (pr : Profile) (r : List Byte) (k n : Nat) : Nat :=
  qHeadCnt r * ceilDiv k 256 * 2 * n * qGroup pr r * ceilDiv pr.dim (if pr.kFmt = 5 then 32 else 64)

/-- The sub-orders of a record over a stripe set (R190 to R192), all held; KIND 4 follows below. -/
def Dev.buckRecord (d : Dev) (oid s : Nat) (pr : Profile) (set : Nat) (r : List Byte) : List Sub :=
  let st := d.stripe s
  let c := st.length
  let l := qLayer r
  let pages := d.pageTokens set l
  let wpage := ((qQ0 r : Int) - qPos r) / (pr.tpp : Int)
  let wx := ((wpage + l) % (c : Int)).toNat
  (qSlices pr r).flatMap fun (first, n) =>
    let vis := visiblePages pr r pages first n
    (List.range c).filterMap fun x =>
      let ps := vis.filter fun e => (e.1 + l) % c == x
      let wk := qKind r == 1 && x == wx
      if ps.isEmpty ∧ !wk then none
      else
        let lo := (ps.map (·.1)).min?.getD (1 + d.nth (1024 + 16 * first + x) % 65536)
        let hi := (ps.map (·.1)).max?.getD 0
        some { order := oid, stand := s, keys := (ps.map (·.2)).sum + (if wk then qN r else 0), cell := st.getD x 0, stripeX := x,
               stripeC := c, pageFirst := lo, pageLast := hi, wkeys := wk, qFirst := first, n := n, retries := 0, st := .held,
               image := 0, inOff := 0, inLen := 0, outOff := 0, outLen := 0, rowEng := [], engines := 0, void := false, bad := 0,
               since := 0 }

/-- Sub-orders of a cell that have been issued and not completed (R194). -/
def Dev.inFlight (d : Dev) (c : Nat) : Nat := Tab.count d.subs fun _ u => u.cell == c && u.st != .held

/-- The sub-orders of a KIND 4 order: one in each cell of CELLS that is in the stripe set, else one in the cell with the
fewest sub-orders in flight. -/
def Dev.buckKernel (d : Dev) (oid s : Nat) (r : List Byte) : List Sub :=
  let st := d.stripe s
  let want := st.filter fun c => (recNum r 56 2).testBit c
  let least := d.pick 12 (st.filter fun c => st.all fun x => d.inFlight c ≤ d.inFlight x)
  let cells := if want.isEmpty then least.toList else want
  cells.map fun c =>
    { order := oid, stand := s, keys := 0, cell := c, stripeX := st.idxOf c, stripeC := st.length, pageFirst := recNum r 48 4,
      pageLast := d.hint (2 ^ 32), wkeys := false, qFirst := 0, n := 0, retries := 0, st := .held, image := 0, inOff := 0,
      inLen := 0, outOff := 0, outLen := 0, rowEng := [], engines := 0, void := false, bad := 0, since := 0 }

/-- True when a cell takes one more sub-order (R194). -/
def Dev.cellRoom (d : Dev) (c : Nat) : Bool :=
  decide (d.inFlight c < 384) && decide ((Tab.count d.subs fun _ u => u.st != .held) < 6144)

/-- SUBORDER_ISSUE: the oldest held sub-order of a cell delivered to it when it has room. -/
def Dev.issueHeld (d : Dev) (c : Nat) : Dev :=
  match d.subs.find? fun e => e.2.cell == c && e.2.st == .held with
  | some (n, u) => if d.cellRoom c then { d with subs := Tab.set d.subs n { u with st := .queued } } else d
  | none => d

/-- Sub-orders added, each issued at once when its cell has room. -/
def Dev.addSubs (d : Dev) (us : List Sub) : Dev :=
  us.foldl (fun d u =>
    { d with subs := Tab.set d.subs d.subNext { u with st := if d.cellRoom u.cell then .queued else .held },
             subNext := d.subNext + 1 }) d

/-- The sub-orders of an order that no thread runs, dropped; those that run go on with their result discarded. -/
def Dev.voidSubs (d : Dev) (oid : Nat) : Dev :=
  let subs := d.subs.filter fun e => !(e.2.order == oid) || (match e.2.st with
    | .running _ => true
    | _ => false)
  { d with subs := Tab.mapAll subs fun _ u => if u.order = oid then { u with void := true } else u }

/-- An order ended with a status whatever its sub-orders push. -/
def Dev.stopOrder (d : Dev) (oid code : Nat) : Dev :=
  Dev.voidSubs { d with orders := Tab.upd d.orders oid fun o => { o with stop := code } } oid

/-- A record bucked again over the present stripe set after a cell of its set was fenced: every result is discarded (R195). A
KIND 4 order's sub-orders of a fenced cell go to other cells in the same way (log 33). -/
def Dev.rebuck (d : Dev) (oid : Nat) : Dev :=
  match Tab.get? d.orders oid with
  | none => d
  | some o =>
    if o.stop ≠ 0 then d
    else
      let d := d.voidSubs oid
      let d : Dev := { d with orders := Tab.set d.orders oid { o with rows := [], status := 0 } }
      if o.kind = 4 then d.addSubs (d.buckKernel oid o.stand o.bytes)
      else match d.seqProfile? o.key, d.entry o.key with
        | some pr, some v => d.took.addSubs (d.buckRecord oid o.stand pr (dvSet v) o.bytes)
        | _, _ => d

/-! ## Admission (05 R173 to R188, R236; 12 R602 to R604) -/

/-- An item waiting for admission: stand, whether it is a work order, its place in its queue, and itself. -/
structure AdmItem where
  stand : Nat
  work : Bool
  pos : Nat
  item : QItem

/-- Insertion into a list in order of arrival. -/
def admInsert (x : AdmItem) : List AdmItem → List AdmItem
  | [] => [x]
  | y :: r => if x.item.at_ < y.item.at_ then x :: y :: r else y :: admInsert x r

/-- Every record and work order waiting, in order of arrival. -/
def Dev.admItems (d : Dev) : List AdmItem :=
  let all := (List.range 32).flatMap fun s =>
    ((d.ring s).zipIdx.map fun (x, i) => (⟨s, false, i, x⟩ : AdmItem)) ++
    ((d.workq s).zipIdx.map fun (x, i) => (⟨s, true, i, x⟩ : AdmItem))
  all.foldl (fun xs x => admInsert x xs) []

/-- The keys that a record considers, for its cost: stored and window. -/
def Dev.admKeys (d : Dev) (s : Nat) (r : List Byte) : Nat :=
  let key := seqKey s (qHandle r)
  match d.seqProfile? key, d.entry key with
  | some pr, some v =>
    ((considered pr r (d.pageTokens (dvSet v) (qLayer r))).map (·.2.1)).getD 0 + (if qKind r = 1 then qN r else 0)
  | _, _ => 0

/-- An item as the admission scheduler sees it: lower queue 0 for an order that names no sequence. -/
def Dev.admSItem (d : Dev) (x : AdmItem) (i : Nat) : SItem :=
  let r := x.item.bytes
  if x.work then
    { upper := x.stand, lower := if (recNum r 60 1).testBit 0 then recNum r 16 8 % 2 ^ 59 + 1 else 0,
      cls := if x.stand = 0 then 0 else x.item.cls, cost := if recNum r 58 1 = 3 then 64 else d.fld .sch 0 8 63 32,
      recovery := false, ref := i }
  else
    { upper := x.stand, lower := qHandle r + 1, cls := x.item.cls,
      cost := match d.seqProfile? (seqKey x.stand (qHandle r)) with
        | some pr => keyCost pr r (d.admKeys x.stand r) (qN r)
        | none => 0,
      recovery := false, ref := i }

/-- An order in flight, not yet bucked. -/
def Order.fresh (s kind : Nat) (x : QItem) (key : Nat) (seq : Bool) : Order :=
  { stand := s, kind := kind, bytes := x.bytes, cls := x.cls, at_ := x.at_, key := key, seq := seq, abft := false, appendRes := 0,
    short := false, tokLo := 0, tokCnt := 0, started := false, status := 0, dataLost := false, stop := 0, rows := [] }

/-- An order entered; its device number. -/
def Dev.addOrder (d : Dev) (o : Order) : Nat × Dev :=
  (d.orderNext, { d with orders := Tab.set d.orders d.orderNext o, orderNext := d.orderNext + 1 })

/-- A query record admitted: checked, its tokens appended, and bucked. TOK_LO of a record that considers nothing is free. -/
def Dev.admitQuery (d : Dev) (s : Nat) (x : QItem) : Dev :=
  let r := x.bytes
  let key := seqKey s (qHandle r)
  let code := d.qCheck s r
  let o := Order.fresh s (qKind r) x key true
  let o := { o with abft := qFlag r 3 || bitAt (d.rd .stand s 0x300) 1, tokLo := d.hint (2 ^ 64) }
  let d := d.took
  match d.seqProfile? key, d.entry key with
  | some pr, some v =>
    if code ≠ 0 then (d.addOrder { o with stop := code }).2
    else
      let (res, d) := d.qAppend s pr r
      let pages := d.pageTokens (dvSet v) (qLayer r)
      let win := if qKind r = 1 then qN r else 0
      let cs := considered pr r pages
      let top := (cs.map (·.2.2)).getD 0
      let goal := if qKind r = 1 then qQ0 r else qQ0 r + qN r
      let lo := match cs with
        | some (lo, _, _) => if win = 0 then lo else min lo (qQ0 r)
        | none => if win = 0 then o.tokLo else qQ0 r
      let o := { o with appendRes := res, short := decide (top < goal), tokLo := lo, tokCnt := ((cs.map (·.2.1)).getD 0) + win }
      let (n, d) := d.addOrder o
      d.took.addSubs (d.buckRecord n s pr (dvSet v) r)
  | _, _ => (d.addOrder { o with stop := if code = 0 then 1 else code }).2

/-- The status that ends a KIND 4 order at admission, or refuses a work order (log 33). -/
def Dev.wCheck (d : Dev) (s : Nat) (r : List Byte) : Nat :=
  let seq := (recNum r 60 1).testBit 0
  let kind := recNum r 58 1
  let key := seqKey s (recNum r 16 8)
  if !(kind == 3 || kind == 4) ∨ 4 ≤ recNum r 60 1 ∨ recNum r 61 3 ≠ 0 then 5
  else if kind = 3 then (if recNum r 8 8 = 0 ∨ recNum r 54 2 = 0 ∨ 4096 < recNum r 54 2 then 5 else 0)
  else if 8 ≤ recNum r 59 1 ∨ (seq ∧ 2 ^ 59 ≤ recNum r 16 8) then 5
  else if recNum r 48 4 ≠ 0 ∧ (d.readableAt s (BitVec.ofNat 32 (recNum r 44 4)) (recNum r 32 8) (recNum r 48 4)).isNone then 5
  else if seq ∧ d.seqStop key ≠ 0 then d.seqStop key
  else if d.dropLate s (recNum r 8 8) then 7
  else if !(d.slotLive s (recNum r 59 1) && Tab.has d.slot4 (s * 8 + recNum r 59 1)) then 10
  else 0

/-- A work order admitted: an arming at once, a kernel order bucked. -/
def Dev.admitWork (d : Dev) (s : Nat) (x : QItem) : Dev :=
  let r := x.bytes
  let seq := (recNum r 60 1).testBit 0
  let code := d.wCheck s r
  if code = 0 ∧ recNum r 58 1 = 3 then d.mergeArm s r
  else
    let o := Order.fresh s 4 x (if seq then seqKey s (recNum r 16 8) else 0) seq
    let (n, d) := d.addOrder { o with stop := code }
    if code ≠ 0 then d else d.took.addSubs (d.buckKernel n s r)

/-- RECORD_ADMIT: the admission scheduler's next record or work order. A record waits while its stand has no cell (log 33). -/
def Dev.recordAdmit (d : Dev) : Dev :=
  if d.halted then d
  else
    let xs := d.admItems
    let items := xs.zipIdx.map fun (x, i) => d.admSItem x i
    let ok (x : SItem) : Bool := match xs[x.ref]? with
      | some a => (a.work && recNum a.item.bytes 58 1 == 3) || !(d.stripe a.stand).isEmpty
      | none => false
    match d.choose 0 items ok with
    | (none, d) => d
    | (some x, d) =>
      match xs[x.ref]? with
      | none => d
      | some a =>
        if a.work then Dev.admitWork { d with wqs := Tab.set d.wqs a.stand ((d.workq a.stand).eraseIdx a.pos) } a.stand a.item
        else Dev.admitQuery { d with rings := Tab.set d.rings a.stand ((d.ring a.stand).eraseIdx a.pos) } a.stand a.item

/-! ## Dispatch (06 R246 to R248, R260 to R262, R267, R271) -/

/-- A core bound to an image: text is read from the image, data and zeros fill local memory, its threads start (06 R247). -/
def Dev.bindCore (d : Dev) (k im : Nat) : Dev :=
  match Tab.get? d.images im with
  | none => d
  | some i =>
    let d := d.setCore k ⟨some im, false, Memory.write [] 0 (recBytes i.bytes i.dataOff i.dataLen)⟩
    (List.range 4).foldl (fun d j => d.restart (4 * k + j)) d

/-- True when a core takes work: neither it nor its cell is fenced. -/
def Dev.coreUp (d : Dev) (k : Nat) : Bool := !d.unitOut ⟨.core, k⟩

/-- Threads of a cell that wait in QPOP on a core bound to an image. -/
def Dev.waiters (d : Dev) (c im : Nat) : List Nat :=
  (List.range 32).filterMap fun i =>
    let t := 32 * c + i
    let k := d.core (t / 4)
    if k.image = some im ∧ !k.closing ∧ d.coreUp (t / 4) then (match (d.thr t).wait with
      | .qpop _ _ _ => some t
      | _ => none)
    else none

/-- True when a core of a cell is bound to an image and one of its threads is on its way to QPOP without a sub-order. -/
def Dev.waiterComing (d : Dev) (c im : Nat) : Bool :=
  (List.range 8).any fun j =>
    let k := 8 * c + j
    let x := d.core k
    x.image == some im && !x.closing && d.coreUp k && (List.range 4).any fun i =>
      let t := d.thr (4 * k + i)
      t.sub.isNone && t.wait != .stopped

/-- A core of a cell to bind: an unbound one, else one whose four threads have waited in QPOP for 10 µs with no sub-order of
their binding queued (06 R248). -/
def Dev.bindable (d : Dev) (c : Nat) : Option Nat :=
  let ks := (List.range 8).map fun j => 8 * c + j
  match d.pick 10 (ks.filter fun k => (d.core k).image.isNone && d.coreUp k) with
  | some k => some k
  | none => d.pick 11 (ks.filter fun k => d.coreUp k && (List.range 4).all (fun i => match (d.thr (4 * k + i)).wait with
      | .qpop _ _ since => decide (since + 10000 ≤ d.up)
      | _ => false) && (match (d.core k).image.bind (Tab.get? d.images) with
      | some im => d.queuedFor c im.stand im.slot == 0
      | none => true))

/-- The engines of a cell that are not fenced, as a mask. -/
def Dev.engMask (d : Dev) (c : Nat) : Nat := bitsMask ((List.range 6).filter fun e => !d.unitOut ⟨.engine, 6 * c + e⟩)

/-- The engines to which the row set slots of a sub-order are assigned in turn (06 R271). -/
def rowEngines (mask n : Nat) : List Nat :=
  let es := maskBits 6 mask
  if es.isEmpty then [] else (List.range n).map fun i => es.getD (i % es.length) 0

/-- True when a cell's engines have the row set slots and regions that a sub-order of an image reserves (06 R271). -/
def Dev.engRoom (d : Dev) (c : Nat) (im : Image) : Bool :=
  let run := d.subs.filter fun e => e.2.cell == c && (match e.2.st with
    | .running _ => true
    | _ => false)
  let mask := d.engMask c
  let mine := rowEngines mask im.rowsets
  (maskBits 6 mask).all fun e =>
    decide ((run.map fun x => x.2.rowEng.count e).sum + mine.count e ≤ 16) &&
    decide ((run.map fun x => if x.2.engines.testBit e then ((Tab.get? d.images x.2.image).map (·.regions)).getD 0 else 0).sum
      + im.regions ≤ 8)

/-- The query section of a slice, in the layout of R175 (06 R261). -/
def Dev.sliceQuery (d : Dev) (s : Nat) (pr : Profile) (r : List Byte) (first n : Nat) : List Byte :=
  let w := qWidth pr r
  let fmt := queryFmt r
  let len := querySize fmt (qN r) w
  let sec := if qIndirect r then
      (match d.readableAt s (BitVec.ofNat 32 (recNum r 96 4)) (recNum r 104 8) len with
      | some t => d.tractRead t (recNum r 104 8) len
      | none => freeBytes (freeIdx d.freeCtr 1024) len)
    else recBytes r 128 len
  if fmt = 5 then recBytes sec (2 * first * w) (2 * n * w)
  else
    let el := recBytes sec (first * w) (n * w)
    recPut (List.replicate (roundUp (n * w) 32) 0#8) 0 el ++ recBytes sec (roundUp (qN r * w) 32 + first * w / 32) (n * w / 32)

/-- The input area of a sub-order (06 R261). -/
def Dev.inputArea (d : Dev) (o : Order) (u : Sub) : List Byte :=
  let r := o.bytes
  if o.kind = 4 then
    let len := recNum r 48 4
    r ++ (if len = 0 then [] else match d.readableAt o.stand (BitVec.ofNat 32 (recNum r 44 4)) (recNum r 32 8) len with
      | some t => d.tractRead t (recNum r 32 8) len
      | none => freeBytes (freeIdx d.freeCtr 1024) len)
  else match d.seqProfile? o.key with
    | none => recBytes r 0 128
    | some pr =>
      let a := recBytes r 0 128 ++ d.sliceQuery o.stand pr r u.qFirst u.n
      if o.kind = 2 then a
      else
        let a := a ++ List.replicate (roundUp a.length 32 - a.length) 0#8
        a ++ recBytes r (winAt pr r) (roundUp (winSecs pr (qHeadCnt r) (qN r)).2.2.2 32)

/-- Bytes of a sub-order's output area (06 R262), none for KIND 4. -/
def Dev.outputLen (d : Dev) (o : Order) (u : Sub) : Nat :=
  if o.kind = 4 then 0 else u.n * d.orderRowsPerTok o * (8 + 4 * d.orderDim o)

/-- The sub-order descriptor (06 Table 3). -/
def Dev.subDesc (d : Dev) (oid : Nat) (o : Order) (u : Sub) : List Byte :=
  let r := o.bytes
  let tpp := ((d.seqProfile? o.key).map (·.tpp)).getD 0
  let g := if o.kind = 4 then 0 else ((d.seqProfile? o.key).map fun pr => qGroup pr r).getD 0
  let stageTag := 2 ^ 60
  let flags := (if u.wkeys then 1 else 0) + (if o.abft then 2 else 0) + (if o.seq then 4 else 0)
  natLe 4 oid ++ natLe 1 o.kind ++ natLe 1 flags ++ natLe 1 u.stripeX ++ natLe 1 u.stripeC ++ natLe 8 o.key ++
    natLe 8 (stageTag + u.inOff) ++ natLe 8 (if o.kind = 4 then 0 else stageTag + u.outOff) ++ natLe 4 u.pageFirst ++
    natLe 4 u.pageLast ++
    (if o.kind = 4 then List.replicate 11 0#8
     else natLe 2 (qLayer r) ++ natLe 2 tpp ++ natLe 2 u.n ++ natLe 1 (recNum r 54 1) ++ natLe 1 (qHeadCnt r) ++ natLe 1 g ++
       natLe 1 (min (256 / tpp) 8) ++ natLe 1 (128 / g)) ++
    natLe 1 u.engines ++ natLe 1 u.retries ++
    (if o.kind = 4 then List.replicate 3 0#8 else natLe 1 (if o.kind = 1 then qN r else 0) ++ natLe 2 u.qFirst) ++
    (if o.kind = 4 then recBytes r 0 8 else recBytes r 32 8)

/-- A sub-order dispatched to a thread that waits in QPOP: stage areas taken and filled, engines reserved, the descriptor in
local memory, SEQ_KEY loaded (06 R260 to R262, R271). -/
def Dev.dispatchTo (d : Dev) (sid t im : Nat) : Dev :=
  match Tab.get? d.subs sid with
  | none => d
  | some u => match Tab.get? d.orders u.order, Tab.get? d.images im, (d.thr t).wait with
    | some o, some i, .qpop gd a _ =>
      let inp := d.inputArea o u
      let d := d.took
      let inLen := roundUp inp.length 64
      let outLen := d.outputLen o u
      match d.stageRoom u.cell (inLen + outLen) with
      | none => d
      | some off =>
        let d := d.took
        let mask := d.engMask u.cell
        let u : Sub := { u with st := .running t, image := im, inOff := off, inLen := inp.length, outOff := off + inLen,
                                outLen := outLen, rowEng := rowEngines mask i.rowsets, engines := mask, bad := if u.bad = 4 then 4 else 0,
                                since := d.up }
        let areas := Tab.set d.stageAreas (stageAt u.cell off) inLen
        let d : Dev := { d with stageAreas := if outLen = 0 then areas else Tab.set areas (stageAt u.cell u.outOff) outLen,
                                subs := Tab.set d.subs sid u,
                                orders := Tab.set d.orders u.order { o with started := true } }
        let d := if o.started ∨ !o.seq then d else d.seqStart o.key
        let d := d.stageWrite u.cell off (inp ++ List.replicate (inLen - inp.length) 0#8)
        let d := if outLen = 0 then d
          else d.stageWrite u.cell u.outOff ((List.replicate (u.n * d.orderRowsPerTok o) (rowBytes (emptyRow (d.orderDim o)))).flatten)
        let d := d.localWrite t a (d.subDesc u.order o u)
        let d := d.resume t 4 gd 0
        d.modThr t fun x => { x with sub := some sid, dogged := false, seqKey := if o.key = 0 then seqKey o.stand 0 else o.key }
    | _, _, _ => d

/-- What a dispatch of a queued sub-order would do. -/
inductive DispAct where
  /-- Nothing yet. -/
  | wait
  /-- The order ends with a status: dropped late, or its sequence is no longer runnable. -/
  | stop (code : Nat)
  /-- No image takes it. -/
  | noKernel
  | bind (core im : Nat)
  | run (t im : Nat)
  deriving DecidableEq, Repr

/-- What the dispatch of a queued sub-order does now (05 R236; 04 R154; 06 R248, R261, R267, R271). -/
def Dev.dispAct (d : Dev) (u : Sub) : DispAct :=
  match Tab.get? d.orders u.order with
  | none => .wait
  | some o =>
    if o.seq ∧ !o.started ∧ d.seqStop o.key ≠ 0 then .stop (d.seqStop o.key)
    else match (d.subSlot o).bind fun slot => if d.slotLive o.stand slot then d.slotImage o.stand slot else none with
      | none => .noKernel
      | some im => match Tab.get? d.images im with
        | none => .noKernel
        | some i =>
          let ts := d.waiters u.cell im
          match ts[d.hint ts.length]? with
          | some t =>
            if d.engRoom u.cell i ∧ (d.stageRoom u.cell (roundUp (d.inputArea o u).length 64 + d.outputLen o u)).isSome then
              (if d.dropLate o.stand (recNum o.bytes (if o.kind = 4 then 8 else 40) 8) then .stop 7 else .run t im)
            else .wait
          | none =>
            if d.waiterComing u.cell im then .wait
            else match d.bindable u.cell with
              | some k => .bind k im
              | none => .wait

/-- The queued sub-orders of a cell as its scheduler sees them. -/
def Dev.cellItems (d : Dev) (c : Nat) : List SItem :=
  (d.subs.filter fun e => e.2.cell == c && e.2.st == .queued).filterMap fun e => (Tab.get? d.orders e.2.order).map fun o =>
    { upper := o.stand, lower := if o.seq then keyHandle o.key + 1 else 0,
      cls := if o.kind = 4 ∧ o.stand = 0 then 0 else o.cls,
      cost := if o.kind = 4 then d.fld .sch (1 + c) 8 63 32 else match d.seqProfile? o.key with
        | some pr => keyCost pr o.bytes e.2.keys e.2.n
        | none => 0,
      recovery := false, ref := e.1 }

/-- SUBORDER_DISPATCH: the next sub-order of a cell's scheduler dispatched. When it needs a core bound first, the core is
bound, and the choice is made anew once a thread waits (06 R248). -/
def Dev.subDispatch (d : Dev) (c : Nat) : Dev :=
  if d.halted then d
  else
    let act (n : Nat) : DispAct := match Tab.get? d.subs n with
      | some u => d.dispAct u
      | none => .wait
    match d.choose (1 + c) (d.cellItems c) (fun x => act x.ref != .wait) with
    | (none, d) => d
    | (some x, d') => match act x.ref with
      | .wait => d
      | .stop code => d'.stopOrder (((Tab.get? d.subs x.ref).map (·.order)).getD 0) code
      | .noKernel => d'.endSub x.ref 10 false
      | .bind k im => (d.unbind k).bindCore k im
      | .run t im => d'.took.dispatchTo x.ref t im

/-- SUBORDER_WATCHDOG: a thread's sub-order has run for WDOG_US since its dispatch; its waits end (06 R293). -/
def Dev.subWatchdog (d : Dev) (t : Nat) : Dev :=
  match (d.thr t).sub.bind fun sid => Tab.get? d.subs sid with
  | none => d
  | some u =>
    if (d.thr t).dogged ∨ d.up < u.since + d.sfld u.stand 0x400 47 32 * 1000 then d
    else (d.modThr t fun x => { x with dogged := true, wait := .run }).except t 13 0

/-! ## Completion (05 R186 to R188, R217, R221 to R224, R235; 06 R265) -/

/-- The status that an order ends with (06 R265). -/
def Order.final (o : Order) : Nat := if o.stop ≠ 0 then o.stop else if o.dataLost then 4 else o.status

/-- The partial record's header (05 Table 7). GROUP of a record without a valid group is free (log 33). -/
def Dev.partHead (d : Dev) (o : Order) (status bodyLen : Nat) : List Byte :=
  let r := o.bytes
  let g := ((d.seqProfile? o.key).map fun pr => qGroup pr r).getD (d.hint 256)
  let dl := recNum r 40 8
  let flags := (if dl ≠ 0 ∧ dl < d.now then 1 else 0) + (if qFlag r 4 then 2 else 0) + (if o.short then 4 else 0) +
    (if o.abft then 8 else 0) + o.appendRes * 64
  recBytes r 0 8 ++ recBytes r 8 8 ++ natLe 8 o.tokLo ++ natLe 4 o.tokCnt ++ recBytes r 48 2 ++ recBytes r 54 2 ++ natLe 1 g ++
    natLe 1 status ++ recBytes r 56 2 ++ natLe 2 d.node ++ natLe 1 flags ++ [0#8] ++ natLe 8 d.now ++ recBytes r 32 8 ++
    natLe 4 bodyLen ++ recBytes r 84 2 ++ natLe 2 1

/-- The body of a partial record (05 R222): rows that no sub-order wrote are empty. -/
def Dev.partBody (d : Dev) (o : Order) : List Byte :=
  let dim := d.orderDim o
  (List.range (qN o.bytes * d.orderRowsPerTok o)).flatMap fun i =>
    let r := Tab.getD o.rows i (emptyRow dim)
    if qFlag o.bytes 4 then rowBytes r else rowBytesBf r

/-- A query record completed: its partial record goes to the reply or merge address (05 R223). -/
def Dev.completeQuery (d : Dev) (o : Order) : Dev :=
  let r := o.bytes
  let st := o.final
  let body := if st = 0 ∨ st = 9 then d.partBody o else []
  let h := d.partHead o st body.length
  let merge := recNum r 84 2 != 0
  let d := d.took
  d.sendRecord { stand := o.stand, node := recNum r (if merge then 66 else 64) 2,
                 key := BitVec.ofNat 32 (recNum r (if merge then 80 else 68) 4), off := recNum r (if merge then 88 else 72) 8,
                 head := h, left := 0, failed := false, entry := some o.at_ } body

/-- RECORD_COMPLETE: an order whose sub-orders have all ended. Engine clocks that a KIND 4 order used beyond KERNEL_COST are
charged (12 R604, R607). -/
def Dev.recordComplete (d : Dev) (n clocks : Nat) : Dev :=
  match Tab.get? d.orders n with
  | none => d
  | some o =>
    if d.subs.any fun e => e.2.order == n then d
    else
      let d : Dev := { d with orders := Tab.del d.orders n }
      let st := o.final
      let d := if st = 5 ∨ st = 6 then d.incSat .stand o.stand 0x308 31 0 1 else d
      let d := if o.started ∧ o.seq then d.seqEnd o.key else d
      if o.kind = 4 then
        let d := d.schCharge 0 o.stand (if o.seq then keyHandle o.key + 1 else 0) (clocks - d.fld .sch 0 8 63 32)
        d.post o.stand { tag := BitVec.ofNat 64 (recNum o.bytes 0 8), r0 := 0, r1 := 0, kind := 1, opcode := 0, tbl := 2, code := st }
      else d.completeQuery o

/-! ## QREC and WREC (17 Table 6) -/

/-- QREC: a query record entered by host software, of class TC2 (12 R602). A payload that is no multiple of 256 bytes, or whose
RLEN differs, is a bad command. -/
def Dev.hQrec (d : Dev) (s : Nat) (e : CmdEntry) : Dev :=
  d.hostCmd s 0x08 e 256 1048576 fun d a =>
    let r := e.payload
    let code := if r.length % 256 ≠ 0 ∨ recNum r 86 2 * 256 ≠ r.length then 1
      else if 1048576 < d.ringUsed a + r.length then 2
      else if !d.replyOk a r then 11 else 0
    (if code = 0 then d.enterRing a 2 r else d).postCmd s e.tag 0x08 0 code 0 0

/-- WREC: a work order entered by host software. -/
def Dev.hWrec (d : Dev) (s : Nat) (e : CmdEntry) : Dev :=
  d.hostCmd s 0x09 e 64 64 fun d a =>
    let r := e.payload
    let code := if 4096 < d.wqUsed a + 1 then 2 else if !d.wreplyOk a r then 11 else 0
    (if code = 0 then d.enterWq a 2 r else d).postCmd s e.tag 0x09 0 code 0 0

end Sys2Proof.Machine
end

