-- ==== Sys2Proof/Machine/Stands.lean ====
section
/-!
DEFINITION. Stands: access keys, sessions, quotas and stand reset (03 R69 to R100). The accesses that reach these steps are
checked in Bus.lean.
-/
namespace Sys2Proof.Machine

/-! ## The configuration block (16 R791) -/

/-- A change written to the copy of the configuration block that is not in use, with SEQ raised by 1. -/
def Dev.cfgStore (d : Dev) (f : CfgBlock → CfgBlock) : Dev :=
  let b := f { d.cfg with seq := d.cfg.seq + 1 }
  if d.cfgIsB then { d with cfg := b, cfgA := .ok b, cfgIsB := false } else { d with cfg := b, cfgB := .ok b, cfgIsB := true }

/-- BOOT_STATUS.CFG_BAD (16 R792). -/
def Dev.cfgBad (d : Dev) : Bool := bitAt (d.rd .boot 0 0) 8

/-- True while stand 0 is unclaimed (03 R72). -/
def Dev.unclaimed (d : Dev) : Bool := !d.cfgBad && !d.cfg.claimed

/-! ## Sessions (R75 to R89) -/

/-- True when an access of a stand is made in an open session: one that was opened, or any of an unclaimed stand 0; never
while the stand is being reset (R72, R99). -/
def Dev.sesOpen (d : Dev) (s : Nat) : Bool :=
  !(d.std s).rst && ((d.std s).ses == .opened || (s == 0 && d.unclaimed))

/-- Code of RESULT (Table 5). -/
def SesResult.code : SesResult → Nat
  | .none => 0 | .opened => 1 | .badProof => 2 | .noNonce => 3 | .locked => 4 | .noKey => 5 | .busy => 6 | .issued => 7

/-- SES_STATUS.STATE. -/
def Dev.sesState (d : Dev) (s : Nat) : Nat :=
  if (d.std s).rst then 4
  else if s = 0 && d.unclaimed then 2
  else match (d.std s).ses with
    | .closed => 0 | .challenged => 1 | .opened => 2 | .locked => 3

/-- Remaining lockout in ns. -/
def Dev.lockLeft (d : Dev) (s : Nat) : Nat := if (d.std s).ses = .locked then (d.std s).lockEnd - d.up else 0

/-- SES_STATUS as it reads. -/
def Dev.sesStatus (d : Dev) (s : Nat) : W64 :=
  BitVec.ofNat 64 (min 65535 (ceilDiv (d.lockLeft s) 1000000) * 2 ^ 32 + (d.std s).fails % 256 * 2 ^ 24 + s % 32 * 2 ^ 16 +
    (d.std s).result.code * 2 ^ 8 + (if (d.std s).op.isSome then 8 else 0) + d.sesState s)

/-- A stand's slot changed. -/
def Dev.modStd (d : Dev) (s : Nat) (f : Stand → Stand) : Dev := d.setStd s (f (d.std s))

/-- RESULT set. -/
def Dev.sesResult (d : Dev) (s : Nat) (r : SesResult) : Dev := d.modStd s fun x => { x with result := r }

/-- A pending CHALLENGE or SUBMIT abandoned (R851). -/
def Dev.sesAbandon (d : Dev) (s : Nat) : Dev :=
  d.modStd s fun x => if x.op.isSome then { x with op := none, result := .none, ses := .closed, nonce := 0 } else x

/-- The open session closed, and a pending operation abandoned (R86, R851). -/
def Dev.sesClose (d : Dev) (s : Nat) : Dev :=
  (d.sesAbandon s).modStd s fun x => if x.ses = .opened then { x with ses := .closed } else x

/-- A CHALLENGE or SUBMIT: the checks of R82 in order, then its operation begins. A write that finds one pending changes
nothing (R851). -/
def Dev.sesBegin (d : Dev) (s : Nat) (op : SesOp) : Dev :=
  let x := d.std s
  if x.op.isSome then d
  else if d.sesState s = 2 ∨ d.sesState s = 4 then d.sesResult s .busy
  else if x.ses = .locked then d.sesResult s .locked
  else if x.key.isNone then d.sesResult s .noKey
  else match op with
    | .challenge => d.setStd s { x with op := some .challenge }
    | .submit =>
      if x.ses ≠ .challenged then d.sesResult s .noNonce
      else d.setStd s { x with op := some .submit, given := x.proof }

/-- CHALLENGE_DONE: the nonce is placed (R75). -/
def Dev.challengeDone (d : Dev) (s : Nat) : Dev :=
  if (d.std s).op = some .challenge then
    d.took.modStd s fun x => { x with op := none, ses := .challenged, result := .issued, nonce := Config.nonce d.freeCtr }
  else d

/-- The 48 bytes of a key, nonce or proof, byte 0 in the lowest bits (R69). -/
def bytes384 (x : BitVec 384) : List Byte := natLe 48 x.toNat

/-- The message of Table 3. -/
def Stand.proofMsg (x : Stand) (s : Nat) : List Byte :=
  bytes384 x.nonce ++ natLe 1 (s % 32) ++ natLe 4 x.count.toNat

/-- True when the proof that a SUBMIT gave is right (R77). -/
def Stand.proofOk (x : Stand) (s : Nat) : Bool :=
  match x.key with
  | some k => hmac384 (bytes384 k) (x.proofMsg s) == bytes384 x.given
  | none => false

/-- Length of the lockout that n consecutive failures bring, in seconds (R80, Table 4). -/
def lockSeconds (n : Nat) : Nat := if n < 3 then 0 else min (2 ^ (n - 3)) 64

/-- SUBMIT_DONE: the session opens, or the failure counts and may lock the slot out (R78 to R81). -/
def Dev.submitDone (d : Dev) (s : Nat) : Dev :=
  let x := d.std s
  if x.op ≠ some .submit then d
  else if x.proofOk s then
    d.setStd s { x with op := none, ses := .opened, result := .opened, count := x.count + 1, fails := 0, nonce := 0 }
  else
    let n := x.fails + 1
    let y : Stand := { x with op := none, ses := .closed, result := .badProof, fails := min n 255, nonce := 0 }
    if n < 3 then d.setStd s y
    else
      let d := d.setStd s { y with ses := .locked, lockEnd := d.up + lockSeconds n * 1000000000 }
      d.raise (0x380 + 4 * s) ⟨.none, 0⟩ [s] (BitVec.ofNat 64 (min n 255))

/-- A write to SES_CTL: a write with more than one bit set is ignored (R83). -/
def Dev.sesCtl (d : Dev) (s : Nat) (v : W64) : Dev :=
  match bits v 2 0 with
  | 1 => d.sesBegin s .challenge
  | 2 => d.sesBegin s .submit
  | 4 => d.sesClose s
  | _ => d

/-- NONCE_EXPIRY: 1 s has passed without a SUBMIT or a new CHALLENGE (R76). -/
def Dev.nonceExpiry (d : Dev) (s : Nat) : Dev :=
  if (d.std s).ses = .challenged ∧ (d.std s).op.isNone then d.modStd s fun x => { x with ses := .closed, nonce := 0 } else d

/-- LOCKOUT_END: the lockout has passed; the failure count stays (R80, R84). -/
def Dev.lockoutEnd (d : Dev) (s : Nat) : Dev :=
  if (d.std s).ses = .locked then d.modStd s fun x => { x with ses := .closed } else d

/-- SESSION_IDLE_TIMEOUT: no access was accepted for IDLE_MS (R86, R87). -/
def Dev.sesIdle (d : Dev) (s : Nat) : Dev := if (d.std s).ses = .opened then d.sesClose s else d

/-! ## Access keys (R69 to R74) -/

/-- A write to STD_KEY_CTL of a stand's window; one with both bits set is ignored (R71). A commit to stand 0's slot is
written to the configuration block and claims stand 0 (R73). -/
def Dev.keyCtl (d : Dev) (s : Nat) (v : W64) : Dev :=
  match bits v 1 0 with
  | 1 =>
    let x := (d.sesAbandon s).std s
    let d := d.setStd s { x with key := some x.staged, staged := 0, ses := .closed, nonce := 0, count := 0, fails := 0 }
    if s = 0 then d.cfgStore fun b => { b with claimed := true, key := x.staged } else d
  | 2 => if s = 0 then d else (d.sesClose s).modStd s fun x => { x with key := none }
  | _ => d

/-! ## Quotas (R91 to R94) -/

/-- The five quota registers as written. -/
def Dev.stagedQuota (d : Dev) (s : Nat) : Quota :=
  ⟨d.sfld s 0x100 31 0, d.sfld s 0x108 31 0, d.sfld s 0x110 15 0, d.sfld s 0x118 16 0, d.sfld s 0x120 16 0⟩

/-- The five quota registers written with the quotas in force. -/
def Dev.showQuota (d : Dev) (s : Nat) : Dev :=
  let q := (d.std s).quota
  ((((d.setSfld s 0x100 31 0 q.t0).setSfld s 0x108 31 0 q.t1).setSfld s 0x110 15 0 q.eng).setSfld s 0x118 16 0 q.pool).setSfld
    s 0x120 16 0 q.conn

/-- The sum of one quota over all stands, with a new value for stand s. -/
def Dev.quotaSum (d : Dev) (s : Nat) (f : Quota → Nat) (q : Quota) : Nat :=
  ((List.range 32).map fun x => if x = s then f q else f (d.std x).quota).sum

/-- The first check of R92 that new quotas fail: 2 T0, 3 T1, 4 pool, 5 connections; 1 when they pass. -/
def Dev.quotaCheck (d : Dev) (s : Nat) (q : Quota) : Nat :=
  if d.t0Cap < d.quotaSum s (·.t0) q then 2
  else if 1572864 < q.t1 ∨ d.t1Cap < d.quotaSum s (·.t1) q then 3
  else if 65536 < d.quotaSum s (·.pool) q then 4
  else if 65536 < d.quotaSum s (·.conn) q then 5
  else 1

/-- A write of STD_Q_CTL.COMMIT (R91, R92, R94). -/
def Dev.quotaCommit (d : Dev) (s : Nat) : Dev :=
  let q := d.stagedQuota s
  let r := d.quotaCheck s q
  let d := d.setSfld s 0x130 2 0 r
  if r = 1 then
    let d := d.modStd s fun x => { x with quota := q }
    ((d.preemptQuota s 0).preemptQuota s 1).pumpAll
  else d.showQuota s

/-! ## Stand reset (R96 to R100) -/

/-- True when a thread belongs to a core bound to an image of a stand. -/
def Dev.thrOf (d : Dev) (s t : Nat) : Bool := (d.thrImage t).any fun im => im.stand == s

/-- Commands of a stand that were started and have not completed write no completion (17 R811). -/
def Dev.cutCommands (d : Dev) (s : Nat) : Dev :=
  let mine (c : Option (Nat × W64)) : Option (Nat × W64) := c.filter fun x => !(x.1 == s)
  { d with
    dirOps := d.dirOps.map fun o => (match o.who with
      | .host i _ _ => if i = s then { o with who := .none } else o
      | .thread t _ => if d.thrOf s t then { o with who := .none } else o
      | .none => o)
    recodes := d.recodes.filter fun r => !(r.stand == s)
    regionCmds := d.regionCmds.filter fun r => !(r.issuer == s)
    unloads := d.unloads.map fun u => if u.issuer = s then { u with silent := true } else u
    conns := Tab.mapAll d.conns fun _ x => { x with openCmd := mine x.openCmd, closeCmd := mine x.closeCmd }
    tracts := Tab.mapAll d.tracts fun _ t => { t with cmd := mine t.cmd } }

/-- A stand's queues emptied, with bases and pointers cleared; no completion is written for what they held. -/
def Dev.clearQueues (d : Dev) (s : Nat) : Dev :=
  let a := Loc.addr ⟨.stand, s, 0⟩
  let mine (r : DmaReq) : Bool := match r.use with
    | .cmdFetch x _ => x == s
    | .payload x _ _ => x == s
    | _ => false
  { (d.clrRegs (a + 0x2000) 0x28).clrRegs (a + 0x2040) 0x20 with
    hq := Tab.del d.hq s, dma := d.dma.filter fun r => !mine r, rings := Tab.del d.rings s, wqs := Tab.del d.wqs s }

/-- A stand's orders, sub-orders and merges discarded, and its kernels stopped: its cores are unbound, what their threads
hold is released, near-bank programs that have not started go (Table 6; 09 R448). -/
def Dev.stopKernels (d : Dev) (s : Nat) : Dev :=
  let d : Dev := { d with
    locals := d.locals.filter fun o => !d.thrOf s o.t
    nbprogs := d.nbprogs.filter fun e => !(e.2.stand == s) || e.2.running || e.2.ended }
  let d := (List.range 128).foldl (fun d k =>
    if d.thrOf s (4 * k) then ((List.range 4).foldl (fun d i => d.releaseThread (4 * k + i)) d).unbind k else d) d
  let d := (d.subs.filter fun e => e.2.stand == s).foldl (fun d e => d.freeAreas e.2) d
  { d with
    subs := d.subs.filter fun e => !(e.2.stand == s)
    orders := d.orders.filter fun e => !(e.2.stand == s)
    parts := d.parts.filter fun e => !(e.2.stand == s)
    merges := d.merges.filter fun m => !(m.stand == s) }

/-- A running sequence returned to resident; with PREEMPT_PENDING it becomes yarded, and its yarding waits for the end of the
reset. -/
def Dev.idleSeq (d : Dev) (s key : Nat) : Dev :=
  match d.entry key with
  | none => d
  | some v =>
    let set := dvSet v
    if d.running set = 0 then d
    else
      let d := (d.putSet set 12 4 0).putSet set 16 8 d.now
      if bits v 63 61 ≠ stRunning then d
      else if d.preemptPending set then
        ((d.setFlag set 0 false).setSeqState key stYarded).modStd s fun x => { x with yards := x.yards ++ [key] }
      else d.setSeqState key stResident

/-- Every image of a stand unloaded, its kinds unbound and FAULTED cleared. -/
def Dev.unloadAll (d : Dev) (s : Nat) : Dev :=
  let d : Dev := { d with unloads := d.unloads.filter fun u => !(u.stand == s) || !(u.issuer == s) }
  let d := (List.range 8).foldl (fun d i => d.emptySlot s i) d
  let d := (List.range 8).foldl (fun d i => d.bindKinds s i 0) d
  (d.setSfld s 0x408 15 8 0).setSfld s 0x410 7 0 0

/-- A stand's tracts revoked at once; a registration that still waits is given up. -/
def Dev.revokeAll (d : Dev) (s : Nat) : Dev :=
  d.tracts.foldl (fun d e =>
    if e.2.stand ≠ s ∨ e.2.kind = 8 then d
    else if e.2.st = .opening then d.tractGone e.1 e.2
    else d.revoke e.1 none) d

/-- Outbound messages of a stand's connections of which no packet has been handed to egress are discarded, and inbound ones
abandoned. -/
def Dev.cutMessages (d : Dev) (s : Nat) : Dev :=
  { d with conns := Tab.mapAll d.conns fun _ x =>
      if x.stand = s ∧ x.cruise.isNone then
        { x with tx := x.tx.filter (fun m => m.pkts.any fun p => !(p.st == .unsent)), rx := [] }
      else x }

/-- A stand reset begun (R96, R99): a trigger that finds RST_BUSY set is part of the reset that runs. Everything the stand
runs stops, its queues are empty, its fault page is clear, and its tracts are being revoked. -/
def Dev.standReset (d : Dev) (s : Nat) : Dev :=
  if (d.std s).rst then d
  else
    let d := (d.sesClose s).modStd s fun x =>
      { x with rst := true, nonce := 0, ses := if x.ses = .locked then .locked else .closed }
    let d := d.clrRegs (Loc.addr ⟨.stand, s, 0x4000⟩) 0x1000
    let d := d.cutCommands s
    let d := (d.clearQueues s).stopKernels s
    let d := (d.shadow.filter fun e => keyStand e.1 == s).foldl (fun d e => d.idleSeq s e.1) d
    let d := d.interruptStand s
    ((d.unloadAll s).revokeAll s).cutMessages s

/-- STAND_RESET_DONE: revocation is complete, the stand's connections close with REASON 1 but for cruise connections, RST_BUSY
clears, and the yardings of sequences that were to be pre-empted start (Table 6; 11 R528, R629). -/
def Dev.standResetDone (d : Dev) (s : Nat) : Dev :=
  if !(d.std s).rst then d
  else
    let d := d.tracts.foldl (fun d e => if e.2.stand = s ∧ e.2.st = .revoking then d.tractGone e.1 e.2 else d) d
    let d := d.conns.foldl (fun d e => if e.2.stand = s ∧ e.2.cruise.isNone then d.closeConn e.1 1 else d) d
    let ys := (d.std s).yards
    let d := d.modStd s fun x => { x with rst := false, yards := [] }
    ys.foldl (fun d k =>
      if (d.entry k).any fun v => bits v 63 61 == stYarded then d.startYard k else d) d

end Sys2Proof.Machine
end

