-- ==== Sys2Proof/Machine/Faults.lean ====
section
/-!
DEFINITION. Firebreak fences and their effects, the lift of a fence and cell reset, halt, patrol runs and the device actions
of clock and mesh faults (14 R691 to R726; 16 R778, R779; 02 R45; log 35).
-/
namespace Sys2Proof.Machine

/-! ## Effects of a firebreak (14 Table 5) -/

/-- A limber core taken out: its sub-orders are dispatched again, and it is unbound. -/
def Dev.dropCore (d : Dev) (k : Nat) : Dev :=
  let d := (List.range 4).foldl (fun d i =>
    let t := 4 * k + i
    let d := match (d.thr t).sub with
      | some sid => d.redispatch sid
      | none => d
    d.releaseThread t) d
  d.unbind k

/-- Running sub-orders of a cell that use an engine dispatched again. -/
def Dev.dropEngine (d : Dev) (e : Nat) : Dev :=
  (d.subs.filter fun x => x.2.cell == e / 6 && nbit x.2.engines (e % 6) && (match x.2.st with
    | .running _ => true
    | _ => false)).foldl (fun d x => d.redispatch x.1) d

/-- Running programs of a cell that a condition on their units selects, with the first such unit. -/
def Dev.programsOn (d : Dev) (c : Nat) (p : Nat → Bool) : List (Nat × Nat) :=
  d.nbprogs.filterMap fun e =>
    if e.2.running ∧ !e.2.ended ∧ e.2.cell = c then
      ((d.nbUnits e.2 (e.2.rowFirst + e.2.row) (e.2.rowFirst + e.2.rowCnt)).find? p).map fun u => (e.1, u)
    else none

/-- Migrations into dies that have left T0 abandoned (R713). -/
def Dev.dropMigrs (d : Dev) : Dev := d.abandonMigrs fun m => m.tier == 0 && d.t0Out (frameDie m.frame)

/-- Records and kernel orders whose sub-orders are in flight over a stripe set that held a cell. -/
def Dev.ordersOver (d : Dev) (c : Nat) : List Nat :=
  (d.orders.filter fun e => d.subs.any fun x => x.2.order == e.1 && !x.2.void &&
    (x.2.cell == c || (e.2.kind != 4 && d.inSlice e.2.stand c))).map (·.1)

/-- The sub-orders that run in a cell taken from their threads, and its cores unbound. -/
def Dev.dropCell (d : Dev) (c : Nat) : Dev :=
  let mine := d.subs.filter fun x => x.2.cell == c
  let d := (List.range 8).foldl (fun d i =>
    ((List.range 4).foldl (fun d j => d.releaseThread (4 * (8 * c + i) + j)) d).unbind (8 * c + i)) d
  mine.foldl (fun d x => (match x.2.st with
    | .running _ =>
      let d := d.freeAreas x.2
      let d : Dev := { d with nbprogs := d.nbprogs.filter fun e => e.2.sub != some x.1 || e.2.running || e.2.ended }
      if x.2.void then { d with subs := Tab.del d.subs x.1 }
      else { d with subs := Tab.set d.subs x.1 { x.2 with st := .held, inLen := 0, outLen := 0 } }
    | _ => d)) d

/-- Orders bucked again, unless their stand has no cell left: they then wait (log 35). -/
def Dev.rebuckAll (d : Dev) (oids : List Nat) : Dev :=
  oids.foldl (fun d oid => match Tab.get? d.orders oid with
    | some o => if (d.stripe o.stand).isEmpty then d else d.rebuck oid
    | none => d) d

/-- A firebreak of a unit (R710 to R717): one that is already fenced stays as it is. -/
def Dev.fenceUnit (d : Dev) (u : FUnit) (cause src : Nat) : Dev :=
  if u.kind = .none ∨ u.kind = .edge ∨ d.unitFenced u then d
  else
    let progs := match u.kind with
      | .nbu => d.programsOn (u.idx / 64) fun x => x == u.idx % 64
      | .cell => d.programsOn u.idx fun _ => true
      | _ => []
    let w := u.kind.code * 2 ^ 44 + u.idx * 2 ^ 32 + cause * 2 ^ 28 + (if cause = 2 ∨ cause = 3 ∨ cause = 5 then src else 0)
    let f : FenceInfo := ⟨cause, none⟩
    let d : Dev := { d with fences := Tab.set d.fences u.key f }
    let d := (d.wr .flt 0 0x100 (BitVec.ofNat 64 w)).wr .flt 0 0x108 (BitVec.ofNat 64 d.now)
    let d := progs.foldl (fun d p => d.nbuError p.1 p.2 0) d
    match u.kind with
    | .engine => d.dropEngine u.idx
    | .core => d.dropCore u.idx
    | .channel => d.dropMigrs
    | .port => (d.portLeave u.idx false).sliceFallback
    | .cell =>
      let oids := d.ordersOver u.idx
      ((d.dropCell u.idx).dropMigrs.sliceFallback).rebuckAll oids
    | _ => d

/-- The unit that a word of FLT_FENCE_SET or FLT_UNFENCE names, when it exists and GO is 1 (R853). -/
def fenceTarget (v : W64) : Option FUnit :=
  match UnitKind.ofCode (bits v 47 44) with
  | some k => if bitAt v 0 ∧ bits v 43 32 < k.count then some ⟨k, bits v 43 32⟩ else none
  | none => none

/-- A write to FLT_FENCE_SET. -/
def Dev.fenceSet (d : Dev) (v : W64) : Dev :=
  match fenceTarget v with
  | some u => d.fenceUnit u 6 0
  | none => d

/-! ## Cell reset (16 R779) -/

/-- The code of the last reset recorded (16 R774). -/
def Dev.lastReset (d : Dev) (code : Nat) : Dev := d.setFld .boot 0 0 35 32 code

/-- A cell reset begun. -/
def Dev.cellReset (d : Dev) (c : Nat) : Dev :=
  if d.cellRst.contains c then d else { d with cellRst := d.cellRst ++ [c] }

/-- What a cell reset clears: stage SRAM, local memory, registers but for PTL_LOG and the registers of the cell block that
are the device's own, and patrol runs that wait or run. -/
def Dev.cellClear (d : Dev) (c : Nat) : Dev :=
  let a := Loc.addr ⟨.cell, c, 0⟩
  let d := (d.dropCell c).clrRegs a 0x60800
  let d := (d.clrRegs (a + 0x61000) 0x1F0F8).clrRegs (a + 0x80200) 0x7FE00
  { d with
    stage := d.stage.zero (stageAt c 0) stageSize
    ptlQ := d.ptlQ.filter fun r => !(r.cell == c)
    ptlRun := Tab.del d.ptlRun c }

/-- CELL_RESET_DONE. -/
def Dev.cellResetDone (d : Dev) (c : Nat) : Dev :=
  if d.cellRst.contains c then Dev.cellClear { d with cellRst := d.cellRst.filter fun x => !(x == c) } c else d

/-- A write to FLT_UNFENCE: the fence goes when the cruise epoch rises; a cell is reset (R715, R716, R853). -/
def Dev.unfence (d : Dev) (v : W64) : Dev :=
  match fenceTarget v with
  | none => d
  | some u =>
    match Tab.get? d.fences u.key with
    | none => d
    | some f =>
      let g : FenceInfo := { f with lift := some d.cruiseEpoch }
      let d : Dev := { d with fences := Tab.set d.fences u.key g }
      if u.kind = .cell then (d.lastReset 5).cellReset u.idx else d

/-! ## Slice reset (16 R778) -/

/-- SLICE_RESET at the home: home, slice, zero, epoch (log 23). Refused unless the record names the sender as owner at that
epoch. -/
def Dev.rxSliceReset (d : Dev) (origin : Nat) (body : List Byte) : Dev :=
  let home := recNum body 0 2
  let k := recNum body 2 1
  if home ≠ d.node then d
  else match d.slice? k with
    | none => d.cruiseMsg origin 12 (d.recordBody k)
    | some s =>
      if s.owner = origin ∧ s.epoch = recNum body 4 4 then
        let d := ((List.range 32).filter fun x => d.sliceOf x == k).foldl (fun d x => d.standReset x) (d.lastReset 4)
        let d := ((List.range 16).filter fun c => !d.cellFenced c && (if k = 0 then
          !(d.slices.any fun e => e.1 != 0 && nbit e.2.cells c) else nbit s.cells c)).foldl (fun d c => d.cellReset c) d
        d.commitSlice k s.owner
      else d.cruiseMsg origin 12 (d.recordBody k)

/-! ## Halt (14 R718) -/

/-- Packets of a port sent while its queue, its credits and its replay buffer allow, at most n. -/
def Dev.flushPort (p : Nat) : Nat → Dev → Dev
  | 0, d => d
  | n + 1, d => if (d.egq p).isEmpty then d else Dev.flushPort p n (d.egressSelect p)

/-- FAIL about this module sent before it goes: what waits at the ports is sent first (13 R639; log 35). -/
def Dev.sayFailed (d : Dev) : Dev :=
  (List.range 16).foldl (fun d p => Dev.flushPort p (d.egq p).length d) d.failSelf

/-- Every Priol port disabled. -/
def Dev.portsOff (d : Dev) : Dev := (List.range 16).foldl (fun d p => d.prtCtlWrite p 0) d

/-- HALT: FAIL is sent, the sessions of stands 1 to 31 close, the ports are disabled, and the device stands. -/
def Dev.haltDevice (d : Dev) : Dev :=
  if d.halted then d
  else
    let d := d.sayFailed.setFld .cmp 0 8 2 0 4
    let d := (List.range 31).foldl (fun d i => d.sesClose (i + 1)) d
    let d := (d.portsOff.setFld .boot 0 0 3 0 5).setFld .boot 0 0 23 16 0x20
    { d with halted := true }

/-! ## Forced occurrences and latches (14 R691, R701, R703) -/

/-- The unit of a source that its ID alone names; none where it names no single unit (log 35). -/
def srcUnit (src : Nat) : FUnit :=
  if src < 512 then
    let c := src / 32
    let k := src % 32
    if 4 ≤ k ∧ k ≤ 9 then ⟨.engine, 6 * c + (k - 4)⟩
    else if 10 ≤ k ∧ k ≤ 15 then ⟨.engine, 6 * c + (k - 10)⟩
    else if k = 2 ∨ k = 18 ∨ k = 19 ∨ k = 22 then ⟨.cell, c⟩
    else ⟨.none, 0⟩
  else if src < 0x220 then ⟨.edge, (src - 0x200) / 8⟩
  else if src < 0x240 then ⟨.port, (src - 0x220) / 2⟩
  else if src < 0x250 then ⟨.edge, 0⟩
  else if src = 0x257 ∨ src = 0x258 then ⟨.none, 0⟩
  else if src < 0x260 then ⟨.edge, 2⟩
  else if src < 0x380 then ⟨.edge, 0⟩
  else ⟨.none, 0⟩

/-- A write to FLT_FORCE[w]: one occurrence of each source named, lowest first, without its device action. -/
def Dev.force (d : Dev) (w : Nat) (v : W64) : Dev :=
  ((List.range 32).filter fun b => bitAt v b).foldl (fun d b =>
    let src := 32 * w + b
    d.raise src (srcUnit src) (if 0x380 ≤ src then [(src - 0x380) / 4] else []) 0xF0F0F0F0F0F0F0#64) d

/-- FLT_FIRST_CTL.CLEAR. -/
def Dev.firstClear (d : Dev) : Dev := ((d.wr .flt 0 8 0).wr .flt 0 0x10 0).wr .flt 0 0x18 0

/-- FLT_SF_CTL.CLEAR. -/
def Dev.standClear (d : Dev) (s : Nat) : Dev :=
  ((d.wr .stand s 0x4008 0).wr .stand s 0x4010 0).wr .stand s 0x4018 0

/-! ## Faults with device actions (14 Table 1; 02 R45; 15 R769) -/

/-- MESH_LINK_FAIL: link number n of a cell, or an edge-to-edge link of edge c - 16, fails; cut lists the destination cells
whose other route fails too, which are fenced (02 R45; log 35). -/
def Dev.meshFail (d : Dev) (c n cut : Nat) : Dev :=
  let d := if c < 16 then d.raise (32 * c + 18) ⟨.cell, c⟩ [] (BitVec.ofNat 64 n)
    else d.raise (0x204 + 8 * (c - 16)) ⟨.edge, c - 16⟩ [] (BitVec.ofNat 64 n)
  (maskBits 16 cut).foldl (fun d x => d.fenceUnit ⟨.cell, x⟩ 4 0) d

/-- CELLPLL_UNLOCK. -/
def Dev.cellpllUnlock (d : Dev) (c : Nat) : Dev :=
  let d := (d.setFld .pwr 0 0x8000 (16 + c) (16 + c) 0).raise (32 * c + 19) ⟨.cell, c⟩ [] 0
  d.fenceUnit ⟨.cell, c⟩ 3 (32 * c + 19)

/-- LINKPLL_UNLOCK: the four ports of the edge go DOWN and retrain. -/
def Dev.linkpllUnlock (d : Dev) (e : Nat) : Dev :=
  let d := (d.setFld .pwr 0 0x8000 (8 + e) (8 + e) 0).raise (0x203 + 8 * e) ⟨.edge, e⟩ [] 0
  (List.range 4).foldl (fun d i => d.retrain (4 * e + i) false) d

/-- RANGER_WDOG_EXPIRY. -/
def Dev.rangerWdog (d : Dev) : Dev := d.raise 0x242 ⟨.edge, 0⟩ [] 0

/-- CELL_WATCHDOG: 1 ms without progress while work is queued in the cell. -/
def Dev.cellWdog (d : Dev) (c : Nat) : Dev :=
  if Tab.anyOf d.subs fun _ u => u.cell == c && (match u.st with
      | .running _ => false
      | _ => true)
  then d.raise (32 * c + 22) ⟨.cell, c⟩ [] 0 else d

/-! ## Patrol runs (14 R719 to R724) -/

/-- Units of a patrol kind in a cell, and its pattern sets (Table 6). -/
def ptlUnits : Nat → Nat
  | 0 => 6 | 1 => 6 | 2 => 8 | 3 => 64 | _ => 0

/-- Pattern sets of a kind. -/
def ptlPatterns : Nat → Nat
  | 0 => 5 | 1 => 3 | 2 => 3 | 3 => 3 | _ => 0

/-- A write to a cell's PTL_RUN. One that names a kind, unit or pattern set outside Table 6 starts nothing (log 35). -/
def Dev.ptlWrite (d : Dev) (c : Nat) (v : W64) : Dev :=
  let k := bits v 18 16
  let u := bits v 13 8
  let p := bits v 2 0
  if ptlPatterns k ≤ p then d
  else if bitAt v 31 then
    { d with ptlQ := d.ptlQ ++ (List.range (ptlUnits k)).map fun u => PtlRun.mk c k u p 0 0 }
  else if ptlUnits k ≤ u then d
  else { d with ptlQ := d.ptlQ ++ [PtlRun.mk c k u p 0 0] }

/-- The run of a cell that waits longest. -/
def Dev.ptlNext (d : Dev) (c : Nat) : Option PtlRun := d.ptlQ.find? fun r => r.cell == c

/-- True when the unit of a run is idle (R720). -/
def Dev.ptlIdle (d : Dev) (r : PtlRun) : Bool :=
  match r.kind with
  | 2 => (d.core (8 * r.cell + r.unit)).image.isNone
  | 3 => (d.programsOn r.cell fun u => u == r.unit).all fun e => (Tab.get? d.nbprogs e.1).any (·.paused)
  | _ => !Tab.anyOf d.subs fun _ u => u.cell == r.cell && nbit u.engines r.unit && (match u.st with
    | .running _ => true
    | _ => false)

/-- True while a cell's runs wait or run: PTL_STATUS.BUSY. -/
def Dev.ptlBusy (d : Dev) (c : Nat) : Bool := (d.ptlNext c).isSome || Tab.has d.ptlRun c

/-- PATROL_RUN_START: the cell's next run begins on an idle unit, one at a time in a cell; its bin follows the temperature of
the cell's logic die (R720, R722; log 35). -/
def Dev.ptlStart (d : Dev) (c : Nat) : Dev :=
  match d.ptlNext c with
  | none => d
  | some r =>
    if Tab.has d.ptlRun c ∨ !d.ptlIdle r ∨ d.halted then d
    else
      let t := d.dieTemp (2 * c)
      let w : PtlRun := { r with bin := min 25 (t / 5), temp := t }
      { d with ptlQ := d.ptlQ.erase r, ptlRun := Tab.set d.ptlRun c w }

/-- PATROL_WAIT_TIMEOUT: the cell's next run is skipped (R720). -/
def Dev.ptlSkip (d : Dev) (c : Nat) : Dev :=
  match d.ptlNext c with
  | none => d
  | some r => Dev.incSat { d with ptlQ := d.ptlQ.erase r } .cell c 0x80018 31 0 1

/-- Number under which the results of a run are kept: unit, pattern set and bin. -/
def PtlRun.key (r : PtlRun) : Nat := (((r.cell * 4 + r.kind) * 64 + r.unit) * 8 + r.pat) * 32 + r.bin

/-- A patrol fence written to the cell's PTL_LOG. -/
def Dev.ptlLog (d : Dev) (r : PtlRun) : Dev :=
  let n := d.fld .cell r.cell 0x800F8 63 0
  let d := d.wr .cell r.cell (0x80100 + 16 * (n % 16)) (BitVec.ofNat 64 d.now)
  let w := r.temp % 256 * 2 ^ 24 + r.bin * 2 ^ 16 + r.kind * 2 ^ 12 + r.unit * 2 ^ 6 + r.pat
  (d.wr .cell r.cell (0x80108 + 16 * (n % 16)) (BitVec.ofNat 64 w)).incWrap .cell r.cell 0x800F8 63 0 1

/-- PATROL_RUN_END: the cell's run has compared its answer (R721 to R723). -/
def Dev.ptlEnd (d : Dev) (c : Nat) (ok : Bool) : Dev :=
  match Tab.get? d.ptlRun c with
  | none => d
  | some r =>
    let hist := (ok :: Tab.getD d.ptlHist r.key []).take 3
    let d : Dev := { d with ptlRun := Tab.del d.ptlRun c, ptlHist := Tab.set d.ptlHist r.key hist }
    let st := r.pat * 2 ^ 32 + r.unit * 2 ^ 24 + r.kind * 2 ^ 18 + (if ok then 0 else 2 ^ 17) + r.bin * 2 ^ 8 + r.temp % 256
    let d := (d.wr .cell c 0x80008 (BitVec.ofNat 64 st)).incWrap .cell c 0x80010 31 0 1
    if ok then d
    else
      let d := d.incSat .cell c 0x80010 63 32 1
      let detail := d.now % 2 ^ 32 * 2 ^ 32 + r.pat * 2 ^ 24 + r.bin * 2 ^ 16 + r.kind * 2 ^ 8 + r.unit
      let d := d.raise (32 * c + 21) r.tested [] (BitVec.ofNat 64 detail)
      if 2 ≤ (hist.filter fun x => !x).length ∧ !d.unitFenced r.tested then
        (d.fenceUnit r.tested 5 (32 * c + 21)).ptlLog r
      else d

end Sys2Proof.Machine
end

