-- ==== Sys2Proof/Machine/Power.lean ====
section
/-!
DEFINITION. Supply, temperature, operating points, low-power states and clocks (15; log 36).
-/
namespace Sys2Proof.Machine

/-! ## Operating points (R730 to R740) -/

/-- A field of PWR_OP_STATUS. -/
def Dev.opSt (d : Dev) (hi lo : Nat) : Nat := d.fld .pwr 0 0x20 hi lo

/-- A field of PWR_OP_STATUS set. -/
def Dev.setOpSt (d : Dev) (hi lo v : Nat) : Dev := d.setFld .pwr 0 0x20 hi lo v

/-- CURRENT, the point in force. -/
def Dev.curOp (d : Dev) : Nat := d.opSt 1 0

/-- The goal point: the slowest of the target and the three caps (R737). -/
def Dev.goalOp (d : Dev) : Nat := max (max (d.fld .pwr 0 0x18 1 0) (d.opSt 9 8)) (max (d.opSt 13 12) (d.opSt 17 16))

/-- The voltage of a point requested on AVS0 to AVS3. -/
def Dev.avsRequest (d : Dev) (p : Nat) : Dev :=
  { d.setOpSt 24 24 1 with avsWait := [0, 1, 2, 3], avsPoint := p, avsLate := false }

/-- The FLT_STATUS bit of AVS_NOACK (R734). -/
def Dev.noackSet (d : Dev) : Bool := bitAt (d.rd .flt 0 0x1090) 22

/-- OP_STEP: one step towards the goal begins: up, the voltage of the next faster point is requested; down, the clock steps
first (R738). A step under way goes on (R740). -/
def Dev.opStep (d : Dev) : Dev :=
  let cur := d.curOp
  let goal := d.goalOp
  if d.off ∨ !d.avsWait.isEmpty then d
  else if goal < cur then (if d.noackSet then d else d.avsRequest (cur - 1))
  else if cur < goal then (d.setOpSt 1 0 (cur + 1)).avsRequest (cur + 1)
  else d

/-- A step ends when every link has answered: an upward one moves the clock when every rail was acknowledged. -/
def Dev.avsEnd (d : Dev) : Dev :=
  if !d.avsWait.isEmpty then d
  else
    let d := d.setOpSt 24 24 0
    if d.avsPoint < d.curOp ∧ !d.avsLate then d.setOpSt 1 0 d.avsPoint else d

/-- AVS_REQUEST_DONE: the read-back on a link equals the request after some µs and some frames sent again (R732). -/
def Dev.avsDone (d : Dev) (l us retries : Nat) : Dev :=
  if d.avsWait.contains l then
    let d := (d.setFld .pwr 0 0x38 47 32 us).incSat .pwr 0 0x38 31 16 retries
    Dev.avsEnd { d with avsWait := d.avsWait.erase l, rails := Tab.set d.rails l d.avsPoint }
  else d

/-- AVS_TIMEOUT: a link has not acknowledged within 200 µs; its rail is taken to stand at the higher voltage, that of the
faster point (R733). -/
def Dev.avsTimeout (d : Dev) (l : Nat) : Dev :=
  if d.avsWait.contains l then
    let d := (d.setFld .pwr 0 0x38 l l 1).raise 0x256 ⟨.edge, 2⟩ [] 0
    Dev.avsEnd { d with avsWait := d.avsWait.erase l, rails := Tab.upd d.rails l fun r => min r d.avsPoint, avsLate := true }
  else d

/-- The supply path: any step is abandoned, the clocks go to OP3 at once, and the OP3 voltage is requested (R743). -/
def Dev.supplyPath (d : Dev) : Dev :=
  if d.curOp = 3 ∧ (d.avsWait.isEmpty ∨ d.avsPoint = 3) then d
  else (d.setOpSt 1 0 3).avsRequest 3

/-! ## Supply and temperature (R741 to R750) -/

/-- A VIN sample in mV that is not below 38 V: its registers, and the beginning and end of a warning. -/
def Dev.vinTake (d : Dev) (mv : Nat) : Dev :=
  let d := d.setFld .pwr 0 0x28 15 0 mv
  let d := if mv < d.fld .pwr 0 0x28 47 32 then d.setFld .pwr 0 0x28 47 32 mv else d
  if mv < 42000 then
    let d : Dev := { d with goodRun := 0 }
    if d.warn then d
    else
      let d : Dev := { d with warn := true }
      let d := ((d.incSat .pwr 0 0x28 31 16 1).setOpSt 13 12 3).setOpSt 25 25 0
      d.supplyPath.raise 0x255 ⟨.edge, 2⟩ [] 0
  else
    let n := if 42500 < mv then d.goodRun + 1 else 0
    if d.warn ∧ 10 ≤ n then Dev.setOpSt { d with warn := false, goodRun := 0 } 25 25 1
    else { d with goodRun := min n 10 }

/-- SUPPLY_HOLD_END: 1 ms after the warning ended the supply cap is removed (R744). -/
def Dev.holdEnd (d : Dev) : Dev := if d.opSt 25 25 = 1 then (d.setOpSt 25 25 0).setOpSt 13 12 0 else d

/-- PWR_THERM_CFG.WARN_C. -/
def Dev.warnC (d : Dev) : Nat := d.fld .pwr 0 0x40 6 0

/-- The hottest die; among equals any (free value). -/
def Dev.hottest (d : Dev) : Nat :=
  (d.pick 14 ((List.range 40).filter fun i => (List.range 40).all fun j => d.dieTemp j ≤ d.dieTemp i)).getD 0

/-- The cell or edge of a die. -/
def dieUnit (i : Nat) : FUnit := if i < 32 then ⟨.cell, i / 2⟩ else ⟨.edge, i / 2 - 16⟩

/-- TEMP_SAMPLE: the temperatures of the 40 dies (R747 to R749). -/
def Dev.tempSample (d : Dev) (ts : List Nat) : Dev :=
  let old := d.temps
  let d : Dev := { d with temps := (List.range 40).map fun i => ts.getD i 0 % 256 }
  let d := (List.range 20).foldl (fun d p =>
    d.setFld .pwr 0 (0x50 + 8 * (p / 8)) (8 * (p % 8) + 7) (8 * (p % 8)) (max (d.dieTemp (2 * p)) (d.dieTemp (2 * p + 1)))) d
  let passed (t : Nat) : Bool := (List.range 40).any fun i => decide (old.getD i 0 < t) && decide (t ≤ d.dieTemp i)
  let u := dieUnit d.hottest
  let d := if passed d.warnC then d.raise 0x257 u [] 0 else d
  if passed 105 then ((d.setOpSt 9 8 3).supplyPath).raise 0x258 u [] 0 else d

/-- THERMAL_CAP_TIMER: 1 ms has passed at or above WARN_C, or 10 ms below WARN_C - 5 °C (R748). -/
def Dev.thermTimer (d : Dev) : Dev :=
  let cap := d.opSt 9 8
  if d.temps.any fun t => decide (d.warnC ≤ t) then d.setOpSt 9 8 (min 3 (cap + 1))
  else if d.temps.all fun t => decide (t + 5 < d.warnC) then d.setOpSt 9 8 (cap - 1)
  else d

/-- THERM_L_ASSERT (R750). -/
def Dev.thermAssert (d : Dev) : Dev :=
  if d.thermL ∨ d.off then { d with thermL := true }
  else
    let d : Dev := { d with thermL := true }
    ((d.setOpSt 17 16 3).supplyPath).raise 0x259 ⟨.edge, 2⟩ [] 0

/-- THERM_L_RELEASE. -/
def Dev.thermRelease (d : Dev) : Dev := { d with thermL := false }

/-- THERM_L_CAP_END: 1 ms after the release. -/
def Dev.thermCapEnd (d : Dev) : Dev := if d.thermL then d else d.setOpSt 17 16 0

/-! ## Idle cells and refusers (R757, R764, Table 7) -/

/-- True when a tile placed in T0 lies in a cell. -/
def inCell (tier frame c : Nat) : Bool := tier == 0 && frameDie frame == c

/-- True when a page's tile lies in a cell. -/
def Dev.pageIn (d : Dev) (set l p c : Nat) : Bool := (d.pte set l p).any fun v => inCell (pteTier v) (pteFrame v) c

/-- True when a migration or recode has an end in a cell. -/
def Dev.migrIn (d : Dev) (c : Nat) : Bool :=
  d.migrs.any fun m => inCell m.tier m.frame c || d.pageIn m.set m.layer m.page c

/-- True when a cell is not idle: it holds a dispatched sub-order with its tile operations, a near-bank program, a patrol run
or an end of a migration (R757). -/
def Dev.cellBusy (d : Dev) (c : Nat) : Bool :=
  Tab.anyOf d.subs (fun _ u => u.cell == c && (match u.st with
    | .running _ => true
    | _ => false)) ||
  Tab.anyOf d.nbprogs (fun _ g => g.cell == c) || Tab.has d.ptlRun c || d.migrIn c

/-- A stand that votes keep-awake (HIF_KEEP); of several any (free value). -/
def Dev.keepVote (d : Dev) : Option Nat := d.pick 16 ((List.range 32).filter fun s => bitAt (d.rd .stand s 0x2078) 0)

/-- True when work is queued for a cell, or a near-bank program of it is not written back. -/
def Dev.cellBacklog (d : Dev) (c : Nat) : Bool :=
  Tab.anyOf d.subs (fun _ u => u.cell == c) || Tab.anyOf d.nbprogs (fun _ g => g.cell == c)

/-- True when work is queued for the device. -/
def Dev.backlog (d : Dev) : Bool :=
  !d.subs.isEmpty || !d.orders.isEmpty || !d.nbprogs.isEmpty || Tab.anyOf d.rings (fun _ q => !q.isEmpty) ||
  Tab.anyOf d.wqs (fun _ q => !q.isEmpty) || Tab.anyOf d.hq (fun _ q => !q.fetched.isEmpty)

/-- The start of each entry of an operational rotation list, with its gates, and the end of the last (12 R615). -/
def Dev.rotStarts (d : Dev) (i cycle : Nat) : Nat → Nat → Nat → List (Nat × Nat × Nat)
  | 0, _, _ => []
  | n + 1, j, start =>
    let e := d.rd .sch i (0x1200 + 8 * j)
    let stop := if n = 0 then max cycle start else start + bits e 31 0
    (start, stop, bits e 39 32) :: Dev.rotStarts d i cycle n (j + 1) stop

/-- True when the operational list of an instance opens a gate of TC2 to TC7 now or within w ns (refuser GATE). -/
def Dev.gateWithin (d : Dev) (i w : Nat) : Bool :=
  let c := d.rd .sch i 0x820
  if !bitAt c 40 then false
  else
    let base := (d.rd .sch i 0x818).toNat
    let cyc := max 1 (bits c 31 0)
    let es := (d.rotStarts i cyc (max 1 (bits c 38 32)) 0 0).filter fun e => e.2.2 / 4 != 0
    let t := d.now
    let hit (p w : Nat) : Bool := es.any fun e =>
      (decide (e.1 ≤ p + w) && decide (p < e.2.1)) || decide (e.1 + cyc ≤ p + w)
    if base ≤ t then hit ((t - base) % cyc) w
    else d.fld .sch i 0x1200 39 34 != 0 || (decide (base ≤ t + w) && hit 0 (t + w - base))

/-- True when some instance opens such a gate. -/
def Dev.anyGate (d : Dev) (w : Nat) : Bool := (List.range 33).any fun i => d.gateWithin i w

/-- True when a timed-action slot is armed, for a cell with an offset inside its window. -/
def Dev.actionArmed (d : Dev) (cell : Option Nat) : Bool :=
  (List.range 32).any fun i => bitAt (d.rd .ftm 0 (0x2018 + 0x20 * i)) 0 && (match cell with
    | some c => d.fld .ftm 0 (0x2008 + 0x20 * i) 25 0 / 0x100000 == 16 + c
    | none => true)

/-- True when a yarding or restore has an end in a cell. -/
def Dev.moveIn (d : Dev) (c : Nat) : Bool :=
  d.moves.any fun m => (match d.entry m.key with
    | some v => m.todo.any fun lp => d.pageIn (dvSet v) lp.1 lp.2 c || (m.restore && d.stripeCell (keyStand m.key) lp.1 lp.2 == c)
    | none => false)

/-- The first refuser of an entry of a cell into S2: code and voting stand. -/
def Dev.cellRefuser (d : Dev) (c : Nat) : Option (Nat × Nat) :=
  match d.keepVote with
  | some s => some (1, s)
  | none =>
    if d.cellBacklog c then some (2, 0)
    else if d.anyGate 40000 then some (3, 0)
    else if d.migrIn c || d.moveIn c then some (4, 0)
    else if d.actionArmed (some c) then some (8, 0)
    else none

/-- The first refuser of an entry of the module into S3 or S4. -/
def Dev.moduleRefuser (d : Dev) (st : Nat) : Option (Nat × Nat) :=
  match d.keepVote with
  | some s => some (1, s)
  | none =>
    if d.backlog then some (2, 0)
    else if d.anyGate (if st = 3 then 5000000 else 98000000) then some (3, 0)
    else if !d.migrs.isEmpty ∨ !d.moves.isEmpty then some (4, 0)
    else if Tab.anyOf d.tracts fun _ t => !t.sends.isEmpty then some (5, 0)
    else if (List.range 20).any fun p => decide (95 < d.dieTemp (2 * p + 1)) then some (6, 0)
    else if d.cmpState = 2 ∨ d.cmpState = 3 then some (7, 0)
    else if d.actionArmed none then some (8, 0)
    else if (List.range 33).any fun s => d.bufHeld s != 0 then some (9, 0)
    else none

/-! ## Low-power states (R757 to R766) -/

/-- CELL_S1_ENTRY. -/
def Dev.s1Entry (d : Dev) (c : Nat) : Dev :=
  if bitAt (d.rd .pwr 0 0x10) 16 ∧ d.cellPower c = 0 ∧ !d.cellBusy c ∧ d.modPower = 0 then d.setCellPower c 1 else d

/-- CELL_S2_ENTRY: refused by the first refuser that applies, or begun. -/
def Dev.s2Entry (d : Dev) (c : Nat) : Dev :=
  if bitAt (d.rd .pwr 0 0x10) 32 ∧ d.cellPower c = 1 ∧ !d.cellBusy c ∧ d.modPower = 0 ∧ !Tab.has d.lpEnter c then
    match d.cellRefuser c with
    | some (code, s) => d.refuseLp code s false c 2
    | none => { d with lpEnter := Tab.set d.lpEnter c 2 }
  else d

/-- CELL_WAKE: a demand on a cell in S1 or S2, or in the course of an entry (R754, R765). -/
def Dev.cellWake (d : Dev) (c : Nat) : Dev :=
  if Tab.has d.lpEnter c then d.demand c
  else if d.cellPower c = 1 ∨ d.cellPower c = 2 then d.setCellPower c 3
  else d

/-- CELL_WAKE_DONE: LOGIC_RDY is set (R753, R759). -/
def Dev.cellWakeDone (d : Dev) (c : Nat) : Dev :=
  if d.cellPower c = 3 then (d.setCellPower c 0).domains (3 * c) 2 true else d

/-- A cell's cores unbound, its power domains off (R758): everything else in it is kept. -/
def Dev.cellSleep (d : Dev) (c : Nat) : Dev :=
  let d := (List.range 8).foldl (fun d k => d.unbind (8 * c + k)) d
  (d.setCellPower c 2).domains (3 * c) 2 false

/-- A write to PWR_STATE_CTL (R760 to R765). -/
def Dev.stateReq (d : Dev) (v : W64) : Dev :=
  let r := bits v 2 0
  if r = 0 then
    match Tab.get? d.lpEnter 16 with
    | some st => Dev.setFld (Dev.refuseLp { d with lpEnter := Tab.del d.lpEnter 16 } 10 0 true 31 st) .pwr 0 0 35 32 0
    | none => if d.modPower = 3 then d.setFld .pwr 0 0 35 32 2 else d
  else if (r = 3 ∨ r = 4) ∧ d.modPower = 0 ∧ !d.off then
    match d.moduleRefuser r with
    | some (code, s) => d.refuseLp code s false 31 r
    | none => Dev.setFld { d with lpEnter := Tab.set d.lpEnter 16 r } .pwr 0 0 35 32 1
  else d

/-- Steps 2 to 6 of the entry into S3: contexts go to service memory, cells sleep, ports drop to keep-alive, and every domain
but AON_N and AON_S is off. -/
def Dev.enterS3 (d : Dev) : Dev :=
  let d : Dev := { d with
    lpEnter := []
    conns := Tab.mapAll d.conns fun _ x => { x with res := if x.res = 0 then 1 else x.res, parked := [] } }
  let d := (List.range 16).foldl (fun d c => d.cellSleep c) d
  let d := (List.range 16).foldl (fun d p => d.portLeave p false) d
  (d.domains 0 58 false).setFld .pwr 0 0 35 32 3

/-- Entry of a cell into S2 completed, or aborted by a refuser that has arisen (R765). -/
def Dev.cellEntryDone (d : Dev) (c : Nat) : Dev :=
  match Tab.get? d.lpEnter c with
  | none => d
  | some st =>
    let d : Dev := { d with lpEnter := Tab.del d.lpEnter c }
    match d.cellRefuser c with
    | some (code, s) => (d.refuseLp code s true c st).setCellPower c 0
    | none => d.cellSleep c

/-- S3_EXIT_DONE: power is back, the directory array is rebuilt from the shadow, ports retrain, and fabric time starts at 0 in
FREE (R761, R762; 12 R589). -/
def Dev.s3ExitDone (d : Dev) : Dev :=
  if d.modPower ≠ 2 then d
  else
    let d := ((d.domains 0 60 true).setFld .pwr 0 0 35 32 0).setFld .pwr 0 0 31 0 0
    let d : Dev := { d with dir := d.shadow, fab := 0, slew := 0, slewAcc := 0, lockRun := 0 }
    let d := d.setFtm 0
    (List.range 16).foldl (fun d p => if d.portEn p then d.portTrain p else d) d

/-- WAKE_L_ASSERT and the MCTP wake command in S3 or in the course of an entry: as a write of REQ 0 (R762; 18 R833). -/
def Dev.wakeS3 (d : Dev) : Dev := d.stateReq 0

/-- Cells in a low-power state that have work after all are awake when it is done (R754; log 36). -/
def Dev.wakeCheck (d : Dev) : Dev :=
  (List.range 16).foldl (fun d c =>
    if (d.cellPower c ≠ 0 ∨ Tab.has d.lpEnter c) ∧ d.modPower = 0 ∧ d.cellBusy c then d.demand c else d) d

/-! ## Clocks (R767 to R770) -/

/-- A ready flag of CLK_STATUS by its bit. -/
def Dev.clkReady (d : Dev) (b : Nat) : Bool := bitAt (d.rd .pwr 0 0x8000) b

/-- Ready flags cleared. -/
def Dev.clkLost (d : Dev) (bs : List Nat) : Dev := bs.foldl (fun d b => d.setFld .pwr 0 0x8000 b b 0) d

/-- Flags of the clocks that XTAL0 feeds. -/
def xtal0Clocks : List Nat := [4] ++ (List.range 4).map (· + 8) ++ (List.range 16).map (· + 16)

/-- XTAL0_LOSS: XTAL0, or SYSPLL alone, is lost: the SYS domain and every ACLK run on FIO, and every port goes DOWN. -/
def Dev.xtal0Loss (d : Dev) (pll : Bool) : Dev :=
  let d := if pll then (d.clkLost [4]).raise 0x252 ⟨.edge, 2⟩ [] 0 else (d.clkLost (2 :: xtal0Clocks)).raise 0x250 ⟨.edge, 2⟩ [] 0
  let d := (0 :: (List.range 16).map (· + 3)).foldl (fun d k => d.wr .pwr 0 (0x8100 + 8 * k) 0) d
  (List.range 16).foldl (fun d p => d.portLeave p false) d

/-- XTAL1_LOSS: XTAL1, or TIMEPLL alone, is lost: the fabric-time domain runs on FIO, and fabric time holds over unless it was
FREE; with XTAL1 a MGMT domain that used it falls back too (log 36). -/
def Dev.xtal1Loss (d : Dev) (pll : Bool) : Dev :=
  let d := if pll then (d.clkLost [5]).raise 0x253 ⟨.edge, 2⟩ [] 0 else (d.clkLost [3, 5]).raise 0x251 ⟨.edge, 2⟩ [] 0
  let d := d.wr .pwr 0 0x8110 0
  let d := if !pll ∧ d.fld .pwr 0 0x8108 2 0 = 2 then d.wr .pwr 0 0x8108 0 else d
  if d.ftmState = 1 ∨ d.ftmState = 2 then d.setFtm 3 else d

/-- CLOCK_SOURCE_READY: a crystal is stable, or a PLL whose crystal is ready has locked: its flag in CLK_STATUS sets. -/
def Dev.clkNow (d : Dev) (b : Nat) : Dev :=
  let ok := b = 2 ∨ b = 3 ∨ (b = 5 ∧ d.clkReady 3) ∨ (xtal0Clocks.contains b ∧ d.clkReady 2)
  if ok ∧ !d.off then d.setFld .pwr 0 0x8000 b b 1 else d

/-- True when Table 9 allows a source for a clock domain and its ready flag is set (R768). -/
def Dev.clkAllowed (d : Dev) (k src : Nat) : Bool :=
  if src = 0 then true
  else if k = 0 then src == 3 && d.clkReady 4
  else if k = 1 then (src == 2 && d.clkReady 3) || (src == 1 && d.clkReady 1)
  else if k = 2 then src == 4 && d.clkReady 5
  else src == 4 && d.clkReady (16 + (k - 3))

/-- A write to CLK_SEL[k]. -/
def Dev.clkSelWrite (d : Dev) (k : Nat) (v : W64) : Dev :=
  if d.clkAllowed k (bits v 2 0) then d.setFld .pwr 0 (0x8100 + 8 * k) 2 0 (bits v 2 0) else d.setFld .pwr 0 0x8000 32 32 1

/-- True when a write of 0 to a bit of CLK_GATE is ignored (Table 10). -/
def Dev.gateHeld (d : Dev) (b : Nat) : Bool :=
  if b < 16 then d.portEn b
  else if b = 16 then (List.range 32).any (fun s => bitAt (d.rd .stand s 0x610) 0) || bitAt (d.rd .ftm 0 0x50) 0 ||
    bitAt (d.rd .port 0 0x9000) 15
  else if b = 19 then !d.ptlQ.isEmpty || !d.ptlRun.isEmpty
  else false

/-- A write to CLK_GATE. -/
def Dev.clkGateWrite (d : Dev) (v : W64) : Dev :=
  let old := d.rd .pwr 0 0x8008
  (List.range 20).foldl (fun d b =>
    if bitAt v b then d.setFld .pwr 0 0x8008 b b 1
    else if bitAt old b ∧ d.gateHeld b then d else d.setFld .pwr 0 0x8008 b b 0) d

/-- True when the clock of a gated block runs. -/
def Dev.gateOn (d : Dev) (b : Nat) : Bool := bitAt (d.rd .pwr 0 0x8008) b

end Sys2Proof.Machine
end

