-- ==== Sys2Proof/Machine/Dma.lean ====
section
/-!
DEFINITION. Host DMA: fetches of command entries and payloads, the end of each request by its use, and requests abandoned by
a reset (17 R808 to R819, R857, R858; 10 R503; log 38).
-/
namespace Sys2Proof.Machine

/-! ## Command fetches (R808, R811, R816, R858) -/

/-- Smallest and largest payload of an opcode, none for a reserved one (R858). -/
def cmdLimits (opc : Nat) : Option (Nat × Nat) :=
  match opc with
  | 0x01 => some (16, 16) | 0x02 => some (8, 8) | 0x03 => some (0, 0) | 0x04 => some (0, 0) | 0x05 => some (0, 0)
  | 0x06 => some (0, 0) | 0x08 => some (256, 1048576) | 0x09 => some (64, 64) | 0x10 => some (64, 64)
  | 0x11 => some (10, 10) | 0x12 => some (0, 0) | 0x13 => some (0, 0) | 0x14 => some (352, 1048576) | 0x15 => some (0, 0)
  | 0x18 => some (144, 144) | 0x19 => some (0, 96) | 0x1A => some (0, 4194304)
  | _ => none

/-- A command entry from its 64 bytes (Table 4), with its opcode. -/
def parseCmd (bs : List Byte) : Nat × CmdEntry :=
  (recNum bs 0 1,
    { rsv := BitVec.ofNat 8 (recNum bs 1 1), target := BitVec.ofNat 16 (recNum bs 2 2)
      dataLen := BitVec.ofNat 32 (recNum bs 4 4), tag := BitVec.ofNat 64 (recNum bs 8 8)
      dataAddr := BitVec.ofNat 64 (recNum bs 16 8), arg := BitVec.ofNat 64 (recNum bs 24 8)
      inline := BitVec.ofNat 256 (recNum bs 32 32), data := [] })

/-- True when a command queue may fetch: enabled, without an error, its function live, its stand not in reset, and no fetch of
it outstanding. -/
def Dev.mayFetch (d : Dev) (s : Nat) : Bool :=
  bitAt (d.rd .stand s 0x2008) 31 && !bitAt (d.rd .stand s 0x2020) 0 && d.fnLive s && !(d.std s).rst && !d.halted &&
  !d.dma.any fun r => match r.use with
    | .cmdFetch x _ => x == s
    | _ => false

/-- The entries from HEAD on, up to TAIL or the end of the queue, fetched. -/
def Dev.cmdKick (d : Dev) (s : Nat) : Dev :=
  let head := d.sfld s 0x2018 15 0
  let tail := d.sfld s 0x2010 15 0
  if !d.mayFetch s ∨ head = tail then d
  else
    let n := if head < tail then tail - head else 2 ^ d.sfld s 0x2008 4 0 - head
    d.issueDma s (.cmdFetch s n) fun i => .dmaRead s i (d.sfld s 0x2000 63 12 * 4096 + 64 * head) (64 * n)

/-- A fetched entry: its payload is fetched when its common fields pass R858, else it waits to be started as it is. A reserved
opcode completes with BAD_COMMAND at once, as no command of Table 6 stands for it. -/
def Dev.takeEntryOf (d : Dev) (s : Nat) (bs : List Byte) : Dev :=
  let (opc, e) := parseCmd bs
  match cmdLimits opc with
  | none => d.postCmd s e.tag opc 0 1 0 0
  | some (lo, hi) =>
    let n := e.dataLen.toNat
    if (e.actor s lo hi).isSome ∧ (s = 0 ∨ opc < 0x18) ∧ 32 < n then
      d.issueDma s (.payload s opc e) fun i => .dmaRead s i e.dataAddr.toNat n
    else
      let q := d.hostQ s
      d.setHostQ s { q with fetched := q.fetched ++ [(opc, e)] }

/-- Entries fetched: HEAD moves past them, and the fetch goes on. -/
def Dev.entriesDone (d : Dev) (s n : Nat) (data : List Byte) : Dev :=
  let size := 2 ^ d.sfld s 0x2008 4 0
  let d := d.setSfld s 0x2018 15 0 ((d.sfld s 0x2018 15 0 + n) % size)
  let d := (List.range n).foldl (fun d i => d.takeEntryOf s (recBytes data (64 * i) 64)) d
  d.cmdKick s

/-- A payload fetched: its command waits to be started. -/
def Dev.payloadDone (d : Dev) (s opc : Nat) (e : CmdEntry) (data : List Byte) : Dev :=
  let q := d.hostQ s
  let e' : CmdEntry := { e with data := data.take e.dataLen.toNat }
  d.setHostQ s { q with fetched := q.fetched ++ [(opc, e')] }

/-! ## Failed requests (R816, R819; 10 R503) -/

/-- A failed request counted in HIF_DMA_ERR by its kind; an abandoned one is not. -/
def Dev.dmaCount (d : Dev) (e : DmaErr) : Dev :=
  match e with
  | .ur => d.incSat .hif 0 0x10 63 48 1
  | .ca => d.incSat .hif 0 0x10 47 32 1
  | .timeout => d.incSat .hif 0 0x10 31 16 1
  | .poisoned => d.incSat .hif 0 0x10 15 0 1
  | .disabled => d

/-- DMA_ERR, attributed to the stand of the request when there is one. -/
def Dev.dmaRaise (d : Dev) (stands : List Nat) : Dev := d.raise 0x245 ⟨.edge, 0⟩ stands 0

/-- The fetch of a stand's commands stops with HIF_CMD_STAT.ERR (R816). -/
def Dev.fetchStop (d : Dev) (s : Nat) : Dev := (d.setSfld s 0x2020 0 0 1).dmaRaise [s]

/-- A landing zone LOST (10 R503; 16 R780): moves of its stand are interrupted. -/
def Dev.zoneLost (d : Dev) (s : Nat) : Dev :=
  if d.zoneActive s then
    (d.setSfld s 0x618 1 0 2).interruptStand s |>.raise 0x244 ⟨.edge, 0⟩ [s] 0
  else d

/-- Stand of a zone request. -/
def Dev.zoneStand (d : Dev) (u : DmaUse) : Option Nat :=
  match u with
  | .yard k _ _ _ => some (keyStand k)
  | .restore k _ _ => some (keyStand k)
  | .migrate id => (d.migrs.find? fun m => m.id == id).map fun m => keyStand (d.setKey m.set)
  | _ => none

/-- A yarding's write failed for good: its frames are free again, the page stays where it was, and the yarding ends with the
HIF status (04 R166); an abandoned write stops it without one (R172). -/
def Dev.yardFail (d : Dev) (key l p f : Nat) (e : DmaErr) : Dev :=
  let d := d.freeTile 3 (keyStand key) f
  let d := match d.entry key with
    | some v => d.setMig (dvSet v) l p 0
    | none => d
  if e = .disabled then d.interrupt key
  else if d.moves.any fun m => m.key == key && !m.restore then d.failYard key e.code else d

/-- The user of a request learns that it failed for good (R816, R819, R857). -/
def Dev.dmaFailed (d : Dev) (r : DmaReq) (e : DmaErr) : Dev :=
  match r.use with
  | .cmdFetch s _ => d.fetchStop s
  | .payload s opc c => (d.fetchStop s).postCmd s c.tag opc 0 e.code 0 0
  | .yard k l p f => d.yardFail k l p f e
  | .restore k _ _ => d.interrupt k
  | .migrate id => d.migrLeg id false (if e = .disabled then none else some [])
  | .telemetry => (d.dmaRaise []).telDone false
  | .ctxEvict c => (d.dmaRaise ((d.conn? c).map (·.stand)).toList).evictDone c r.id false
  | .ctxFetch c =>
    ((d.dmaRaise ((d.conn? c).map (·.stand)).toList).fetchHold c).modConn c fun x => if x.res = 3 then { x with res := 2 } else x
  | .recovery => (d.dmaRaise [0]).setFld .boot 0 0 23 16 1

/-- Sends again that a request's use allows: one for a queue or a zone, two for the read of a T3 tile (R816; 10 R487, R503). -/
def Dev.dmaTries (d : Dev) (u : DmaUse) : Nat :=
  match u with
  | .cmdFetch _ _ => 1
  | .payload _ _ _ => 1
  | .yard _ _ _ _ => 1
  | .restore _ _ _ => 1
  | .migrate id => if d.migrs.any fun m => m.id == id && m.leg == 1 then 2 else 1
  | _ => 0

/-- A failed request: sent again, or failed for good. The second failed request to a zone in a row makes it LOST. -/
def Dev.dmaFail (d : Dev) (r : DmaReq) (e : DmaErr) : Dev :=
  let d := d.dmaCount e
  match d.zoneStand r.use with
  | some s =>
    let n := if e = .disabled then Tab.getD d.zoneFails s 0 else Tab.getD d.zoneFails s 0 + 1
    let d : Dev := { d with zoneFails := Tab.set d.zoneFails s n }
    if r.tries < d.dmaTries r.use ∧ e ≠ .disabled ∧ e ≠ .poisoned ∧ n < 2 ∧ d.zoneActive s then
      { d with dma := d.dma ++ [{ r with tries := r.tries + 1 }] }
    else
      let d := d.dmaFailed r e
      if 2 ≤ n then d.zoneLost s else d
  | none =>
    if r.tries < d.dmaTries r.use ∧ e ≠ .disabled then { d with dma := d.dma ++ [{ r with tries := r.tries + 1 }] }
    else d.dmaFailed r e

/-- Outstanding requests that a condition selects abandoned (R857). -/
def Dev.dmaAbandon (d : Dev) (p : DmaReq → Bool) : Dev :=
  let rs := d.dma.filter p
  let d : Dev := { d with dma := d.dma.filter fun r => !p r }
  rs.foldl (fun d r => d.dmaFailed r .disabled) d

/-! ## What a stand's functions may do again (R814, R817) -/

/-- Pending vectors of a function sent that are not masked (R818). -/
def Dev.msixFlush (d : Dev) (fn : Nat) : Dev :=
  if !d.fnLive fn then d
  else d.msix.foldl (fun d e =>
    if e.1 / 256 = fn ∧ e.2.pend ∧ !e.2.masked then
      let x : MsixEntry := { e.2 with pend := false }
      Dev.emit { d with msix := Tab.set d.msix e.1 x } (.msix fn (e.1 % 256))
    else d) d

/-- Moves that wait, gone on with (R817; 04 R166). -/
def Dev.pumpMoves (d : Dev) : Dev :=
  d.moves.foldl (fun d m =>
    if m.dma.isSome then d
    else if m.restore then d.restoreStep m.key
    else Dev.yardStep m.key (m.todo.length + 1) d) d

/-- A function's Bus Master Enable and D3hot state: with DMA allowed again, completions, fetches and vectors that waited go on
(R817). -/
def Dev.busMaster (d : Dev) (fn : Nat) (bme d3 : Bool) : Dev :=
  let c : FnCtl := ⟨bme, d3⟩
  let d : Dev := { d with fns := Tab.set d.fns fn c }
  ((Dev.cplDrain fn (d.hostQ fn).backlog.length d).msixFlush fn).cmdKick fn

/-- MSIX_UNMASK: an entry's mask is cleared, and a pending vector is sent. -/
def Dev.msixUnmask (d : Dev) (fn vec : Nat) : Dev :=
  let x : MsixEntry := { d.msixOf fn vec with masked := false }
  Dev.msixFlush { d with msix := Tab.set d.msix (msixKey fn vec) x } fn

end Sys2Proof.Machine
end

