-- ==== Sys2Proof/Machine/Boot.lean ====
section
/-!
DEFINITION. Inventory, boot, the firmware image, the configuration block, and resets of the module, of the endpoint and of
functions (02 R48 to R61; 16 R772 to R795; log 39).
-/
namespace Sys2Proof.Machine

/-! ## Inventory (02 R48 to R61) -/

/-- The bytes of an identity record. -/
def recBytes16 (r : BitVec 128) : List Byte := natLe 16 r.toNat

/-- Type code that the position of a die requires (02 Table 6). -/
def dieType (i : Nat) : Nat :=
  if i % 2 = 1 then 0x10 else if i < 32 then 0x01 else if i = 32 then 0x02 else if i = 36 then 0x04 else 0x03

/-- The first of checks 1 to 5 of Table 7 that a record fails, 0 when it passes them. -/
def dieCheck (i : Nat) (r : Option (BitVec 128)) : Nat :=
  match r with
  | none => 1
  | some r =>
    let b := recBytes16 r
    if crc16 (b.take 14) ≠ recNum b 14 2 then 2
    else if recNum b 13 1 ≠ i % 2 * 128 + i / 2 then 3
    else if recNum b 11 1 ≠ dieType i then 4
    else if recNum b 12 1 ≠ (if i % 2 = 1 then 0x30 else 0x21) then 5
    else 0

/-- LOT, WAFER, DIE_X, DIE_Y and TYPE of a record. -/
def dieName (r : Option (BitVec 128)) : List Byte :=
  match r with
  | some r => (recBytes16 r).take 12
  | none => []

/-- The inventory causes of the 40 dies. -/
def dieCauses (rs : List (Option (BitVec 128))) : List Nat :=
  let cs := (List.range 40).map fun i => dieCheck i (rs.getD i none)
  (List.range 40).map fun i =>
    let c := cs.getD i 0
    if c = 0 ∧ (List.range 40).any (fun j => j != i && cs.getD j 0 == 0 &&
      dieName (rs.getD i none) == dieName (rs.getD j none)) then 6 else c

/-- STEP of the first die of a layer whose cause is PASS, 0 when none passes (02 Table 9). -/
def firstStep (rs : List (Option (BitVec 128))) (cs : List Nat) (layer : Nat) : Nat :=
  match (List.range 20).find? fun p => cs.getD (2 * p + layer) 0 == 0 with
  | some p => match rs.getD (2 * p + layer) none with
    | some r => recNum (recBytes16 r) 12 1
    | none => 0
  | none => 0

/-- True when the inventory halts boot: an edge pair failed, or every cell pair (02 R59). -/
def Dev.invHalts (d : Dev) : Bool :=
  ((List.range 4).any fun e => d.pairFailed (16 + e)) || (List.range 16).all fun c => d.pairFailed c

/-- VARIANT of the factory record; 0 when its MAC fails (16 R793). -/
def Dev.variant (d : Dev) : Nat :=
  match d.board.factory with
  | some (v, _) => v
  | none => 0

/-- The inventory taken: causes and identity registers. -/
def Dev.inventory (d : Dev) : Dev :=
  let rs := d.board.dieRec
  let cs := dieCauses rs
  let d : Dev := { d with invCause := cs, invTaken := true }
  let bad := bitsMask ((List.range 20).filter fun p => d.pairFailed p)
  let cells := ((List.range 16).filter fun c => !d.pairFailed c).length
  let res := if d.invHalts then 3 else if bad = 0 then 1 else 2
  let id := 0x0640 * 2 ^ 48 + firstStep rs cs 0 * 2 ^ 40 + firstStep rs cs 1 * 2 ^ 32 + d.variant % 256 * 2 ^ 24 + cells * 2 ^ 16
  let d := d.wr .glb 0 0 (BitVec.ofNat 64 id)
  let d := d.wr .glb 0 0x10 (BitVec.ofNat 64 (res * 2 ^ 40 + bad * 2 ^ 20 + (2 ^ 20 - 1 - bad)))
  (List.range 40).foldl (fun d i =>
    let r := (rs.getD i none).getD 0
    let d := (d.wr .glb 0 (0x400 + 32 * i) (r.extractLsb' 0 64)).wr .glb 0 (0x408 + 32 * i) (r.extractLsb' 64 64)
    d.wr .glb 0 (0x410 + 32 * i) (BitVec.ofNat 64 ((if d.pairFailed (i / 2) then 8 else 0) + cs.getD i 0))) d

/-! ## Firmware image (16 R784, R785) -/

/-- BOOT_STATUS.STAGE. -/
def Dev.stageOf (d : Dev) : Nat := d.fld .boot 0 0 3 0

/-- STAGE and CAUSE set. -/
def Dev.setStage (d : Dev) (st cause : Nat) : Dev := (d.setFld .boot 0 0 3 0 st).setFld .boot 0 0 23 16 cause

/-- Two sections of an image overlap. -/
def secOverlap (a n b m : Nat) : Bool := n != 0 && m != 0 && decide (a < b + m) && decide (b < a + n)

/-- True when every header field lies in Table 4 and the sections are in place. -/
def fwFormat (b : List Byte) : Bool :=
  let f (o n : Nat) : Nat := recNum b o n
  let total := f 8 4
  let name := (recBytes b 144 32).map (·.toNat)
  f 0 4 == 0x52465744 && f 4 2 == 1 && f 6 2 == 512 && decide (total ≤ 4194304) && decide (608 ≤ total) &&
  decide (total ≤ b.length) && decide (f 12 4 ≤ 64) &&
  f 16 4 % 4096 == 0 && decide (4 ≤ f 20 4) && f 24 4 % 4096 == 0 &&
  f 32 4 % 4 == 0 && decide (f 32 4 < f 20 4) && decide (f 36 1 ≤ 3) && f 37 3 == 0 &&
  name.all (fun c => decide (c < 128)) && (name.dropWhile (· != 0)).all (· == 0) &&
  (recBytes b 176 336).all (· == 0#8) &&
  decide (f 16 4 + f 20 4 ≤ total - 96) && decide (f 24 4 + f 28 4 ≤ total - 96) &&
  !secOverlap 0 512 (f 16 4) (f 20 4) && !secOverlap 0 512 (f 24 4) (f 28 4) && !secOverlap (f 16 4) (f 20 4) (f 24 4) (f 28 4)

/-- The bytes that the signature covers. -/
def fwSigned (b : List Byte) : List Byte := b.take (recNum b 8 4 - 96)

/-- The first check of Table 5 that an image fails, 0 when it passes all. -/
def Dev.fwCheck (d : Dev) (img : Option (List Byte)) : Nat :=
  match img with
  | none => 1
  | some b =>
    let slot := recNum b 36 1
    let key := recBytes b 48 96
    if !fwFormat b then 2
    else if (d.rd .boot 0 0x18).getLsbD (8 + slot) ∨ d.board.roots.getD slot [] ≠ sha384 key then 3
    else if !ecdsaVerify key (fwSigned b) (recBytes b (recNum b 8 4 - 96) 96) then 4
    else if recNum b 12 4 < d.fld .boot 0 0 55 48 then 5
    else 0

/-- What BOOT shows of the running image: SVN, slot and digest. -/
def Dev.runImage (d : Dev) (b : List Byte) : Dev :=
  let g := sha384 (fwSigned b)
  let d := (d.setFld .boot 0 0 47 40 (recNum b 12 4)).setFld .boot 0 0x18 1 0 (recNum b 36 1)
  (List.range 6).foldl (fun d i => d.wr .boot 0 (0x40 + 8 * i) (BitVec.ofNat 64 (recNum g (8 * i) 8))) d

/-- True while a firmware image runs. -/
def Dev.imageRuns (d : Dev) : Bool := d.stageOf == 2 || d.stageOf == 3 || (d.stageOf == 5 && d.fld .boot 0 0 23 16 == 0x20)

/-! ## Configuration block (16 R791, R792) -/

/-- The defaults of a device without a configuration block (log 4). -/
def CfgBlock.default : CfgBlock := ⟨0, false, 0, 32, 0, []⟩

/-- The configuration block checked and applied: the good copy with the higher SEQ; defaults when both are erased; defaults
with CFG_BAD when no copy is good and not both are erased. -/
def Dev.cfgApply (d : Dev) : Dev :=
  let use (b : CfgBlock) (isB : Bool) : Dev := { d with cfg := b, cfgIsB := isB }
  let d : Dev := match d.cfgA, d.cfgB with
    | .ok a, .ok b => if a.seq < b.seq then use b true else use a false
    | .ok a, _ => use a false
    | _, .ok b => use b true
    | .erased, .erased => use .default true
    | _, _ => Dev.setFld (use .default true) .boot 0 0 8 8 1
  let d := d.modStd 0 fun x => { x with key := if d.cfg.claimed then some d.cfg.key else none }
  let d := (d.setFld .cell 0 0x60800 6 0 d.cfg.svcRes).setFld .pwr 0 0x18 1 0 d.cfg.opTarget
  { d with svcRes := d.cfg.svcRes }

/-! ## What a reset of the module keeps (R775) -/

/-- A device with nothing in it but what power-on keeps: flash, fuses as BOOT shows them, the board, the model's own counters
and what it has sent. -/
def Dev.powerClear (d : Dev) : Dev :=
  let n : Dev := {}
  let m : Dev := { n with
    freeCtr := d.freeCtr, up := d.up, out := d.out, cfgA := d.cfgA, cfgB := d.cfgB, board := d.board, thermL := d.thermL }
  (m.setFld .boot 0 0 55 48 (d.fld .boot 0 0 55 48)).setFld .boot 0 0x18 11 8 (d.fld .boot 0 0x18 11 8)

/-- A module reset keeps the inventory and the first-fault latch too. -/
def Dev.moduleClear (d : Dev) : Dev :=
  let m := d.powerClear
  let m : Dev := { m with
    invCause := d.invCause, invTaken := d.invTaken, mgmt := { m.mgmt with i3c := d.mgmt.i3c } }
  let m := (m.wr .glb 0 0 (d.rd .glb 0 0)).wr .glb 0 0x10 (d.rd .glb 0 0x10)
  let m := (List.range 120).foldl (fun m i =>
    let o := 0x400 + 32 * (i / 3) + 8 * (i % 3)
    m.wr .glb 0 o (d.rd .glb 0 o)) m
  ((m.wr .flt 0 8 (d.rd .flt 0 8)).wr .flt 0 0x10 (d.rd .flt 0 0x10)).wr .flt 0 0x18 (d.rd .flt 0 0x18)

/-! ## Boot (R781) -/

/-- Clocks as boot leaves them (15 R767, Table 9). -/
def Dev.clocksUp (d : Dev) : Dev :=
  let d := ([0, 1, 2, 3, 5] ++ xtal0Clocks).foldl (fun (d : Dev) b => d.setFld .pwr 0 0x8000 b b 1) d
  let d := ((d.wr .pwr 0 0x8100 3).wr .pwr 0 0x8108 2).wr .pwr 0 0x8110 4
  (List.range 16).foldl (fun d c => d.wr .pwr 0 (0x8118 + 8 * c) 4) d

/-- Step 8 onwards with an image: it runs with the configuration applied, or the device enters RECOVERY. -/
def Dev.bootImage (d : Dev) (img : Option (List Byte)) : Dev :=
  let c := d.fwCheck img
  if c = 0 then ((d.runImage (img.getD [])).setStage 2 0).cfgApply else d.setStage 4 c

/-- Steps 3 to 12 of the boot of a device that has been cleared. -/
def Dev.boot (d : Dev) (power : Bool) : Dev :=
  let d : Dev := { d with slotId := d.board.straps.toNat }
  let d := (d.clocksUp.setOpSt 1 0 3)
  let d : Dev := { d with rails := [(0, 3), (1, 3), (2, 3), (3, 3)] }
  let d := if power then d.inventory else d
  if d.invHalts then Dev.setStage { d with halted := true } 5 0x10
  else d.bootImage d.board.flash

/-- POWER_ON: VIN has risen through 40 V, with the straps and identity fuses as given. -/
def Dev.powerOn (d : Dev) (straps : BitVec 6) (dies : List (Option (BitVec 128))) : Dev :=
  let d : Dev := { d with board := { d.board with straps := straps, dieRec := dies, mrst := false } }
  (d.powerClear.lastReset 1).boot true

/-- The boot out of S4, which is a power-on (15 R763). -/
def Dev.leaveS4 (d : Dev) : Dev := (d.powerClear.lastReset 1).boot true

/-- BOOT_READY: step 14, some µs after the boot began. -/
def Dev.bootReady (d : Dev) (us : Nat) : Dev :=
  if d.stageOf ≠ 2 ∨ d.warm ∨ d.off then d
  else
    let d := (d.setStage 3 0).setFld .boot 0 0xA0 31 0 us
    let d := (d.setFld .cmp 0 8 2 0 1)
    let d := if d.thermL then Dev.thermAssert { d with thermL := false } else d
    let g := d.goalOp
    let d := d.setOpSt 1 0 g
    { d with rails := [(0, g), (1, g), (2, g), (3, g)] }

/-! ## Module reset (18 R830; 13 R639) -/

/-- FAIL sent before the module goes, when it takes part in the fabric. -/
def Dev.lastWords (d : Dev) : Dev := if d.stageOf = 3 ∨ d.warm then d.sayFailed else d

/-- A module reset that boots at once. -/
def Dev.moduleReset (d : Dev) : Dev :=
  if d.off then d else (d.lastWords.moduleClear.lastReset 2).boot false

/-- MRST_L_ASSERT: the module is held in reset; in S4 it waits for the release to boot; without VIN nothing happens. -/
def Dev.mrstAssert (d : Dev) : Dev :=
  if d.off ∧ !d.inS4 then d
  else if d.off then { d with board := { d.board with mrst := true } }
  else
    let d := d.lastWords.moduleClear.lastReset 2
    { d with board := { d.board with mrst := true } }

/-- MRST_L_RELEASE: boot from step 3, or the boot out of S4. -/
def Dev.mrstRelease (d : Dev) (straps : BitVec 6) : Dev :=
  if !d.board.mrst then d
  else
    let d : Dev := { d with board := { d.board with mrst := false, straps := straps } }
    if d.off then d.leaveS4 else (d.lastReset 2).boot false

/-- VIN_SAMPLE: below 38 V the module loses everything but flash and fuses (15 R746). -/
def Dev.vinSample (d : Dev) (mv : Nat) : Dev :=
  if d.off then d
  else if mv < 38000 then
    let m := d.powerClear
    { m with off := true, board := { m.board with mrst := false } }
  else d.vinTake mv

/-- Entry of the module into S3 or S4 completed, or aborted by a refuser that has arisen (15 R763 to R765). -/
def Dev.moduleEntryDone (d : Dev) : Dev :=
  match Tab.get? d.lpEnter 16 with
  | none => d
  | some st =>
    match d.moduleRefuser st with
    | some (code, s) =>
      let d : Dev := { d with lpEnter := Tab.del d.lpEnter 16 }
      (d.refuseLp code s true 31 st).setFld .pwr 0 0 35 32 0
    | none =>
      if st = 4 then { d.enterS3.powerClear with off := true, inS4 := true } else d.enterS3

/-- LOW_POWER_ENTRY_DONE for a cell, or for the module as unit 16. -/
def Dev.lpDone (d : Dev) (u : Nat) : Dev := if u = 16 then d.moduleEntryDone else d.cellEntryDone u

/-- WAKE_L_ASSERT: S3 is left, S4 boots, an entry is aborted (15 R762, R763; 18 R833). -/
def Dev.wakeL (d : Dev) : Dev := if d.inS4 then (if d.board.mrst then d else d.leaveS4) else if d.off then d else d.wakeS3

/-! ## Resets that wait (R773) -/

/-- True while a reset runs that no PCIe reset or FLR of the PF contains. -/
def Dev.resetRuns (d : Dev) : Bool :=
  d.warm || !d.cellRst.isEmpty || d.stageOf < 3 || d.stands.any fun e => e.2.rst

/-! ## PCIe resets and function-level resets (R780; 17 R857) -/

/-- The functions' configuration at reset: no Bus Master Enable, vectors masked and not pending, virtual functions disabled. -/
def Dev.clearFns (d : Dev) : Dev :=
  let d : Dev := { d with fns := [], msix := [] }
  { d with stands := Tab.mapAll d.stands fun _ x => { x with funcEn := false } }

/-- Contexts in the host area freed, each peer told with CLOSE and REASON 0. -/
def Dev.freeHosted (d : Dev) : Dev :=
  d.conns.foldl (fun d e =>
    if e.2.res = 2 then (d.freeConn e.1).sendConn e.2.stand e.1 e.2.peer e.2.peerConn 3 0 e.2.join 0 else d) d

/-- A PCIe fundamental or hot reset. -/
def Dev.pcieReset (d : Dev) (code : Nat) : Dev :=
  let d := (d.lastReset code).clearFns
  let d := (d.clrRegs (Loc.addr ⟨.hif, 0, 0⟩) 8)
  let d := (List.range 32).foldl (fun d s => d.sesClose s) d
  let d := (List.range 32).foldl (fun d s => d.zoneLost s) d
  let d := d.dmaAbandon fun _ => true
  let d := d.freeHosted.setFld .port 0 0x9000 15 15 0
  let d : Dev := { d with mgmt := { d.mgmt with spdm := d.mgmt.spdm.filter fun e => e.1 == 32, ses := .none } }
  d.setFld .ftm 0 0x50 0 0 0

/-- A function-level reset of the PF: every stand, and every request abandoned. -/
def Dev.pfReset (d : Dev) : Dev :=
  let d := (List.range 32).foldl (fun d s => d.standReset s) d
  let d := (d.dmaAbandon fun _ => true).clearFns
  { d with mgmt := { d.mgmt with spdm := d.mgmt.spdm.filter fun e => e.1 == 32, ses := .none } }

/-- A reset of codes 6 to 8. -/
def Dev.pcieGo (d : Dev) (code : Nat) : Dev := if code = 8 then d.pfReset else d.pcieReset code

/-- A reset of codes 6 to 8 triggered: it waits for one that runs. -/
def Dev.pcieTrigger (d : Dev) (code : Nat) : Dev :=
  if d.off ∨ d.board.mrst then d
  else if d.resetRuns then { d with resetQ := d.resetQ ++ [code] }
  else d.pcieGo code

/-- The first reset that waits, once nothing runs. -/
def Dev.resetCheck (d : Dev) : Dev :=
  match d.resetQ with
  | [] => d
  | c :: r => if d.resetRuns then d else Dev.pcieGo { d with resetQ := r } c

/-- HIF_LINK of a trained link: rate, lanes and FLIT mode. -/
def Dev.linkUp (d : Dev) (rate width : Nat) (flit : Bool) : Dev :=
  d.wr .hif 0 0 (BitVec.ofNat 64 (rate % 16 * 2 ^ 9 + width % 32 * 2 ^ 4 + (if flit then 1 else 0)))

/-- PERST_L_ASSERT. -/
def Dev.perstAssert (d : Dev) : Dev :=
  Dev.pcieTrigger { d with board := { d.board with perst := true } } 6

/-- PERST_L_RELEASE: the link trains to what its partner allows (R782). -/
def Dev.perstRelease (d : Dev) (rate width : Nat) (flit : Bool) : Dev :=
  let d : Dev := { d with board := { d.board with perst := false } }
  if d.off ∨ d.board.mrst ∨ d.stageOf < 2 then d else d.linkUp rate width flit

/-- PCIE_HOT_RESET, after which the link trains again. -/
def Dev.hotReset (d : Dev) (rate width : Nat) (flit : Bool) : Dev :=
  if d.board.perst ∨ d.off ∨ d.board.mrst then d else (d.pcieTrigger 7).linkUp rate width flit

/-- VF_FLR: the stand is reset and the function's requests are abandoned. -/
def Dev.vfReset (d : Dev) (s : Nat) : Dev :=
  if s = 0 ∨ !(d.std s).funcEn then d
  else
    let d := (d.standReset s).dmaAbandon fun r => r.fn == s
    let d : Dev := { d with mgmt := { d.mgmt with spdm := Tab.del d.mgmt.spdm s } }
    { d with fns := Tab.del d.fns s, msix := d.msix.filter fun e => e.1 / 256 != s }

/-- VF_ENABLE: a disabled function has its configuration reset (log 39). -/
def Dev.vfEnable (d : Dev) (s : Nat) (en : Bool) : Dev :=
  if s = 0 then d
  else
    let d := d.modStd s fun x => { x with funcEn := en }
    if en then d else { d with fns := Tab.del d.fns s, msix := d.msix.filter fun e => e.1 / 256 != s }

/-! ## Warm reset and writes of BOOT_CTL (R777, R854, R786, R787, R790, R792) -/

/-- A warm device reset begun, while STAGE reads READY. -/
def Dev.warmReset (d : Dev) : Dev :=
  if d.stageOf ≠ 3 ∨ d.halted ∨ d.off then d
  else
    let d := (d.lastReset 3).setFld .boot 0 0 3 0 2
    let d : Dev := { d with warm := true, cellRst := [] }
    let d := (List.range 32).foldl (fun d s => d.standReset s) d
    let d := d.moves.foldl (fun d m => d.interrupt m.key) d
    d.dmaAbandon fun _ => true

/-- WARM_RESET_DONE: cells are reset, the search array is rebuilt, stand resets are complete, and STAGE reads READY. -/
def Dev.warmDone (d : Dev) : Dev :=
  if !d.warm then d
  else
    let d := (List.range 16).foldl (fun d c => d.cellClear c) d
    let d : Dev := { d with dir := d.shadow, warm := false }
    let d := (List.range 32).foldl (fun d s => d.standResetDone s) d
    d.setFld .boot 0 0 3 0 3

/-- COMMIT_SVN: the version fuses are burnt up to the running image's version, in READY. -/
def Dev.commitSvn (d : Dev) : Dev :=
  if d.stageOf = 3 then { d with doing := { d.doing with burn := some (.svn (d.fld .boot 0 0 47 40)) } } else d

/-- CFG_ERASE: both copies erased, while CFG_BAD is 1. -/
def Dev.cfgErase (d : Dev) : Dev := if d.cfgBad then { d with cfgA := .erased, cfgB := .erased } else d

/-- A write to BOOT_CTL: one with more than one bit set is ignored (R800). -/
def Dev.bootCtl (d : Dev) (v : W64) : Dev :=
  match bits v 3 0 with
  | 1 => d.warmReset
  | 2 => d.moduleReset
  | 4 => d.commitSvn
  | 8 => d.cfgErase
  | _ => d

/-- A write to BOOT_OTP_CTL (R787). -/
def Dev.otpCtl (d : Dev) (v : W64) : Dev :=
  let slot := bits v 9 8
  let others := (List.range 4).any fun i => i != slot && !(d.rd .boot 0 0x18).getLsbD (8 + i)
  if bitAt v 0 ∧ (!d.imageRuns ∨ slot ≠ d.fld .boot 0 0x18 1 0) ∧ others then { d with doing := { d.doing with burn := some (.revoke slot) } } else d

/-- RECOVERY_GO: the recovery image is read by DMA (R790). -/
def Dev.recoveryGo (d : Dev) : Dev :=
  let n := d.fld .boot 0 0x88 22 0
  if d.stageOf ≠ 4 ∨ !d.fnLive 0 ∨ 4194304 < n ∨ d.dma.any (fun r => r.use == .recovery) then d
  else d.issueDma 0 .recovery fun i => .dmaRead 0 i (d.fld .boot 0 0x80 63 12 * 4096) n

/-- The recovery image has arrived: checked and run from step 9, or a new CAUSE. -/
def Dev.recoveryData (d : Dev) (data : List Byte) : Dev :=
  if d.stageOf = 4 then d.bootImage (some (data.take (d.fld .boot 0 0x88 22 0))) else d

/-! ## Commands on the flash (17 Table 6; R788, R795) -/

/-- FW_UPDATE: the staged image is checked and replaces the one in flash. -/
def Dev.hFwUpdate (d : Dev) (s : Nat) (e : CmdEntry) : Dev :=
  d.hostCmd0 s 0x1A e 0 4194304 fun d _ =>
    let c := d.fwCheck (some e.payload)
    if c = 0 then Dev.postCmd { d with board := { d.board with flash := some e.payload } } s e.tag 0x1A 0 0 0 0
    else d.postCmd s e.tag 0x1A 0 (0x100 + c) 0 0

/-- KKEY: kernel-signing key k enrolled, replaced or removed in the configuration block. -/
def Dev.hKkey (d : Dev) (s : Nat) (e : CmdEntry) : Dev :=
  d.hostCmd0 s 0x19 e 0 96 fun d _ =>
    let k := nbits e.arg.toNat 1 0
    if e.arg.getLsbD 8 then (d.cfgStore fun b => { b with kkeys := Tab.del b.kkeys k }).postCmd s e.tag 0x19 0 0 0 0
    else if e.dataLen.toNat < 96 then d.postCmd s e.tag 0x19 0 1 0 0
    else (d.cfgStore fun b => { b with kkeys := Tab.set b.kkeys k e.payload }).postCmd s e.tag 0x19 0 0 0 0

/-! ## Ends of host DMA requests -/

/-- The user of a request goes on with its data. -/
def Dev.dmaOk (d : Dev) (r : DmaReq) (data : List Byte) : Dev :=
  match r.use with
  | .cmdFetch s n => d.entriesDone s n data
  | .payload s opc e => d.payloadDone s opc e data
  | .yard k l p f => d.yardDone k l p f
  | .restore k l p => d.restoreData k l p data
  | .migrate id => d.migrLeg id true (some data)
  | .telemetry => d.telDone true
  | .ctxEvict c => d.evictDone c r.id true
  | .ctxFetch c => d.fetchDone c
  | .recovery => d.recoveryData data

/-- DMA_REQUEST_DONE: a request of the device completes or fails (17 R816, R819). -/
def Dev.dmaDone (d : Dev) (id : Nat) (res : DmaRes) : Dev :=
  match d.dma.find? fun r => r.id == id with
  | none => d
  | some r =>
    let d : Dev := { d with dma := d.dma.filter fun q => !(q.id == id) }
    match res with
    | .fail e => d.dmaFail r e
    | .ok data =>
      let d := match d.zoneStand r.use with
        | some s => { d with zoneFails := Tab.set d.zoneFails s 0 }
        | none => d
      d.dmaOk r data

end Sys2Proof.Machine
end

