-- ==== Sys2Proof/Machine/Views.lean ====
section
/-!
DEFINITION. What each register reads as: stored words, and words computed from the state that the register shows (the register
tables of 02 to 17).
-/
namespace Sys2Proof.Machine

/-! ## Faults and fences (14 Table 7, R852) -/

/-- The level of ERR_L: asserted from power-on until the fault aggregator starts, and while R696 holds it; released without
power (14 R696; 18 Table 7). -/
def Dev.errL (d : Dev) : Bool := !d.off && (d.errAsserted || (!d.warm && (d.stageOf < 3 || d.stageOf == 4)))

/-- The level of PWRGD (18 Table 7). -/
def Dev.pwrgd (d : Dev) : Bool := !d.off

/-- FLT_SUMMARY. -/
def Dev.fltSummary (d : Dev) : W64 :=
  BitVec.ofNat 64 ((if d.errL then 2 ^ 32 else 0) +
    bitsMask ((List.range 32).filter fun w => d.fld .flt 0 (0x1000 + 8 * w) 31 0 != 0))

/-- Units of a kind in allocation: n in each cell, less those fenced themselves and those of the cells left out (R852). -/
def Dev.capUnits (d : Dev) (k : UnitKind) (n : Nat) (out : Nat → Bool) : Nat :=
  (((List.range 16).filter fun c => !out c).map fun c =>
    ((List.range n).filter fun i => !Tab.has d.fences (FUnit.key ⟨k, n * c + i⟩)).length).sum

/-- FLT_CAP. -/
def Dev.fltCap (d : Dev) : W64 :=
  let cells := ((List.range 16).filter fun c => !d.cellFenced c).length
  let t0 := ((List.range 16).filter fun c => !d.t0Out c).length
  let ports := ((List.range 16).filter fun p => !d.portFenced p).length
  BitVec.ofNat 64 (d.capUnits .nbu 64 d.cellFenced * 2 ^ 48 + d.capUnits .channel 16 d.t0Out * 2 ^ 32 +
    d.capUnits .core 8 d.cellFenced * 2 ^ 24 + d.capUnits .engine 6 d.cellFenced * 2 ^ 16 + t0 * 2 ^ 10 + cells * 2 ^ 5 + ports)

/-- FLT_FENCE_CELL. -/
def Dev.fltFenceCell (d : Dev) : W64 :=
  BitVec.ofNat 64 (bitsMask ((List.range 16).filter fun c => d.t0Out c) * 2 ^ 32 + d.fenceMask .port 0 16 * 2 ^ 16 +
    bitsMask ((List.range 16).filter fun c => d.cellFenced c))

/-- Registers of the FLT block that show fences. -/
def Dev.viewFlt (d : Dev) (off : Nat) : Option W64 :=
  if off = 0 then some d.fltSummary
  else if off = 0x30 then some d.fltCap
  else if off = 0x38 then some d.fltFenceCell
  else if 0x40 ≤ off ∧ off < 0x50 then some (BitVec.ofNat 64 (d.fenceMask .engine (64 * ((off - 0x40) / 8)) (if off < 0x48 then 64 else 32)))
  else if 0x50 ≤ off ∧ off < 0x60 then some (BitVec.ofNat 64 (d.fenceMask .core (64 * ((off - 0x50) / 8)) 64))
  else if 0x60 ≤ off ∧ off < 0x80 then some (BitVec.ofNat 64 (d.fenceMask .channel (64 * ((off - 0x60) / 8)) 64))
  else if 0x80 ≤ off ∧ off < 0x100 then some (BitVec.ofNat 64 (d.fenceMask .nbu (64 * ((off - 0x80) / 8)) 64))
  else none

/-! ## Stands (03, 06, 08, 10, 17) -/

/-- Frames that a stand's tiles hold in a tier (08 R403). -/
def Dev.storedIn (d : Dev) (s tier : Nat) : Nat :=
  (d.pages.map fun e =>
    if e.2.stand = s then (match d.pte (pkSet e.1) (pkLayer e.1) (pkPage e.1) with
      | some v => if pteTier v = tier then tileFrames (pteClen v) else 0
      | none => 0) else 0).sum

/-- A slot of a stand has dispatched sub-orders (06 STD_KRN_SLOTS.BUSY). -/
def Dev.slotBusy (d : Dev) (s slot : Nat) : Bool :=
  Tab.anyOf d.subs fun _ u => u.stand == s && (match u.st with
    | .running _ => (Tab.get? d.images u.image).any fun im => im.slot == slot
    | _ => false)

/-- STD_STATUS. The physical function is always enabled. -/
def Dev.stdStatus (d : Dev) (s : Nat) : W64 :=
  let x := d.std s
  let b (n : Nat) (c : Bool) : Nat := if c then 2 ^ n else 0
  BitVec.ofNat 64 (b 4 (x.ses == .locked) + b 3 (d.sesState s == 2) + b 2 x.key.isSome + b 1 x.rst + b 0 (x.funcEn || s == 0))

/-- A stand's registers that show other state. -/
def Dev.viewStand (d : Dev) (s off : Nat) : Option W64 :=
  let n (v : Nat) : Option W64 := some (BitVec.ofNat 64 v)
  if off = 0x1000 then some (d.sesStatus s)
  else if off = 0x1008 then n (d.std s).count.toNat
  else if 0x1040 ≤ off ∧ off < 0x1070 then
    (if d.sesState s = 1 then some ((d.std s).nonce.extractLsb' (64 * ((off - 0x1040) / 8)) 64) else n 0)
  else if off = 0 then some (d.stdStatus s)
  else if off = 0x140 then n (d.useOf s 0)
  else if off = 0x148 then n (d.useOf s 1)
  else if off = 0x150 then n (d.bufHeld s)
  else if off = 0x158 then n (Tab.count d.conns fun _ x => x.stand == s)
  else if off = 0x160 then n (d.storedIn s 0)
  else if off = 0x168 then n (d.storedIn s 1)
  else if off = 0x408 then
    some (putBits (d.rd .stand s 0x408) 23 16 (bitsMask ((List.range 8).filter fun i => d.slotBusy s i)))
  else if off = 0x620 then n (d.usedIn (d.zoneFrames s))
  else if 0x630 ≤ off ∧ off < 0x650 then n (d.placedIn s ((off - 0x630) / 8))
  else if off = 0x2068 then some (putBits (d.rd .stand s 0x2068) 16 0 (d.hostQ s).backlog.length)
  else if off = 0x2080 then n (d.wqUsed s * 2 ^ 32 + ceilDiv (d.ringUsed s) 256)
  else none

/-! ## Composition and mirroring (13 Tables 9 and 10) -/

/-- CMP_SLICE_REC of a slice. -/
def Dev.sliceRec (d : Dev) (k : Nat) : W64 :=
  match d.slice? k with
  | none => 0
  | some s => BitVec.ofNat 64 (s.epoch % 2 ^ 32 * 2 ^ 32 + s.owner % 65536 * 2 ^ 16 + (if s.offer.isSome then 2 else 1))

/-- The map entry whose node has the low ten bits that CMP_MAP_SEL names. -/
def Dev.mapView (d : Dev) (j : Nat) : W64 :=
  match d.rowNodes.find? fun e => e.1 % 1024 == d.fld .cmp 0 0x800 9 0 with
  | some e => BitVec.ofNat 64 (recNum e.2 (8 * j) 8)
  | none => 0

/-- MIR_STAT.LAG_NS: how long ago the interval of the oldest unacknowledged FLUSH ended. -/
def Dev.mirLag (d : Dev) : Nat :=
  d.tracts.foldl (fun m e => e.2.sends.foldl (fun m x =>
    if x.flush ∧ !x.acked then max m (d.now - (x.interval + 1) * d.mirLen) else m) m) 0

/-- Tracts of which a condition holds that are registered. -/
def Dev.tractCount (d : Dev) (p : Tract → Bool) : Nat := Tab.count d.tracts fun _ t => t.inUse && p t

/-- Registers of CMP and MIR that show other state. -/
def Dev.viewCmp (d : Dev) (off : Nat) : Option W64 :=
  if off = 0 then some (putBits (d.rd .cmp 0 0) 5 0 d.slotId)
  else if off = 8 then some (putBits (d.rd .cmp 0 8) 31 16 (d.lookoutOf d.node))
  else if 0x100 ≤ off ∧ off < 0x300 ∧ off % 32 = 16 then some (d.sliceRec ((off - 0x100) / 32))
  else if 0x808 ≤ off ∧ off < 0x848 then some (d.mapView ((off - 0x808) / 8))
  else if off = 0x8008 then some (putBits (d.rd .cmp 0 0x8008) 63 32 (satAt 32 d.mirLag))
  else if off = 0x8010 then
    some (BitVec.ofNat 64 (d.tractCount (fun t => t.kind == 7) * 2 ^ 32 + d.tractCount fun t => t.kind != 7 && t.mode != 0))
  else none

/-! ## Connections, tracts, pool (11 Table 16) -/

/-- CON_VIEW0 to CON_VIEW3 of the connection selected. -/
def Dev.conView (d : Dev) (j : Nat) : W64 :=
  match d.conn? (d.fld .port 0 0x9100 15 0) with
  | none => 0
  | some x => BitVec.ofNat 64 (match j with
    | 0 => x.st * 2 ^ 61 + x.res * 2 ^ 59 + (if d.inSled x then 2 ^ 58 else 0) + x.stand * 2 ^ 53 + x.peerConn % 65536 * 2 ^ 32 +
        x.peer % 65536 * 2 ^ 16
    | 1 => satAt 32 (d.window x) * 2 ^ 32 + satAt 32 x.inflight
    | 2 => satAt 32 x.srtt * 2 ^ 32 + satAt 32 x.viol
    | _ => x.join.toNat * 2 ^ 32 + x.epoch.toNat)

/-- TRC_VIEW of the tract selected; a lent window, which is no kind of Table 11, shows KIND 0 (log 28). -/
def Dev.trcView (d : Dev) : W64 :=
  match d.tract? (d.fld .port 0 0xA100 15 0) with
  | none => 0
  | some t =>
    let st := match t.st with
      | .active => 1
      | .revoking => 2
      | .hold => 3
      | _ => 0
    BitVec.ofNat 64 (st * 2 ^ 62 + (if t.kind = 8 then 0 else t.kind % 16) * 2 ^ 58 + t.stand * 2 ^ 53 + t.rights % 32 * 2 ^ 48 +
      t.gen % 256 * 2 ^ 40 + satAt 32 t.inflight)

/-- Device-wide registers of the port windows that show other state. -/
def Dev.viewPort (d : Dev) (off : Nat) : Option W64 :=
  if off = 0x8010 then some (putBits (d.rd .port 0 0x8010) 48 32 (65536 - ((List.range 33).map fun s => d.bufHeld s).sum))
  else if off = 0x9028 then
    some (BitVec.ofNat 64 (Tab.count d.conns (fun _ x => x.res == 0) * 2 ^ 32 + Tab.count d.conns (fun _ x => x.res == 2) * 2 ^ 16 +
      (d.conns.map fun e => e.2.parked.length).sum))
  else if 0x9108 ≤ off ∧ off < 0x9128 then some (d.conView ((off - 0x9108) / 8))
  else if off = 0xA000 then some (BitVec.ofNat 64 (d.tractCount fun t => t.st == .active || t.st == .revoking))
  else if off = 0xA108 then some d.trcView
  else none

/-! ## Schedulers (12 Table 9) -/

/-- Tokens of a privileged bucket in whole units, as a signed word. -/
def Dev.privTokens (d : Dev) (i k : Nat) : W64 :=
  let c := d.privCfg i k
  BitVec.ofInt 64 (tokensAt c.1 c.2.1 (d.privTat i k) d.now32 / (vUnit * 1000 : Nat))

/-- Registers of a scheduler instance that show other state. -/
def Dev.viewSch (d : Dev) (i off : Nat) : Option W64 :=
  if off = 0 then
    some (BitVec.ofNat 64 (if i = 0 then 0 else if i < 17 then 256 + (i - 1) else 512 + (i - 17)))
  else if off = 0x18 then some (BitVec.ofNat 64 ((d.sched i).v / vUnit))
  else if off = 0x20 then
    let held := (d.sched i).uq.filter fun e => match e.2.wheel with
      | some t => decide (d.now + 1024000 < t)
      | none => false
    some (BitVec.ofNat 64 (held.length * 2 ^ 32 + d.now / 250 % 4096))
  else if 0x100 ≤ off ∧ off < 0x500 ∧ off % 32 = 0 ∧ i < 17 then
    some (putBits (d.rd .sch i off) 47 32 (d.schWeight i ((off - 0x100) / 32)))
  else if 0x600 ≤ off ∧ off < 0x680 ∧ off % 16 = 8 then some (d.privTokens i ((off - 0x600) / 16))
  else if off = 8 ∧ 17 ≤ i then some (putBits (d.rd .sch i 8) 63 32 0)
  else none

/-! ## Cells (08, 09, 10, 14) -/

/-- Frames of a cell that guests hold (10 R479). -/
def Dev.guestFrames (d : Dev) (c : Nat) : Nat :=
  (d.pages.map fun e => match d.pte (pkSet e.1) (pkLayer e.1) (pkPage e.1) with
    | some v => if e.2.charge = some 1 ∧ inCell (pteTier v) (pteFrame v) c then tileFrames (pteClen v) else 0
    | none => 0).sum

/-- NBU_STATUS of a unit. -/
def Dev.nbuStatus (d : Dev) (c u : Nat) : W64 :=
  let gs := d.nbprogs.filter fun e => e.2.running && !e.2.ended && e.2.cell == c &&
    (d.nbUnits e.2 (e.2.rowFirst + e.2.row) (e.2.rowFirst + e.2.rowCnt)).contains u
  BitVec.ofNat 64 ((gs.foldl (fun m e => max m e.2.post) 0) % 16 * 256 + (if Tab.has d.fences (FUnit.key ⟨.nbu, 64 * c + u⟩) then 4 else 0) +
    (if gs.any fun e => e.2.paused then 2 else 0) + (if gs.any fun e => !e.2.paused then 1 else 0))

/-- Registers of a cell that show other state. -/
def Dev.viewCell (d : Dev) (c off : Nat) : Option W64 :=
  if 0x40100 ≤ off ∧ off < 0x40180 then
    let s := d.slot ((off - 0x40100) / 8)
    some (BitVec.ofNat 64 (s.mode * 2 ^ 32 + satAt 32 s.count))
  else if 0x50000 ≤ off ∧ off < 0x60000 ∧ off % 0x400 = 0 then some (d.nbuStatus c ((off - 0x50000) / 0x400))
  else if off = 0x60010 then some (BitVec.ofNat 64 (d.dieFree c * 2 ^ 32 + d.guestFrames c))
  else if off = 0x60808 then some (BitVec.ofNat 64 d.t1Cap)
  else if off = 0x60820 then some (putBits (d.rd .cell 0 0x60820) 63 32 (Tab.count d.pages fun _ i => i.overflow))
  else if off = 0x80008 then some (putBits (d.rd .cell c 0x80008) 16 16 (if d.ptlBusy c then 1 else 0))
  else none

/-! ## Every register -/

/-- Registers that show other state than their stored word. -/
def Dev.view (d : Dev) (l : Loc) : Option W64 :=
  match l.blk with
  | .glb => if (l.off = 0 ∨ l.off = 0x10 ∨ 0x400 ≤ l.off) ∧ !d.invTaken then some 0 else none
  | .flt => d.viewFlt l.off
  | .pwr => if l.off = 0x68 then some (BitVec.ofNat 64 (bitsMask ((List.range 32).filter fun s => bitAt (d.rd .stand s 0x2078) 0))) else none
  | .ftm => if l.off = 0 then some (BitVec.ofNat 64 d.now) else none
  | .cmp => d.viewCmp l.off
  | .dir =>
    if l.off = 0 then some (BitVec.ofNat 64 ((if d.dirOps.isEmpty then 0 else 2 ^ 19) + d.dir.length))
    else if 0x100 ≤ l.off ∧ l.off < 0x200 then some (BitVec.ofNat 64 (d.dirCount ((l.off - 0x100) / 8)))
    else none
  | .stand => d.viewStand l.inst l.off
  | .port => d.viewPort l.off
  | .sch => d.viewSch l.inst l.off
  | .cell => d.viewCell l.inst l.off
  | _ => none

/-- True for a field that reads as stored or shown: every one but WO. -/
def RegRow.readMask (r : RegRow) : Nat :=
  r.fields.foldl (fun m f => if f.acc = .wo then m else m ||| (2 ^ (f.hi + 1 - f.lo) - 1) * 2 ^ f.lo) 0

/-- The word that a register reads as: reserved offsets and WO fields read zero (00 R10). -/
def Dev.readReg (d : Dev) (l : Loc) : W64 :=
  match findRow l.blk l.off with
  | none => 0
  | some r => match d.view l with
    | some v => v
    | none => if r.fields.isEmpty then d.rd l.blk l.inst l.off else d.rd l.blk l.inst l.off &&& BitVec.ofNat 64 r.readMask

end Sys2Proof.Machine
end

