-- ==== Sys2Proof/Machine/Bus.lean ====
section
/-!
DEFINITION. Register accesses of the host and of kernels: which registers an offset reaches, which accesses read as zero
(03 Table 8), and what a written value does (00 R6 to R15; 03 R58, R66 to R68, R101 to R108; 17 R803 to R807, R820, R821).
-/
namespace Sys2Proof.Machine

/-! ## The register map (17 Tables 8 to 10; 03 Tables 2, 9, 10) -/

/-- What an offset of a function's BAR0 reaches. -/
inductive BusTarget where
  /-- One register place. -/
  | one (l : Loc)
  /-- A place in the window of a set of cells: a channel or near-bank broadcast of one cell, or an alias of several. -/
  | spread (uni : Option Nat) (cells : List Nat) (off : Nat)
  | none
  deriving DecidableEq, Repr

/-- Offset in the PF map of an offset that a function decodes: a virtual function decodes bits [15:0] (03 R66, R67). -/
def pfOff (fn off : Nat) : Nat := if fn = 0 then off else 0x100000 + fn * 0x10000 + off % 65536

/-- Offset that a function writes to reach a stand's own window. -/
def winOff (fn s roff : Nat) : Nat := if fn = 0 then 0x100000 + s * 0x10000 + roff else roff

/-- A place in a cell window: the device-wide registers of the TIE block are kept once (10 R506). -/
def cellLoc (c off : Nat) : Loc := if 0x60800 ≤ off ∧ off < 0x61000 then ⟨.cell, 0, off⟩ else ⟨.cell, c, off⟩

/-- True for the offsets of the broadcast windows inside a cell (03 Table 10). -/
def isSpread (off : Nat) : Bool := (0x90000 ≤ off && off < 0x90400) || (0x91000 ≤ off && off < 0x92000)

/-- Places in a cell that an offset of a cell window or alias reaches (03 Table 10, R105). -/
def cellPlaces (off : Nat) : List Nat :=
  if 0x90000 ≤ off ∧ off < 0x90400 then (List.range 64).map fun u => 0x50000 + 0x400 * u + (off - 0x90000)
  else if 0x91000 ≤ off ∧ off < 0x92000 then (List.range 16).map fun ch => 0x70000 + 0x1000 * ch + (off - 0x91000)
  else [off]

/-- The target of an offset of the PF map, taken down to its register. -/
def Dev.target (d : Dev) (off : Nat) : BusTarget :=
  let a := off / 8 * 8
  if a < 0x80000 then
    match ([.glb, .boot, .flt, .pwr, .ftm, .cmp, .dir, .hif] : List Blk)[a / 65536]? with
    | some b => .one ⟨b, 0, a % 65536⟩
    | none => .none
  else if a < 0x100000 then .none
  else if a < 0x300000 then .one ⟨.stand, (a - 0x100000) / 65536, a % 65536⟩
  else if a < 0x400000 then .none
  else if a < 0x500000 then
    .one (if 0x8000 ≤ a % 65536 then ⟨.port, 0, a % 65536⟩ else ⟨.port, (a - 0x400000) / 65536, a % 65536⟩)
  else if a < 0x800000 then .none
  else if a < 0xA10000 then .one ⟨.sch, (a - 0x800000) / 65536, a % 65536⟩
  else if a < 0x1000000 then .none
  else if a < 0x2000000 then
    let c := (a - 0x1000000) / 0x100000
    let o := a % 0x100000
    if isSpread o then .spread (some c) [c] o else .one (cellLoc c o)
  else if a < 0x2100000 then .spread none (List.range 16) (a % 0x100000)
  else if a < 0x2500000 then
    let mask := d.rd .glb 0 (0x100 + 8 * ((a - 0x2100000) / 0x100000))
    .spread none ((List.range 16).filter fun c => bitAt mask c) (a % 0x100000)
  else .none

/-- The cell through whose unicast window an offset goes. -/
def uniCell (off : Nat) : Option Nat :=
  if 0x1000000 ≤ off ∧ off < 0x2000000 then some ((off - 0x1000000) / 0x100000) else none

/-! ## Who reaches what (03 R68, R99, R102 to R104; 16 R783, R789, R792) -/

/-- How an access is answered. -/
inductive Verdict where
  | ok
  /-- Reads as zero, write ignored, not counted. -/
  | zero
  /-- The same, counted under a kind of 03 Table 8. -/
  | viol (kind : Nat)
  deriving DecidableEq, Repr

/-- True when the map offset lies in the SES page of a stand's own window. -/
def ownSes (s off : Nat) : Bool := 0x100000 + s * 0x10000 + 0x1000 ≤ off && off < 0x100000 + s * 0x10000 + 0x2000

/-- True for the GLB page and the BOOT and ATT page. -/
def bootPage (off : Nat) : Bool := off < 0x20000

/-- True when stand s does not own a place of the map: another's window, the provisioning page through a virtual function, and
for stand 0 the session and queue pages of another stand and writes to its fault page (03 Table 2). -/
def notOwner (s off : Nat) (write : Bool) : Bool :=
  if 0x100000 ≤ off ∧ off < 0x300000 then
    let w := (off - 0x100000) / 65536
    let o := off % 65536
    if s = 0 then w != 0 && ((0x1000 ≤ o && o < 0x4000) || (write && 0x4000 ≤ o && o < 0x5000))
    else w != s || o < 0x1000
  else s != 0

/-- True when a place lies in a block that is clock-gated or powered off and is not waked on demand, or in the window of a
fenced cell (03 Table 8; 15 R755, R762, Table 10). -/
def Dev.gatedOff (d : Dev) (s off : Nat) : Bool :=
  ((d.modPower == 2 || d.modPower == 3) && !(off < 0x50000 || ownSes s off)) ||
  (0x400000 ≤ off && off < 0x500000 && off % 65536 < 0x8000 && !d.gateOn ((off - 0x400000) / 65536)) ||
  (match uniCell off with
    | some c => d.cellFenced c || (0x80000 ≤ off % 0x100000 && off % 0x100000 < 0x90000 && !d.gateOn 19)
    | none => false)

/-- True when a register row has an RWL field among the bits that an access carries. -/
def RegRow.lockedIn (r : RegRow) (lane : Nat × Nat) : Bool :=
  r.fields.any fun f => f.acc == .rwl && f.lo < lane.1 + lane.2 && lane.1 ≤ f.hi

/-- The verdict on what an access reaches once its stand may make it: kinds 4 to 6 of Table 8 and reserved offsets. -/
def Dev.reachVerdict (d : Dev) (s off size : Nat) (write : Bool) : Verdict :=
  let badSize : Bool := !((size = 4 ∨ size = 8) ∧ off % size = 0)
  match d.target off with
  | .none => .zero
  | .spread _ _ _ => if !write then .viol 4 else if badSize then .viol 5 else .ok
  | .one l => match findRow l.blk l.off with
    | none => .zero
    | some r =>
      if badSize then .viol 5
      else if write && r.lockedIn (laneOf off size) && (d.lock || s != 0) then .viol 6
      else .ok

/-- The verdict on an access of stand s at an offset of the PF map (03 Table 8, in its order); open_ tells whether it is made in
an open session. -/
def Dev.verdict (d : Dev) (s : Nat) (open_ : Bool) (off size : Nat) (write : Bool) : Verdict :=
  if !open_ && !ownSes s off then .viol 1
  else if notOwner s off write then .viol 2
  else if d.gatedOff s off then .viol 3
  else d.reachVerdict s off size write

/-- The verdict on a host access: before READY, in recovery, halted, and with a configuration block whose copies fail, only
stand 0 reaches the pages that need no session (16 R783, R789, R792); a function that is disabled or in D3hot, and a host
whose link is down, make no access. -/
def Dev.hostVerdict (d : Dev) (fn off size : Nat) (write : Bool) : Verdict :=
  let a := pfOff fn off
  let free : Verdict := if fn = 0 ∧ bootPage a then d.reachVerdict 0 a size write else .zero
  if d.off ∨ d.board.mrst ∨ d.board.perst ∨ (d.fnCtl fn).d3 then .zero
  else if d.stageOf < 2 ∨ (d.stageOf = 2 ∧ !d.warm) then .zero
  else if d.stageOf = 4 ∨ d.stageOf = 5 then
    if d.stageOf = 5 ∧ d.halted ∧ d.fld .boot 0 0 23 16 = 0x20 ∧ fn = 0 ∧ 0x20000 ≤ a ∧ a < 0x30000 then d.reachVerdict 0 a size write
    else free
  else if fn ≠ 0 ∧ !(d.std fn).funcEn then .zero
  else if fn = 0 ∧ d.cfgBad then free
  else d.verdict fn (d.sesOpen fn) a size write

/-! ## The effect of a written register -/

/-- A register written by its access codes alone. -/
def Dev.store (d : Dev) (s : Nat) (l : Loc) (r : RegRow) (lane : Nat × Nat) (v : W64) : Dev :=
  d.wr l.blk l.inst l.off (r.write (!d.lock && s == 0) lane v (d.rd l.blk l.inst l.off))

/-- The bits that an access carries, as a mask. -/
def laneMask (lane : Nat × Nat) : W64 := BitVec.ofNat 64 ((2 ^ lane.2 - 1) * 2 ^ lane.1)

/-- A 64-bit word with the carried bits of v. -/
def laneMerge (lane : Nat × Nat) (old v : W64) : W64 := (old &&& ~~~ laneMask lane) ||| (v &&& laneMask lane)

/-- Word i of a 384-bit value. -/
def word384 (x : BitVec 384) (i : Nat) : W64 := (x >>> (64 * i)).setWidth 64

/-- Word i of a 384-bit value replaced. -/
def put384 (x : BitVec 384) (i : Nat) (w : W64) : BitVec 384 :=
  BitVec.ofNat 384 (x.toNat - (word384 x i).toNat * 2 ^ (64 * i) + w.toNat * 2 ^ (64 * i))

/-- True when the cause of a fault source is still present (00 R9): supply warning, temperatures, THERM_L, and clocks that are
not ready. -/
def Dev.causeHeld (d : Dev) (id : Nat) : Bool :=
  let clk (b : Nat) : Bool := !bitAt (d.rd .pwr 0 0x8000) b
  if id = 0x255 then d.warn
  else if id = 0x257 then d.temps.any fun t => d.warnC ≤ t
  else if id = 0x258 then d.temps.any fun t => 105 ≤ t
  else if id = 0x259 then d.thermL
  else if 0x250 ≤ id ∧ id < 0x254 then clk (id - 0x250 + 2)
  else if id < 512 ∧ id % 32 = 19 then clk (16 + id / 32)
  else if 0x200 ≤ id ∧ id < 0x220 ∧ id % 8 = 3 then clk (8 + (id - 0x200) / 8)
  else false

/-- FLT_STATUS[w] written: bits whose cause is still present set again (00 R9). -/
def Dev.statusClear (d : Dev) (w : Nat) (v : W64) : Dev :=
  let old := d.rd .flt 0 (0x1000 + 8 * w)
  let keep := bitsMask ((List.range 32).filter fun b => bitAt v b && bitAt old b && d.causeHeld (32 * w + b))
  d.wr .flt 0 (0x1000 + 8 * w) ((old &&& ~~~ (v &&& 0xFFFFFFFF#64)) ||| BitVec.ofNat 64 keep)

/-- A reserved fault source keeps its reaction and count at zero (14 R692). -/
def srcDefined (id : Nat) : Bool := (srcReact id).isSome

/-- Writes to the BOOT block. -/
def Dev.writeBoot (d : Dev) (s : Nat) (l : Loc) (r : RegRow) (lane : Nat × Nat) (v : W64) : Dev :=
  if l.off = 0x8 then d.bootCtl v
  else if l.off = 0x10 then d.otpCtl v
  else if l.off = 0x90 then (if bitAt v 0 then d.recoveryGo else d)
  else d.store s l r lane v

/-- Writes to the FLT block. -/
def Dev.writeFlt (d : Dev) (s : Nat) (l : Loc) (r : RegRow) (lane : Nat × Nat) (v : W64) : Dev :=
  if l.off = 0x20 then (if bitAt v 0 then d.firstClear else d)
  else if l.off = 0x110 then d.fenceSet v
  else if l.off = 0x118 then d.unfence v
  else if 0x1000 ≤ l.off ∧ l.off < 0x1100 then d.statusClear ((l.off - 0x1000) / 8) v
  else if 0x1100 ≤ l.off ∧ l.off < 0x1200 then
    let d := d.store s l r lane v
    d.wr .flt 0 l.off (d.rd .flt 0 l.off &&& BitVec.ofNat 64 (enableReset ((l.off - 0x1100) / 8)))
  else if 0x1200 ≤ l.off ∧ l.off < 0x1300 then d.force ((l.off - 0x1200) / 8) v
  else if 0x2000 ≤ l.off ∧ !srcDefined ((l.off - 0x2000) / 8) then d
  else d.store s l r lane v

/-- Writes to the PWR and CLK block. -/
def Dev.writePwr (d : Dev) (s : Nat) (l : Loc) (r : RegRow) (lane : Nat × Nat) (v : W64) : Dev :=
  let low : Bool := lane.1 = 0
  if l.off = 0x8 then (if low then d.stateReq v else d)
  else if l.off = 0x8008 then (if low then d.clkGateWrite v else d)
  else if 0x8100 ≤ l.off then (if low then d.clkSelWrite ((l.off - 0x8100) / 8) v else d)
  else d.store s l r lane v

/-- Writes to the FTM block: telemetry's area while EN is 1 and an armed slot's registers are held (12 R599, Table 9). -/
def Dev.writeFtm (d : Dev) (s : Nat) (l : Loc) (r : RegRow) (lane : Nat × Nat) (v : W64) : Dev :=
  if l.off = 0x28 then d.ftmSet v
  else if (l.off = 0x40 ∨ l.off = 0x48) ∧ bitAt (d.rd .ftm 0 0x50) 0 then d
  else if 0x2000 ≤ l.off then
    let ctl := 0x2018 + (l.off - 0x2000) / 32 * 32
    if !bitAt (d.rd .ftm 0 ctl) 0 then d.store s l r lane v
    else if l.off ≠ ctl then d
    else
      let period := d.fld .ftm 0 ctl 63 32
      (d.store s l r lane v).setFld .ftm 0 ctl 63 32 period
  else d.store s l r lane v

/-- A field raised to a least value when a write left it below. -/
def Dev.atLeast (d : Dev) (b : Blk) (off hi lo n : Nat) : Dev :=
  if d.fld b 0 off hi lo < n then d.setFld b 0 off hi lo n else d

/-- Writes to the CMP and MIR block (13 Tables 9 and 10, R628). -/
def Dev.writeCmp (d : Dev) (s : Nat) (l : Loc) (r : RegRow) (lane : Nat × Nat) (v : W64) : Dev :=
  let high : Bool := 32 < lane.1 + lane.2
  if l.off = 0 then (if (List.range 15).any d.portEn then d else d.store s l r lane v)
  else if l.off = 0x10 then
    let d := d.store s l r lane v
    if high then d.atLeast .cmp 0x10 47 32 (4 * d.fld .cmp 0 0x10 31 16) else d
  else if l.off = 0x18 then (if bitAt v 0 then d.cmpAdvance else d)
  else if 0x100 ≤ l.off ∧ l.off < 0x300 ∧ l.off % 32 = 24 then
    (if lane.1 = 0 then d.sliceCtl ((l.off - 0x100) / 32) (bits v 2 0) (bits v 31 16) else d)
  else if l.off = 0x410 then
    match bits v 1 0 with
    | 1 => d.offerCtl true
    | 2 => d.offerCtl false
    | _ => d
  else if l.off = 0x8000 then
    let d := d.store s l r lane v
    if high then d.atLeast .cmp 0x8000 47 32 (d.fld .cmp 0 0x8000 31 16) else d
  else d.store s l r lane v

/-- A queue's EN and LOG2_ENTRIES written: LOG2 is held while EN is 1; a change of EN from 0 to 1 restarts the queue, and one
that finds EN 1 clears the command queue's error (17 R816, R821). -/
def Dev.writeQueueCfg (d : Dev) (s : Nat) (l : Loc) (r : RegRow) (lane : Nat × Nat) (v : W64) : Dev :=
  let w := l.inst
  let on := bitAt (d.rd .stand w l.off) 31
  let old := d.rd .stand w l.off
  let d := d.store s l r lane v
  let d := if on then d.setSfld w l.off 4 0 (bits old 4 0) else d
  let sets : Bool := bitAt v 31
  let d := if sets ∧ !on then
      if l.off = 0x2008 then (d.setSfld w 0x2010 15 0 0).setSfld w 0x2018 15 0 0
      else ((d.setSfld w 0x2050 15 0 0).setSfld w 0x2058 15 0 0).setSfld w 0x2058 16 16 1
    else d
  if !sets then d
  else if l.off = 0x2008 then (d.setSfld w 0x2020 0 0 0).cmdKick w
  else Dev.cplDrain w (d.hostQ w).backlog.length d

/-- A doorbell: an index not below the queue's size is ignored. -/
def Dev.writeDoorbell (d : Dev) (s : Nat) (l : Loc) (r : RegRow) (lane : Nat × Nat) (v : W64) : Dev :=
  let cfg := if l.off = 0x2010 then 0x2008 else 0x2048
  let e := d.store s l r lane v
  if lane.1 ≠ 0 ∨ 2 ^ d.sfld l.inst cfg 4 0 ≤ e.sfld l.inst l.off 15 0 then d
  else if l.off = 0x2010 then e.cmdKick l.inst
  else Dev.cplDrain l.inst (e.hostQ l.inst).backlog.length e

/-- An aperture window's registers: held while its EN is 1, but for EN (17 R821). -/
def Dev.writeWindow (d : Dev) (s : Nat) (l : Loc) (r : RegRow) (lane : Nat × Nat) (v : W64) : Dev :=
  let tgt := 0x3010 + (l.off - 0x3000) / 32 * 32
  if !bitAt (d.rd .stand l.inst tgt) 61 then d.store s l r lane v
  else if l.off = tgt ∧ 32 < lane.1 + lane.2 then d.setSfld l.inst tgt 61 61 (bits v 61 61)
  else d

/-- The landing zone's registers (10 R498, R499, R504, Table 3). -/
def Dev.writeZone (d : Dev) (s : Nat) (l : Loc) (r : RegRow) (lane : Nat × Nat) (v : W64) : Dev :=
  let w := l.inst
  let on := bitAt (d.rd .stand w 0x610) 0
  let refused (d : Dev) (b : Bool) : Dev := d.setSfld w 0x618 8 8 (if b then 1 else 0)
  if l.off ≠ 0x610 then if on then refused d true else refused (d.store s l r lane v) false
  else if lane.1 ≠ 0 then d
  else if bitAt v 0 then
    if on then refused d false
    else
      let d := (refused d false).setSfld w 0x610 0 0 1
      { d.setSfld w 0x618 1 0 1 with zoneFails := Tab.del d.zoneFails w }
  else if on ∧ d.usedIn (d.zoneFrames w) ≠ 0 then refused d true
  else ((refused d false).setSfld w 0x610 0 0 0).setSfld w 0x618 1 0 0

/-- STD_KRN_CFG: STAGE_KIB stores at most what keeps the sum over all stands at 32,768 (06 R303). -/
def Dev.writeKrn (d : Dev) (s : Nat) (l : Loc) (r : RegRow) (lane : Nat × Nat) (v : W64) : Dev :=
  let others := ((List.range 32).map fun w => if w = l.inst then 0 else d.sfld w 0x400 15 0).sum
  let d := d.store s l r lane v
  if lane.1 = 0 ∧ 32768 < others + d.sfld l.inst 0x400 15 0 then d.setSfld l.inst 0x400 15 0 (32768 - others) else d

/-- Writes to a stand's window. -/
def Dev.writeStand (d : Dev) (s : Nat) (l : Loc) (r : RegRow) (lane : Nat × Nat) (v : W64) : Dev :=
  let w := l.inst
  let o := l.off
  if o = 0x8 then (if bitAt v 0 then d.standReset w else d)
  else if 0x40 ≤ o ∧ o < 0x70 then
    let i := (o - 0x40) / 8
    d.modStd w fun x => { x with staged := put384 x.staged i (laneMerge lane (word384 x.staged i) v) }
  else if o = 0x70 then d.keyCtl w v
  else if o = 0x128 then (if bitAt v 0 then d.quotaCommit w else d)
  else if o = 0x400 then d.writeKrn s l r lane v
  else if 0x600 ≤ o ∧ o < 0x618 then d.writeZone s l r lane v
  else if o = 0x1010 then d.sesCtl w v
  else if 0x1080 ≤ o ∧ o < 0x10B0 then
    let i := (o - 0x1080) / 8
    d.modStd w fun x => { x with proof := put384 x.proof i (laneMerge lane (word384 x.proof i) v) }
  else if o = 0x2000 then (if bitAt (d.rd .stand w 0x2008) 31 then d else d.store s l r lane v)
  else if o = 0x2040 then (if bitAt (d.rd .stand w 0x2048) 31 then d else d.store s l r lane v)
  else if o = 0x2008 ∨ o = 0x2048 then d.writeQueueCfg s l r lane v
  else if o = 0x2010 ∨ o = 0x2050 then d.writeDoorbell s l r lane v
  else if 0x3000 ≤ o ∧ o < 0x3200 then d.writeWindow s l r lane v
  else if o = 0x4020 then (if bitAt v 0 then d.standClear w else d)
  else d.store s l r lane v

/-- Writes to a port window. -/
def Dev.writePort (d : Dev) (s : Nat) (l : Loc) (r : RegRow) (lane : Nat × Nat) (v : W64) : Dev :=
  if l.off = 0 then (if lane.1 = 0 then d.prtCtlWrite l.inst v else d)
  else if l.off = 0x9018 ∧ bitAt (d.rd .port 0 0x9000) 15 then d
  else d.store s l r lane v

/-- Writes to a scheduler instance: the administrative list is held while a change is pending (12 R618); a rate or burst
resets the tokens of its queue or bucket (R612); KERNEL_COST is zero in an egress instance and a stand's weight is read-only
in a compute instance (Table 10). -/
def Dev.writeSch (d : Dev) (s : Nat) (l : Loc) (r : RegRow) (lane : Nat × Nat) (v : W64) : Dev :=
  let i := l.inst
  let o := l.off
  if o = 0x800 then
    let d := if bitAt v 1 then d.rotCancel i else d
    if bitAt v 0 then d.rotChange i else d
  else if o = 0x808 ∨ o = 0x810 ∨ (0x1000 ≤ o ∧ o < 0x1200) then
    if bitAt (d.rd .sch i 0x828) 0 then d.setFld .sch i 0x828 1 1 1
    else (d.store s l r lane v).setFld .sch i 0x828 1 1 0
  else if o = 8 ∧ 17 ≤ i then
    let cost := d.fld .sch i 8 63 32
    (d.store s l r lane v).setFld .sch i 8 63 32 cost
  else if 0x100 ≤ o ∧ o < 0x500 then
    if o % 32 = 0 ∧ i < 17 then
      let weight := d.fld .sch i o 47 32
      (d.store s l r lane v).setFld .sch i o 47 32 weight
    else if o % 32 = 8 ∨ o % 32 = 16 then (d.store s l r lane v).schRateReset i o
    else d.store s l r lane v
  else if 0x600 ≤ o ∧ o < 0x680 ∧ o % 16 = 0 then (d.store s l r lane v).schRateReset i o
  else d.store s l r lane v

/-- TIE_SVC_RES: a multiple of 4 from 16 to 64 is written to the configuration block and takes effect at the next module reset
or power-on; any other value is ignored (10 R468, Table 4). -/
def Dev.writeSvcRes (d : Dev) (s : Nat) (lane : Nat × Nat) (v : W64) : Dev :=
  let g := bits v 6 0
  if lane.1 ≠ 0 ∨ d.lock ∨ s ≠ 0 ∨ g < 16 ∨ 64 < g ∨ g % 4 ≠ 0 then d
  else (d.cfgStore fun b => { b with svcRes := g }).setFld .cell 0 0x60800 6 0 g

/-- Writes to a cell window. -/
def Dev.writeCell (d : Dev) (s : Nat) (l : Loc) (r : RegRow) (lane : Nat × Nat) (v : W64) : Dev :=
  if l.off = 0x60800 then d.writeSvcRes s lane v
  else if l.off = 0x60810 then (d.store s l r lane v).lendCfg
  else if l.off = 0x80000 then (if lane.1 = 0 then d.ptlWrite l.inst v else d)
  else d.store s l r lane v

/-- A write that reaches a register: v carries the access's bits in their place, every other bit zero. -/
def Dev.regWrite (d : Dev) (s : Nat) (l : Loc) (lane : Nat × Nat) (v : W64) : Dev :=
  match findRow l.blk l.off with
  | none => d
  | some r => match l.blk with
    | .boot => d.writeBoot s l r lane v
    | .flt => d.writeFlt s l r lane v
    | .pwr => d.writePwr s l r lane v
    | .ftm => d.writeFtm s l r lane v
    | .cmp => d.writeCmp s l r lane v
    | .stand => d.writeStand s l r lane v
    | .port => d.writePort s l r lane v
    | .sch => d.writeSch s l r lane v
    | .cell => d.writeCell s l r lane v
    | _ => d.store s l r lane v

/-! ## Alias writes (03 R105 to R108) -/

/-- True when an alias write reaches a place of a cell: the cell is not fenced and the block is powered and clocked. -/
def Dev.aliasReaches (d : Dev) (c off : Nat) : Bool :=
  !d.cellFenced c && d.modPower < 2 && d.cellPower c < 2 &&
  !(d.cellPower c == 1 && 0x10000 ≤ off && off < 0x40000) && !(0x80000 ≤ off && off < 0x90000 && !d.gateOn 19)

/-- The registers that an alias write reaches, a device-wide one once. -/
def Dev.aliasLocs (d : Dev) (cells : List Nat) (off : Nat) : List Loc :=
  ((cells.flatMap fun c => ((cellPlaces off).filter fun o => d.aliasReaches c o).map fun o => cellLoc c o).filter
    fun l => (findRow l.blk l.off).isSome).foldl (fun ls l => if ls.contains l then ls else ls ++ [l]) []

/-! ## Accesses -/

/-- Space of a host access to BAR0, of one to BAR2 and of a kernel's access (03 Table 7). -/
def spBar0 : Nat := 0
def spBar2 : Nat := 1
def spKernel : Nat := 2

/-- The bits of a written value in their place in the register. -/
def busWord (off size : Nat) (v : W64) : W64 := if size = 8 then v else (v &&& 0xFFFFFFFF#64) <<< (laneOf off size).1

/-- A write that was accepted, at an offset of the PF map. -/
def Dev.doWrite (d : Dev) (s off size : Nat) (v : W64) : Dev :=
  match d.target off with
  | .none => d
  | .one l =>
    let d := match uniCell off with
      | some c => d.demand c
      | none => d
    d.regWrite s l (laneOf off size) (busWord off size v)
  | .spread uni cells o =>
    let d := match uni with
      | some c => d.demand c
      | none => d
    (d.aliasLocs cells o).foldl (fun d l => d.regWrite s l (laneOf off size) (busWord off size v)) d

/-- A read that was accepted: the value and the device; an 8-byte read of FTM_NOW latches its fraction (12 R577). -/
def Dev.doRead (d : Dev) (off size : Nat) : W64 × Dev :=
  match d.target off with
  | .one l =>
    let d := match uniCell off with
      | some c => d.demand c
      | none => d
    let w := d.readReg l
    let d := if l.blk = .ftm ∧ l.off = 0 ∧ size = 8 then d.wr .ftm 0 8 (BitVec.ofNat 64 (d.fab % 65536)) else d
    (if size = 8 then w else (w >>> (laneOf off size).1) &&& 0xFFFFFFFF#64, d)
  | _ => (0, d)

/-- A register write of the host through BAR0 of a function, by the kinds of 03 Table 8. -/
def Dev.busWrite (d : Dev) (fn off size : Nat) (v : W64) : Dev :=
  match d.hostVerdict fn off size true with
  | .ok => d.doWrite fn (pfOff fn off) size v
  | .zero => d
  | .viol k => d.violate fn k spBar0 true off

/-- A register read of the host: its value goes back to the function. -/
def Dev.busRead (d : Dev) (fn off size : Nat) : W64 × Dev :=
  match d.hostVerdict fn off size false with
  | .ok => d.doRead (pfOff fn off) size
  | .zero => (0, d)
  | .viol k => (0, d.violate fn k spBar0 false off)

/-- A kernel's system access for its stand: as the host's, but without a session (03 R103). -/
def Dev.kernelWrite (d : Dev) (s off : Nat) (v : W64) : Dev :=
  match d.verdict s true (pfOff s off) 8 true with
  | .ok => d.doWrite s (pfOff s off) 8 v
  | .zero => d
  | .viol k => d.violate s k spKernel true off

/-- A kernel's system read. -/
def Dev.kernelRead (d : Dev) (s off : Nat) : W64 × Dev :=
  match d.verdict s true (pfOff s off) 8 false with
  | .ok => d.doRead (pfOff s off) 8
  | .zero => (0, d)
  | .viol k => (0, d.violate s k spKernel false off)

/-! ## Timed actions (12 R596 to R599) -/

/-- Slots whose time is reached, in the order of R597. -/
def Dev.dueSlots (d : Dev) : List Nat :=
  let due := (List.range 32).filter fun i => bitAt (d.rd .ftm 0 (0x2018 + 32 * i)) 0 && (d.rd .ftm 0 (0x2000 + 32 * i)).toNat ≤ d.now
  due.foldl (fun ls i =>
    let t (j : Nat) : Nat := (d.rd .ftm 0 (0x2000 + 32 * j)).toNat
    (ls.takeWhile fun j => t j ≤ t i) ++ [i] ++ ls.dropWhile fun j => t j ≤ t i) []

/-- One slot fired: the write, as stand 0's in an open session, then FIRED and the slot's next time (R596, R598). -/
def Dev.fireSlot (d : Dev) (i : Nat) : Dev :=
  let a := 0x2000 + 32 * i
  if !bitAt (d.rd .ftm 0 (a + 24)) 0 then d
  else
    let off := d.fld .ftm 0 (a + 8) 25 0
    let now := d.now
    let d := match d.verdict 0 true off 8 true with
      | .ok => d.doWrite 0 off 8 (d.rd .ftm 0 (a + 16))
      | .zero => d
      | .viol k => d.violate 0 k spBar0 true off
    let d := d.setFld .ftm 0 (a + 24) 1 1 1
    let period := d.fld .ftm 0 (a + 24) 63 32
    let t := (d.rd .ftm 0 a).toNat
    if !bitAt (d.rd .ftm 0 (a + 24)) 0 then d
    else if period = 0 then d.setFld .ftm 0 (a + 24) 0 0 0
    else if now < t + period then d.wr .ftm 0 a (BitVec.ofNat 64 (t + period))
    else
      let n := (now - t) / period + 1
      (d.incSat .ftm 0 (a + 24) 31 16 (n - 1)).wr .ftm 0 a (BitVec.ofNat 64 (t + n * period))

/-- TIMED_ACTION_FIRE: the slots whose time fabric time has reached. -/
def Dev.fireDue (d : Dev) : Dev := d.dueSlots.foldl (fun d i => d.fireSlot i) d

/-! ## The KV aperture (17 R805 to R807; 14 R707, R708) -/

/-- The enabled window of a stand that covers a BAR2 offset, the lowest: its number and the byte in it. -/
def Dev.apWindow (d : Dev) (s off : Nat) : Option (Nat × Nat) :=
  (List.range 16).findSome? fun k =>
    let b := d.sfld s (0x3000 + 32 * k) 63 16 * 65536
    let n := d.sfld s (0x3008 + 32 * k) 31 0 * 65536
    if d.sfld s (0x3010 + 32 * k) 61 61 = 1 ∧ b ≤ off ∧ off < b + n then some (k, off - b) else none

/-- A list of bytes cut or filled with zeros to n bytes. -/
def padTo (n : Nat) (bs : List Byte) : List Byte := (bs ++ List.replicate n 0#8).take n

/-- The page of a sequence's layer that a byte of a KIND 3 window lies in: set, page and entry. -/
def Dev.windowPage (d : Dev) (s k x : Nat) : Option (Nat × Nat × Nat × W64) :=
  let l := d.sfld s (0x3010 + 32 * k) 47 40
  let p := d.sfld s (0x3010 + 32 * k) 31 0 + x / 131072
  match d.entry (seqKey s (d.sfld s (0x3018 + 32 * k) 58 0)) with
  | none => none
  | some v => match d.pte (dvSet v) l p with
    | none => none
    | some e => some (dvSet v, l, p, e)

/-- An access of n bytes, or of the bytes given, at a byte of a window; bad tells that the memory finds a sector of it
uncorrectable, which then reads as zeros (14 R707, R708). None where the window names no memory of the stand. -/
def Dev.windowAccess (d : Dev) (s k x : Nat) (write : Bool) (n : Nat) (data : List Byte) (bad : Bool) : Option (List Byte × Dev) :=
  let zeros := List.replicate n 0#8
  match d.sfld s (0x3010 + 32 * k) 63 62 with
  | 1 => match d.tractOf s (BitVec.ofNat 32 (d.sfld s (0x3010 + 32 * k) 31 0)) with
    | none => none
    | some (i, t) =>
      let m := t.len - x
      if 2 ≤ t.kind then none
      else if write then
        let bs := data.take m
        let d := if t.kind = 1 then d.demand t.cell else d
        if bs.isEmpty then some ([], d) else some ([], ((d.tractWrite t x bs).mirPlaced i t x bs).2)
      else
        let d := if t.kind = 1 then d.demand t.cell else d
        if !bad then some (padTo n (d.tractRead t x (min n m)), d)
        else if t.kind = 1 then some (zeros, d.raise (32 * t.cell + 2) ⟨.cell, t.cell⟩ [s] 0)
        else some (zeros, d.uncorrectable (((d.tractFrames t)[x / 65536]?).getD 0 + x % 65536 / 256) [s])
  | 2 =>
    let w := Tab.getD d.weights s ([], false)
    let m := 65536 * w.1.length - x
    if write then some ([], Dev.unitsWrite w.1 (data.length / 65536 + 2) x (data.take m) d)
    else if bad ∧ x < 65536 * w.1.length then
      some (zeros, Dev.uncorrectable { d with weights := Tab.set d.weights s (w.1, true) } ((w.1[x / 65536]?).getD 0 + x % 65536 / 256) [s])
    else some (padTo n (d.unitsRead w.1 x (min n m)), d)
  | 3 =>
    if write then none
    else match d.windowPage s k x with
      | none => some (zeros, d)
      | some (set, l, p, e) =>
        let y := x % 131072
        let d := d.demandFrame (pteTier e) (pteFrame e)
        let tile := d.tileOf s e
        if bad ∧ y < tile.length then
          some (zeros, ((d.uncorrectable (tileFrame (pteTier e) s (pteFrame e) + y / 256) [s]).quarPage set l p))
        else some (padTo n ((tile.drop y).take n), d)
  | _ => none

/-- KV_APERTURE_ACCESS: an access of a function to its BAR2, of at most 4 KiB within a 4 KiB block of the aperture. -/
def Dev.aperture (d : Dev) (fn off : Nat) (write : Bool) (n : Nat) (data : List Byte) (bad : Bool) : Dev :=
  let n := if write then data.length else n
  let zeros : Out := .readData fn (List.replicate n 0#8)
  let reply (d : Dev) : Dev := if write then d else d.emit zeros
  if d.off ∨ d.board.mrst ∨ d.board.perst ∨ (d.fnCtl fn).d3 ∨ (fn ≠ 0 ∧ !(d.std fn).funcEn) ∨ n = 0 ∨ 4096 < off % 4096 + n then d
  else if (d.stageOf ≠ 3 ∧ !d.warm) ∨ (fn = 0 ∧ d.cfgBad) then reply d
  else if !d.sesOpen fn then reply (d.violate fn 1 spBar2 write off)
  else match d.apWindow fn off with
    | none => reply (d.violate fn 2 spBar2 write off)
    | some (k, x) =>
      if 2 ≤ d.modPower then reply (d.violate fn 3 spBar2 write off)
      else match d.windowAccess fn k x write n data bad with
        | none => reply (d.violate fn 2 spBar2 write off)
        | some (bs, d) => if write then d else d.emit (.readData fn bs)

end Sys2Proof.Machine
end

