-- ==== Sys2Proof/Machine/IsaSys.lean ====
section
/-!
DEFINITION. System registers of the limber threads and session state read by kernels (06 R304, R305, Table 12; 07 R369, R374).
-/
namespace Sys2Proof.Machine

/-- Stage address of the persistent region of a stand: space tag 1 (06 Table 2); 0 when there is none. -/
def Dev.stageBase (d : Dev) (s : Nat) : W64 :=
  if (d.region s).2 = 0 then 0 else BitVec.ofNat 64 (2 ^ 60 + (d.region s).1)

/-- A thread system register as it reads (06 Table 12). -/
def Dev.sysReg (d : Dev) (t n : Nat) : W64 :=
  let x := d.thr t
  let s := d.thrStand t
  let b := d.blaze s
  match n with
  | 0x000 => BitVec.ofNat 64 (t / 32 * 256 + t / 4 % 8 * 4 + t % 4)
  | 0x001 => BitVec.ofNat 64 s
  | 0x002 => BitVec.ofNat 64 (((d.thrImage t).map (·.slot)).getD 0)
  | 0x003 => BitVec.ofNat 64 d.node
  | 0x004 => d.stageBase s
  | 0x005 => BitVec.ofNat 64 (d.region s).2
  | 0x006 => BitVec.ofNat 64 (s * 2 ^ 59 + x.seqKey % 2 ^ 59)
  | 0x008 => BitVec.ofNat 64 x.excCause
  | 0x009 => BitVec.ofNat 64 x.excPc
  | 0x00A => x.excAddr
  | 0x010 => b.key.setWidth 64
  | 0x011 => b.off
  | 0x012 => b.len.setWidth 64
  | 0x013 => b.seq
  | 0x014 => b.drop
  | 0x020 => BitVec.ofNat 64 x.tokFree
  | 0x021 => BitVec.ofNat 64 (d.pins.filter fun p => p.thread == t).length
  | _ => 0

/-- A thread system register written: SEQ_KEY.HANDLE and the blaze registers; the ring's place and length are multiples of 32,
whose low bits are dropped (06 Table 12; log 18). -/
def Dev.sysWrite (d : Dev) (t n : Nat) (v : W64) : Dev :=
  let s := d.thrStand t
  let b := d.blaze s
  let put (b : Blaze) : Dev := { d with blazes := Tab.set d.blazes s b }
  match n with
  | 0x006 => d.modThr t fun x => { x with seqKey := seqKey s (bits v 58 0) }
  | 0x010 => put { b with key := v.setWidth 32 }
  | 0x011 => put { b with off := v &&& ~~~ 31#64 }
  | 0x012 => put { b with len := v.setWidth 32 &&& ~~~ 31#32 }
  | _ => d

/-- The end of an instruction that may have taken the thread's binding away. -/
def Dev.sysEnd (d : Dev) (t : Nat) : InstrRes := if (d.thrImage t).isSome ∧ (d.thr t).wait = .run then .ok d else .hold d

/-- SYSR. -/
def Dev.sysr (d : Dev) (t : Nat) (f : RegF) : Dev :=
  d.instr t 4 fun d x =>
    legal (f.b == 0)
      (if f.func = 0x3FF then
        let r := d.kernelRead (d.thrStand t) (x.rg f.a.toNat).toNat
        .ok (r.2.setG t f.d.toNat r.1)
      else .ok (d.setG t f.d.toNat (d.sysReg t f.func.toNat)))

/-- SYSW. -/
def Dev.sysw (d : Dev) (t : Nat) (f : RegF) : Dev :=
  d.instr t 4 fun d x =>
    legal (f.d == 0)
      (if f.func = 0x3FF then (d.kernelWrite (d.thrStand t) (x.rg f.a.toNat).toNat (x.rg f.b.toNat)).sysEnd t
      else .ok (d.sysWrite t f.func.toNat (x.rg f.b.toNat)))

/-- SESS (07 R374). -/
def Dev.sess (d : Dev) (t : Nat) (f : RegF) : Dev :=
  d.instr t 4 fun d x =>
    let s := d.thrStand t
    legal (f.b == 0 && f.func.toNat < 2)
      (if f.func = 0 then .ok (d.setG t f.d.toNat (d.sesStatus s))
      else if s = 0 then .ok (d.setG t f.d.toNat (d.sesStatus (bits (x.rg f.a.toNat) 4 0)))
      else
        let a := 0x100000 + bits (x.rg f.a.toNat) 4 0 * 0x10000 + 0x1000
        .ok ((d.violate s 2 spKernel false a).setG t f.d.toNat 0))

end Sys2Proof.Machine
end

