-- ==== Sys2Proof/Machine/Manage.lean ====
section
/-!
DEFINITION. Management endpoints: MCTP commands, SPDM, the I3C address and the test access port (16 R796 to R799; 17 R822;
18 R834 to R836).
-/
namespace Sys2Proof.Machine

/-! ## MCTP on I3C (17 R822) -/

/-- True when the I3C target answers on its bus: powered, not held in reset, its clock running (15 Table 10). -/
def Dev.i3cUp (d : Dev) : Bool := !d.off && !d.board.mrst && d.gateOn 17

/-- True when an MCTP message can be addressed to the endpoint. -/
def Dev.mctpUp (d : Dev) : Bool := d.i3cUp && d.mgmt.i3c.isSome

/-- ENTDAA: the provisional ID is sent and the address taken, when the device has none. -/
def Dev.entdaa (d : Dev) (addr : BitVec 7) : Dev :=
  if d.i3cUp ∧ d.mgmt.i3c = none then
    Dev.emit { d with mgmt := { d.mgmt with i3c := some addr.toNat } } (.provisional d.slotId)
  else d

/-- STATUS. -/
def Dev.mctpStatus (d : Dev) : Dev :=
  if d.mctpUp then
    d.emit (.mctp 1 [d.readReg ⟨.boot, 0, 0⟩, d.readReg ⟨.flt, 0, 0⟩, d.readReg ⟨.pwr, 0, 0⟩, d.readReg ⟨.cmp, 0, 8⟩])
  else d

/-- MODULE_RESET. -/
def Dev.mctpModuleReset (d : Dev) : Dev := if d.mctpUp then (d.emit (.mctp 2 [])).moduleReset else d

/-- WARM_RESET. -/
def Dev.mctpWarmReset (d : Dev) : Dev := if d.mctpUp then (d.emit (.mctp 3 [])).warmReset else d

/-- WAKE. -/
def Dev.mctpWake (d : Dev) : Dev := if d.mctpUp then (d.emit (.mctp 4 [])).stateReq 0 else d

/-- READ: an 8-byte register of the GLB, BOOT and ATT, FLT, or PWR and CLK page. -/
def Dev.mctpRead (d : Dev) (off : Nat) : Dev :=
  if d.mctpUp then
    let v := if off < 0x40000 ∧ off % 8 = 0 then
        match d.target off with
        | .one l => d.readReg l
        | _ => 0
      else 0
    d.emit (.mctp 5 [v])
  else d

/-! ## SPDM 1.2 (16 R796 to R799; log 40) -/

/-- True when an SPDM request reaches its responder: on DOE of an enabled function once the endpoint is up, or over MCTP,
channel 32. -/
def Dev.spdmUp (d : Dev) (chan : Nat) : Bool :=
  if chan = 32 then d.mctpUp
  else !d.off && !d.board.mrst && !d.board.perst &&
    (if chan = 0 then d.warm || (3 ≤ d.stageOf && d.stageOf ≤ 5) else (d.warm || d.stageOf == 3) && (d.std chan).funcEn)

/-- A response sent and counted (16 Table 9, ATT_STAT). -/
def Dev.spdmSend (d : Dev) (chan : Nat) (r : SpdmRsp) : Dev :=
  let d := match r with
    | .error _ => d.incSat .boot 0 0x8000 63 32 1
    | _ => d.incSat .boot 0 0x8000 31 0 1
  d.emit (.spdm chan r)

/-- How far a channel's requester has come. -/
def Dev.spdmOf (d : Dev) (chan : Nat) : SpdmState := Tab.getD d.mgmt.spdm chan .start

/-- A channel's place set. -/
def Dev.setSpdm (d : Dev) (chan : Nat) (st : SpdmState) : Dev :=
  { d with mgmt := { d.mgmt with spdm := Tab.set d.mgmt.spdm chan st } }

/-- SPDM error codes (SPDM 1.2): InvalidRequest, InvalidSession, UnexpectedRequest, UnsupportedRequest, SessionLimitExceeded. -/
def spInvalid : Nat := 1
def spSession : Nat := 2
def spUnexpected : Nat := 4
def spUnsupported : Nat := 7
def spLimit : Nat := 10

/-- A request that needs the channel in some place; in any other it is answered UnexpectedRequest. -/
def Dev.spdmAt (d : Dev) (chan : Nat) (st : SpdmState) (f : Dev → Dev) : Dev :=
  if !d.spdmUp chan then d
  else if d.spdmOf chan = st then f d
  else d.spdmSend chan (.error spUnexpected)

/-- GET_VERSION starts a connection anew, and ends the channel's session. -/
def Dev.getVersion (d : Dev) (chan : Nat) : Dev :=
  if !d.spdmUp chan then d
  else
    let d := d.setSpdm chan .version
    let d : Dev := if chan = 0 then { d with mgmt := { d.mgmt with ses := .none } } else d
    d.spdmSend chan .version

/-- GET_CAPABILITIES. -/
def Dev.getCapabilities (d : Dev) (chan : Nat) : Dev :=
  d.spdmAt chan .version fun d => (d.setSpdm chan .capabilities).spdmSend chan .capabilities

/-- NEGOTIATE_ALGORITHMS: common tells whether the requester offers the algorithms of R796. -/
def Dev.negotiate (d : Dev) (chan : Nat) (common : Bool) : Dev :=
  d.spdmAt chan .capabilities fun d =>
    if common then (d.setSpdm chan .algorithms).spdmSend chan .algorithms else d.spdmSend chan (.error spInvalid)

/-- GET_DIGESTS: slot 0 alone is provisioned (R797). -/
def Dev.getDigests (d : Dev) (chan : Nat) : Dev := d.spdmAt chan .algorithms fun d => d.spdmSend chan (.digests 1)

/-- GET_CERTIFICATE. -/
def Dev.getCertificate (d : Dev) (chan slot off len : Nat) : Dev :=
  d.spdmAt chan .algorithms fun d => d.spdmSend chan (if slot = 0 then .certificate off len else .error spInvalid)

/-- CHALLENGE: signed with the identity key of slot 0. -/
def Dev.spdmChallenge (d : Dev) (chan slot : Nat) (nonce : BitVec 256) : Dev :=
  d.spdmAt chan .algorithms fun d => d.spdmSend chan (if slot = 0 then .challengeAuth nonce else .error spInvalid)

/-- The bytes of a configuration block's copy that the configuration digest covers, key and SEQ zero (16 Table 6, Table 8). -/
def CfgBlock.digestBytes (b : CfgBlock) : List Byte :=
  natLe 4 0x43464744 ++ List.replicate 52 0#8 ++ natLe 1 (if b.claimed then 1 else 0) ++ natLe 1 b.svcRes ++ natLe 1 b.opTarget ++
    natLe 1 (bitsMask ((List.range 4).filter fun k => Tab.has b.kkeys k)) ++ List.replicate 4 0#8 ++
    ((List.range 4).flatMap fun k => padTo 96 (Tab.getD b.kkeys k [])) ++ List.replicate 32272 0#8

/-- The copy of the configuration block in use, if there is one (16 R791, R792). -/
def Dev.cfgInUse (d : Dev) : Option CfgBlock :=
  match (if d.cfgIsB then d.cfgB else d.cfgA) with
  | .ok b => some b
  | _ => none

/-- The configuration digest; free where no copy is in use, whose bytes the spec does not give (log 40). -/
def Dev.cfgDigest (d : Dev) : List Byte :=
  match d.cfgInUse with
  | some b => sha384 b.digestBytes
  | none => (List.range 48).map fun i => BitVec.ofNat 8 (d.nth (1024 + i))

/-- Kernel slots of a stand as block 5 + s reports them (16 Table 8). -/
def Dev.slotReport (d : Dev) (s : Nat) : List Byte :=
  (List.range 8).flatMap fun i =>
    match (Tab.get? d.slotImg (8 * s + i)).bind fun n => Tab.get? d.images n with
    | some im => natLe 1 1 ++ natLe 1 (recNum im.bytes 45 1) ++ natLe 6 0 ++ bytes384 im.digest
    | none => List.replicate 56 0#8

/-- A measurement block (16 Table 8). -/
def Dev.measurement (d : Dev) (i : Nat) : List Byte :=
  if i = 1 then
    ((List.range 40).flatMap fun n => natLe 8 (d.readReg ⟨.glb, 0, 0x400 + 32 * n⟩).toNat ++ natLe 8 (d.readReg ⟨.glb, 0, 0x408 + 32 * n⟩).toNat) ++
      natLe 8 (d.readReg ⟨.glb, 0, 0x10⟩).toNat
  else if i = 2 then (List.range 6).flatMap fun n => natLe 8 (d.rd .boot 0 (0x40 + 8 * n)).toNat
  else if i = 3 then natLe 4 (d.fld .boot 0 0 47 40) ++ natLe 4 (d.fld .boot 0 0 55 48)
  else if i = 4 then d.cfgDigest
  else if i = 37 then natLe 8 d.now ++ natLe 2 (d.fab % 65536) ++ natLe 1 d.ftmState ++ natLe 5 0
  else d.slotReport (i - 5)

/-- Blocks that a channel may read: a virtual function's DOE all but the other stands' (R799). -/
def blocksFor (chan : Nat) : List Nat :=
  (List.range 38).filter fun i => i != 0 && (chan == 0 || chan == 32 || i < 5 || i == 37 || i == 5 + chan)

/-- GET_MEASUREMENTS: op 0 asks for the number of blocks, 255 for all of them, any other for one; with a nonce when the answer
is to be signed. -/
def Dev.getMeasurements (d : Dev) (chan op : Nat) (nonce : BitVec 256) (sig : Bool) : Dev :=
  d.spdmAt chan .algorithms fun d =>
    let all := blocksFor chan
    let n := if sig then some nonce else none
    let one (is : List Nat) : SpdmRsp := .measurements is.length (is.map fun i => (i, d.measurement i)) n
    let d' := if d.cfgInUse.isNone then d.took else d
    if op = 0 then d.spdmSend chan (.measurements all.length [] n)
    else if op = 255 then d'.spdmSend chan (one all)
    else if all.contains op then d'.spdmSend chan (one [op])
    else d.spdmSend chan (.error spInvalid)

/-- KEY_EXCHANGE: a session on the PF's DOE, for IDE key management; one at a time. -/
def Dev.keyExchange (d : Dev) (chan : Nat) : Dev :=
  d.spdmAt chan .algorithms fun d =>
    if chan ≠ 0 then d.spdmSend chan (.error spUnsupported)
    else if d.mgmt.ses ≠ .none then d.spdmSend chan (.error spLimit)
    else Dev.spdmSend { d with mgmt := { d.mgmt with ses := .handshake } } chan .keyExchange

/-- FINISH. -/
def Dev.spdmFinish (d : Dev) (chan : Nat) : Dev :=
  d.spdmAt chan .algorithms fun d =>
    if chan ≠ 0 then d.spdmSend chan (.error spUnsupported)
    else match d.mgmt.ses with
      | .handshake => Dev.spdmSend { d with mgmt := { d.mgmt with ses := .established } } chan .finish
      | .established => d.spdmSend chan (.error spUnexpected)
      | .none => d.spdmSend chan (.error spSession)

/-- END_SESSION. -/
def Dev.endSession (d : Dev) (chan : Nat) : Dev :=
  d.spdmAt chan .algorithms fun d =>
    if chan ≠ 0 then d.spdmSend chan (.error spUnsupported)
    else match d.mgmt.ses with
      | .established => Dev.spdmSend { d with mgmt := { d.mgmt with ses := .none } } chan .endSession
      | .handshake => d.spdmSend chan (.error spUnexpected)
      | .none => d.spdmSend chan (.error spSession)

/-! ## The test access port (18 R834 to R836) -/

/-- The bits of IDCODE, first bit out first. -/
def idcode : List Bool := (List.range 32).map fun i => (0x10640B4D : Nat).testBit i

/-- BYPASS: the bits given are shifted through the one-bit register. -/
def Dev.tapBypass (d : Dev) (bs : List Bool) : Dev :=
  if d.off then d
  else Dev.emit { d with board := { d.board with tapIr := .bypass } } (.tdo ((false :: bs).take bs.length))

/-- IDCODE. -/
def Dev.tapIdcode (d : Dev) (bs : List Bool) : Dev :=
  if d.off then d
  else Dev.emit { d with board := { d.board with tapIr := .idcode } } (.tdo ((idcode ++ bs).take bs.length))

/-- The boundary register shifted: what the pins show is free, for the spec gives no layout of it (R835; log 40); the bits given
go to its update latch. -/
def Dev.tapScan (d : Dev) (ir : TapIr) (bs : List Bool) : Dev :=
  if d.off then d
  else
    let o := (List.range bs.length).map fun i => (Config.choice d.freeCtr).testBit i
    Dev.emit { d.took with board := { d.board with tapIr := ir, tapLatch := bs } } (.tdo o)

/-- SAMPLE/PRELOAD. -/
def Dev.tapSample (d : Dev) (bs : List Bool) : Dev := d.tapScan .samplePreload bs

/-- EXTEST: performed while MRST_L is asserted, else treated as BYPASS (R836). -/
def Dev.tapExtest (d : Dev) (bs : List Bool) : Dev := if d.board.mrst then d.tapScan .extest bs else d.tapBypass bs

end Sys2Proof.Machine
end

