-- ==== Sys2Proof/Machine/Parity.lean ====
section
/-!
DEFINITION. Loads whose stage or local memory read fails parity, and fetches that find a sector uncorrectable (14 Table 1, R707,
R709).
-/
namespace Sys2Proof.Machine

/-- LMB_PAR: the core is bound afresh, and its sub-orders are dispatched again (14 Table 1). -/
def Dev.lmbParity (d : Dev) (k : Nat) : Dev :=
  let s := d.thrStand (4 * k)
  let d := d.raise (32 * (k / 8) + 3) ⟨.core, k⟩ [s] 0
  match (d.core k).image with
  | some im => (d.dropCore k).bindCore k im
  | none => d

/-- A load of n bytes that fails parity: in a sub-order's area the sub-order is dispatched again; in the stand's persistent region
it gives zero, with DATA_LOST as the sticky status (R709); in local memory the core is bound afresh; service memory has no
parity of this kind. read is the load itself and zero what it does when its data are zero. -/
def Dev.loadParity (d : Dev) (t n : Nat) (a : W64) (read zero : Dev → Dev) : Dev :=
  let s := d.thrStand t
  let r := d.region s
  if !d.runnable t ∨ (memExc a n).isSome then read d
  else if adTag a = 0 then d.lmbParity (t / 4)
  else if adTag a ≠ 1 ∨ !d.ownsStage t (adOff a) n false then read d
  else
    let d := d.raise (32 * (t / 32) + 2) ⟨.cell, t / 32⟩ [s] 0
    if inside (adOff a) n r.1 r.2 then (zero d).modThr t fun x => x.stick 4
    else match (d.thr t).sub with
      | some sid => d.redispatch sid
      | none => d

/-- LD, whose read fails parity when par is set. -/
def Dev.ldPar (d : Dev) (t : Nat) (f : MemF) (par : Bool) : Dev :=
  if par then
    let a := addOff ((d.thr t).rg f.a.toNat) f.off.toInt
    d.loadParity t (sizeBytes f.size) a (fun d => d.ld t f) fun d => (d.setG t f.d.toNat 0).advance t 4
  else d.ld t f

/-- LDV, whose read fails parity when par is set. -/
def Dev.ldvPar (d : Dev) (t : Nat) (f : MemF) (par : Bool) : Dev :=
  if par ∧ f.size = 0 then
    let a := addOff ((d.thr t).rg f.a.toNat) (64 * f.off.toInt)
    d.loadParity t 64 a (fun d => d.ldv t f) fun d => (d.modThr t fun x => x.wv f.d.toNat 0).advance t 4
  else d.ldv t f

end Sys2Proof.Machine
end

