-- ==== Sys2Proof/Machine/Settle.lean ====
section
/-!
DEFINITION. The device's own work after a command: reactions that were asked for, messages that ended, cruise messages that
arrived, and what follows of itself from the state reached (log 42).
-/
namespace Sys2Proof.Machine

/-! ## Messages that ended -/

/-- The SEQ_NEW of a mirrored sequence ended (13 R669, R670): acknowledged, or refused with PROFILE_MISMATCH (NAK 23). -/
def Dev.seqNewEnd (d : Dev) (ti num status : Nat) : Dev :=
  { d with mirSeqs := Tab.mapAll d.mirSeqs fun _ (m : MirSeq) =>
      if m.tract = ti ∧ m.num = num ∧ m.st = 0 then
        { m with st := if status = 0 then 1 else if status = 0x100 + 23 then 2 else 0 }
      else m }

/-- What the user of an ended message does. -/
def Dev.msgEnded (d : Dev) (who : MsgWho) (status : Nat) : Dev :=
  match who with
  | .thread t tok op _ => d.remoteEnd t tok op status
  | .body n => d.partEnded n true status
  | .whole n => d.partEnded n false status
  | .mirror ti num => ((d.seqNewEnd ti num status).mirEnded ti num status).mirRelease ti
  | .lent id => d.migrLeg id (status == 0) none
  | .cruise => d

/-! ## Cruise messages (13 R631 to R681) -/

/-- The header of a cruise message (13 Table 1): OP, FLAGS, ORIGIN, VERSION, CRUISE_EPOCH. -/
structure CruiseIn where
  op : Nat
  flags : Nat
  origin : Nat
  version : Nat
  epoch : Nat

/-- A cruise message taken apart: its header and its body. -/
def cruiseParse (bs : List Byte) : CruiseIn × List Byte :=
  (⟨recNum bs 0 1, recNum bs 1 1, recNum bs 2 2, recNum bs 4 4, recNum bs 8 4⟩, bs.drop 16)

/-- What a cruise message does at this module (13 Table 2; operation 23 is the model's SLICE_RESET, log 23). -/
def Dev.cruiseAct (d : Dev) (p : Nat) (h : CruiseIn) (body : List Byte) : Dev :=
  match h.op with
  | 1 => d.rxHello p h.flags body
  | 2 => d.rxHeartbeat p
  | 3 => d.rxEntry body
  | 4 => d.takeSummary body
  | 5 => d.rxLinkDown body
  | 6 => d.rxFail body
  | 7 => d.epochAdvance (recNum body 0 4)
  | 8 => d.rxOffer h.origin body
  | 9 => if recNum body 0 2 = d.node then d.homeAccept h.origin (recNum body 2 1) (recNum body 4 4) (recNum body 8 2) else d
  | 10 => d.takeRecord body true
  | 11 => d.takeRecord body false
  | 12 => d.takeRecord body false
  | 13 => d.rxQuery h.origin body
  | 14 => d.takeRecord body true
  | 15 => d.rxMirrorOpen h.origin body
  | 16 => d.rxMirrorAck h.origin body
  | 17 => d.rxMirrorClose h.origin body
  | 18 => d.rxPromoted body
  | 19 => d.rxLendAsk h.origin body
  | 20 => d.rxLendGrant h.origin body
  | 21 => d.rxReclaim h.origin body
  | 22 => d.rxRelease h.origin body
  | 23 => d.rxSliceReset h.origin body
  | _ => d

/-- A cruise message that arrived on a port: a higher epoch of a HELLO or a flooded message is adopted (R643); a flooded
message is taken once, and passed on (R632). -/
def Dev.cruiseTake (d : Dev) (p : Nat) (bs : List Byte) : Dev :=
  let (h, body) := cruiseParse bs
  let flooded := h.flags % 2 == 1
  if flooded then
    let (seen, d) := d.seenBefore h.origin h.version
    if seen then d
    else ((d.adoptEpoch h.epoch).relay bs (h.op == 3 || h.op == 5) (some p)).cruiseAct p h body
  else (if h.op = 1 then d.adoptEpoch h.epoch else d).cruiseAct p h body

/-! ## The work queues -/

/-- One reaction of a raise event carried out (14 Table 2). -/
def Dev.reactTo (d : Dev) : React → Dev
  | .fence u cause src => d.fenceUnit u cause src
  | .fenceCell c cause src => d.fenceUnit ⟨.cell, c⟩ cause src
  | .resetStand s => d.standReset s
  | .halt => d.haltDevice

/-- True for a SLICE_RESET while a warm device reset runs: it takes effect when that ends (16 R773). -/
def Dev.sliceWaits (d : Dev) (m : Nat × List Byte) : Bool := d.warm && recNum m.2 0 1 == 23

/-- The device's work queues emptied: reactions first, then ended messages, then cruise messages in the order of arrival; at
most n items. -/
def Dev.work : Nat → Dev → Dev
  | 0, d => d
  | n + 1, d =>
    match d.react with
    | r :: rs => Dev.work n (Dev.reactTo { d with react := rs } r)
    | [] => match d.msgEnds with
      | (w, st) :: ms => Dev.work n (Dev.msgEnded { d with msgEnds := ms } w st)
      | [] => match d.cruiseIn.find? fun m => !d.sliceWaits m with
        | some m => Dev.work n (Dev.cruiseTake { d with cruiseIn := d.cruiseIn.erase m } m.1 m.2)
        | none => d

/-- Items of work that one command may leave: a bound that no command comes near. -/
def workMax : Nat := 4096

/-- True while the device serves commands of its normal operation: powered, out of reset, READY or in a warm device reset, in
S0. -/
def Dev.serving (d : Dev) : Bool :=
  !d.off && !d.board.mrst && (d.stageOf == 3 || d.warm) && decide (d.modPower < 2)

/-- What follows of itself from the state reached: map entry, state and parent kept up (13 R634, R646; 12 R584), lending (13
R685; 10 R494), local operations, unloads and regions that waited (06 R289, R301; 17 R815), images without users (06 R300),
cells with work awake (15 R754), moves that waited for DMA (17 R817). -/
def Dev.checks (d : Dev) : Dev :=
  let d := d.localsDone.refreshComp.entryCheck.parentCheck
  let d := d.lendCheck.releaseCheck
  (d.unloadCheck.regionCheck.reapImages).wakeCheck.pumpMoves

/-- The device's own work after a command. -/
def Dev.settle (d : Dev) : Dev :=
  let d := Dev.work workMax d
  let d := if d.serving then Dev.work workMax d.checks else d
  Dev.work workMax d.resetCheck

end Sys2Proof.Machine
end

