-- ==== Sys2Proof/Machine/State.lean ====
section
/-!
DEFINITION. The state of the block: the commands that wait, the fuses that software burns, and the device; and the state
right after reset.
-/
namespace Sys2Proof.Machine

/-- Everything the spec gives the machine, and the queue of commands that wait, first in, first out. -/
structure State where
  pending : List Instr
  otp : Otp
  d : Dev
  deriving DecidableEq, Repr

/-- Reasons to stop: none. Every command of the table has an effect that the spec gives, and an access that reaches nothing
reads as zero or is ignored (00 R12; 03 R103), so no meaning stops the machine. Safe: there is nothing to raise. -/
inductive Fault where
  deriving DecidableEq, Repr

/-- Reasons to have no meaning. -/
inductive Refusal where
  /-- A command whose meaning is not written: raised by the dispatch alone, for no command at present. Safe: the machine
  stops where the hardware goes on. -/
  | notModelled (mnemonic : String)
  deriving DecidableEq, Repr

/-! ## What the factory left on the board (log 4) -/

/-- A number as n bytes, the highest first. -/
def beBytes (n v : Nat) : List Byte := (List.range n).map fun i => BitVec.ofNat 8 (v >>> (8 * (n - 1 - i)))

/-- A number as n bytes, the lowest first. -/
def leBytes (n v : Nat) : List Byte := (List.range n).map fun i => BitVec.ofNat 8 (v >>> (8 * i))

/-- The root public key of root-key slot 0: X and Y. -/
def factoryKey : List Byte :=
  beBytes 48 0x7fb95ac0f84232f8856ff25707a2c32214f35625e4ca7426312b2bc97c4691690d0498110cf44764b15d0c0c29e3f2cb ++
  beBytes 48 0xd8a74fe2a8ac4f7b3b04d7a136b2162317164662df7951a432ca1771da5f0607917c53873e512dc924be0bbf37322e35

/-- The SHA-384 of that key, as the fuses of slot 0 hold it. -/
def factoryRoot : List Byte :=
  beBytes 48 0xe5c3fdd0b5274383262e7568cd54cc5a75d9ba7858322613a3a679607b0e5ebd00ef13461862ad8f41551c1aa5a8cece

/-- The signature of the factory's firmware image: r and s. -/
def factorySig : List Byte :=
  beBytes 48 0x4e47a237cc608f03d38bf953c2c25c8cb99de4bbada9288a6b43656520b2559143f1fd344dde210802bbc630315996be ++
  beBytes 48 0x86ebb88467ab0970f92e1e591af5566eba8d9a004d325f5439254598ecfa8ce0d1fcfccac6071df22ac98bb3f396c26a

/-- The factory's firmware image (16 R784): the header of Table 4 with SVN 0 and root-key slot 0, one code word at 4,096, no
data, and the signature. -/
def factoryImage : List Byte :=
  leBytes 4 0x52465744 ++ leBytes 2 1 ++ leBytes 2 512 ++ leBytes 4 4196 ++ leBytes 4 0 ++ leBytes 4 4096 ++ leBytes 4 4 ++
  List.replicate 20 0#8 ++ factoryKey ++ [0x66, 0x61, 0x63, 0x74, 0x6F, 0x72, 0x79] ++ List.replicate 3949 0#8 ++
  List.replicate 4 0#8 ++ factorySig

/-- The board as it leaves the factory: the image in flash, the factory record with the ordering code of the module with
fittings and the serial number of 18's label, and the hash of the root key in slot 0. -/
def factoryBoard : Board :=
  { flash := some factoryImage,
    factory := some (1, [0x43, 0x53, 0x36, 0x34, 0x2D, 0x32, 0x37, 0x33, 0x31, 0x2D, 0x30, 0x30, 0x39, 0x38]),
    roots := [factoryRoot, List.replicate 48 0#8, List.replicate 48 0#8, List.replicate 48 0#8] }

/-- The machine right after reset: every register at the reset column, nothing booted (BOOT_STATUS.STAGE 0), nothing stored,
and nothing waiting. -/
def State.reset : State := { pending := [], otp := ⟨0, 0⟩, d := { board := factoryBoard } }

end Sys2Proof.Machine
end

