-- ==== Sys2Proof/Machine/Ops.lean ====
section
/-!
DEFINITION. The frame of a command: when it is served, what the device does of itself afterwards, and how the fuses follow.
-/
namespace Sys2Proof.Machine

/-! ## Fuses (16 R786, R787) -/

/-- Fuses burnt: the version fuses up to a number, at most 64 of them; a revocation fuse while another slot stays unrevoked. -/
def Otp.burn (o : Otp) : Burn → Otp
  | .svn n => { o with svn := max o.svn (min n 64) }
  | .revoke slot =>
    if (List.range 4).any fun i => i != slot && !o.revoked.getLsbD i then { o with revoked := o.revoked ||| BitVec.ofNat 4 (2 ^ slot) }
    else o

/-- The fuses as BOOT shows them: SVN_OTP and REVOKED. -/
def Dev.showOtp (d : Dev) (o : Otp) : Dev := (d.setFld .boot 0 0 55 48 o.svn).setFld .boot 0 0x18 11 8 o.revoked.toNat

/-- The state after a command: fuses that it burns are burnt, and what it carried along is gone. -/
def State.put (s : State) (d : Dev) : State :=
  match d.doing.burn with
  | none => { s with d := { d with doing := {} } }
  | some b => { s with otp := s.otp.burn b, d := { d.showOtp (s.otp.burn b) with doing := {} } }

/-! ## Which commands act when (log 42) -/

/-- True while the device is powered, out of reset and past its boot ROM. -/
def Dev.up? (d : Dev) : Bool := !d.off && !d.board.mrst && d.stageOf != 0

/-- True while a thread's instructions are issued (06 R245). -/
def Dev.issues (d : Dev) (t : Nat) : Bool := d.serving && d.runnable t

/-- A command that has its own conditions, and then the device's own work. -/
def State.always (s : State) (f : Dev → Dev) : Host.Outcome State Fault Refusal := .next (s.put (f s.d).settle)

/-- An event of a powered device. -/
def State.alive (s : State) (f : Dev → Dev) : Host.Outcome State Fault Refusal :=
  .next (s.put (if s.d.up? then (f s.d).settle else s.d))

/-- A command or an event of normal operation. -/
def State.served (s : State) (f : Dev → Dev) : Host.Outcome State Fault Refusal :=
  .next (s.put (if s.d.serving then (f s.d).settle else s.d))

/-- An instruction of a thread that touches its own registers and memories: when the thread runs on afterwards there is
nothing else to do. -/
def State.thread (s : State) (t : Nat) (f : Dev → Dev) : Host.Outcome State Fault Refusal :=
  .next (s.put (if s.d.issues t then (if ((f s.d).thr t).wait = .run then f s.d else (f s.d).settle) else s.d))

/-! ## Small effects of single commands -/

/-- A command whose memory read finds a sector uncorrectable, or does not (14 R707). -/
def Dev.reading (d : Dev) (bad : Bool) : Dev := { d with doing := { d.doing with badRead := bad } }

/-- IRQ_COALESCE_TIMER: TIME_US since the oldest completion not signalled has passed (17 R818). -/
def Dev.irqTimer (d : Dev) (s : Nat) : Dev := if (d.hostQ s).unsignalled = 0 then d else d.signalCpl s

/-- A cruise message that arrives as a CTRL packet (13 R631). -/
def Dev.rxCtrl (d : Dev) (op p : Nat) (r : Route) (h : ReqHdr) (ch : CruiseHdr) (body : List Byte) (icrc : BitVec 32) : Dev :=
  d.rxPkt p (reqPkt tyCtrl r h (ch.bytes op ++ body) icrc)

end Sys2Proof.Machine
end

