-- ==== Sys2Proof/Machine/CmdBoot.lean ====
section
/-!
DEFINITION. Reset and boot (16): the meaning of each command.
-/
namespace Sys2Proof.Machine

/-- POWER_ON (R772): VIN rises through 40 V, or S4 is left, and the module boots from step 1. -/
def execPowerOn (straps : BitVec 6) (dies : List (Option (BitVec 128))) (s0 : State) : Host.Outcome State Fault Refusal :=
  s0.always fun d => d.powerOn straps dies

/-- BOOT_READY (R781): boot completes and BOOT_STATUS.STAGE reads READY. -/
def execBootReady (us : BitVec 32) (s0 : State) : Host.Outcome State Fault Refusal :=
  s0.always fun d => d.bootReady us.toNat

/-- MRST_L_ASSERT (R830): MRST_L asserted starts a module reset and holds it. -/
def execMrstLAssert (s0 : State) : Host.Outcome State Fault Refusal :=
  s0.always fun d => d.mrstAssert

/-- MRST_L_RELEASE (R830): MRST_L released lets boot run from step 3. -/
def execMrstLRelease (straps : BitVec 6) (s0 : State) : Host.Outcome State Fault Refusal :=
  s0.always fun d => d.mrstRelease straps

/-- BOOT_CTL_MODULE (R772): A write of BOOT_CTL.MODULE starts a module reset. -/
def execBootCtlModule (fn : Fin 32) (s0 : State) : Host.Outcome State Fault Refusal :=
  s0.always fun d => d.busWrite fn 0x10008 8 2

/-- BOOT_CTL_WARM (R777): A write of BOOT_CTL.WARM starts a warm device reset while STAGE is READY. -/
def execBootCtlWarm (fn : Fin 32) (s0 : State) : Host.Outcome State Fault Refusal :=
  s0.always fun d => d.busWrite fn 0x10008 8 1

/-- WARM_RESET_DONE (R777): A warm device reset completes and STAGE returns to READY. -/
def execWarmResetDone (s0 : State) : Host.Outcome State Fault Refusal :=
  s0.alive fun d => d.warmDone

/-- COMMIT_SVN (R786): A write of BOOT_CTL.COMMIT_SVN burns fuses up to the running image's SVN. -/
def execCommitSvn (fn : Fin 32) (s0 : State) : Host.Outcome State Fault Refusal :=
  s0.always fun d => d.busWrite fn 0x10008 8 4

/-- CFG_ERASE (R792): A write of BOOT_CTL.CFG_ERASE while CFG_BAD is 1 erases both configuration copies. -/
def execCfgErase (fn : Fin 32) (s0 : State) : Host.Outcome State Fault Refusal :=
  s0.always fun d => d.busWrite fn 0x10008 8 8

/-- ROOT_KEY_REVOKE (R787): A write of BOOT_OTP_CTL.REVOKE burns the revocation fuse of a root-key slot. -/
def execRootKeyRevoke (fn : Fin 32) (slot : BitVec 2) (s0 : State) : Host.Outcome State Fault Refusal :=
  s0.always fun d => d.busWrite fn 0x10010 8 (BitVec.ofNat 64 (slot.toNat * 256 + 1))

/-- RECOVERY_GO (R790): A write of BOOT_RCV_CTL.GO in RECOVERY loads, checks and runs a recovery image. -/
def execRecoveryGo (fn : Fin 32) (s0 : State) : Host.Outcome State Fault Refusal :=
  s0.always fun d => d.busWrite fn 0x10090 8 1

/-- PERST_L_ASSERT (R780): PERST_L asserted resets the endpoint, closes sessions, loses zones and abandons DMA. -/
def execPerstLAssert (s0 : State) : Host.Outcome State Fault Refusal :=
  s0.always fun d => d.perstAssert

/-- PERST_L_RELEASE (R782): PERST_L deasserted lets the PCIe link train. -/
def execPerstLRelease (rate : BitVec 4) (width : BitVec 5) (flit : Bool) (s0 : State) : Host.Outcome State Fault Refusal
    :=
  s0.always fun d => d.perstRelease rate.toNat width.toNat flit

/-- PCIE_HOT_RESET (R780): A hot reset received on the link has the effects of a fundamental reset. -/
def execPcieHotReset (rate : BitVec 4) (width : BitVec 5) (flit : Bool) (s0 : State) : Host.Outcome State Fault Refusal :=
  s0.always fun d => d.hotReset rate.toNat width.toNat flit

/-- PF_FLR (R97): A function-level reset of the PF resets every stand. -/
def execPfFlr (s0 : State) : Host.Outcome State Fault Refusal :=
  s0.always fun d => d.pcieTrigger 8

/-- VF_FLR (R96): A function-level reset of a VF resets that stand. -/
def execVfFlr (s : Fin 32) (s0 : State) : Host.Outcome State Fault Refusal :=
  s0.always fun d => d.vfReset s

end Sys2Proof.Machine
end

