-- ==== Sys2Proof/Machine/CmdCruise.lean ====
section
/-!
DEFINITION. Cruise and ownership (13): the meaning of each command.
-/
namespace Sys2Proof.Machine

/-- HELLO (R641): A HELLO from a link partner opens TC2 to TC7 on the port and may carry YOU_FAILED. -/
def execHello (p : Fin 16) (r : Route) (h : ReqHdr) (ch : CruiseHdr) (body : List Byte) (icrc : BitVec 32) (s0 : State) :
    Host.Outcome State Fault Refusal :=
  s0.served fun d => d.rxCtrl 1 p r h ch body icrc

/-- HEARTBEAT (R637): A HEARTBEAT from a link partner shows the link alive for cruise. -/
def execHeartbeat (p : Fin 16) (r : Route) (h : ReqHdr) (ch : CruiseHdr) (body : List Byte) (icrc : BitVec 32) (s0 :
    State) : Host.Outcome State Fault Refusal :=
  s0.served fun d => d.rxCtrl 2 p r h ch body icrc

/-- HEARTBEAT_TIMER (R637): every HB_US the module sends HEARTBEAT to each link partner. -/
def execHeartbeatTimer (s0 : State) : Host.Outcome State Fault Refusal :=
  s0.served fun d => d.heartbeats

/-- HEARTBEAT_TIMEOUT (R637): no HEARTBEAT arrives on a port for 4 × HB_US, and the module floods LINK_DOWN. -/
def execHeartbeatTimeout (p : Fin 16) (s0 : State) : Host.Outcome State Fault Refusal :=
  s0.served fun d => d.heartbeatLost p

/-- ENTRY (R634): A flooded map ENTRY updates the row map and is flooded onwards once. -/
def execEntry (p : Fin 16) (r : Route) (h : ReqHdr) (ch : CruiseHdr) (body : List Byte) (icrc : BitVec 32) (s0 : State) :
    Host.Outcome State Fault Refusal :=
  s0.served fun d => d.rxCtrl 3 p r h ch body icrc

/-- ENTRY_TIMER (R634): at least every 100 ms the module floods its own map entry. -/
def execEntryTimer (s0 : State) : Host.Outcome State Fault Refusal :=
  s0.served fun d => d.floodEntry

/-- SUMMARY (R635): A flooded row SUMMARY updates the hall view. -/
def execSummary (p : Fin 16) (r : Route) (h : ReqHdr) (ch : CruiseHdr) (body : List Byte) (icrc : BitVec 32) (s0 : State)
    : Host.Outcome State Fault Refusal :=
  s0.served fun d => d.rxCtrl 4 p r h ch body icrc

/-- SUMMARY_TIMER (R635): every 1 ms the lowest live node of a row floods the row summary. -/
def execSummaryTimer (s0 : State) : Host.Outcome State Fault Refusal :=
  s0.served fun d => d.summaryTimer

/-- LINK_DOWN (R639): A flooded LINK_DOWN informs lookouts and route selection that a link is down. -/
def execLinkDown (p : Fin 16) (r : Route) (h : ReqHdr) (ch : CruiseHdr) (body : List Byte) (icrc : BitVec 32) (s0 : State)
    : Host.Outcome State Fault Refusal :=
  s0.served fun d => d.rxCtrl 5 p r h ch body icrc

/-- LOOKOUT_TIMEOUT (R639): no link to a watched node has carried heartbeats for FAIL_US, and the lookout declares it
FAILED. -/
def execLookoutTimeout (x : BitVec 16) (s0 : State) : Host.Outcome State Fault Refusal :=
  s0.served fun d => d.lookoutTimeout x.toNat

/-- SELF_FAIL_TIMEOUT (R640): A module whose ports have carried no heartbeats for FAIL_US treats itself as FAILED. -/
def execSelfFailTimeout (s0 : State) : Host.Outcome State Fault Refusal :=
  s0.served fun d => d.selfFailTimeout

/-- FAIL (R639): A flooded FAIL adds a node to the failed set and starts recovery. -/
def execFail (p : Fin 16) (r : Route) (h : ReqHdr) (ch : CruiseHdr) (body : List Byte) (icrc : BitVec 32) (s0 : State) :
    Host.Outcome State Fault Refusal :=
  s0.served fun d => d.rxCtrl 6 p r h ch body icrc

/-- EPOCH_ADVANCE (R644): A flooded EPOCH_ADVANCE raises the cruise epoch, activates STANDBY modules and returns lifted
units. -/
def execEpochAdvance (p : Fin 16) (r : Route) (h : ReqHdr) (ch : CruiseHdr) (body : List Byte) (icrc : BitVec 32) (s0 :
    State) : Host.Outcome State Fault Refusal :=
  s0.served fun d => d.rxCtrl 7 p r h ch body icrc

/-- CMP_ADVANCE (R644): A write of CMP_CTL.ADVANCE floods EPOCH_ADVANCE with the epoch plus 1. -/
def execCmpAdvance (fn : Fin 32) (s0 : State) : Host.Outcome State Fault Refusal :=
  s0.always fun d => d.busWrite fn 0x50018 8 1

/-- OFFER (R656): an OFFER copy sets the home's record to OFFERED, and an OFFER to the new owner awaits acceptance. -/
def execOffer (p : Fin 16) (r : Route) (h : ReqHdr) (ch : CruiseHdr) (body : List Byte) (icrc : BitVec 32) (s0 : State) :
    Host.Outcome State Fault Refusal :=
  s0.served fun d => d.rxCtrl 8 p r h ch body icrc

/-- ACCEPT (R656): an ACCEPT matching the pending offer makes the home commit the new owner. -/
def execAccept (p : Fin 16) (r : Route) (h : ReqHdr) (ch : CruiseHdr) (body : List Byte) (icrc : BitVec 32) (s0 : State) :
    Host.Outcome State Fault Refusal :=
  s0.served fun d => d.rxCtrl 9 p r h ch body icrc

/-- COMMIT (R656): A COMMIT makes the new owner act as owner and updates connection epochs. -/
def execCommit (p : Fin 16) (r : Route) (h : ReqHdr) (ch : CruiseHdr) (body : List Byte) (icrc : BitVec 32) (s0 : State) :
    Host.Outcome State Fault Refusal :=
  s0.served fun d => d.rxCtrl 10 p r h ch body icrc

/-- REVERT (R658): A REVERT returns the slice to its old owner. -/
def execRevert (p : Fin 16) (r : Route) (h : ReqHdr) (ch : CruiseHdr) (body : List Byte) (icrc : BitVec 32) (s0 : State) :
    Host.Outcome State Fault Refusal :=
  s0.served fun d => d.rxCtrl 11 p r h ch body icrc

/-- REFUSE (R657): A REFUSE tells the sender that the home refused its offer or acceptance. -/
def execRefuse (p : Fin 16) (r : Route) (h : ReqHdr) (ch : CruiseHdr) (body : List Byte) (icrc : BitVec 32) (s0 : State) :
    Host.Outcome State Fault Refusal :=
  s0.served fun d => d.rxCtrl 12 p r h ch body icrc

/-- QUERY (R659): A QUERY to a home is answered with the ownership RECORD. -/
def execQuery (p : Fin 16) (r : Route) (h : ReqHdr) (ch : CruiseHdr) (body : List Byte) (icrc : BitVec 32) (s0 : State) :
    Host.Outcome State Fault Refusal :=
  s0.served fun d => d.rxCtrl 13 p r h ch body icrc

/-- RECORD (R659): A RECORD settles the sender's belief about a slice's owner and epoch. -/
def execRecord (p : Fin 16) (r : Route) (h : ReqHdr) (ch : CruiseHdr) (body : List Byte) (icrc : BitVec 32) (s0 : State) :
    Host.Outcome State Fault Refusal :=
  s0.served fun d => d.rxCtrl 14 p r h ch body icrc

/-- ORPHAN_TIMEOUT (R658): an offer still pending ORPHAN_MS after OFFER_TIME reverts the slice and counts an orphan. -/
def execOrphanTimeout (k : Fin 16) (s0 : State) : Host.Outcome State Fault Refusal :=
  s0.served fun d => d.orphan k

/-- OWNER_QUERY_TIMEOUT (R659): A node that has had neither COMMIT nor REVERT within ORPHAN_MS sends QUERY to the home. -/
def execOwnerQueryTimeout (home : BitVec 16) (k : Fin 16) (s0 : State) : Host.Outcome State Fault Refusal :=
  s0.served fun d => d.ownerQuery home.toNat k

/-- SLICE_DEFINE (R648): CMP_SLICE_CTL OP DEFINE takes cells, ports and stands from slice 0 and commits a slice. -/
def execSliceDefine (fn : Fin 32) (k : Fin 16) (target : BitVec 16) (s0 : State) : Host.Outcome State Fault Refusal :=
  s0.always fun d => d.busWrite fn (0x50118 + 32 * k) 8 (BitVec.ofNat 64 (target.toNat * 65536 + 1))

/-- SLICE_OFFER (R656): CMP_SLICE_CTL OP OFFER sends OFFER for a slice to a new owner and disclaims the slice. -/
def execSliceOffer (fn : Fin 32) (k : Fin 16) (target : BitVec 16) (s0 : State) : Host.Outcome State Fault Refusal :=
  s0.always fun d => d.busWrite fn (0x50118 + 32 * k) 8 (BitVec.ofNat 64 (target.toNat * 65536 + 2))

/-- SLICE_RELEASE (R649): CMP_SLICE_CTL OP RELEASE returns a slice's resources to slice 0. -/
def execSliceRelease (fn : Fin 32) (k : Fin 16) (target : BitVec 16) (s0 : State) : Host.Outcome State Fault Refusal :=
  s0.always fun d => d.busWrite fn (0x50118 + 32 * k) 8 (BitVec.ofNat 64 (target.toNat * 65536 + 3))

/-- SLICE_RECLAIM (R661): CMP_SLICE_CTL OP RECLAIM makes the home commit itself as owner. -/
def execSliceReclaim (fn : Fin 32) (k : Fin 16) (target : BitVec 16) (s0 : State) : Host.Outcome State Fault Refusal :=
  s0.always fun d => d.busWrite fn (0x50118 + 32 * k) 8 (BitVec.ofNat 64 (target.toNat * 65536 + 4))

/-- OFFER_ACCEPT (R656): A write of CMP_OFFER_CTL.ACCEPT accepts a pending offer. -/
def execOfferAccept (fn : Fin 32) (s0 : State) : Host.Outcome State Fault Refusal :=
  s0.always fun d => d.busWrite fn 0x50410 8 1

/-- OFFER_REFUSE (R657): A write of CMP_OFFER_CTL.REFUSE refuses a pending offer. -/
def execOfferRefuse (fn : Fin 32) (s0 : State) : Host.Outcome State Fault Refusal :=
  s0.always fun d => d.busWrite fn 0x50410 8 2

/-- SLICE_RESET (R778): an accepted SLICE_RESET resets the slice's stands and cells and recommits the slice. -/
def execSliceReset (p : Fin 16) (r : Route) (h : ReqHdr) (ch : CruiseHdr) (body : List Byte) (icrc : BitVec 32) (s0 :
    State) : Host.Outcome State Fault Refusal :=
  s0.served fun d => d.rxCtrl 23 p r h ch body icrc

end Sys2Proof.Machine
end

