-- ==== Sys2Proof/Machine/CmdFault.lean ====
section
/-!
DEFINITION. Faults, fences and patrol (14): the meaning of each command.
-/
namespace Sys2Proof.Machine

/-- FLT_FORCE_WRITE (R691): A write of 1 to a FLT_FORCE bit makes one occurrence of a fault source, without its device
action. -/
def execFltForceWrite (fn : Fin 32) (w : Fin 32) (v : W64) (s0 : State) : Host.Outcome State Fault Refusal :=
  s0.always fun d => d.busWrite fn (0x21200 + 8 * w) 8 v

/-- FLT_ENABLE_WRITE (R697): A write to FLT_ENABLE changes which set status bits hold ERR_L. -/
def execFltEnableWrite (fn : Fin 32) (w : Fin 32) (v : W64) (s0 : State) : Host.Outcome State Fault Refusal :=
  s0.always fun d => d.busWrite fn (0x21100 + 8 * w) 8 v

/-- FIRST_FAULT_CLEAR (R701): A write of FLT_FIRST_CTL.CLEAR clears the device first-fault latch. -/
def execFirstFaultClear (fn : Fin 32) (s0 : State) : Host.Outcome State Fault Refusal :=
  s0.always fun d => d.busWrite fn 0x20020 8 1

/-- STAND_FAULT_CLEAR (R703): A write of FLT_SF_CTL.CLEAR clears the stand's first-fault latch. -/
def execStandFaultClear (fn : Fin 32) (s : Fin 32) (s0 : State) : Host.Outcome State Fault Refusal :=
  s0.always fun d => d.busWrite fn (winOff fn s 0x4020) 8 1

/-- FLT_FENCE_SET (R710): A write of FLT_FENCE_SET firebreaks a unit with the effects of Table 5 of the fault chapter. -/
def execFltFenceSet (fn : Fin 32) (v : W64) (s0 : State) : Host.Outcome State Fault Refusal :=
  s0.always fun d => d.busWrite fn 0x20110 8 v

/-- FLT_UNFENCE (R715): A write of FLT_UNFENCE lifts a firebreak fence, with a cell reset for a cell. -/
def execFltUnfence (fn : Fin 32) (v : W64) (s0 : State) : Host.Outcome State Fault Refusal :=
  s0.always fun d => d.busWrite fn 0x20118 8 v

/-- CELL_RESET_DONE (R779): A cell reset completes, with the cell's SRAM and registers cleared and its codec slots reloaded.
-/
def execCellResetDone (c : Fin 16) (s0 : State) : Host.Outcome State Fault Refusal :=
  s0.served fun d => d.cellResetDone c

/-- MESH_LINK_FAIL (R45): A mesh link fails, and transfers are rerouted and resent, or the cell is fenced. -/
def execMeshLinkFail (c : Fin 20) (link : BitVec 8) (cut : BitVec 16) (s0 : State) : Host.Outcome State Fault Refusal :=
  s0.served fun d => d.meshFail c link.toNat cut.toNat

/-- CELLPLL_UNLOCK (R693): A CELLPLL loses lock and the cell is fenced. -/
def execCellpllUnlock (c : Fin 16) (s0 : State) : Host.Outcome State Fault Refusal :=
  s0.served fun d => d.cellpllUnlock c

/-- LINKPLL_UNLOCK (R693): A LINKPLL loses lock and the edge's ports go DOWN and retrain. -/
def execLinkpllUnlock (e : Fin 4) (s0 : State) : Host.Outcome State Fault Refusal :=
  s0.served fun d => d.linkpllUnlock e

/-- XTAL0_LOSS (R769): XTAL0 or SYSPLL is lost and the derived domains fall back to FIO. -/
def execXtal0Loss (pll : Bool) (s0 : State) : Host.Outcome State Fault Refusal :=
  s0.alive fun d => d.xtal0Loss pll

/-- XTAL1_LOSS (R769): XTAL1 or TIMEPLL is lost and fabric time enters HOLDOVER on FIO. -/
def execXtal1Loss (pll : Bool) (s0 : State) : Host.Outcome State Fault Refusal :=
  s0.alive fun d => d.xtal1Loss pll

/-- RANGER_WDOG_EXPIRY (R693): the Ranger watchdog expires and RANGER_WDOG is raised. -/
def execRangerWdogExpiry (s0 : State) : Host.Outcome State Fault Refusal :=
  s0.alive fun d => d.rangerWdog

/-- CELL_WATCHDOG (R693): dispatch or bucking in a cell makes no progress for 1 ms while work is queued, and CEL_WDOG is
raised. -/
def execCellWatchdog (c : Fin 16) (s0 : State) : Host.Outcome State Fault Refusal :=
  s0.served fun d => d.cellWdog c

/-- PTL_RUN_WRITE (R719): A write to PTL_RUN queues patrol runs on a unit or on every unit of a kind. -/
def execPtlRunWrite (fn : Fin 32) (c : Fin 16) (v : W64) (s0 : State) : Host.Outcome State Fault Refusal :=
  s0.always fun d => d.busWrite fn (0x1080000 + c * 0x100000) 8 v

/-- PATROL_RUN_START (R720): A patrol unit becomes idle, is held from allocation and its run starts. -/
def execPatrolRunStart (c : Fin 16) (s0 : State) : Host.Outcome State Fault Refusal :=
  s0.served fun d => d.ptlStart c

/-- PATROL_WAIT_TIMEOUT (R720): the unit is not idle within WAIT_US and the run is skipped. -/
def execPatrolWaitTimeout (c : Fin 16) (s0 : State) : Host.Outcome State Fault Refusal :=
  s0.served fun d => d.ptlSkip c

/-- PATROL_RUN_END (R721): A patrol run ends, its result is filed by bin, and a repeated mismatch fences the unit. -/
def execPatrolRunEnd (c : Fin 16) (ok : Bool) (s0 : State) : Host.Outcome State Fault Refusal :=
  s0.served fun d => d.ptlEnd c ok

end Sys2Proof.Machine
end

