-- ==== Sys2Proof/Machine/CmdHost.lean ====
section
/-!
DEFINITION. Host queue commands and events of the host interface (17): the meaning of each command.
-/
namespace Sys2Proof.Machine

/-- PROFILE (R110): the PROFILE command checks a model profile record, defines the slot and returns the completed record
with TPP and MAX_LEN. -/
def execProfile (s : Fin 32) (e : CmdEntry) (s0 : State) : Host.Outcome State Fault Refusal :=
  s0.served fun d => d.hProfile s e

/-- SEQ_INSERT (R151): the SEQ_INSERT command inserts a directory entry with a new, empty page-table set in state resident.
-/
def execSeqInsert (s : Fin 32) (e : CmdEntry) (s0 : State) : Host.Outcome State Fault Refusal :=
  s0.served fun d => d.hSeqInsert s e

/-- SEQ_DELETE (R157): the SEQ_DELETE command removes a directory entry and frees the sequence's pages as their pins drain.
-/
def execSeqDelete (s : Fin 32) (e : CmdEntry) (s0 : State) : Host.Outcome State Fault Refusal :=
  s0.served fun d => d.hSeqDelete s e

/-- SEQ_LOOKUP (R145): the SEQ_LOOKUP command returns the directory value of a handle. -/
def execSeqLookup (s : Fin 32) (e : CmdEntry) (parity : Bool) (s0 : State) : Host.Outcome State Fault Refusal :=
  s0.served fun d => d.hSeqLookup s e parity

/-- YARD_COMMAND (R355): the YARD command sets a resident sequence to yarded and starts its yarding. -/
def execYardCommand (s : Fin 32) (e : CmdEntry) (s0 : State) : Host.Outcome State Fault Refusal :=
  s0.served fun d => d.hYard s e

/-- RESTORE_COMMAND (R169): the RESTORE command accepts or refuses the restore of a yarded sequence. -/
def execRestoreCommand (s : Fin 32) (e : CmdEntry) (s0 : State) : Host.Outcome State Fault Refusal :=
  s0.served fun d => d.hRestore s e

/-- QREC (R552): the QREC command enters one query record into the stand's query ring after the reply check. -/
def execQrec (s : Fin 32) (e : CmdEntry) (s0 : State) : Host.Outcome State Fault Refusal :=
  s0.served fun d => d.hQrec s e

/-- WREC (R553): the WREC command enters one work-order record into the stand's work-order queue after the reply check. -/
def execWrec (s : Fin 32) (e : CmdEntry) (s0 : State) : Host.Outcome State Fault Refusal :=
  s0.served fun d => d.hWrec s e

/-- TRACT_REGISTER (R537): the TRACT REGISTER command checks and registers a tract and returns its key, or sends MIRROR_OPEN
for a mirrored tract. -/
def execTractRegister (s : Fin 32) (e : CmdEntry) (s0 : State) : Host.Outcome State Fault Refusal :=
  s0.served fun d => d.hTractRegister s e

/-- TRACT_REVOKE (R540): the TRACT REVOKE command sets the tract to REVOKING, and every later request to it is answered NAK
KEY_REVOKED. -/
def execTractRevoke (s : Fin 32) (e : CmdEntry) (s0 : State) : Host.Outcome State Fault Refusal :=
  s0.served fun d => d.hTractRevoke s e

/-- TRACT_REVOKED (R542): the tract's in-flight count reaches zero, the tract becomes REVOKED and the revoke completion is
written. -/
def execTractRevoked (i : BitVec 16) (s0 : State) : Host.Outcome State Fault Refusal :=
  s0.served fun d => d.tractRevoked i.toNat

/-- TRACT_HOLD_EXPIRY (R544): the 1 s HOLD of a revoked tract INDEX ends. -/
def execTractHoldExpiry (i : BitVec 16) (s0 : State) : Host.Outcome State Fault Refusal :=
  s0.served fun d => d.tractHoldEnd i.toNat

/-- CONN_OPEN (R524): the CONN OPEN command creates a connection context in state OPENING, or refuses it. -/
def execConnOpen (s : Fin 32) (e : CmdEntry) (s0 : State) : Host.Outcome State Fault Refusal :=
  s0.served fun d => d.hConnOpen s e

/-- CONN_CLOSE (R528): the CONN CLOSE command sets a connection to CLOSING, or frees an OPENING or QUARANTINED context at
once. -/
def execConnClose (s : Fin 32) (e : CmdEntry) (s0 : State) : Host.Outcome State Fault Refusal :=
  s0.served fun d => d.hConnClose s e

/-- CONN_CLOSE_SEND (R528): once every message of a CLOSING connection has finished, the device sends CLOSE. -/
def execConnCloseSend (c : BitVec 16) (s0 : State) : Host.Outcome State Fault Refusal :=
  s0.served fun d => d.closeSend c.toNat

/-- CLOSE_ACK_TIMEOUT (R528): no CLOSE_ACK has arrived 10 ms after CLOSE was sent, and the context is freed. -/
def execCloseAckTimeout (c : BitVec 16) (s0 : State) : Host.Outcome State Fault Refusal :=
  s0.served fun d => d.closeAckTimeout c.toNat

/-- WEIGHT (R815): the WEIGHT command defines, replaces or removes the stand's weight region once earlier sub-orders have
ended. -/
def execWeight (s : Fin 32) (e : CmdEntry) (s0 : State) : Host.Outcome State Fault Refusal :=
  s0.served fun d => d.hWeight s e

/-- SCRATCH (R438): the SCRATCH command allocates or removes the stand's scratch pages and writes their entries to the stage
regions. -/
def execScratch (s : Fin 32) (e : CmdEntry) (s0 : State) : Host.Outcome State Fault Refusal :=
  s0.served fun d => d.hScratch s e

/-- KLOAD (R298): the KLOAD command verifies a kernel image and loads it into a slot, binding the named kinds. -/
def execKload (s : Fin 32) (e : CmdEntry) (s0 : State) : Host.Outcome State Fault Refusal :=
  s0.served fun d => d.hKload s e

/-- KUNLOAD (R301): the KUNLOAD command unbinds a slot, and the slot empties when its last sub-order ends. -/
def execKunload (s : Fin 32) (e : CmdEntry) (s0 : State) : Host.Outcome State Fault Refusal :=
  s0.served fun d => d.hKunload s e

/-- CDC_LOAD (R395): the codec table LOAD operation writes a table and a mode into a slot whose in-use count is zero. -/
def execCdcLoad (s : Fin 32) (e : CmdEntry) (s0 : State) : Host.Outcome State Fault Refusal :=
  s0.served fun d => d.hCdcLoad s e

/-- CDC_SET_MODE (R395): the codec table SET_MODE operation changes the mode of a table slot. -/
def execCdcSetMode (s : Fin 32) (e : CmdEntry) (s0 : State) : Host.Outcome State Fault Refusal :=
  s0.served fun d => d.hCdcSetMode s e

/-- CDC_RECODE (R399): the codec table RECODE operation starts a recode pass over every page coded with a DECODE_ONLY slot.
-/
def execCdcRecode (s : Fin 32) (e : CmdEntry) (s0 : State) : Host.Outcome State Fault Refusal :=
  s0.served fun d => d.hCdcRecode s e

/-- RECODE_PAGE_COMMIT (R399): A recoded tile is committed in place, MIG returns to NONE and the old frame is freed. -/
def execRecodePageCommit (id : BitVec 32) (s0 : State) : Host.Outcome State Fault Refusal :=
  s0.served fun d => d.recodeCommit id.toNat

/-- RECODE_PASS_DONE (R401): A recode pass ends and its completion reports the slot's in-use count. -/
def execRecodePassDone (s0 : State) : Host.Outcome State Fault Refusal :=
  s0.served fun d => d.recodeDone

/-- KKEY (R795): the KKEY command enrols, replaces or removes an operator kernel-signing key in the configuration block. -/
def execKkey (s : Fin 32) (e : CmdEntry) (s0 : State) : Host.Outcome State Fault Refusal :=
  s0.served fun d => d.hKkey s e

/-- FW_UPDATE (R788): the FW_UPDATE command checks a staged firmware image and writes it to module flash. -/
def execFwUpdate (s : Fin 32) (e : CmdEntry) (s0 : State) : Host.Outcome State Fault Refusal :=
  s0.served fun d => d.hFwUpdate s e

/-- CMD_DOORBELL (R811): A write to HIF_CMD_TAIL makes the device fetch the new command entries in queue order. -/
def execCmdDoorbell (fn : Fin 32) (s : Fin 32) (v : W64) (s0 : State) : Host.Outcome State Fault Refusal :=
  s0.always fun d => d.busWrite fn (winOff fn s 0x2010) 8 v

/-- CPL_HEAD_WRITE (R814): A write to HIF_CPL_HEAD frees completion queue entries and lets held backlog entries be written.
-/
def execCplHeadWrite (fn : Fin 32) (s : Fin 32) (v : W64) (s0 : State) : Host.Outcome State Fault Refusal :=
  s0.always fun d => d.busWrite fn (winOff fn s 0x2050) 8 v

/-- QUEUE_ENABLE_WRITE (R821): A write of EN to HIF_CMD_CFG or HIF_CPL_CFG enables the queue and resets its pointers, or
clears ERR. -/
def execQueueEnableWrite (fn : Fin 32) (s : Fin 32) (cpl : Bool) (v : W64) (s0 : State) : Host.Outcome State Fault Refusal
    :=
  s0.always fun d => d.busWrite fn (winOff fn s (if cpl then 0x2048 else 0x2008)) 8 v

/-- IRQ_COALESCE_TIMER (R818): TIME_US passes since the oldest unsignalled completion, and the completion vector is
signalled. -/
def execIrqCoalesceTimer (s : Fin 32) (s0 : State) : Host.Outcome State Fault Refusal :=
  s0.served fun d => d.irqTimer s

/-- KV_APERTURE_ACCESS (R805): A host access through BAR2 is resolved through the aperture windows to a tract, a weight
region or a stored tile. -/
def execKvApertureAccess (fn : Fin 32) (write : Bool) (off : BitVec 36) (size : BitVec 13) (data : List Byte) (bad : Bool)
    (s0 : State) : Host.Outcome State Fault Refusal :=
  s0.always fun d => d.aperture fn off.toNat write size.toNat data bad

/-- BUS_MASTER_ENABLE (R817): A change of a function's Bus Master Enable or D3hot state pauses or resumes its DMA and MSI-X.
-/
def execBusMasterEnable (fn : Fin 32) (bme d3 : Bool) (s0 : State) : Host.Outcome State Fault Refusal :=
  s0.always fun d => d.busMaster fn bme d3

/-- DMA_REQUEST_DONE (R819): A host DMA request completes or fails and the operation that issued it proceeds. -/
def execDmaRequestDone (id : BitVec 32) (res : DmaRes) (s0 : State) : Host.Outcome State Fault Refusal :=
  s0.alive fun d => d.dmaDone id.toNat res

/-- LZ_ENABLE_WRITE (R499): A write to STD_LZ_CTL.EN enables a landing zone, or disables it when it holds no frames. -/
def execLzEnableWrite (fn : Fin 32) (s : Fin 32) (v : W64) (s0 : State) : Host.Outcome State Fault Refusal :=
  s0.always fun d => d.busWrite fn (winOff fn s 0x610) 8 v

/-- TIE_SVC_RES_WRITE (R468): A write to TIE_SVC_RES.GIB stores the service reservation in the configuration block for the
next reset. -/
def execTieSvcResWrite (fn : Fin 32) (c : Fin 16) (v : W64) (s0 : State) : Host.Outcome State Fault Refusal :=
  s0.always fun d => d.busWrite fn (0x1000000 + c * 0x100000 + 0x60800) 8 v

end Sys2Proof.Machine
end

