-- ==== Sys2Proof/Machine/CmdInt.lean ====
section
/-!
DEFINITION. Integer, control and memory instructions (07): the meaning of each command.
-/
namespace Sys2Proof.Machine

/-- ADD (R320): the ADD instruction adds two registers, or a register and an immediate. -/
def execAdd (t : Fin 512) (f : AluF) (s0 : State) : Host.Outcome State Fault Refusal :=
  s0.thread t fun d => d.alu t f .sext false fun _ a b => a + b

/-- SUB (R320): the SUB instruction subtracts. -/
def execSub (t : Fin 512) (f : AluF) (s0 : State) : Host.Outcome State Fault Refusal :=
  s0.thread t fun d => d.alu t f .sext false fun _ a b => a - b

/-- AND (R320): the AND instruction forms a bitwise AND. -/
def execAnd (t : Fin 512) (f : AluF) (s0 : State) : Host.Outcome State Fault Refusal :=
  s0.thread t fun d => d.alu t f .zext false fun _ a b => a &&& b

/-- OR (R320): the OR instruction forms a bitwise OR. -/
def execOr (t : Fin 512) (f : AluF) (s0 : State) : Host.Outcome State Fault Refusal :=
  s0.thread t fun d => d.alu t f .zext false fun _ a b => a ||| b

/-- XOR (R320): the XOR instruction forms a bitwise XOR. -/
def execXor (t : Fin 512) (f : AluF) (s0 : State) : Host.Outcome State Fault Refusal :=
  s0.thread t fun d => d.alu t f .zext false fun _ a b => a ^^^ b

/-- SHL (R320): the SHL instruction shifts left. -/
def execShl (t : Fin 512) (f : AluF) (s0 : State) : Host.Outcome State Fault Refusal :=
  s0.thread t fun d => d.alu t f .shift false fun _ a b => a <<< (b.toNat % 64)

/-- SHR (R320): the SHR instruction shifts right, filling with zeros. -/
def execShr (t : Fin 512) (f : AluF) (s0 : State) : Host.Outcome State Fault Refusal :=
  s0.thread t fun d => d.alu t f .shift false fun _ a b => a >>> (b.toNat % 64)

/-- SAR (R320): the SAR instruction shifts right arithmetically. -/
def execSar (t : Fin 512) (f : AluF) (s0 : State) : Host.Outcome State Fault Refusal :=
  s0.thread t fun d => d.alu t f .shift false fun _ a b => a.sshiftRight (b.toNat % 64)

/-- MUL (R320): the MUL instruction writes the low 64 bits of a product. -/
def execMul (t : Fin 512) (f : AluF) (s0 : State) : Host.Outcome State Fault Refusal :=
  s0.thread t fun d => d.alu t f .sext false fun _ a b => a * b

/-- MULH (R320): the MULH instruction writes the high 64 bits of a signed or unsigned product. -/
def execMulh (t : Fin 512) (f : AluF) (s0 : State) : Host.Outcome State Fault Refusal :=
  s0.thread t fun d => d.alu t f .none true fun u a b => mulHigh u a b

/-- MIN (R320): the MIN instruction writes the smaller operand, signed or unsigned. -/
def execMin (t : Fin 512) (f : AluF) (s0 : State) : Host.Outcome State Fault Refusal :=
  s0.thread t fun d => d.alu t f .sext true fun u a b => minW u a b

/-- MAX (R320): the MAX instruction writes the larger operand, signed or unsigned. -/
def execMax (t : Fin 512) (f : AluF) (s0 : State) : Host.Outcome State Fault Refusal :=
  s0.thread t fun d => d.alu t f .sext true fun u a b => maxW u a b

/-- CMP (R323): the CMP instruction sets a predicate by a comparison. -/
def execCmp (t : Fin 512) (f : RegF) (s0 : State) : Host.Outcome State Fault Refusal :=
  s0.thread t fun d => d.cmp t f

/-- LI (R324): the LI instruction loads a sign-extended 20-bit immediate. -/
def execLi (t : Fin 512) (f : WideF) (s0 : State) : Host.Outcome State Fault Refusal :=
  s0.thread t fun d => d.li t f

/-- LUI (R324): the LUI instruction shifts a register left by 20 bits and inserts an immediate. -/
def execLui (t : Fin 512) (f : WideF) (s0 : State) : Host.Outcome State Fault Refusal :=
  s0.thread t fun d => d.lui t f

/-- BR (R325): the BR instruction branches unconditionally. -/
def execBr (t : Fin 512) (f : BranchF) (s0 : State) : Host.Outcome State Fault Refusal :=
  s0.thread t fun d => d.br t f

/-- BC (R325): the BC instruction branches when its predicate is 1. -/
def execBc (t : Fin 512) (f : BranchF) (s0 : State) : Host.Outcome State Fault Refusal :=
  s0.thread t fun d => d.bc t f

/-- CALL (R325): the CALL instruction pushes the return address and branches. -/
def execCall (t : Fin 512) (f : BranchF) (s0 : State) : Host.Outcome State Fault Refusal :=
  s0.thread t fun d => d.call t f

/-- RET (R325): the RET instruction pops the return address and jumps to it. -/
def execRet (t : Fin 512) (f : RegF) (s0 : State) : Host.Outcome State Fault Refusal :=
  s0.thread t fun d => d.ret t f

/-- LOOP (R327): the LOOP instruction decrements a register and branches while it is not zero. -/
def execLoop (t : Fin 512) (f : BranchF) (s0 : State) : Host.Outcome State Fault Refusal :=
  s0.thread t fun d => d.loop t f

/-- YIELD (R325): the YIELD instruction passes the thread's next issue turn to another ready thread. -/
def execYield (t : Fin 512) (f : RegF) (s0 : State) : Host.Outcome State Fault Refusal :=
  s0.thread t fun d => d.yield t f

/-- HALT (R294): the HALT instruction stops the thread, and is fatal when the thread holds a sub-order. -/
def execHalt (t : Fin 512) (f : RegF) (s0 : State) : Host.Outcome State Fault Refusal :=
  s0.thread t fun d => d.halt t f

/-- LD (R330): the LD instruction loads 1 to 8 bytes, zero-extended. -/
def execLd (t : Fin 512) (f : MemF) (par : Bool) (s0 : State) : Host.Outcome State Fault Refusal :=
  s0.served fun d => d.ldPar t f par

/-- ST (R330): the ST instruction stores 1 to 8 bytes. -/
def execSt (t : Fin 512) (f : MemF) (s0 : State) : Host.Outcome State Fault Refusal :=
  s0.thread t fun d => d.st t f

/-- LDV (R330): the LDV instruction loads 64 bytes into a vector register. -/
def execLdv (t : Fin 512) (f : MemF) (par : Bool) (s0 : State) : Host.Outcome State Fault Refusal :=
  s0.served fun d => d.ldvPar t f par

/-- STV (R330): the STV instruction stores a vector register as two sectors. -/
def execStv (t : Fin 512) (f : MemF) (s0 : State) : Host.Outcome State Fault Refusal :=
  s0.thread t fun d => d.stv t f

/-- PREF (R331): the PREF instruction brings 64 bytes of stage or service memory near the core. -/
def execPref (t : Fin 512) (f : MemF) (s0 : State) : Host.Outcome State Fault Refusal :=
  s0.thread t fun d => d.pref t f

end Sys2Proof.Machine
end

