-- ==== Sys2Proof/Machine/CmdLate.lean ====
section
/-!
DEFINITION. Further events of links, clocks and functions (11, 15, 17): the meaning of each command.
-/
namespace Sys2Proof.Machine

/-- TRAINING_STEP_TIMEOUT (R512): A training step of Table 1 in the Priol chapter passes its time limit, or the identity
exchange fails, and the port either finishes on four lanes or fails training and starts its 100 ms retry wait. -/
def execTrainingStepTimeout (p : Fin 16) (lanes : BitVec 8) (s0 : State) : Host.Outcome State Fault Refusal :=
  s0.served fun d => d.trainTimeout p lanes

/-- CLOCK_SOURCE_READY (R768): A crystal becomes stable, or a PLL locks again, and its ready flag in CLK_STATUS sets, so
that CLK_SEL may select it once more. -/
def execClockSourceReady (b : Fin 32) (s0 : State) : Host.Outcome State Fault Refusal :=
  s0.alive fun d => d.clkNow b

/-- VF_ENABLE (R65): host software enables or disables a stand's virtual function, which changes STD_STATUS.FUNC_EN and
whether host access to the stand exists, while its provisioning stays in place. -/
def execVfEnable (s : Fin 32) (en : Bool) (s0 : State) : Host.Outcome State Fault Refusal :=
  s0.always fun d => d.vfEnable s en

/-- MSIX_UNMASK (R818): host software clears the mask of an MSI-X entry whose pending bit is set, and the device sends the
pending message. -/
def execMsixUnmask (fn : Fin 32) (vec : BitVec 8) (s0 : State) : Host.Outcome State Fault Refusal :=
  s0.always fun d => d.msixUnmask fn vec.toNat

end Sys2Proof.Machine
end

