-- ==== Sys2Proof/Machine/CmdLink.lean ====
section
/-!
DEFINITION. Priol ports (11): the meaning of each command.
-/
namespace Sys2Proof.Machine

/-- PORT_ENABLE (R512): A write of PRT_CTL.EN enables or disables a port and starts training. -/
def execPortEnable (fn : Fin 32) (p : Fin 16) (v : W64) (s0 : State) : Host.Outcome State Fault Refusal :=
  s0.always fun d => d.busWrite fn (0x400000 + p * 0x10000) 8 (putBits v 1 1 0)

/-- PORT_RETRAIN (R511): A write of PRT_CTL.RETRAIN retrains the port. -/
def execPortRetrain (fn : Fin 32) (p : Fin 16) (v : W64) (s0 : State) : Host.Outcome State Fault Refusal :=
  s0.always fun d => d.busWrite fn (0x400000 + p * 0x10000) 8 (putBits v 1 1 1)

/-- PORT_TRAINED (R511): port training completes its identity exchange and credit grant, and the port enters ACTIVE. -/
def execPortTrained (p : Fin 16) (node : BitVec 16) (pport : BitVec 4) (grants : List (BitVec 8)) (s0 : State) :
    Host.Outcome State Fault Refusal :=
  s0.served fun d => d.portTrained p node pport grants

/-- TRAINING_RETRY (R512): A port whose training failed retries from step 1 after 100 ms. -/
def execTrainingRetry (p : Fin 16) (s0 : State) : Host.Outcome State Fault Refusal :=
  s0.served fun d => d.trainRetry p

/-- LINK_FRAME_RX (R509): A link frame arrives, is checked by CRC and FEC, and is acknowledged or asked for again. -/
def execLinkFrameRx (p : Fin 16) (f : LinkFrame) (s0 : State) : Host.Outcome State Fault Refusal :=
  s0.served fun d => d.linkRx p f

/-- IDLE_FRAME_TIMER (R513): an ACTIVE port with nothing to send for 1 µs sends an idle frame. -/
def execIdleFrameTimer (p : Fin 16) (s0 : State) : Host.Outcome State Fault Refusal :=
  s0.served fun d => d.idleFrame p

/-- LINK_RX_TIMEOUT (R513): A port that receives no frame for 10 µs goes down and retrains. -/
def execLinkRxTimeout (p : Fin 16) (s0 : State) : Host.Outcome State Fault Refusal :=
  s0.served fun d => d.linkTimeout p

/-- EGRESS_SELECT (R605): an egress scheduler chooses the next packet by privileged buckets, WFQ, DRR and the gates, and
starts it. -/
def execEgressSelect (p : Fin 16) (s0 : State) : Host.Outcome State Fault Refusal :=
  s0.served fun d => d.egressSelect p

/-- WHEEL_ELIGIBLE (R610): A rate-limited queue's eligible time arrives on the calendar wheel and the queue becomes
eligible. -/
def execWheelEligible (i : Fin 33) (u : Fin 33) (s0 : State) : Host.Outcome State Fault Refusal :=
  s0.served fun d => d.wheelEligible i u

end Sys2Proof.Machine
end

