-- ==== Sys2Proof/Machine/CmdManage.lean ====
section
/-!
DEFINITION. Management and test (16, 17, 18): the meaning of each command.
-/
namespace Sys2Proof.Machine

/-- MCTP_STATUS (R822): the MCTP STATUS command returns BOOT_STATUS, FLT_SUMMARY, PWR_STATE and CMP_STATUS. -/
def execMctpStatus (s0 : State) : Host.Outcome State Fault Refusal :=
  s0.always fun d => d.mctpStatus

/-- MCTP_MODULE_RESET (R822): the MCTP MODULE_RESET command starts a module reset. -/
def execMctpModuleReset (s0 : State) : Host.Outcome State Fault Refusal :=
  s0.always fun d => d.mctpModuleReset

/-- MCTP_WARM_RESET (R822): the MCTP WARM_RESET command starts a warm device reset. -/
def execMctpWarmReset (s0 : State) : Host.Outcome State Fault Refusal :=
  s0.always fun d => d.mctpWarmReset

/-- MCTP_WAKE (R822): the MCTP WAKE command leaves S3. -/
def execMctpWake (s0 : State) : Host.Outcome State Fault Refusal :=
  s0.always fun d => d.mctpWake

/-- MCTP_READ (R822): the MCTP READ command returns an 8-byte register of the allowed blocks. -/
def execMctpRead (off : BitVec 26) (s0 : State) : Host.Outcome State Fault Refusal :=
  s0.always fun d => d.mctpRead off.toNat

/-- ENTDAA (R822): the I3C ENTDAA procedure assigns the device its dynamic address. -/
def execEntdaa (addr : BitVec 7) (s0 : State) : Host.Outcome State Fault Refusal :=
  s0.always fun d => d.entdaa addr

/-- GET_VERSION (R796): the SPDM GET_VERSION request is answered. -/
def execGetVersion (chan : Fin 33) (s0 : State) : Host.Outcome State Fault Refusal :=
  s0.always fun d => d.getVersion chan

/-- GET_CAPABILITIES (R796): the SPDM GET_CAPABILITIES request is answered. -/
def execGetCapabilities (chan : Fin 33) (s0 : State) : Host.Outcome State Fault Refusal :=
  s0.always fun d => d.getCapabilities chan

/-- NEGOTIATE_ALGORITHMS (R796): the SPDM NEGOTIATE_ALGORITHMS request selects P-384, SHA-384 and AES-256-GCM. -/
def execNegotiateAlgorithms (chan : Fin 33) (common : Bool) (s0 : State) : Host.Outcome State Fault Refusal :=
  s0.always fun d => d.negotiate chan common

/-- GET_DIGESTS (R796): the SPDM GET_DIGESTS request returns the certificate chain digests. -/
def execGetDigests (chan : Fin 33) (s0 : State) : Host.Outcome State Fault Refusal :=
  s0.always fun d => d.getDigests chan

/-- GET_CERTIFICATE (R797): the SPDM GET_CERTIFICATE request returns the slot 0 chain. -/
def execGetCertificate (chan : Fin 33) (slot : BitVec 4) (off len : BitVec 16) (s0 : State) : Host.Outcome State Fault
    Refusal :=
  s0.always fun d => d.getCertificate chan slot.toNat off.toNat len.toNat

/-- SPDM_CHALLENGE (R796): the SPDM CHALLENGE request is answered with a signature by the identity key. -/
def execSpdmChallenge (chan : Fin 33) (slot : BitVec 4) (nonce : BitVec 256) (s0 : State) : Host.Outcome State Fault
    Refusal :=
  s0.always fun d => d.spdmChallenge chan slot.toNat nonce

/-- GET_MEASUREMENTS (R798): the SPDM GET_MEASUREMENTS request returns the signed measurement blocks allowed for the
function. -/
def execGetMeasurements (chan : Fin 33) (op : BitVec 8) (nonce : BitVec 256) (sig : Bool) (s0 : State) : Host.Outcome
    State Fault Refusal :=
  s0.always fun d => d.getMeasurements chan op.toNat nonce sig

/-- KEY_EXCHANGE (R796): the SPDM KEY_EXCHANGE request on the PF's DOE starts a session for IDE key management. -/
def execKeyExchange (chan : Fin 33) (s0 : State) : Host.Outcome State Fault Refusal :=
  s0.always fun d => d.keyExchange chan

/-- FINISH (R796): the SPDM FINISH request completes the session handshake. -/
def execFinish (chan : Fin 33) (s0 : State) : Host.Outcome State Fault Refusal :=
  s0.always fun d => d.spdmFinish chan

/-- END_SESSION (R796): the SPDM END_SESSION request ends an SPDM session. -/
def execEndSession (chan : Fin 33) (s0 : State) : Host.Outcome State Fault Refusal :=
  s0.always fun d => d.endSession chan

/-- BYPASS (R834): the TAP BYPASS instruction selects the bypass register. -/
def execBypass (bs : List Bool) (s0 : State) : Host.Outcome State Fault Refusal :=
  s0.always fun d => d.tapBypass bs

/-- IDCODE (R834): the TAP IDCODE instruction returns 0x1064_0B4D. -/
def execIdcode (bs : List Bool) (s0 : State) : Host.Outcome State Fault Refusal :=
  s0.always fun d => d.tapIdcode bs

/-- SAMPLE_PRELOAD (R834): the TAP SAMPLE/PRELOAD instruction samples or preloads the boundary register. -/
def execSamplePreload (bs : List Bool) (s0 : State) : Host.Outcome State Fault Refusal :=
  s0.always fun d => d.tapSample bs

/-- EXTEST (R836): the TAP EXTEST instruction drives the boundary pins only while MRST_L is asserted. -/
def execExtest (bs : List Bool) (s0 : State) : Host.Outcome State Fault Refusal :=
  s0.always fun d => d.tapExtest bs

end Sys2Proof.Machine
end

