-- ==== Sys2Proof/Machine/CmdMirror.lean ====
section
/-!
DEFINITION. Mirroring and lending (13, 10): the meaning of each command.
-/
namespace Sys2Proof.Machine

/-- MIRROR_OPEN (R664): A MIRROR_OPEN makes the partner create a MIRROR tract and answer, or refuse. -/
def execMirrorOpen (p : Fin 16) (r : Route) (h : ReqHdr) (ch : CruiseHdr) (body : List Byte) (icrc : BitVec 32) (s0 :
    State) : Host.Outcome State Fault Refusal :=
  s0.served fun d => d.rxCtrl 15 p r h ch body icrc

/-- MIRROR_ACK (R663): A MIRROR_ACK completes the mirrored registration with its status. -/
def execMirrorAck (p : Fin 16) (r : Route) (h : ReqHdr) (ch : CruiseHdr) (body : List Byte) (icrc : BitVec 32) (s0 :
    State) : Host.Outcome State Fault Refusal :=
  s0.served fun d => d.rxCtrl 16 p r h ch body icrc

/-- MIRROR_OPEN_TIMEOUT (R663): no MIRROR_ACK arrives within 1 ms and the registration completes with TIMEOUT. -/
def execMirrorOpenTimeout (i : BitVec 16) (s0 : State) : Host.Outcome State Fault Refusal :=
  s0.served fun d => d.mirrorTimeout i.toNat

/-- MIRROR_CLOSE (R677): A MIRROR_CLOSE makes the partner delete the copy and release its charges. -/
def execMirrorClose (p : Fin 16) (r : Route) (h : ReqHdr) (ch : CruiseHdr) (body : List Byte) (icrc : BitVec 32) (s0 :
    State) : Host.Outcome State Fault Refusal :=
  s0.served fun d => d.rxCtrl 17 p r h ch body icrc

/-- PROMOTED (R655): A flooded PROMOTED updates the node, key and epoch held for the source tract. -/
def execPromoted (p : Fin 16) (r : Route) (h : ReqHdr) (ch : CruiseHdr) (body : List Byte) (icrc : BitVec 32) (s0 : State)
    : Host.Outcome State Fault Refusal :=
  s0.served fun d => d.rxCtrl 18 p r h ch body icrc

/-- SEQ_NEW (R670): A mirror SEQ_NEW write creates a copy sequence when the profiles agree. -/
def execSeqNew (p : Fin 16) (r : Route) (h : ReqHdr) (m : MirHdr) (data : List Byte) (icrc : BitVec 32) (s0 : State) :
    Host.Outcome State Fault Refusal :=
  s0.served fun d => d.rxPkt p (reqPkt tyPut r h (m.bytes 1 ++ data) icrc)

/-- SEQ_DEL (R671): A mirror SEQ_DEL write deletes a copy sequence. -/
def execSeqDel (p : Fin 16) (r : Route) (h : ReqHdr) (m : MirHdr) (data : List Byte) (icrc : BitVec 32) (s0 : State) :
    Host.Outcome State Fault Refusal :=
  s0.served fun d => d.rxPkt p (reqPkt tyPut r h (m.bytes 2 ++ data) icrc)

/-- TOKENS (R668): A mirror TOKENS write lands tokens into a copy sequence. -/
def execTokens (p : Fin 16) (r : Route) (h : ReqHdr) (m : MirHdr) (data : List Byte) (icrc : BitVec 32) (s0 : State) :
    Host.Outcome State Fault Refusal :=
  s0.served fun d => d.rxPkt p (reqPkt tyPut r h (m.bytes 3 ++ data) icrc)

/-- SECTORS (R671): A mirror SECTORS write writes raw sectors of a copy page. -/
def execSectors (p : Fin 16) (r : Route) (h : ReqHdr) (m : MirHdr) (data : List Byte) (icrc : BitVec 32) (s0 : State) :
    Host.Outcome State Fault Refusal :=
  s0.served fun d => d.rxPkt p (reqPkt tyPut r h (m.bytes 4 ++ data) icrc)

/-- BUFFER (R671): A mirror BUFFER write writes bytes of a mirrored BUFFER copy. -/
def execBuffer (p : Fin 16) (r : Route) (h : ReqHdr) (m : MirHdr) (data : List Byte) (icrc : BitVec 32) (s0 : State) :
    Host.Outcome State Fault Refusal :=
  s0.served fun d => d.rxPkt p (reqPkt tyPut r h (m.bytes 5 ++ data) icrc)

/-- FLUSH (R675): A mirror FLUSH closes an asynchronous interval at the partner. -/
def execFlush (p : Fin 16) (r : Route) (h : ReqHdr) (m : MirHdr) (data : List Byte) (icrc : BitVec 32) (s0 : State) :
    Host.Outcome State Fault Refusal :=
  s0.served fun d => d.rxPkt p (reqPkt tyPut r h (m.bytes 6 ++ data) icrc)

/-- MIRROR_INTERVAL_END (R674): an asynchronous mirror interval ends and FLUSH is sent once its writes are out. -/
def execMirrorIntervalEnd (i : BitVec 16) (s0 : State) : Host.Outcome State Fault Refusal :=
  s0.served fun d => d.mirFlush i.toNat

/-- MIRROR_INTERVAL_APPLY (R675): A whole interval, in order after its predecessor, is applied to the copy. -/
def execMirrorIntervalApply (i : BitVec 16) (s0 : State) : Host.Outcome State Fault Refusal :=
  s0.served fun d => d.mirIntApply i.toNat

/-- LEND_ASK (R685): A LEND_ASK asks a sled neighbour for T1 granules. -/
def execLendAsk (p : Fin 16) (r : Route) (h : ReqHdr) (ch : CruiseHdr) (body : List Byte) (icrc : BitVec 32) (s0 : State)
    : Host.Outcome State Fault Refusal :=
  s0.served fun d => d.rxCtrl 19 p r h ch body icrc

/-- LEND_GRANT (R685): A LEND_GRANT gives the borrower a window tract on the lender. -/
def execLendGrant (p : Fin 16) (r : Route) (h : ReqHdr) (ch : CruiseHdr) (body : List Byte) (icrc : BitVec 32) (s0 :
    State) : Host.Outcome State Fault Refusal :=
  s0.served fun d => d.rxCtrl 20 p r h ch body icrc

/-- RECLAIM (R494): A RECLAIM makes the borrower stop placing tiles in the window and start evacuating it. -/
def execReclaim (p : Fin 16) (r : Route) (h : ReqHdr) (ch : CruiseHdr) (body : List Byte) (icrc : BitVec 32) (s0 : State)
    : Host.Outcome State Fault Refusal :=
  s0.served fun d => d.rxCtrl 21 p r h ch body icrc

/-- RELEASE (R685): A RELEASE tells the lender that the window is empty and may be taken back. -/
def execRelease (p : Fin 16) (r : Route) (h : ReqHdr) (ch : CruiseHdr) (body : List Byte) (icrc : BitVec 32) (s0 : State)
    : Host.Outcome State Fault Refusal :=
  s0.served fun d => d.rxCtrl 22 p r h ch body icrc

end Sys2Proof.Machine
end

