-- ==== Sys2Proof/Machine/CmdNearBank.lean ====
section
/-!
DEFINITION. Near-bank commands (09): the meaning of each command.
-/
namespace Sys2Proof.Machine

/-- NBX (R360): the NBX instruction copies a near-bank program descriptor and queues the program on a page. -/
def execNbx (t : Fin 512) (f : RegF) (s0 : State) : Host.Outcome State Fault Refusal :=
  s0.served fun d => d.nbx t f

/-- NB_PROGRAM_START (R441): A queued near-bank program starts on its page once promotion, earlier programs and migrations
allow, and it takes its hold. -/
def execNbProgramStart (id : BitVec 32) (s0 : State) : Host.Outcome State Fault Refusal :=
  s0.served fun d => d.nbStart id.toNat

/-- NB_SLICE_END (R457): A near-bank slice ends, and the program either continues or pauses for postponed refreshes. -/
def execNbSliceEnd (id : BitVec 32) (rows : BitVec 16) (post : BitVec 4) (bad : Option (BitVec 8)) (s0 : State) :
    Host.Outcome State Fault Refusal :=
  s0.served fun d => d.nbSlice id.toNat rows.toNat post.toNat (bad.map (·.toNat))

/-- REFRESH_PAUSE_END (R458): the postponed refreshes have been issued and the paused program resumes. -/
def execRefreshPauseEnd (id : BitVec 32) (s0 : State) : Host.Outcome State Fault Refusal :=
  s0.served fun d => d.refreshEnd id.toNat

/-- NB_PROGRAM_END (R284): A near-bank program ends and its written sectors are written back, releasing the hold. -/
def execNbProgramEnd (id : BitVec 32) (s0 : State) : Host.Outcome State Fault Refusal :=
  s0.served fun d => d.nbDone id.toNat

/-- NBU_ERROR (R461): an NBU internal error ends the program, quarantines the page and raises NBU_ERR. -/
def execNbuError (id : BitVec 32) (unit kind : BitVec 8) (s0 : State) : Host.Outcome State Fault Refusal :=
  s0.served fun d => d.nbuError id.toNat unit.toNat kind.toNat

/-- NBWAIT (R284): the NBWAIT instruction waits until a near-bank program has ended and written back. -/
def execNbwait (t : Fin 512) (f : RegF) (s0 : State) : Host.Outcome State Fault Refusal :=
  s0.served fun d => d.nbwait t f

end Sys2Proof.Machine
end

