-- ==== Sys2Proof/Machine/CmdOrders.lean ====
section
/-!
DEFINITION. Admission, dispatch and completion of work (05, 06, 12): the meaning of each command.
-/
namespace Sys2Proof.Machine

/-- RECORD_ADMIT (R180): the admission scheduler admits a query record or work order into bucking under contract shaping. -/
def execRecordAdmit (s0 : State) : Host.Outcome State Fault Refusal :=
  s0.served fun d => d.recordAdmit

/-- SUBORDER_ISSUE (R194): bucking delivers a held sub-order to a cell once the cell has room under its 384 limit. -/
def execSuborderIssue (c : Fin 16) (s0 : State) : Host.Outcome State Fault Refusal :=
  s0.served fun d => d.issueHeld c

/-- SUBORDER_DISPATCH (R248): A cell scheduler dispatches a sub-order to a thread waiting in QPOP, binding a core if needed.
-/
def execSuborderDispatch (c : Fin 16) (s0 : State) : Host.Outcome State Fault Refusal :=
  s0.served fun d => d.subDispatch c

/-- SUBORDER_WATCHDOG (R293): A sub-order has run for WDOG_US and its thread takes the WATCHDOG exception. -/
def execSuborderWatchdog (t : Fin 512) (s0 : State) : Host.Outcome State Fault Refusal :=
  s0.served fun d => d.subWatchdog t

/-- RECORD_COMPLETE (R265): the last sub-order of a record or work order ends, and the record is completed with its status.
-/
def execRecordComplete (n clocks : BitVec 32) (s0 : State) : Host.Outcome State Fault Refusal :=
  s0.served fun d => d.recordComplete n.toNat clocks.toNat

/-- PARTIAL_HEADER_SEND (R224): every body message of a large partial record has received ACK DONE, and the header is sent
with NOTICE. -/
def execPartialHeaderSend (n : BitVec 32) (s0 : State) : Host.Outcome State Fault Refusal :=
  s0.served fun d => d.sendHeader n.toNat

/-- MERGE_DEADLINE (R231): an armed merge slot reaches its deadline plus MERGE_GRACE_US and sends what it holds as
INCOMPLETE. -/
def execMergeDeadline (s : Fin 32) (tag : W64) (s0 : State) : Host.Outcome State Fault Refusal :=
  s0.served fun d => d.mergeDeadline s tag.toNat

/-- MERGE_HOLD_EXPIRY (R232): A merge slot not armed within MERGE_HOLD_US is freed and its partials are counted as
discarded. -/
def execMergeHoldExpiry (s : Fin 32) (tag : W64) (s0 : State) : Host.Outcome State Fault Refusal :=
  s0.served fun d => d.mergeExpire s tag.toNat

end Sys2Proof.Machine
end

