-- ==== Sys2Proof/Machine/CmdPacket.lean ====
section
/-!
DEFINITION. Priol packets and their timers (11): the meaning of each command.
-/
namespace Sys2Proof.Machine

/-- PUT (R547): A PUT packet is checked, admitted and placed, and acknowledged, or forwarded when it is not addressed to the
device. -/
def execPut (p : Fin 16) (r : Route) (h : ReqHdr) (data : List Byte) (icrc : BitVec 32) (s0 : State) : Host.Outcome State
    Fault Refusal :=
  s0.served fun d => d.rxPkt p (reqPkt tyPut r h data icrc)

/-- GET (R538): A GET packet is checked and answered with GRSP packets. -/
def execGet (p : Fin 16) (r : Route) (h : ReqHdr) (data : List Byte) (icrc : BitVec 32) (bad : Bool) (s0 : State) :
    Host.Outcome State Fault Refusal :=
  s0.served fun d => (d.reading bad).rxPkt p (reqPkt tyGet r h data icrc)

/-- GRSP (R560): A GRSP packet's bytes are placed in the requester's destination. -/
def execGrsp (p : Fin 16) (r : Route) (h : ReqHdr) (data : List Byte) (icrc : BitVec 32) (s0 : State) : Host.Outcome State
    Fault Refusal :=
  s0.served fun d => d.rxPkt p (reqPkt tyGrsp r h data icrc)

/-- ATOM (R557): an ATOM packet performs its 64-bit atomic once and is answered with ARSP. -/
def execAtom (p : Fin 16) (r : Route) (h : ReqHdr) (data : List Byte) (icrc : BitVec 32) (s0 : State) : Host.Outcome State
    Fault Refusal :=
  s0.served fun d => d.rxPkt p (reqPkt tyAtom r h data icrc)

/-- ARSP (R560): an ARSP packet completes the requester's atomic with the old value. -/
def execArsp (p : Fin 16) (r : Route) (h : RspHdr) (icrc : BitVec 32) (s0 : State) : Host.Outcome State Fault Refusal :=
  s0.served fun d => d.rxPkt p (rspPkt tyArsp r h icrc)

/-- NOTE (R551): A NOTE packet writes 8 bytes and raises a notice. -/
def execNote (p : Fin 16) (r : Route) (h : ReqHdr) (data : List Byte) (icrc : BitVec 32) (s0 : State) : Host.Outcome State
    Fault Refusal :=
  s0.served fun d => d.rxPkt p (reqPkt tyNote r h data icrc)

/-- LAND (R550): A LAND packet places whole tokens into a sequence's pages, or is answered with a NAK. -/
def execLand (p : Fin 16) (r : Route) (h : ReqHdr) (data : List Byte) (icrc : BitVec 32) (s0 : State) : Host.Outcome State
    Fault Refusal :=
  s0.served fun d => d.rxPkt p (reqPkt tyLand r h data icrc)

/-- ACK (R560): an ACK packet acknowledges packets, adjusts the window and may complete a message. -/
def execAck (p : Fin 16) (r : Route) (h : RspHdr) (icrc : BitVec 32) (s0 : State) : Host.Outcome State Fault Refusal :=
  s0.served fun d => d.rxPkt p (rspPkt tyAck r h icrc)

/-- NAK (R563): A NAK packet makes the device resend after the hint, fail the message, or take a new epoch. -/
def execNak (p : Fin 16) (r : Route) (h : RspHdr) (icrc : BitVec 32) (s0 : State) : Host.Outcome State Fault Refusal :=
  s0.served fun d => d.rxPkt p (rspPkt tyNak r h icrc)

/-- ACK_TIMER (R548): placed packets not acknowledged for 1 µs are acknowledged. -/
def execAckTimer (c : BitVec 16) (n : BitVec 32) (s0 : State) : Host.Outcome State Fault Refusal :=
  s0.served fun d => d.ackTimer c.toNat n.toNat

/-- RETX_TIMEOUT (R561): A packet without acknowledgement within the timeout is retransmitted, or its message fails. -/
def execRetxTimeout (c : BitVec 16) (n i : BitVec 32) (s0 : State) : Host.Outcome State Fault Refusal :=
  s0.served fun d => d.retxPkt c.toNat n.toNat i.toNat

/-- RETRY_AFTER_EXPIRY (R563): A NAK's retry-after time passes and the packet is sent again. -/
def execRetryAfterExpiry (c : BitVec 16) (n i : BitVec 32) (s0 : State) : Host.Outcome State Fault Refusal :=
  s0.served fun d => d.retryPkt c.toNat n.toNat i.toNat

/-- MESSAGE_TIMEOUT (R559): an inbound message that has received no packet for MSG_TMO_US is abandoned. -/
def execMessageTimeout (c : BitVec 16) (n : BitVec 32) (s0 : State) : Host.Outcome State Fault Refusal :=
  s0.served fun d => d.msgTimeout c.toNat n.toNat

/-- OPEN_REQ (R525): A CONN OPEN_REQ is answered with OPEN_ACK when a matching context is OPENING or OPEN. -/
def execOpenReq (p : Fin 16) (r : Route) (h : ConnHdr) (icrc : BitVec 32) (s0 : State) : Host.Outcome State Fault Refusal
    :=
  s0.served fun d => d.rxConn p 1 r h icrc

/-- OPEN_ACK (R525): A CONN OPEN_ACK makes the OPENING context OPEN and completes the open command. -/
def execOpenAck (p : Fin 16) (r : Route) (h : ConnHdr) (icrc : BitVec 32) (s0 : State) : Host.Outcome State Fault Refusal
    :=
  s0.served fun d => d.rxConn p 2 r h icrc

/-- CLOSE (R859): A CONN CLOSE is answered with CLOSE_ACK, the context is freed and its messages fail. -/
def execClose (p : Fin 16) (r : Route) (h : ConnHdr) (icrc : BitVec 32) (s0 : State) : Host.Outcome State Fault Refusal :=
  s0.served fun d => d.rxConn p 3 r h icrc

/-- CLOSE_ACK (R528): A CONN CLOSE_ACK frees the CLOSING context. -/
def execCloseAck (p : Fin 16) (r : Route) (h : ConnHdr) (icrc : BitVec 32) (s0 : State) : Host.Outcome State Fault Refusal
    :=
  s0.served fun d => d.rxConn p 4 r h icrc

/-- OPEN_REQ_TIMER (R525): the lower node sends OPEN_REQ for an OPENING context every 100 µs. -/
def execOpenReqTimer (c : BitVec 16) (s0 : State) : Host.Outcome State Fault Refusal :=
  s0.served fun d => d.openReq c.toNat

/-- CONN_OPEN_TIMEOUT (R525): A context still OPENING after OPEN_MS becomes FREE and its command completes with TIMEOUT. -/
def execConnOpenTimeout (c : BitVec 16) (s0 : State) : Host.Outcome State Fault Refusal :=
  s0.served fun d => d.openTimeout c.toNat

/-- CONTEXT_EVICT (R530): A context idle for IDLE_MS starts its eviction to the host context area. -/
def execContextEvict (c : BitVec 16) (s0 : State) : Host.Outcome State Fault Refusal :=
  s0.served fun d => d.evictCtx c.toNat

/-- CONTEXT_FETCH_DONE (R532): A fetched context arrives on chip and its parked packets are checked and placed. -/
def execContextFetchDone (c : BitVec 16) (s0 : State) : Host.Outcome State Fault Refusal :=
  s0.served fun d => d.fetchDone c.toNat

/-- CONTEXT_FETCH_HOLD (R533): FETCH_HOLD_US passes before the context arrives, and the parked packets are answered NAK
NOT_RESIDENT. -/
def execContextFetchHold (c : BitVec 16) (s0 : State) : Host.Outcome State Fault Refusal :=
  s0.served fun d => d.fetchHold c.toNat

end Sys2Proof.Machine
end

