-- ==== Sys2Proof/Machine/CmdPages.lean ====
section
/-!
DEFINITION. Page, directory and placement events (04, 08, 10): the meaning of each command.
-/
namespace Sys2Proof.Machine

/-- PAGE_SEAL (R126): A page whose TOKENS reach TPP is compressed and written as a new tile, which is committed at its table
entry. -/
def execPageSeal (set : BitVec 32) (l : BitVec 8) (p : BitVec 32) (s0 : State) : Host.Outcome State Fault Refusal :=
  s0.served fun d => d.sealPage set.toNat l.toNat p.toNat

/-- HELD_EDIT_PUBLISH (R136): A pinned generation drains and edits held under the four-generation limit are published. -/
def execHeldEditPublish (set : BitVec 32) (l : BitVec 8) (s0 : State) : Host.Outcome State Fault Refusal :=
  s0.served fun d => Dev.publishHeld set.toNat l.toNat d.held.length d

/-- TABLE_PAGE_FREE (R137): A replaced generation's pin count reaches zero and its unshared table pages are freed. -/
def execTablePageFree (set : BitVec 32) (l : BitVec 8) (s0 : State) : Host.Outcome State Fault Refusal :=
  s0.served fun d => d.reapGens set.toNat l.toNat

/-- FRAME_FREE (R138): every walk that began before a commit is released and the source frame is freed. -/
def execFrameFree (s0 : State) : Host.Outcome State Fault Refusal :=
  s0.served fun d => d.freeReady fun _ => true

/-- DIR_SCRUB_PASS (R148): the scrubber compares directory entries with their shadow and corrects any mismatch. -/
def execDirScrubPass (bad : List (BitVec 24)) (s0 : State) : Host.Outcome State Fault Refusal :=
  s0.served fun d => if d.gateOn 18 then d.scrubPass (bad.map (·.toNat)) else d

/-- HEAT_EPOCH (R477): A new heat epoch halves the HEAT of every page-table entry. -/
def execHeatEpoch (s0 : State) : Host.Outcome State Fault Refusal :=
  s0.served fun d => d.heatEpochStep

/-- MIGRATION_START (R485): A requested promotion, eviction or evacuation starts once a migration slot is free, marking MIG
and allocating frames. -/
def execMigrationStart (set : BitVec 32) (l : BitVec 8) (p : BitVec 32) (s0 : State) : Host.Outcome State Fault Refusal :=
  s0.served fun d => d.migrateStart set.toNat l.toNat p.toNat

/-- MIGRATION_COMMIT (R485): A tile copy completes, is checked, and the move commits with TIER, FRAME and CLEN. -/
def execMigrationCommit (id : BitVec 32) (s0 : State) : Host.Outcome State Fault Refusal :=
  s0.served fun d => d.migrationCommit id.toNat

/-- LEND_DEADLINE (R496): the lender's 10 ms deadline after a reclaim passes, and the window is taken back. -/
def execLendDeadline (n : BitVec 16) (s0 : State) : Host.Outcome State Fault Refusal :=
  s0.served fun d => d.lendDeadline n.toNat

end Sys2Proof.Machine
end

