-- ==== Sys2Proof/Machine/CmdPower.lean ====
section
/-!
DEFINITION. Power, temperature and clocks (15): the meaning of each command.
-/
namespace Sys2Proof.Machine

/-- VIN_SAMPLE (R741): every 100 ns VIN is sampled and the supply warning is started or ended. -/
def execVinSample (mv : BitVec 32) (s0 : State) : Host.Outcome State Fault Refusal :=
  s0.always fun d => d.vinSample mv.toNat

/-- SUPPLY_HOLD_END (R744): the 1 ms hold after a supply warning ends and the supply cap is removed. -/
def execSupplyHoldEnd (s0 : State) : Host.Outcome State Fault Refusal :=
  s0.alive fun d => d.holdEnd

/-- TEMP_SAMPLE (R747): every 10 µs die temperatures are sampled and thermal faults are raised. -/
def execTempSample (ts : List (BitVec 8)) (s0 : State) : Host.Outcome State Fault Refusal :=
  s0.alive fun d => d.tempSample (ts.map (·.toNat))

/-- THERMAL_CAP_TIMER (R748): each 1 ms above WARN_C slows the thermal cap, and each 10 ms below it speeds the cap. -/
def execThermalCapTimer (s0 : State) : Host.Outcome State Fault Refusal :=
  s0.alive fun d => d.thermTimer

/-- THERM_L_ASSERT (R750): THERM_L asserted sets the THERM_L cap to OP3 and raises THERM_IN. -/
def execThermLAssert (s0 : State) : Host.Outcome State Fault Refusal :=
  s0.always fun d => d.thermAssert

/-- THERM_L_RELEASE (R750): THERM_L is released and the cap removal timer starts. -/
def execThermLRelease (s0 : State) : Host.Outcome State Fault Refusal :=
  s0.always fun d => d.thermRelease

/-- THERM_L_CAP_END (R750): 1 ms after release of THERM_L, the THERM_L cap is removed. -/
def execThermLCapEnd (s0 : State) : Host.Outcome State Fault Refusal :=
  s0.alive fun d => d.thermCapEnd

/-- AVS_REQUEST_DONE (R732): an AVSBus voltage request is acknowledged by VDone and read-back. -/
def execAvsRequestDone (l : Fin 6) (us : BitVec 16) (retries : BitVec 16) (s0 : State) : Host.Outcome State Fault Refusal
    :=
  s0.alive fun d => d.avsDone l us.toNat retries.toNat

/-- AVS_TIMEOUT (R733): an AVSBus request is not acknowledged within 200 µs and AVS_NOACK is raised. -/
def execAvsTimeout (l : Fin 6) (s0 : State) : Host.Outcome State Fault Refusal :=
  s0.alive fun d => d.avsTimeout l

/-- OP_STEP (R738): the sequencer moves the operating point one step toward the goal. -/
def execOpStep (s0 : State) : Host.Outcome State Fault Refusal :=
  s0.alive fun d => d.opStep

/-- CELL_S1_ENTRY (R757): A cell idle for S1_IDLE_NS enters S1. -/
def execCellS1Entry (c : Fin 16) (s0 : State) : Host.Outcome State Fault Refusal :=
  s0.served fun d => d.s1Entry c

/-- CELL_S2_ENTRY (R758): A cell in S1 idle for S2_IDLE_US, with no refuser, starts entering S2. -/
def execCellS2Entry (c : Fin 16) (s0 : State) : Host.Outcome State Fault Refusal :=
  s0.served fun d => d.s2Entry c

/-- CELL_WAKE (R754): A demand on a cell in S1 or S2 starts its wake, and the access stalls. -/
def execCellWake (c : Fin 16) (s0 : State) : Host.Outcome State Fault Refusal :=
  s0.alive fun d => d.cellWake c

/-- CELL_WAKE_DONE (R753): LOGIC_RDY is set, the cell's state is restored and the stalled access is performed. -/
def execCellWakeDone (c : Fin 16) (s0 : State) : Host.Outcome State Fault Refusal :=
  s0.alive fun d => d.cellWakeDone c

/-- S3_ENTRY_REQ (R760): PWR_STATE_CTL.REQ 3 starts S3 entry after the refusers are checked. -/
def execS3EntryReq (fn : Fin 32) (s0 : State) : Host.Outcome State Fault Refusal :=
  s0.always fun d => d.busWrite fn 0x30008 8 3

/-- S4_ENTRY_REQ (R763): PWR_STATE_CTL.REQ 4 starts S4 entry. -/
def execS4EntryReq (fn : Fin 32) (s0 : State) : Host.Outcome State Fault Refusal :=
  s0.always fun d => d.busWrite fn 0x30008 8 4

/-- LOW_POWER_ENTRY_DONE (R760): S2, S3 or S4 entry completes with the domains powered off, or is aborted. -/
def execLowPowerEntryDone (u : Fin 17) (s0 : State) : Host.Outcome State Fault Refusal :=
  s0.alive fun d => d.lpDone u

/-- S3_EXIT_REQ (R762): PWR_STATE_CTL.REQ 0 starts the exit from S3. -/
def execS3ExitReq (fn : Fin 32) (s0 : State) : Host.Outcome State Fault Refusal :=
  s0.always fun d => d.busWrite fn 0x30008 8 0

/-- S3_EXIT_DONE (R762): the module reaches S0 from S3, with the directory rebuilt and ports retraining. -/
def execS3ExitDone (s0 : State) : Host.Outcome State Fault Refusal :=
  s0.alive fun d => d.s3ExitDone

/-- WAKE_L_ASSERT (R762): WAKE_L asserted leaves S3, starts a full boot from S4, or aborts an entry. -/
def execWakeLAssert (s0 : State) : Host.Outcome State Fault Refusal :=
  s0.always fun d => d.wakeL

/-- CLK_SEL_WRITE (R768): A write to CLK_SEL switches a domain's clock glitch-free, or is refused. -/
def execClkSelWrite (fn : Fin 32) (k : Fin 19) (v : W64) (s0 : State) : Host.Outcome State Fault Refusal :=
  s0.always fun d => d.busWrite fn (0x38100 + 8 * k) 8 v

/-- CLK_GATE_WRITE (R770): A write to CLK_GATE gates or ungates block clocks where allowed. -/
def execClkGateWrite (fn : Fin 32) (v : W64) (s0 : State) : Host.Outcome State Fault Refusal :=
  s0.always fun d => d.busWrite fn 0x38008 8 v

end Sys2Proof.Machine
end

