-- ==== Sys2Proof/Machine/CmdRegs.lean ====
section
/-!
DEFINITION. Register and session commands (00, 03, 17): the meaning of each command.
-/
namespace Sys2Proof.Machine

/-- REGISTER_WRITE (R6): A write to a register field that has no step of its own takes effect according to its access code.
-/
def execRegisterWrite (fn : Fin 32) (off : BitVec 26) (size : BitVec 4) (v : W64) (s0 : State) : Host.Outcome State Fault
    Refusal :=
  s0.always fun d => d.busWrite fn off.toNat size.toNat v

/-- GLB_LOCK_WRITE (R7): A write of 1 to GLB_LOCK.LOCK by stand 0 locks every RWL field until module reset or power-on. -/
def execGlbLockWrite (fn : Fin 32) (v : W64) (s0 : State) : Host.Outcome State Fault Refusal :=
  s0.always fun d => d.busWrite fn 0x18 8 v

/-- ALIAS_WRITE (R105): A write through the broadcast alias, a group alias or a per-channel broadcast window reaches every
selected cell, unit or channel that is not fenced and is powered. -/
def execAliasWrite (fn : Fin 32) (off : BitVec 26) (size : BitVec 4) (v : W64) (s0 : State) : Host.Outcome State Fault
    Refusal :=
  s0.always fun d => d.busWrite fn off.toNat size.toNat v

/-- STD_KEY_COMMIT (R70): A write of STD_KEY_CTL.COMMIT installs the staged key, clears the staging registers and resets the
slot's session, count and lockout. -/
def execStdKeyCommit (fn : Fin 32) (s : Fin 32) (s0 : State) : Host.Outcome State Fault Refusal :=
  s0.always fun d => d.busWrite fn (winOff fn s 0x70) 8 1

/-- STD_KEY_ERASE (R71): A write of STD_KEY_CTL.ERASE empties the key slot and closes the stand's session. -/
def execStdKeyErase (fn : Fin 32) (s : Fin 32) (s0 : State) : Host.Outcome State Fault Refusal :=
  s0.always fun d => d.busWrite fn (winOff fn s 0x70) 8 2

/-- SES_CHALLENGE (R75): A write of SES_CTL.CHALLENGE passes the checks of R82 and starts drawing a fresh nonce, with
PENDING set. -/
def execSesChallenge (fn : Fin 32) (s : Fin 32) (s0 : State) : Host.Outcome State Fault Refusal :=
  s0.always fun d => d.busWrite fn (winOff fn s 0x1010) 8 1

/-- CHALLENGE_DONE (R75): the nonce is placed, STATE becomes CHALLENGED, RESULT becomes ISSUED and PENDING clears. -/
def execChallengeDone (s : Fin 32) (s0 : State) : Host.Outcome State Fault Refusal :=
  s0.served fun d => d.challengeDone s

/-- SES_SUBMIT (R77): A write of SES_CTL.SUBMIT passes the checks of R82 and starts comparing the proof with the device's
HMAC. -/
def execSesSubmit (fn : Fin 32) (s : Fin 32) (s0 : State) : Host.Outcome State Fault Refusal :=
  s0.always fun d => d.busWrite fn (winOff fn s 0x1010) 8 2

/-- SUBMIT_DONE (R77): the proof comparison ends: on a match the session opens, and on a mismatch the failure count rises.
-/
def execSubmitDone (s : Fin 32) (s0 : State) : Host.Outcome State Fault Refusal :=
  s0.served fun d => d.submitDone s

/-- SES_CLOSE (R86): A write of SES_CTL.CLOSE closes the open session, or abandons a pending operation under R851. -/
def execSesClose (fn : Fin 32) (s : Fin 32) (s0 : State) : Host.Outcome State Fault Refusal :=
  s0.always fun d => d.busWrite fn (winOff fn s 0x1010) 8 4

/-- NONCE_EXPIRY (R76): A nonce that has had no SUBMIT expires 1 s after it was drawn, and STATE returns to CLOSED. -/
def execNonceExpiry (s : Fin 32) (s0 : State) : Host.Outcome State Fault Refusal :=
  s0.served fun d => d.nonceExpiry s

/-- LOCKOUT_END (R80): the lockout period of a slot expires and the slot leaves LOCKED. -/
def execLockoutEnd (s : Fin 32) (s0 : State) : Host.Outcome State Fault Refusal :=
  s0.served fun d => d.lockoutEnd s

/-- SESSION_IDLE_TIMEOUT (R86): A session that has accepted no access for STD_SES_IDLE.IDLE_MS is closed. -/
def execSessionIdleTimeout (s : Fin 32) (s0 : State) : Host.Outcome State Fault Refusal :=
  s0.served fun d => d.sesIdle s

/-- STAND_RESET (R96): A write of STD_RESET.GO, or a fault reaction, starts a stand reset and sets RST_BUSY. -/
def execStandReset (fn : Fin 32) (s : Fin 32) (s0 : State) : Host.Outcome State Fault Refusal :=
  s0.always fun d => d.busWrite fn (winOff fn s 0x8) 8 1

/-- STAND_RESET_DONE (R98): A stand reset completes with the effects of Table 6, and RST_BUSY clears. -/
def execStandResetDone (s : Fin 32) (s0 : State) : Host.Outcome State Fault Refusal :=
  s0.served fun d => d.standResetDone s

/-- QUOTA_COMMIT (R91): A write of STD_Q_CTL.COMMIT applies all five staged quotas together, or refuses them all under R92.
-/
def execQuotaCommit (fn : Fin 32) (s : Fin 32) (s0 : State) : Host.Outcome State Fault Refusal :=
  s0.always fun d => d.busWrite fn (winOff fn s 0x128) 8 1

end Sys2Proof.Machine
end

