-- ==== Sys2Proof/Machine/CmdSys.lean ====
section
/-!
DEFINITION. Remote, queue, time and system instructions (07): the meaning of each command.
-/
namespace Sys2Proof.Machine

/-- RPUT (R367): the RPUT instruction puts stage bytes to a remote tract, with an optional notice. -/
def execRput (t : Fin 512) (f : LongF) (func : BitVec 10) (s0 : State) : Host.Outcome State Fault Refusal :=
  s0.served fun d => d.rput t f func

/-- RGET (R368): the RGET instruction gets bytes from a remote tract into stage memory. -/
def execRget (t : Fin 512) (f : LongF) (func : BitVec 10) (s0 : State) : Host.Outcome State Fault Refusal :=
  s0.served fun d => d.rget t f func

/-- RATOM (R364): the RATOM instruction performs a 64-bit atomic at a remote tract. -/
def execRatom (t : Fin 512) (f : LongF) (func : BitVec 10) (s0 : State) : Host.Outcome State Fault Refusal :=
  s0.served fun d => d.ratom t f func

/-- RNOTE (R363): the RNOTE instruction writes 8 bytes at a remote tract and raises a notice. -/
def execRnote (t : Fin 512) (f : LongF) (func : BitVec 10) (s0 : State) : Host.Outcome State Fault Refusal :=
  s0.served fun d => d.rnote t f func

/-- RFENCE (R285): the RFENCE instruction waits until every earlier remote operation has been acknowledged. -/
def execRfence (t : Fin 512) (f : LongF) (func : BitVec 10) (s0 : State) : Host.Outcome State Fault Refusal :=
  s0.served fun d => d.rfence t f func

/-- QPOP (R260): the QPOP instruction waits for a sub-order and writes its descriptor. -/
def execQpop (t : Fin 512) (f : RegF) (s0 : State) : Host.Outcome State Fault Refusal :=
  s0.served fun d => d.qpop t f

/-- QPUSH (R263): the QPUSH instruction ends the sub-order once its operations have drained, and releases its resources. -/
def execQpush (t : Fin 512) (f : RegF) (s0 : State) : Host.Outcome State Fault Refusal :=
  s0.served fun d => d.qpush t f

/-- QPEEK (R266): the QPEEK instruction returns the number of sub-orders queued for the binding. -/
def execQpeek (t : Fin 512) (f : RegF) (s0 : State) : Host.Outcome State Fault Refusal :=
  s0.thread t fun d => d.qpeek t f

/-- TIME (R371): the TIME instruction returns the device's fabric time. -/
def execTime (t : Fin 512) (f : RegF) (s0 : State) : Host.Outcome State Fault Refusal :=
  s0.thread t fun d => d.time t f

/-- TSLEEP (R372): the TSLEEP instruction waits until a fabric time, or for a number of nanoseconds. -/
def execTsleep (t : Fin 512) (f : RegF) (s0 : State) : Host.Outcome State Fault Refusal :=
  s0.served fun d => d.tsleep t f

/-- TSLEEP_WAKE (R372): A sleeping thread's time is reached and the thread becomes ready. -/
def execTsleepWake (t : Fin 512) (s0 : State) : Host.Outcome State Fault Refusal :=
  s0.served fun d => d.tsleepWake t

/-- SYSR (R304): the SYSR instruction reads a thread system register, or a device register with n = 0x3FF. -/
def execSysr (t : Fin 512) (f : RegF) (s0 : State) : Host.Outcome State Fault Refusal :=
  s0.served fun d => d.sysr t f

/-- SYSW (R305): the SYSW instruction writes a thread system register, or a device register with n = 0x3FF. -/
def execSysw (t : Fin 512) (f : RegF) (s0 : State) : Host.Outcome State Fault Refusal :=
  s0.served fun d => d.sysw t f

/-- FAULT (R373): the FAULT instruction raises the kernel assertion fault, attributed to the stand. -/
def execFault (t : Fin 512) (f : RegF) (s0 : State) : Host.Outcome State Fault Refusal :=
  s0.served fun d => d.kfault t f

/-- SESS (R374): the SESS instruction returns SES_STATUS of the thread's stand, or of a named stand for stand 0. -/
def execSess (t : Fin 512) (f : RegF) (s0 : State) : Host.Outcome State Fault Refusal :=
  s0.served fun d => d.sess t f

/-- BLAZE (R306): the BLAZE instruction writes a trace record into the stand's blaze ring, or drops it. -/
def execBlaze (t : Fin 512) (f : RegF) (s0 : State) : Host.Outcome State Fault Refusal :=
  s0.served fun d => d.blazeOp t f

end Sys2Proof.Machine
end

