-- ==== Sys2Proof/Machine/CmdTable.lean ====
section
/-!
DEFINITION. Memory-system instructions (07): the meaning of each command.
-/
namespace Sys2Proof.Machine

/-- PWALK (R349): the PWALK instruction walks the page table of SEQ_KEY and pins the layer's generation. -/
def execPwalk (t : Fin 512) (f : RegF) (s0 : State) : Host.Outcome State Fault Refusal :=
  s0.served fun d => d.pwalk t f

/-- PWALK_R (R350): the PWALK.R instruction releases the thread's pin on a layer. -/
def execPwalkR (t : Fin 512) (f : RegF) (s0 : State) : Host.Outcome State Fault Refusal :=
  s0.served fun d => d.pwalkR t f

/-- DLOOK (R352): the DLOOK instruction returns a directory value. -/
def execDlook (t : Fin 512) (f : RegF) (parity : Bool) (s0 : State) : Host.Outcome State Fault Refusal :=
  s0.served fun d => d.dlook t f parity

/-- DINS (R353): the DINS instruction inserts a directory entry. -/
def execDins (t : Fin 512) (f : RegF) (s0 : State) : Host.Outcome State Fault Refusal :=
  s0.served fun d => d.dins t f

/-- DDEL (R353): the DDEL instruction deletes a directory entry. -/
def execDdel (t : Fin 512) (f : RegF) (s0 : State) : Host.Outcome State Fault Refusal :=
  s0.served fun d => d.ddel t f

/-- DIR_UPDATE_DONE (R146): an insertion or deletion completes its entry moves and becomes visible to every later lookup. -/
def execDirUpdateDone (s0 : State) : Host.Outcome State Fault Refusal :=
  s0.served fun d => d.dirUpdateDone Dev.tableDone

/-- MHINT (R354): the MHINT instruction writes HEAT or sets NEW_TIER or NO_DEMOTE for SEQ_KEY. -/
def execMhint (t : Fin 512) (f : RegF) (s0 : State) : Host.Outcome State Fault Refusal :=
  s0.served fun d => d.mhint t f

/-- YARD (R355): the YARD instruction sets a resident sequence to yarded and starts its yarding. -/
def execYard (t : Fin 512) (f : RegF) (s0 : State) : Host.Outcome State Fault Refusal :=
  s0.served fun d => d.kYard t f

/-- RESTORE (R356): the RESTORE instruction accepts or refuses a restore. -/
def execRestore (t : Fin 512) (f : RegF) (s0 : State) : Host.Outcome State Fault Refusal :=
  s0.served fun d => d.kRestore t f

/-- DIGEST (R358): the DIGEST instruction clears DIGEST_STALE, recomputes the page's CRC-64 and writes it. -/
def execDigest (t : Fin 512) (f : RegF) (s0 : State) : Host.Outcome State Fault Refusal :=
  s0.served fun d => d.digest t f

end Sys2Proof.Machine
end

