-- ==== Sys2Proof/Machine/CmdTile.lean ====
section
/-!
DEFINITION. Tile instructions (07): the meaning of each command.
-/
namespace Sys2Proof.Machine

/-- TFETCH_Q (R272): the TFETCH.Q instruction binds a row set and loads query rows into it. -/
def execTfetchQ (t : Fin 512) (f : LongF) (s0 : State) : Host.Outcome State Fault Refusal :=
  s0.served fun d => d.tile t f true false fun d x h _ => d.fetchQ t x h (x.rg f.a.toNat) (x.rg f.b.toNat)

/-- TFETCH_N (R272): the TFETCH.N instruction binds an operand handle and fills it with a page's blocks. -/
def execTfetchN (t : Fin 512) (f : LongF) (s0 : State) : Host.Outcome State Fault Refusal :=
  s0.served fun d => d.tile t f true false fun d x h _ => d.fetchN t x h (x.rg f.a.toNat) (x.rg f.b.toNat)

/-- TFETCH_A (R272): the TFETCH.A instruction appends a page to an operand handle. -/
def execTfetchA (t : Fin 512) (f : LongF) (s0 : State) : Host.Outcome State Fault Refusal :=
  s0.served fun d => d.tile t f true false fun d x h _ => d.fetchA t x h (x.rg f.a.toNat) (x.rg f.b.toNat)

/-- TFETCH_WN (R272): the TFETCH.WN instruction binds an operand handle with the window's own keys and values. -/
def execTfetchWn (t : Fin 512) (f : LongF) (s0 : State) : Host.Outcome State Fault Refusal :=
  s0.served fun d => d.tile t f true false fun d x h _ => d.fetchWN t x h (x.rg f.a.toNat) (x.rg f.b.toNat)

/-- TFETCH_WA (R272): the TFETCH.WA instruction appends the window's own keys and values to a handle. -/
def execTfetchWa (t : Fin 512) (f : LongF) (s0 : State) : Host.Outcome State Fault Refusal :=
  s0.served fun d => d.tile t f true false fun d x h _ => d.fetchWA t x h (x.rg f.a.toNat) (x.rg f.b.toNat)

/-- TFETCH_M (R340): the TFETCH.M instruction binds a matrix row set from an activation tile. -/
def execTfetchM (t : Fin 512) (f : LongF) (s0 : State) : Host.Outcome State Fault Refusal :=
  s0.served fun d => d.tile t f true false fun d x h _ => d.fetchM t x h (x.rg f.a.toNat) (x.rg f.b.toNat)

/-- TFETCH_W (R341): the TFETCH.W instruction binds a weight operand from the stand's weight region. -/
def execTfetchW (t : Fin 512) (f : LongF) (bad : Bool) (s0 : State) : Host.Outcome State Fault Refusal :=
  s0.served fun d => (d.reading bad).tile t f true false fun d x h _ => d.fetchW t x h (x.rg f.a.toNat) (x.rg f.b.toNat)

/-- TQK (R198): the TQK instruction computes masked scores of a row set against a key operand. -/
def execTqk (t : Fin 512) (f : LongF) (func : BitVec 10) (s0 : State) : Host.Outcome State Fault Refusal :=
  s0.served fun d => d.tile t f (f.a == 0 && f.b == 0 && decide (func.toNat ≤ 2)) true fun d x h y => d.tqk t x func.toNat
    h y

/-- TSMX (R198): the TSMX instruction performs the online-softmax step on the last score tile. -/
def execTsmx (t : Fin 512) (f : LongF) (func : BitVec 10) (s0 : State) : Host.Outcome State Fault Refusal :=
  s0.served fun d => d.tile t f (f.a == 0 && f.b == 0 && func == 0) false fun d x h _ => d.tsmx t x h

/-- TPV (R198): the TPV instruction accumulates values weighted by the rounded probabilities. -/
def execTpv (t : Fin 512) (f : LongF) (func : BitVec 10) (s0 : State) : Host.Outcome State Fault Refusal :=
  s0.served fun d => d.tile t f (f.a == 0 && f.b == 0 && func == 0) true fun d x h y => d.tpv t x h y

/-- TMM (R343): the TMM instruction performs a general matrix step of activations against weights. -/
def execTmm (t : Fin 512) (f : LongF) (func : BitVec 10) (s0 : State) : Host.Outcome State Fault Refusal :=
  s0.served fun d => d.tile t f (f.a == 0 && f.b == 0 && decide (func.toNat ≤ 1)) true fun d x h y => d.tmm t x
    (func.toNat == 1) h y

/-- TMERGE (R345): the TMERGE instruction folds partial rows from stage memory into a row set. -/
def execTmerge (t : Fin 512) (f : LongF) (func : BitVec 10) (s0 : State) : Host.Outcome State Fault Refusal :=
  s0.served fun d => d.tile t f (func == 0) false fun d x h _ => d.tmerge t x h (x.rg f.a.toNat) (x.rg f.b.toNat)

/-- TCHK (R346): the TCHK instruction performs the ABFT check on a row set now. -/
def execTchk (t : Fin 512) (f : LongF) (func : BitVec 10) (s0 : State) : Host.Outcome State Fault Refusal :=
  s0.served fun d => d.tile t f (f.a == 0 && f.b == 0 && func == 0) false fun d x h _ => d.tchk t x h

/-- TSTORE (R280): the TSTORE instruction writes a row set's FP32 rows to the output area and frees the row set. -/
def execTstore (t : Fin 512) (f : LongF) (s0 : State) : Host.Outcome State Fault Refusal :=
  s0.served fun d => d.tile t f (f.b == 0) false fun d x h _ => d.tstore t x h (x.rg f.a.toNat)

/-- TSTORE_S (R344): the TSTORE.S instruction writes the score tile of a matrix row set to stage memory. -/
def execTstoreS (t : Fin 512) (f : LongF) (s0 : State) : Host.Outcome State Fault Refusal :=
  s0.served fun d => d.tile t f (f.b == 0) false fun d x h _ => d.tstoreS t x h (x.rg f.a.toNat)

/-- TILE_OP_DONE (R281): A tile, PWALK, NBX or remote operation completes on its token with a status. -/
def execTileOpDone (t : Fin 512) (tok : BitVec 6) (bad : Bool) (s0 : State) : Host.Outcome State Fault Refusal :=
  s0.served fun d => d.tileOpDone t tok.toNat bad

/-- TWAIT (R283): the TWAIT instruction waits for a token, or for all tokens, and returns the status. -/
def execTwait (t : Fin 512) (f : LongF) (func : BitVec 10) (s0 : State) : Host.Outcome State Fault Refusal :=
  s0.served fun d => d.twait t f func

end Sys2Proof.Machine
end

