-- ==== Sys2Proof/Machine/CmdTime.lean ====
section
/-!
DEFINITION. Fabric time, schedules and telemetry (12): the meaning of each command.
-/
namespace Sys2Proof.Machine

/-- SYNC_REQ (R584): A verified SYNC_REQ is timestamped and answered with a SYNC_RSP. -/
def execSyncReq (p : Fin 16) (r : Route) (h : TimeHdr) (icrc : BitVec 32) (s0 : State) : Host.Outcome State Fault Refusal
    :=
  s0.served fun d => d.rxSyncReq p r h icrc

/-- SYNC_RSP (R584): A SYNC_RSP completes an exchange, and offset and delay are formed and used to steer fabric time. -/
def execSyncRsp (p : Fin 16) (r : Route) (h : TimeHdr) (icrc : BitVec 32) (s0 : State) : Host.Outcome State Fault Refusal
    :=
  s0.served fun d => d.rxSyncRsp p r h icrc

/-- SYNC_TIMER (R584): every 125 µs the device sends a SYNC_REQ on every ACTIVE port. -/
def execSyncTimer (p : Fin 16) (s0 : State) : Host.Outcome State Fault Refusal :=
  s0.served fun d => d.syncTimer p

/-- PARENT_TIMEOUT (R592): the parent sends no valid response for 1 ms, and the device enters HOLDOVER. -/
def execParentTimeout (p : Fin 16) (s0 : State) : Host.Outcome State Fault Refusal :=
  s0.served fun d => d.parentTimeout p

/-- PPS_EDGE (R580): A rising edge of PPS_IN counts toward validity and steers the reference to whole seconds. -/
def execPpsEdge (interval : BitVec 32) (s0 : State) : Host.Outcome State Fault Refusal :=
  s0.served fun d => d.ppsEdge interval

/-- PPS_TIMEOUT (R579): no PPS edge arrives within 1.5 s and PPS_IN becomes invalid. -/
def execPpsTimeout (s0 : State) : Host.Outcome State Fault Refusal :=
  s0.served fun d => d.ppsTimeout

/-- FTM_NOW_READ (R577): an 8-byte read of FTM_NOW returns the nanoseconds and latches the fraction. -/
def execFtmNowRead (fn : Fin 32) (wide : Bool) (s0 : State) : Host.Outcome State Fault Refusal :=
  s0.always fun d =>
    let n := if wide then 8 else 4
    let r := d.busRead fn 0x40000 n
    r.2.emit (.readData fn (natLe n r.1.toNat))

/-- FTM_SET_WRITE (R581): A write to FTM_SET on the reference steps fabric time forward once and sets SET_DONE. -/
def execFtmSetWrite (fn : Fin 32) (v : W64) (s0 : State) : Host.Outcome State Fault Refusal :=
  s0.always fun d => d.busWrite fn 0x40028 8 v

/-- TIMED_ACTION_ARM (R599): A write to FTM_TA_CTL arms or disarms a timed-action slot. -/
def execTimedActionArm (fn : Fin 32) (i : Fin 32) (v : W64) (s0 : State) : Host.Outcome State Fault Refusal :=
  s0.always fun d => d.busWrite fn (0x42018 + 32 * i) 8 v

/-- TIMED_ACTION_FIRE (R596): an armed slot's time is reached, and its value is written at its offset as stand 0. -/
def execTimedActionFire (s0 : State) : Host.Outcome State Fault Refusal :=
  s0.served fun d => d.fireDue

/-- ROT_CHANGE (R617): A write of SCH_ROT_CTL.CHANGE schedules the swap of the administrative rotation list. -/
def execRotChange (fn : Fin 32) (i : Fin 33) (s0 : State) : Host.Outcome State Fault Refusal :=
  s0.always fun d => d.busWrite fn (0x800800 + i * 0x10000) 8 1

/-- ROT_CANCEL (R618): A write of SCH_ROT_CTL.CANCEL clears a pending rotation-list change. -/
def execRotCancel (fn : Fin 32) (i : Fin 33) (s0 : State) : Host.Outcome State Fault Refusal :=
  s0.always fun d => d.busWrite fn (0x800800 + i * 0x10000) 8 2

/-- ROT_SWAP (R617): at the chosen time the administrative list is copied into the operational list. -/
def execRotSwap (i : Fin 33) (s0 : State) : Host.Outcome State Fault Refusal :=
  s0.served fun d => d.rotSwap i

/-- ROT_ENTRY_BOUNDARY (R615): A rotation entry or cycle boundary is reached and the class gates change. -/
def execRotEntryBoundary (i : Fin 33) (s0 : State) : Host.Outcome State Fault Refusal :=
  s0.served fun d => d.rotNow i

/-- SCH_RATE_WRITE (R612): A write to SCH_ST_RATE, SCH_ST_BURST or SCH_PRIV_CFG resets the tokens of the queue or bucket. -/
def execSchRateWrite (fn : Fin 32) (i : Fin 33) (off : BitVec 16) (v : W64) (s0 : State) : Host.Outcome State Fault
    Refusal :=
  s0.always fun d => d.busWrite fn (0x800000 + i * 0x10000 + off.toNat) 8 v

/-- TELEMETRY_INTERVAL_END (R623): A 1 ms interval ends, and each selected stand's record is closed and written to the
telemetry area. -/
def execTelemetryIntervalEnd (s0 : State) : Host.Outcome State Fault Refusal :=
  s0.served fun d => d.telEnd

end Sys2Proof.Machine
end

