-- ==== Sys2Proof/Machine/CmdVec.lean ====
section
/-!
DEFINITION. Vector instructions (07): the meaning of each command.
-/
namespace Sys2Proof.Machine

/-- VADD (R333): the VADD instruction adds vector lanes. -/
def execVadd (t : Fin 512) (f : VecF) (s0 : State) : Host.Outcome State Fault Refusal :=
  s0.thread t fun d => d.vec t f [0, 1, 2] vadd

/-- VMUL (R333): the VMUL instruction multiplies vector lanes. -/
def execVmul (t : Fin 512) (f : VecF) (s0 : State) : Host.Outcome State Fault Refusal :=
  s0.thread t fun d => d.vec t f [0, 1] vmul

/-- VFMA (R333): the VFMA instruction performs a fused multiply-add per lane. -/
def execVfma (t : Fin 512) (f : VecF) (s0 : State) : Host.Outcome State Fault Refusal :=
  s0.thread t fun d => d.vec t f [0, 1] vfma

/-- VMAX (R333): the VMAX instruction takes the larger of two lanes. -/
def execVmax (t : Fin 512) (f : VecF) (s0 : State) : Host.Outcome State Fault Refusal :=
  s0.thread t fun d => d.vec t f [0, 1, 2] vmax

/-- VRMAX (R333): the VRMAX instruction broadcasts the largest lane. -/
def execVrmax (t : Fin 512) (f : VecF) (s0 : State) : Host.Outcome State Fault Refusal :=
  s0.thread t fun d => d.vec t f [0, 1] vrmax

/-- VRSUM (R336): the VRSUM instruction broadcasts the pairwise lane sum. -/
def execVrsum (t : Fin 512) (f : VecF) (s0 : State) : Host.Outcome State Fault Refusal :=
  s0.thread t fun d => d.vec t f [0, 1] vrsum

/-- VEXP2 (R337): the VEXP2 instruction computes 2 to the power of each lane. -/
def execVexp2 (t : Fin 512) (f : VecF) (s0 : State) : Host.Outcome State Fault Refusal :=
  s0.thread t fun d => d.vecFun t f exp2F

/-- VRSQRT (R337): the VRSQRT instruction computes the reciprocal square root of each lane. -/
def execVrsqrt (t : Fin 512) (f : VecF) (s0 : State) : Host.Outcome State Fault Refusal :=
  s0.thread t fun d => d.vecFun t f rsqrtF

/-- VRCP (R337): the VRCP instruction computes the reciprocal of each lane. -/
def execVrcp (t : Fin 512) (f : VecF) (s0 : State) : Host.Outcome State Fault Refusal :=
  s0.thread t fun d => d.vecFun t f rcpF

/-- VCVT (R338): the VCVT instruction converts lanes between f32, bf16, E4M3 and E5M2. -/
def execVcvt (t : Fin 512) (f : VecF) (s0 : State) : Host.Outcome State Fault Refusal :=
  s0.thread t fun d => d.vecCvt t f

/-- VSEL (R333): the VSEL instruction selects one of two vectors by a predicate. -/
def execVsel (t : Fin 512) (f : VecF) (s0 : State) : Host.Outcome State Fault Refusal :=
  s0.thread t fun d => d.vecSel t f

/-- VSHUF (R333): the VSHUF instruction permutes bytes. -/
def execVshuf (t : Fin 512) (f : VecF) (s0 : State) : Host.Outcome State Fault Refusal :=
  s0.thread t fun d => d.vec t f [0, 1, 2] vshuf

end Sys2Proof.Machine
end

