-- ==== Sys2Proof/Machine/Dispatch.lean ====
section
/-!
DEFINITION. One arm per command: a direct call of its meaning.
-/
namespace Sys2Proof.Machine

def exec (i : Instr) (s : State) : Host.Outcome State Fault Refusal :=
  match i with
  | .registerWrite fn off size v => Sys2Proof.Machine.execRegisterWrite fn off size v s
  | .glbLockWrite fn v => Sys2Proof.Machine.execGlbLockWrite fn v s
  | .aliasWrite fn off size v => Sys2Proof.Machine.execAliasWrite fn off size v s
  | .stdKeyCommit fn s0 => Sys2Proof.Machine.execStdKeyCommit fn s0 s
  | .stdKeyErase fn s0 => Sys2Proof.Machine.execStdKeyErase fn s0 s
  | .sesChallenge fn s0 => Sys2Proof.Machine.execSesChallenge fn s0 s
  | .challengeDone s0 => Sys2Proof.Machine.execChallengeDone s0 s
  | .sesSubmit fn s0 => Sys2Proof.Machine.execSesSubmit fn s0 s
  | .submitDone s0 => Sys2Proof.Machine.execSubmitDone s0 s
  | .sesClose fn s0 => Sys2Proof.Machine.execSesClose fn s0 s
  | .nonceExpiry s0 => Sys2Proof.Machine.execNonceExpiry s0 s
  | .lockoutEnd s0 => Sys2Proof.Machine.execLockoutEnd s0 s
  | .sessionIdleTimeout s0 => Sys2Proof.Machine.execSessionIdleTimeout s0 s
  | .standReset fn s0 => Sys2Proof.Machine.execStandReset fn s0 s
  | .standResetDone s0 => Sys2Proof.Machine.execStandResetDone s0 s
  | .quotaCommit fn s0 => Sys2Proof.Machine.execQuotaCommit fn s0 s
  | .profile s0 e => Sys2Proof.Machine.execProfile s0 e s
  | .seqInsert s0 e => Sys2Proof.Machine.execSeqInsert s0 e s
  | .seqDelete s0 e => Sys2Proof.Machine.execSeqDelete s0 e s
  | .seqLookup s0 e parity => Sys2Proof.Machine.execSeqLookup s0 e parity s
  | .yardCommand s0 e => Sys2Proof.Machine.execYardCommand s0 e s
  | .restoreCommand s0 e => Sys2Proof.Machine.execRestoreCommand s0 e s
  | .qrec s0 e => Sys2Proof.Machine.execQrec s0 e s
  | .wrec s0 e => Sys2Proof.Machine.execWrec s0 e s
  | .tractRegister s0 e => Sys2Proof.Machine.execTractRegister s0 e s
  | .tractRevoke s0 e => Sys2Proof.Machine.execTractRevoke s0 e s
  | .tractRevoked x => Sys2Proof.Machine.execTractRevoked x s
  | .tractHoldExpiry x => Sys2Proof.Machine.execTractHoldExpiry x s
  | .connOpen s0 e => Sys2Proof.Machine.execConnOpen s0 e s
  | .connClose s0 e => Sys2Proof.Machine.execConnClose s0 e s
  | .connCloseSend c => Sys2Proof.Machine.execConnCloseSend c s
  | .closeAckTimeout c => Sys2Proof.Machine.execCloseAckTimeout c s
  | .weight s0 e => Sys2Proof.Machine.execWeight s0 e s
  | .scratch s0 e => Sys2Proof.Machine.execScratch s0 e s
  | .kload s0 e => Sys2Proof.Machine.execKload s0 e s
  | .kunload s0 e => Sys2Proof.Machine.execKunload s0 e s
  | .cdcLoad s0 e => Sys2Proof.Machine.execCdcLoad s0 e s
  | .cdcSetMode s0 e => Sys2Proof.Machine.execCdcSetMode s0 e s
  | .cdcRecode s0 e => Sys2Proof.Machine.execCdcRecode s0 e s
  | .recodePageCommit id => Sys2Proof.Machine.execRecodePageCommit id s
  | .recodePassDone => Sys2Proof.Machine.execRecodePassDone s
  | .kkey s0 e => Sys2Proof.Machine.execKkey s0 e s
  | .fwUpdate s0 e => Sys2Proof.Machine.execFwUpdate s0 e s
  | .cmdDoorbell fn s0 v => Sys2Proof.Machine.execCmdDoorbell fn s0 v s
  | .cplHeadWrite fn s0 v => Sys2Proof.Machine.execCplHeadWrite fn s0 v s
  | .queueEnableWrite fn s0 cpl v => Sys2Proof.Machine.execQueueEnableWrite fn s0 cpl v s
  | .irqCoalesceTimer s0 => Sys2Proof.Machine.execIrqCoalesceTimer s0 s
  | .kvApertureAccess fn write off size data bad => Sys2Proof.Machine.execKvApertureAccess fn write off size data bad s
  | .busMasterEnable fn bme d3 => Sys2Proof.Machine.execBusMasterEnable fn bme d3 s
  | .dmaRequestDone id res => Sys2Proof.Machine.execDmaRequestDone id res s
  | .lzEnableWrite fn s0 v => Sys2Proof.Machine.execLzEnableWrite fn s0 v s
  | .tieSvcResWrite fn c v => Sys2Proof.Machine.execTieSvcResWrite fn c v s
  | .recordAdmit => Sys2Proof.Machine.execRecordAdmit s
  | .suborderIssue c => Sys2Proof.Machine.execSuborderIssue c s
  | .suborderDispatch c => Sys2Proof.Machine.execSuborderDispatch c s
  | .suborderWatchdog t => Sys2Proof.Machine.execSuborderWatchdog t s
  | .recordComplete n clocks => Sys2Proof.Machine.execRecordComplete n clocks s
  | .partialHeaderSend n => Sys2Proof.Machine.execPartialHeaderSend n s
  | .mergeDeadline s0 tag => Sys2Proof.Machine.execMergeDeadline s0 tag s
  | .mergeHoldExpiry s0 tag => Sys2Proof.Machine.execMergeHoldExpiry s0 tag s
  | .add t f => Sys2Proof.Machine.execAdd t f s
  | .sub t f => Sys2Proof.Machine.execSub t f s
  | .and t f => Sys2Proof.Machine.execAnd t f s
  | .or t f => Sys2Proof.Machine.execOr t f s
  | .xor t f => Sys2Proof.Machine.execXor t f s
  | .shl t f => Sys2Proof.Machine.execShl t f s
  | .shr t f => Sys2Proof.Machine.execShr t f s
  | .sar t f => Sys2Proof.Machine.execSar t f s
  | .mul t f => Sys2Proof.Machine.execMul t f s
  | .mulh t f => Sys2Proof.Machine.execMulh t f s
  | .min t f => Sys2Proof.Machine.execMin t f s
  | .max t f => Sys2Proof.Machine.execMax t f s
  | .cmp t f => Sys2Proof.Machine.execCmp t f s
  | .li t f => Sys2Proof.Machine.execLi t f s
  | .lui t f => Sys2Proof.Machine.execLui t f s
  | .br t f => Sys2Proof.Machine.execBr t f s
  | .bc t f => Sys2Proof.Machine.execBc t f s
  | .call t f => Sys2Proof.Machine.execCall t f s
  | .ret t f => Sys2Proof.Machine.execRet t f s
  | .loop t f => Sys2Proof.Machine.execLoop t f s
  | .yield t f => Sys2Proof.Machine.execYield t f s
  | .halt t f => Sys2Proof.Machine.execHalt t f s
  | .ld t f par => Sys2Proof.Machine.execLd t f par s
  | .st t f => Sys2Proof.Machine.execSt t f s
  | .ldv t f par => Sys2Proof.Machine.execLdv t f par s
  | .stv t f => Sys2Proof.Machine.execStv t f s
  | .pref t f => Sys2Proof.Machine.execPref t f s
  | .vadd t f => Sys2Proof.Machine.execVadd t f s
  | .vmul t f => Sys2Proof.Machine.execVmul t f s
  | .vfma t f => Sys2Proof.Machine.execVfma t f s
  | .vmax t f => Sys2Proof.Machine.execVmax t f s
  | .vrmax t f => Sys2Proof.Machine.execVrmax t f s
  | .vrsum t f => Sys2Proof.Machine.execVrsum t f s
  | .vexp2 t f => Sys2Proof.Machine.execVexp2 t f s
  | .vrsqrt t f => Sys2Proof.Machine.execVrsqrt t f s
  | .vrcp t f => Sys2Proof.Machine.execVrcp t f s
  | .vcvt t f => Sys2Proof.Machine.execVcvt t f s
  | .vsel t f => Sys2Proof.Machine.execVsel t f s
  | .vshuf t f => Sys2Proof.Machine.execVshuf t f s
  | .tfetchQ t f => Sys2Proof.Machine.execTfetchQ t f s
  | .tfetchN t f => Sys2Proof.Machine.execTfetchN t f s
  | .tfetchA t f => Sys2Proof.Machine.execTfetchA t f s
  | .tfetchWn t f => Sys2Proof.Machine.execTfetchWn t f s
  | .tfetchWa t f => Sys2Proof.Machine.execTfetchWa t f s
  | .tfetchM t f => Sys2Proof.Machine.execTfetchM t f s
  | .tfetchW t f bad => Sys2Proof.Machine.execTfetchW t f bad s
  | .tqk t f func => Sys2Proof.Machine.execTqk t f func s
  | .tsmx t f func => Sys2Proof.Machine.execTsmx t f func s
  | .tpv t f func => Sys2Proof.Machine.execTpv t f func s
  | .tmm t f func => Sys2Proof.Machine.execTmm t f func s
  | .tmerge t f func => Sys2Proof.Machine.execTmerge t f func s
  | .tchk t f func => Sys2Proof.Machine.execTchk t f func s
  | .tstore t f => Sys2Proof.Machine.execTstore t f s
  | .tstoreS t f => Sys2Proof.Machine.execTstoreS t f s
  | .tileOpDone t tok bad => Sys2Proof.Machine.execTileOpDone t tok bad s
  | .twait t f func => Sys2Proof.Machine.execTwait t f func s
  | .pwalk t f => Sys2Proof.Machine.execPwalk t f s
  | .pwalkR t f => Sys2Proof.Machine.execPwalkR t f s
  | .dlook t f parity => Sys2Proof.Machine.execDlook t f parity s
  | .dins t f => Sys2Proof.Machine.execDins t f s
  | .ddel t f => Sys2Proof.Machine.execDdel t f s
  | .dirUpdateDone => Sys2Proof.Machine.execDirUpdateDone s
  | .mhint t f => Sys2Proof.Machine.execMhint t f s
  | .yard t f => Sys2Proof.Machine.execYard t f s
  | .restore t f => Sys2Proof.Machine.execRestore t f s
  | .digest t f => Sys2Proof.Machine.execDigest t f s
  | .nbx t f => Sys2Proof.Machine.execNbx t f s
  | .nbProgramStart id => Sys2Proof.Machine.execNbProgramStart id s
  | .nbSliceEnd id rows post bad => Sys2Proof.Machine.execNbSliceEnd id rows post bad s
  | .refreshPauseEnd id => Sys2Proof.Machine.execRefreshPauseEnd id s
  | .nbProgramEnd id => Sys2Proof.Machine.execNbProgramEnd id s
  | .nbuError id unit kind => Sys2Proof.Machine.execNbuError id unit kind s
  | .nbwait t f => Sys2Proof.Machine.execNbwait t f s
  | .rput t f func => Sys2Proof.Machine.execRput t f func s
  | .rget t f func => Sys2Proof.Machine.execRget t f func s
  | .ratom t f func => Sys2Proof.Machine.execRatom t f func s
  | .rnote t f func => Sys2Proof.Machine.execRnote t f func s
  | .rfence t f func => Sys2Proof.Machine.execRfence t f func s
  | .qpop t f => Sys2Proof.Machine.execQpop t f s
  | .qpush t f => Sys2Proof.Machine.execQpush t f s
  | .qpeek t f => Sys2Proof.Machine.execQpeek t f s
  | .time t f => Sys2Proof.Machine.execTime t f s
  | .tsleep t f => Sys2Proof.Machine.execTsleep t f s
  | .tsleepWake t => Sys2Proof.Machine.execTsleepWake t s
  | .sysr t f => Sys2Proof.Machine.execSysr t f s
  | .sysw t f => Sys2Proof.Machine.execSysw t f s
  | .fault t f => Sys2Proof.Machine.execFault t f s
  | .sess t f => Sys2Proof.Machine.execSess t f s
  | .blaze t f => Sys2Proof.Machine.execBlaze t f s
  | .pageSeal set l p => Sys2Proof.Machine.execPageSeal set l p s
  | .heldEditPublish set l => Sys2Proof.Machine.execHeldEditPublish set l s
  | .tablePageFree set l => Sys2Proof.Machine.execTablePageFree set l s
  | .frameFree => Sys2Proof.Machine.execFrameFree s
  | .dirScrubPass bad => Sys2Proof.Machine.execDirScrubPass bad s
  | .heatEpoch => Sys2Proof.Machine.execHeatEpoch s
  | .migrationStart set l p => Sys2Proof.Machine.execMigrationStart set l p s
  | .migrationCommit id => Sys2Proof.Machine.execMigrationCommit id s
  | .lendDeadline n => Sys2Proof.Machine.execLendDeadline n s
  | .portEnable fn p v => Sys2Proof.Machine.execPortEnable fn p v s
  | .portRetrain fn p v => Sys2Proof.Machine.execPortRetrain fn p v s
  | .portTrained p node pport grants => Sys2Proof.Machine.execPortTrained p node pport grants s
  | .trainingRetry p => Sys2Proof.Machine.execTrainingRetry p s
  | .linkFrameRx p f => Sys2Proof.Machine.execLinkFrameRx p f s
  | .idleFrameTimer p => Sys2Proof.Machine.execIdleFrameTimer p s
  | .linkRxTimeout p => Sys2Proof.Machine.execLinkRxTimeout p s
  | .egressSelect p => Sys2Proof.Machine.execEgressSelect p s
  | .wheelEligible x u => Sys2Proof.Machine.execWheelEligible x u s
  | .put p r h data icrc => Sys2Proof.Machine.execPut p r h data icrc s
  | .get p r h data icrc bad => Sys2Proof.Machine.execGet p r h data icrc bad s
  | .grsp p r h data icrc => Sys2Proof.Machine.execGrsp p r h data icrc s
  | .atom p r h data icrc => Sys2Proof.Machine.execAtom p r h data icrc s
  | .arsp p r h icrc => Sys2Proof.Machine.execArsp p r h icrc s
  | .note p r h data icrc => Sys2Proof.Machine.execNote p r h data icrc s
  | .land p r h data icrc => Sys2Proof.Machine.execLand p r h data icrc s
  | .ack p r h icrc => Sys2Proof.Machine.execAck p r h icrc s
  | .nak p r h icrc => Sys2Proof.Machine.execNak p r h icrc s
  | .ackTimer c n => Sys2Proof.Machine.execAckTimer c n s
  | .retxTimeout c n x => Sys2Proof.Machine.execRetxTimeout c n x s
  | .retryAfterExpiry c n x => Sys2Proof.Machine.execRetryAfterExpiry c n x s
  | .messageTimeout c n => Sys2Proof.Machine.execMessageTimeout c n s
  | .openReq p r h icrc => Sys2Proof.Machine.execOpenReq p r h icrc s
  | .openAck p r h icrc => Sys2Proof.Machine.execOpenAck p r h icrc s
  | .close p r h icrc => Sys2Proof.Machine.execClose p r h icrc s
  | .closeAck p r h icrc => Sys2Proof.Machine.execCloseAck p r h icrc s
  | .openReqTimer c => Sys2Proof.Machine.execOpenReqTimer c s
  | .connOpenTimeout c => Sys2Proof.Machine.execConnOpenTimeout c s
  | .contextEvict c => Sys2Proof.Machine.execContextEvict c s
  | .contextFetchDone c => Sys2Proof.Machine.execContextFetchDone c s
  | .contextFetchHold c => Sys2Proof.Machine.execContextFetchHold c s
  | .syncReq p r h icrc => Sys2Proof.Machine.execSyncReq p r h icrc s
  | .syncRsp p r h icrc => Sys2Proof.Machine.execSyncRsp p r h icrc s
  | .syncTimer p => Sys2Proof.Machine.execSyncTimer p s
  | .parentTimeout p => Sys2Proof.Machine.execParentTimeout p s
  | .ppsEdge interval => Sys2Proof.Machine.execPpsEdge interval s
  | .ppsTimeout => Sys2Proof.Machine.execPpsTimeout s
  | .ftmNowRead fn wide => Sys2Proof.Machine.execFtmNowRead fn wide s
  | .ftmSetWrite fn v => Sys2Proof.Machine.execFtmSetWrite fn v s
  | .timedActionArm fn x v => Sys2Proof.Machine.execTimedActionArm fn x v s
  | .timedActionFire => Sys2Proof.Machine.execTimedActionFire s
  | .rotChange fn x => Sys2Proof.Machine.execRotChange fn x s
  | .rotCancel fn x => Sys2Proof.Machine.execRotCancel fn x s
  | .rotSwap x => Sys2Proof.Machine.execRotSwap x s
  | .rotEntryBoundary x => Sys2Proof.Machine.execRotEntryBoundary x s
  | .schRateWrite fn x off v => Sys2Proof.Machine.execSchRateWrite fn x off v s
  | .telemetryIntervalEnd => Sys2Proof.Machine.execTelemetryIntervalEnd s
  | .hello p r h ch body icrc => Sys2Proof.Machine.execHello p r h ch body icrc s
  | .heartbeat p r h ch body icrc => Sys2Proof.Machine.execHeartbeat p r h ch body icrc s
  | .heartbeatTimer => Sys2Proof.Machine.execHeartbeatTimer s
  | .heartbeatTimeout p => Sys2Proof.Machine.execHeartbeatTimeout p s
  | .entry p r h ch body icrc => Sys2Proof.Machine.execEntry p r h ch body icrc s
  | .entryTimer => Sys2Proof.Machine.execEntryTimer s
  | .summary p r h ch body icrc => Sys2Proof.Machine.execSummary p r h ch body icrc s
  | .summaryTimer => Sys2Proof.Machine.execSummaryTimer s
  | .linkDown p r h ch body icrc => Sys2Proof.Machine.execLinkDown p r h ch body icrc s
  | .lookoutTimeout x => Sys2Proof.Machine.execLookoutTimeout x s
  | .selfFailTimeout => Sys2Proof.Machine.execSelfFailTimeout s
  | .fail p r h ch body icrc => Sys2Proof.Machine.execFail p r h ch body icrc s
  | .epochAdvance p r h ch body icrc => Sys2Proof.Machine.execEpochAdvance p r h ch body icrc s
  | .cmpAdvance fn => Sys2Proof.Machine.execCmpAdvance fn s
  | .offer p r h ch body icrc => Sys2Proof.Machine.execOffer p r h ch body icrc s
  | .accept p r h ch body icrc => Sys2Proof.Machine.execAccept p r h ch body icrc s
  | .commit p r h ch body icrc => Sys2Proof.Machine.execCommit p r h ch body icrc s
  | .revert p r h ch body icrc => Sys2Proof.Machine.execRevert p r h ch body icrc s
  | .refuse p r h ch body icrc => Sys2Proof.Machine.execRefuse p r h ch body icrc s
  | .query p r h ch body icrc => Sys2Proof.Machine.execQuery p r h ch body icrc s
  | .record p r h ch body icrc => Sys2Proof.Machine.execRecord p r h ch body icrc s
  | .orphanTimeout k => Sys2Proof.Machine.execOrphanTimeout k s
  | .ownerQueryTimeout home k => Sys2Proof.Machine.execOwnerQueryTimeout home k s
  | .sliceDefine fn k target => Sys2Proof.Machine.execSliceDefine fn k target s
  | .sliceOffer fn k target => Sys2Proof.Machine.execSliceOffer fn k target s
  | .sliceRelease fn k target => Sys2Proof.Machine.execSliceRelease fn k target s
  | .sliceReclaim fn k target => Sys2Proof.Machine.execSliceReclaim fn k target s
  | .offerAccept fn => Sys2Proof.Machine.execOfferAccept fn s
  | .offerRefuse fn => Sys2Proof.Machine.execOfferRefuse fn s
  | .sliceReset p r h ch body icrc => Sys2Proof.Machine.execSliceReset p r h ch body icrc s
  | .mirrorOpen p r h ch body icrc => Sys2Proof.Machine.execMirrorOpen p r h ch body icrc s
  | .mirrorAck p r h ch body icrc => Sys2Proof.Machine.execMirrorAck p r h ch body icrc s
  | .mirrorOpenTimeout x => Sys2Proof.Machine.execMirrorOpenTimeout x s
  | .mirrorClose p r h ch body icrc => Sys2Proof.Machine.execMirrorClose p r h ch body icrc s
  | .promoted p r h ch body icrc => Sys2Proof.Machine.execPromoted p r h ch body icrc s
  | .seqNew p r h m data icrc => Sys2Proof.Machine.execSeqNew p r h m data icrc s
  | .seqDel p r h m data icrc => Sys2Proof.Machine.execSeqDel p r h m data icrc s
  | .tokens p r h m data icrc => Sys2Proof.Machine.execTokens p r h m data icrc s
  | .sectors p r h m data icrc => Sys2Proof.Machine.execSectors p r h m data icrc s
  | .buffer p r h m data icrc => Sys2Proof.Machine.execBuffer p r h m data icrc s
  | .flush p r h m data icrc => Sys2Proof.Machine.execFlush p r h m data icrc s
  | .mirrorIntervalEnd x => Sys2Proof.Machine.execMirrorIntervalEnd x s
  | .mirrorIntervalApply x => Sys2Proof.Machine.execMirrorIntervalApply x s
  | .lendAsk p r h ch body icrc => Sys2Proof.Machine.execLendAsk p r h ch body icrc s
  | .lendGrant p r h ch body icrc => Sys2Proof.Machine.execLendGrant p r h ch body icrc s
  | .reclaim p r h ch body icrc => Sys2Proof.Machine.execReclaim p r h ch body icrc s
  | .release p r h ch body icrc => Sys2Proof.Machine.execRelease p r h ch body icrc s
  | .fltForceWrite fn w v => Sys2Proof.Machine.execFltForceWrite fn w v s
  | .fltEnableWrite fn w v => Sys2Proof.Machine.execFltEnableWrite fn w v s
  | .firstFaultClear fn => Sys2Proof.Machine.execFirstFaultClear fn s
  | .standFaultClear fn s0 => Sys2Proof.Machine.execStandFaultClear fn s0 s
  | .fltFenceSet fn v => Sys2Proof.Machine.execFltFenceSet fn v s
  | .fltUnfence fn v => Sys2Proof.Machine.execFltUnfence fn v s
  | .cellResetDone c => Sys2Proof.Machine.execCellResetDone c s
  | .meshLinkFail c link cut => Sys2Proof.Machine.execMeshLinkFail c link cut s
  | .cellpllUnlock c => Sys2Proof.Machine.execCellpllUnlock c s
  | .linkpllUnlock e => Sys2Proof.Machine.execLinkpllUnlock e s
  | .xtal0Loss pll => Sys2Proof.Machine.execXtal0Loss pll s
  | .xtal1Loss pll => Sys2Proof.Machine.execXtal1Loss pll s
  | .rangerWdogExpiry => Sys2Proof.Machine.execRangerWdogExpiry s
  | .cellWatchdog c => Sys2Proof.Machine.execCellWatchdog c s
  | .ptlRunWrite fn c v => Sys2Proof.Machine.execPtlRunWrite fn c v s
  | .patrolRunStart c => Sys2Proof.Machine.execPatrolRunStart c s
  | .patrolWaitTimeout c => Sys2Proof.Machine.execPatrolWaitTimeout c s
  | .patrolRunEnd c ok => Sys2Proof.Machine.execPatrolRunEnd c ok s
  | .vinSample mv => Sys2Proof.Machine.execVinSample mv s
  | .supplyHoldEnd => Sys2Proof.Machine.execSupplyHoldEnd s
  | .tempSample ts => Sys2Proof.Machine.execTempSample ts s
  | .thermalCapTimer => Sys2Proof.Machine.execThermalCapTimer s
  | .thermLAssert => Sys2Proof.Machine.execThermLAssert s
  | .thermLRelease => Sys2Proof.Machine.execThermLRelease s
  | .thermLCapEnd => Sys2Proof.Machine.execThermLCapEnd s
  | .avsRequestDone l us retries => Sys2Proof.Machine.execAvsRequestDone l us retries s
  | .avsTimeout l => Sys2Proof.Machine.execAvsTimeout l s
  | .opStep => Sys2Proof.Machine.execOpStep s
  | .cellS1Entry c => Sys2Proof.Machine.execCellS1Entry c s
  | .cellS2Entry c => Sys2Proof.Machine.execCellS2Entry c s
  | .cellWake c => Sys2Proof.Machine.execCellWake c s
  | .cellWakeDone c => Sys2Proof.Machine.execCellWakeDone c s
  | .s3EntryReq fn => Sys2Proof.Machine.execS3EntryReq fn s
  | .s4EntryReq fn => Sys2Proof.Machine.execS4EntryReq fn s
  | .lowPowerEntryDone u => Sys2Proof.Machine.execLowPowerEntryDone u s
  | .s3ExitReq fn => Sys2Proof.Machine.execS3ExitReq fn s
  | .s3ExitDone => Sys2Proof.Machine.execS3ExitDone s
  | .wakeLAssert => Sys2Proof.Machine.execWakeLAssert s
  | .clkSelWrite fn k v => Sys2Proof.Machine.execClkSelWrite fn k v s
  | .clkGateWrite fn v => Sys2Proof.Machine.execClkGateWrite fn v s
  | .powerOn straps dies => Sys2Proof.Machine.execPowerOn straps dies s
  | .bootReady us => Sys2Proof.Machine.execBootReady us s
  | .mrstLAssert => Sys2Proof.Machine.execMrstLAssert s
  | .mrstLRelease straps => Sys2Proof.Machine.execMrstLRelease straps s
  | .bootCtlModule fn => Sys2Proof.Machine.execBootCtlModule fn s
  | .bootCtlWarm fn => Sys2Proof.Machine.execBootCtlWarm fn s
  | .warmResetDone => Sys2Proof.Machine.execWarmResetDone s
  | .commitSvn fn => Sys2Proof.Machine.execCommitSvn fn s
  | .cfgErase fn => Sys2Proof.Machine.execCfgErase fn s
  | .rootKeyRevoke fn slot => Sys2Proof.Machine.execRootKeyRevoke fn slot s
  | .recoveryGo fn => Sys2Proof.Machine.execRecoveryGo fn s
  | .perstLAssert => Sys2Proof.Machine.execPerstLAssert s
  | .perstLRelease rate width flit => Sys2Proof.Machine.execPerstLRelease rate width flit s
  | .pcieHotReset rate width flit => Sys2Proof.Machine.execPcieHotReset rate width flit s
  | .pfFlr => Sys2Proof.Machine.execPfFlr s
  | .vfFlr s0 => Sys2Proof.Machine.execVfFlr s0 s
  | .mctpStatus => Sys2Proof.Machine.execMctpStatus s
  | .mctpModuleReset => Sys2Proof.Machine.execMctpModuleReset s
  | .mctpWarmReset => Sys2Proof.Machine.execMctpWarmReset s
  | .mctpWake => Sys2Proof.Machine.execMctpWake s
  | .mctpRead off => Sys2Proof.Machine.execMctpRead off s
  | .entdaa addr => Sys2Proof.Machine.execEntdaa addr s
  | .getVersion chan => Sys2Proof.Machine.execGetVersion chan s
  | .getCapabilities chan => Sys2Proof.Machine.execGetCapabilities chan s
  | .negotiateAlgorithms chan common => Sys2Proof.Machine.execNegotiateAlgorithms chan common s
  | .getDigests chan => Sys2Proof.Machine.execGetDigests chan s
  | .getCertificate chan slot off len => Sys2Proof.Machine.execGetCertificate chan slot off len s
  | .spdmChallenge chan slot nonce => Sys2Proof.Machine.execSpdmChallenge chan slot nonce s
  | .getMeasurements chan op nonce sig => Sys2Proof.Machine.execGetMeasurements chan op nonce sig s
  | .keyExchange chan => Sys2Proof.Machine.execKeyExchange chan s
  | .finish chan => Sys2Proof.Machine.execFinish chan s
  | .endSession chan => Sys2Proof.Machine.execEndSession chan s
  | .bypass bs => Sys2Proof.Machine.execBypass bs s
  | .idcode bs => Sys2Proof.Machine.execIdcode bs s
  | .samplePreload bs => Sys2Proof.Machine.execSamplePreload bs s
  | .extest bs => Sys2Proof.Machine.execExtest bs s
  | .trainingStepTimeout p lanes => Sys2Proof.Machine.execTrainingStepTimeout p lanes s
  | .clockSourceReady b => Sys2Proof.Machine.execClockSourceReady b s
  | .vfEnable s0 en => Sys2Proof.Machine.execVfEnable s0 en s
  | .msixUnmask fn vec => Sys2Proof.Machine.execMsixUnmask fn vec s

end Sys2Proof.Machine
end

