-- ==== Sys2Proof/WellFormed.lean ====
section
/-!
DEFINITION. Which commands the spec admits as written: sizes of accesses, lengths of payloads and of lists. A check that
the device itself makes and answers (an odd access size, a length that a header gives wrongly) is not one of these.
-/
namespace Sys2Proof
open Sys2Proof.Machine

/-- A register access of the bus carries 1 to 8 bytes; any size but 4 and 8 is a violation that the device answers (03 Table 8). -/
def wfSize (n : BitVec 4) : Bool := 1 ≤ n.toNat && n.toNat ≤ 8

/-- True for an offset of the PF map in a broadcast window of a cell, in the all-cells alias or in a group alias (03 Table 10). -/
def inAlias (off : Nat) : Bool :=
  (0x2000000 ≤ off && off < 0x2500000) ||
  (0x1000000 ≤ off && off < 0x2000000 &&
    ((0x90000 ≤ off % 0x100000 && off % 0x100000 < 0x90400) || (0x91000 ≤ off % 0x100000 && off % 0x100000 < 0x92000)))

/-- Bytes of a packet's payload at most (11 R515). -/
def maxPayload : Nat := 4096

/-- A payload that one packet carries, behind n bytes of inner headers. -/
def wfPayload (n : Nat) (bs : List Byte) : Bool := n + bs.length ≤ maxPayload

/-- A host command's payload read by DMA has the length that the entry gives (17 Table 4). -/
def wfEntry (e : CmdEntry) : Bool := if e.dataLen.toNat ≤ 32 then e.data.isEmpty else e.data.length == e.dataLen.toNat

/-- A command that the spec admits. -/
def Instr.wellFormed (c : Instr) : Bool :=
  match c with
  | .registerWrite _ _ size _ => wfSize size
  | .aliasWrite _ off size _ => wfSize size && inAlias off.toNat
  | .profile _ e | .seqInsert _ e | .seqDelete _ e | .seqLookup _ e _ | .yardCommand _ e | .restoreCommand _ e | .qrec _ e
  | .wrec _ e | .tractRegister _ e | .tractRevoke _ e | .connOpen _ e | .connClose _ e | .weight _ e | .scratch _ e
  | .kload _ e | .kunload _ e | .cdcLoad _ e | .cdcSetMode _ e | .cdcRecode _ e | .kkey _ e | .fwUpdate _ e => wfEntry e
  | .kvApertureAccess _ write off size data _ =>
    1 ≤ size.toNat && off.toNat % 4096 + size.toNat ≤ 4096 && data.length == (if write then size.toNat else 0)
  | .put _ _ _ bs _ | .get _ _ _ bs _ _ | .grsp _ _ _ bs _ | .atom _ _ _ bs _ | .note _ _ _ bs _ | .land _ _ _ bs _ =>
    wfPayload 0 bs
  | .hello _ _ _ _ bs _ | .heartbeat _ _ _ _ bs _ | .entry _ _ _ _ bs _ | .summary _ _ _ _ bs _ | .linkDown _ _ _ _ bs _
  | .fail _ _ _ _ bs _ | .epochAdvance _ _ _ _ bs _ | .offer _ _ _ _ bs _ | .accept _ _ _ _ bs _ | .commit _ _ _ _ bs _
  | .revert _ _ _ _ bs _ | .refuse _ _ _ _ bs _ | .query _ _ _ _ bs _ | .record _ _ _ _ bs _ | .sliceReset _ _ _ _ bs _
  | .mirrorOpen _ _ _ _ bs _ | .mirrorAck _ _ _ _ bs _ | .mirrorClose _ _ _ _ bs _ | .promoted _ _ _ _ bs _
  | .lendAsk _ _ _ _ bs _ | .lendGrant _ _ _ _ bs _ | .reclaim _ _ _ _ bs _ | .release _ _ _ _ bs _ => wfPayload 16 bs
  | .seqNew _ _ _ _ bs _ | .seqDel _ _ _ _ bs _ | .tokens _ _ _ _ bs _ | .sectors _ _ _ _ bs _ | .buffer _ _ _ _ bs _
  | .flush _ _ _ _ bs _ => wfPayload 32 bs
  | .portTrained _ _ _ grants => grants.length == 16
  | .tempSample ts => ts.length == 40
  | .powerOn _ dies => dies.length == 40
  | .perstLRelease rate width _ | .pcieHotReset rate width _ => 1 ≤ rate.toNat && rate.toNat ≤ 6 && 1 ≤ width.toNat && width.toNat ≤ 16
  | .dirScrubPass bad => bad.all fun b => bad.countP (· == b) == 1
  | .glbLockWrite .. | .stdKeyCommit .. | .stdKeyErase .. | .sesChallenge .. | .challengeDone .. | .sesSubmit ..
  | .submitDone .. | .sesClose .. | .nonceExpiry .. | .lockoutEnd .. | .sessionIdleTimeout .. | .standReset ..
  | .standResetDone .. | .quotaCommit .. | .tractRevoked .. | .tractHoldExpiry .. | .connCloseSend .. | .closeAckTimeout ..
  | .recodePageCommit .. | .recodePassDone .. | .cmdDoorbell .. | .cplHeadWrite .. | .queueEnableWrite ..
  | .irqCoalesceTimer .. | .busMasterEnable .. | .dmaRequestDone .. | .lzEnableWrite .. | .tieSvcResWrite ..
  | .recordAdmit .. | .suborderIssue .. | .suborderDispatch .. | .suborderWatchdog .. | .recordComplete ..
  | .partialHeaderSend .. | .mergeDeadline .. | .mergeHoldExpiry .. | .add .. | .sub .. | .and .. | .or .. | .xor ..
  | .shl .. | .shr .. | .sar .. | .mul .. | .mulh .. | .min .. | .max .. | .cmp .. | .li .. | .lui .. | .br .. | .bc ..
  | .call .. | .ret .. | .loop .. | .yield .. | .halt .. | .ld .. | .st .. | .ldv .. | .stv .. | .pref .. | .vadd ..
  | .vmul .. | .vfma .. | .vmax .. | .vrmax .. | .vrsum .. | .vexp2 .. | .vrsqrt .. | .vrcp .. | .vcvt .. | .vsel ..
  | .vshuf .. | .tfetchQ .. | .tfetchN .. | .tfetchA .. | .tfetchWn .. | .tfetchWa .. | .tfetchM .. | .tfetchW .. | .tqk ..
  | .tsmx .. | .tpv .. | .tmm .. | .tmerge .. | .tchk .. | .tstore .. | .tstoreS .. | .tileOpDone .. | .twait .. | .pwalk ..
  | .pwalkR .. | .dlook .. | .dins .. | .ddel .. | .dirUpdateDone .. | .mhint .. | .yard .. | .restore .. | .digest ..
  | .nbx .. | .nbProgramStart .. | .nbSliceEnd .. | .refreshPauseEnd .. | .nbProgramEnd .. | .nbuError .. | .nbwait ..
  | .rput .. | .rget .. | .ratom .. | .rnote .. | .rfence .. | .qpop .. | .qpush .. | .qpeek .. | .time .. | .tsleep ..
  | .tsleepWake .. | .sysr .. | .sysw .. | .fault .. | .sess .. | .blaze .. | .pageSeal .. | .heldEditPublish ..
  | .tablePageFree .. | .frameFree .. | .heatEpoch .. | .migrationStart .. | .migrationCommit .. | .lendDeadline ..
  | .portEnable .. | .portRetrain .. | .trainingRetry .. | .linkFrameRx .. | .idleFrameTimer .. | .linkRxTimeout ..
  | .egressSelect .. | .wheelEligible .. | .arsp .. | .ack .. | .nak .. | .ackTimer .. | .retxTimeout ..
  | .retryAfterExpiry .. | .messageTimeout .. | .openReq .. | .openAck .. | .close .. | .closeAck .. | .openReqTimer ..
  | .connOpenTimeout .. | .contextEvict .. | .contextFetchDone .. | .contextFetchHold .. | .syncReq .. | .syncRsp ..
  | .syncTimer .. | .parentTimeout .. | .ppsEdge .. | .ppsTimeout .. | .ftmNowRead .. | .ftmSetWrite .. | .timedActionArm ..
  | .timedActionFire .. | .rotChange .. | .rotCancel .. | .rotSwap .. | .rotEntryBoundary .. | .schRateWrite ..
  | .telemetryIntervalEnd .. | .heartbeatTimer .. | .heartbeatTimeout .. | .entryTimer .. | .summaryTimer ..
  | .lookoutTimeout .. | .selfFailTimeout .. | .cmpAdvance .. | .orphanTimeout .. | .ownerQueryTimeout .. | .sliceDefine ..
  | .sliceOffer .. | .sliceRelease .. | .sliceReclaim .. | .offerAccept .. | .offerRefuse .. | .mirrorOpenTimeout ..
  | .mirrorIntervalEnd .. | .mirrorIntervalApply .. | .fltForceWrite .. | .fltEnableWrite .. | .firstFaultClear ..
  | .standFaultClear .. | .fltFenceSet .. | .fltUnfence .. | .cellResetDone .. | .meshLinkFail .. | .cellpllUnlock ..
  | .linkpllUnlock .. | .xtal0Loss .. | .xtal1Loss .. | .rangerWdogExpiry .. | .cellWatchdog .. | .ptlRunWrite ..
  | .patrolRunStart .. | .patrolWaitTimeout .. | .patrolRunEnd .. | .vinSample .. | .supplyHoldEnd .. | .thermalCapTimer ..
  | .thermLAssert .. | .thermLRelease .. | .thermLCapEnd .. | .avsRequestDone .. | .avsTimeout .. | .opStep ..
  | .cellS1Entry .. | .cellS2Entry .. | .cellWake .. | .cellWakeDone .. | .s3EntryReq .. | .s4EntryReq ..
  | .lowPowerEntryDone .. | .s3ExitReq .. | .s3ExitDone .. | .wakeLAssert .. | .clkSelWrite .. | .clkGateWrite ..
  | .bootReady .. | .mrstLAssert .. | .mrstLRelease .. | .bootCtlModule .. | .bootCtlWarm .. | .warmResetDone ..
  | .commitSvn .. | .cfgErase .. | .rootKeyRevoke .. | .recoveryGo .. | .perstLAssert .. | .pfFlr .. | .vfFlr ..
  | .mctpStatus .. | .mctpModuleReset .. | .mctpWarmReset .. | .mctpWake .. | .mctpRead .. | .entdaa .. | .getVersion ..
  | .getCapabilities .. | .negotiateAlgorithms .. | .getDigests .. | .getCertificate .. | .spdmChallenge ..
  | .getMeasurements .. | .keyExchange .. | .finish .. | .endSession .. | .bypass .. | .idcode .. | .samplePreload ..
  | .extest .. | .trainingStepTimeout .. | .clockSourceReady .. | .vfEnable .. | .msixUnmask .. => true

end Sys2Proof
end

