-- ==== Sys2Proof/Safety.lean ====
section
/-!
DEFINITION. The terms that claims use: what it means that a command gives a device, what stays beside it, and the invariants.
-/
namespace Sys2Proof.Machine

/-! ## What a command gives -/

/-- The command answers a next state: the device d, with the fuses that the command burns. -/
abbrev Gives (s : State) (c : Instr) (d : Dev) : Prop := Sys2Proof.Machine.exec c s = .next (s.put d)

/-- The command answers a next state: the device d after the work that the device does of itself (log 42). -/
abbrev GivesLater (s : State) (c : Instr) (d : Dev) : Prop := Sys2Proof.Machine.exec c s = .next (s.put d.settle)

/-! ## Threads -/

/-- The instruction c of thread t raises an exception and does nothing else; when the exception was fatal, and so stopped the
thread, the device's own work follows. -/
abbrev Raises (s : State) (t : Fin 512) (c : Instr) (cause : Nat) (addr : W64) : Prop :=
  let e := s.d.except t cause addr
  Gives s c (if (e.thr t).wait = .run then e else e.settle)

/-- A thread past an instruction of len bytes. -/
def Thread.next (x : Thread) (len : Nat) : Thread := { x with pc := (x.pc + len) % 65536 }

/-- The device with thread t past a 4-byte instruction and a general register written. -/
def Dev.withG (d : Dev) (t : Fin 512) (rd : BitVec 5) (v : W64) : Dev := d.setThr t (((d.thr t).wg rd.toNat v).next 4)

/-- The device with thread t past a 4-byte instruction and a vector register written. -/
def Dev.withV (d : Dev) (t : Fin 512) (vd : BitVec 5) (v : BitVec 512) : Dev := d.setThr t (((d.thr t).wv vd.toNat v).next 4)

/-- The device with thread t past an instruction of len bytes and nothing else changed. -/
def Dev.past (d : Dev) (t : Fin 512) (len : Nat) : Dev := d.setThr t ((d.thr t).next len)

/-- The device with thread t at another place of its text. -/
def Dev.at (d : Dev) (t : Fin 512) (pc : Nat) : Dev := d.setThr t { d.thr t with pc := pc }

/-- A general register that an instruction field names. -/
def Dev.g (d : Dev) (t : Fin 512) (r : BitVec 5) : W64 := (d.thr t).rg r.toNat

/-- A vector register that an instruction field names. -/
def Dev.vreg (d : Dev) (t : Fin 512) (r : BitVec 5) : BitVec 512 := (d.thr t).rv r.toNat

/-- Thread t may issue an instruction of 8 bytes: the device serves it, it waits for nothing, and its text holds the second
word (06 R245; 07 R309). -/
abbrev LongReady (s : State) (t : Fin 512) : Prop :=
  s.d.serving = true ∧ s.d.runnable t = true ∧ (s.d.thr t).pc + 4 < s.d.textLen t

/-- Token n of a thread is free, and one is to be had (06 R281). -/
abbrev FreeToken (d : Dev) (t : Fin 512) : Prop := (d.thr t).tokFree ≠ 0 ∧ ∃ n, n < 64 ∧ Tab.has (d.thr t).toks n = false

/-- Thread t past an 8-byte instruction with token n in use: what its operation will end with, when that is known, and the
token's number in gd, or an anonymous token for g0 (06 R281, R282). -/
def Thread.issue (x : Thread) (rd : BitVec 5) (n : Nat) (k : TokKind) (ready : Option Nat) : Thread :=
  (({ x with toks := Tab.set x.toks n ⟨k, rd.toNat == 0, ready, none⟩ }).wg rd.toNat (BitVec.ofNat 64 n)).next 8

/-- The tile instruction c takes a free token and makes d1 of the device; its operation is to end with status st, and reads
the frame src first when it names one. -/
def TileIssues (s : State) (t : Fin 512) (rd : BitVec 5) (c : Instr) (d1 : Dev) (st : Nat) (src : Option Nat) : Prop :=
  ∃ n, n < 64 ∧ Tab.has (s.d.thr t).toks n = false ∧ (d1.thr t).toks = (s.d.thr t).toks ∧
    GivesLater s c (d1.took.setThr t ((d1.thr t).issue rd n (.tile src) (some st)))

/-- The handle h of thread t. -/
def Dev.handle (d : Dev) (t : Fin 512) (h : Nat) : Option Handle := Tab.get? (d.thr t).t h

/-- d1 differs from d in thread t and in the count of free values taken only, and in thread t in its handles alone. -/
def OnlyHandles (d d1 : Dev) (t : Fin 512) : Prop :=
  d1 = { d with freeCtr := d1.freeCtr, threads := Tab.set d.threads t { d.thr t with t := (d1.thr t).t, vers := (d1.thr t).vers } }

/-! ## Register accesses -/

/-- A write of 8 bytes of function fn to a place of stand st's window is accepted (03 Table 8). -/
abbrev WindowOpen (s : State) (fn st : Fin 32) (roff : Nat) : Prop := s.d.hostVerdict fn (winOff fn st roff) 8 true = .ok

/-- The stand whose window a function reaches: any through function 0, its own through another (03 R66, R67). -/
def standOf (fn st : Fin 32) : Nat := if fn = 0 then st.val else fn.val

/-! ## Host commands -/

/-- A host command of stand st, acting for stand a, is started: the device serves it, the stand is not being reset, and its
common fields are accepted with a payload of lo to hi bytes (17 R810, R811, R858). -/
abbrev HostTakes (s : State) (st : Fin 32) (e : CmdEntry) (lo hi a : Nat) : Prop :=
  s.d.serving = true ∧ (s.d.std st).rst = false ∧ e.actor st lo hi = some a

/-! ## Packets -/

/-- A packet that arrives on port p reaches this node: the port is ACTIVE and carries its class, the device serves and is not
halted, the packet names this node and its ICRC is right (11 R518 to R523). -/
abbrev Reaches (s : State) (p : Fin 16) (k : Pkt) : Prop :=
  s.d.serving = true ∧ s.d.portActive p = true ∧ s.d.halted = false ∧ s.d.portCarries p k.r.tc.toNat = true ∧
  k.r.dstNode.toNat = s.d.node ∧ k.icrcOk = true

/-- A packet that reaches this node comes from a verified source whose context x is on chip, with room for it (11 R526, R532,
R568). -/
abbrev Taken (s : State) (p : Fin 16) (k : Pkt) (x : Conn) : Prop :=
  Reaches s p k ∧ (s.d.verified k.r).isSome = true ∧ (s.d.touchConn k.r.dstConn.toNat).conn? k.r.dstConn.toNat = some x ∧
  x.res = 0 ∧ (s.d.touchConn k.r.dstConn.toNat).bufOk x.stand = true

/-- A cruise message in a CTRL packet of a verified link partner that passes the checks: stand 0, key 0, one whole message of
the window that has not been taken; its message is opened as m in e1 (13 R631). -/
abbrev CtrlTaken (s : State) (p : Fin 16) (r : Route) (h : ReqHdr) (bs : List Byte) (icrc : BitVec 32) (x : Conn) (n : Nat)
    (m : InMsg) (e1 : Dev) : Prop :=
  let c := r.dstConn.toNat
  let e := s.d.touchConn c
  Taken s p (reqPkt tyCtrl r h bs icrc) x ∧ e.checkHead x tyCtrl r h bs = .inr n ∧ x.rxBase ≤ n ∧ Tab.has x.fin n = false ∧
  x.st = 2 ∧ x.stand = 0 ∧ h.key = 0 ∧ h.plen.setWidth 32 = h.msgLen ∧ 16 ≤ bs.length ∧ e.openRx c n tyCtrl r h = (m, e1)

/-- The device e1 with a cruise message placed and handed to the cruise engine. -/
def Dev.ctrlPlaced (e1 : Dev) (p : Fin 16) (r : Route) (h : ReqHdr) (bs : List Byte) (icrc : BitVec 32) (m : InMsg) : Dev :=
  let d := e1.placed p r.dstConn.toNat m (reqPkt tyCtrl r h bs icrc) 0 h.plen.toNat
  { d with cruiseIn := d.cruiseIn ++ [(p.val, bs)] }

/-- The cruise engine of device d, with nothing else to do, makes d2 of a message of operation op that came in on port p. -/
def CruiseDoes (d : Dev) (p : Fin 16) (op : Nat) (ch : CruiseHdr) (body : List Byte) (d2 : Dev) : Prop :=
  ∀ n, Dev.work (n + 1) { d with cruiseIn := [(p.val, ch.bytes op ++ body)] } = Dev.work n d2

end Sys2Proof.Machine
end

