-- ==== Sys2Proof/Certificates/Slice0/Obligations.lean ====
section
/-!
DEFINITION. The statements for the provers, family by family: where each command of the table completes and with what effect,
what it leaves unchanged, and what holds of every step. Gives, GivesLater and the rest are in Sys2Proof/Safety.lean.
-/
open Sys2Proof Sys2Proof.Machine

/-- For a thread that may issue, each of ADD, SUB, AND, OR, XOR, SHL, SHR, SAR, MUL, MULH, MIN and MAX answers the next state
in which gd holds the result of Table 4 (g0 stays zero), the program counter has moved on by 4, and nothing else has
changed: in the Register format with both sources from registers, and with U = 1 where it may be 1; in the Immediate
format with the immediate extended as R321 says. (R322.) -/
def Obligations.IntegerInstructionResults : Prop :=
  ∀ (s : State) (t : Fin 512) (rd a b : BitVec 5) (i : BitVec 15), s.d.issues t = true →
    let d := s.d
    let x := d.g t a
    let y := d.g t b
    let sx : W64 := i.signExtend 64
    let zx : W64 := i.zeroExtend 64
    let r (c : AluF → Instr) (v : W64) : Prop := Gives s (c (.reg rd a b false 0)) (d.withG t rd v)
    let u (c : AluF → Instr) (v : W64) : Prop := Gives s (c (.reg rd a b true 0)) (d.withG t rd v)
    let m (c : AluF → Instr) (v : W64) : Prop := Gives s (c (.imm rd a i)) (d.withG t rd v)
    r (.add t) (x + y) ∧ m (.add t) (x + sx) ∧ r (.sub t) (x - y) ∧ m (.sub t) (x - sx) ∧
    r (.and t) (x &&& y) ∧ m (.and t) (x &&& zx) ∧ r (.or t) (x ||| y) ∧ m (.or t) (x ||| zx) ∧
    r (.xor t) (x ^^^ y) ∧ m (.xor t) (x ^^^ zx) ∧
    r (.shl t) (x <<< (y.toNat % 64)) ∧ r (.shr t) (x >>> (y.toNat % 64)) ∧ r (.sar t) (x.sshiftRight (y.toNat % 64)) ∧
    (i.toNat < 64 → m (.shl t) (x <<< i.toNat) ∧ m (.shr t) (x >>> i.toNat) ∧ m (.sar t) (x.sshiftRight i.toNat)) ∧
    r (.mul t) (x * y) ∧ m (.mul t) (x * sx) ∧
    r (.mulh t) (BitVec.ofInt 64 (x.toInt * y.toInt / 2 ^ 64)) ∧ u (.mulh t) (BitVec.ofNat 64 (x.toNat * y.toNat / 2 ^ 64)) ∧
    r (.min t) (if y.toInt < x.toInt then y else x) ∧ u (.min t) (if y.toNat < x.toNat then y else x) ∧
    m (.min t) (if sx.toInt < x.toInt then sx else x) ∧
    r (.max t) (if x.toInt < y.toInt then y else x) ∧ u (.max t) (if x.toNat < y.toNat then y else x) ∧
    m (.max t) (if x.toInt < sx.toInt then sx else x)

/-- For a thread that may issue, CMP with D below 8 and FUNC from 0 to 5 answers the next state in which predicate D holds the
comparison that FUNC names (p0 stays 1), LI the one in which gd holds the sign-extended immediate, and LUI the one in
which gd holds its old value shifted left by 20 with the immediate in its low 20 bits. The program counter moves on by 4
and nothing else changes. (R323, R324, 07 Table 5.) -/
def Obligations.CompareAndConstantResults : Prop :=
  ∀ (s : State) (t : Fin 512), s.d.issues t = true →
    (∀ f : RegF, f.d.toNat < 8 → f.func.toNat < 6 →
      let x := s.d.g t f.a
      let y := s.d.g t f.b
      let v : Bool := match f.func.toNat with
        | 0 => x == y
        | 1 => x != y
        | 2 => decide (x.toInt < y.toInt)
        | 3 => decide (y.toInt ≤ x.toInt)
        | 4 => decide (x.toNat < y.toNat)
        | _ => decide (y.toNat ≤ x.toNat)
      Gives s (.cmp t f) (s.d.setThr t (((s.d.thr t).wp f.d.toNat v).next 4))) ∧
    (∀ f : WideF, Gives s (.li t f) (s.d.withG t f.d (f.imm.signExtend 64))) ∧
    ∀ f : WideF, Gives s (.lui t f) (s.d.withG t f.d (s.d.g t f.d <<< 20 ||| f.imm.zeroExtend 64))

/-- For a thread that may issue and a target in its text that is a multiple of 4: BR and a BC whose predicate is 1 set the
program counter to the target; BC whose predicate is 0 moves on by 4; CALL with fewer than 16 return addresses pushes pc +
4 and goes to the target; RET pops the address it goes to; LOOP subtracts 1 from ga and goes to the target unless ga is
then 0. YIELD moves on by 4. Nothing else changes. (R325, R327, 07 Table 6.) -/
def Obligations.BranchResults : Prop :=
  ∀ (s : State) (t : Fin 512), s.d.issues t = true →
    let d := s.d
    let x := d.thr t
    (∀ f : BranchF, d.inText t (Machine.target x f.off) = true →
      let dest := (Machine.target x f.off).toNat
      (f.c = 0 → Gives s (.br t f) (d.at t dest)) ∧
      (f.c.toNat < 8 → x.rp f.c.toNat = true → Gives s (.bc t f) (d.at t dest)) ∧
      (f.c = 0 → x.stack.length < 16 → Gives s (.call t f) (d.setThr t { x with stack := (x.pc + 4) :: x.stack, pc := dest })) ∧
      (x.rg f.c.toNat - 1 ≠ 0 →
        Gives s (.loop t f) (d.setThr t { x.wg f.c.toNat (x.rg f.c.toNat - 1) with pc := dest })) ∧
      (x.rg f.c.toNat - 1 = 0 → Gives s (.loop t f) (d.setThr t ((x.wg f.c.toNat 0).next 4)))) ∧
    (∀ f : BranchF, f.c.toNat < 8 → x.rp f.c.toNat = false → Gives s (.bc t f) (d.past t 4)) ∧
    (∀ p r, x.stack = p :: r → d.inText t p = true → Gives s (.ret t ⟨0, 0, 0, 0⟩) (d.setThr t { x with stack := r, pc := p })) ∧
    Gives s (.yield t ⟨0, 0, 0, 0⟩) (d.past t 4)

/-- For a thread that may issue, BR, a taken BC, CALL and LOOP whose target lies outside the text or is not a multiple of 4,
and a RET that pops such a target, raise exception cause 3 (LOCAL_RANGE); the instruction has no other effect, so LOOP
does not decrement. (R326.) -/
def Obligations.BranchOutOfTextRaisesLocalRange : Prop :=
  ∀ (s : State) (t : Fin 512), s.d.issues t = true →
    let d := s.d
    let x := d.thr t
    let raises (c : Instr) (p : Int) : Prop := Raises s t c 3 (BitVec.ofInt 64 p)
    (∀ f : BranchF, d.inText t (Machine.target x f.off) = false →
      let p := Machine.target x f.off
      (f.c = 0 → raises (.br t f) p) ∧ (f.c.toNat < 8 → x.rp f.c.toNat = true → raises (.bc t f) p) ∧
      (f.c = 0 → raises (.call t f) p) ∧ raises (.loop t f) p) ∧
    ∀ p r, x.stack = p :: r → d.inText t p = false → raises (.ret t ⟨0, 0, 0, 0⟩) p

/-- When the image of a thread declares an exception entry and the thread is not in its handler, an exception of a cause other
than 14 writes EXC_CAUSE and EXC_PC, and EXC_ADDR (the address for causes 2 to 4), marks the thread as in its handler and
continues at the exception entry; every register, predicate, handle, token and the call stack of the thread stay, every
other thread stays, and no memory changes. (R291, 06.) -/
def Obligations.ExceptionAtHandler : Prop :=
  ∀ (d : Dev) (t : Fin 512) (cause : Nat) (addr : W64) (im : Image), d.thrImage t = some im → im.excEntry ≠ 0 →
    (d.thr t).inExc = false → cause ≠ 14 →
    let e := d.except t cause addr
    e.thr t = { d.thr t with excCause := cause, excPc := (d.thr t).pc, inExc := true, pc := im.excEntry, wait := .run,
                             excAddr := if 2 ≤ cause ∧ cause ≤ 4 then addr else 0 } ∧
    (∀ u : Nat, u ≠ t → e.thr u = d.thr u) ∧ e = { d with regs := e.regs, threads := e.threads }

/-- For a thread that may issue and holds no sub-order, on a core that is not to be unbound and whose image still stands, HALT
answers the next state in which the thread has stopped, past the instruction. While the device serves, TSLEEP_WAKE of a
thread that sleeps until a fabric time that is reached lets the thread run on past its TSLEEP; before that time it changes
nothing. Nothing else changes but by the work of the device itself. (R248, R294, R325, 07 Table 16.) -/
def Obligations.ThreadsHaltAndWake : Prop :=
  (∀ (s : State) (t : Fin 512) (im : Image), s.d.issues t = true → (s.d.thr t).sub = none →
    (s.d.core (t / 4)).closing = false → s.d.thrImage t = some im → im.live = true →
    GivesLater s (.halt t ⟨0, 0, 0, 0⟩) (s.d.setThr t ({ s.d.thr t with wait := .stopped }.next 4))) ∧
  ∀ (s : State) (t : Fin 512) (g : Nat), s.d.serving = true → (s.d.thr t).wait = .tsleep g →
    (g ≤ s.d.fab → GivesLater s (.tsleepWake t) (s.d.setThr t ({ s.d.thr t with wait := .run }.next 4))) ∧
    (s.d.fab < g → GivesLater s (.tsleepWake t) s.d)

/-- For a thread that may issue, a load from an address that raises no exception answers the next state in which gd holds the
addressed bytes zero-extended (vd the 64 bytes): of the local memory of its core for tag 0, of the stage memory of its
cell for tag 1 when the thread owns them, of service memory for tag 3 when its stand is 0 and they exist. The program
counter moves on by 4 and nothing else changes but by the work of the device itself. (R328, R329, R330, R254, R256, 07
Table 9.) -/
def Obligations.LoadResults : Prop :=
  ∀ (s : State) (t : Fin 512) (f : MemF), s.d.issues t = true →
    let d := s.d
    let num (bs : List Byte) (w : Nat) : BitVec w := BitVec.ofNat w (leNat bs)
    (let a := addOff (d.g t f.a) f.off.toInt
     let n := 2 ^ f.size.toNat
     let o := adOff a
     memExc a n = none →
     (adTag a = 0 → GivesLater s (.ld t f false) (d.withG t f.d (num (Memory.readN (d.core (t / 4)).mem o n) 64))) ∧
     (adTag a = 1 → d.ownsStage t o n false = true →
       GivesLater s (.ld t f false) (d.withG t f.d (num (Memory.readN d.stage (stageAt (t / 32) o) n) 64))) ∧
     (adTag a = 3 → d.thrStand t = 0 → o + n ≤ d.svcPages * 4096 →
       GivesLater s (.ld t f false) (d.withG t f.d (num (Memory.readN d.svc o n) 64)))) ∧
    (let a := addOff (d.g t f.a) (64 * f.off.toInt)
     let o := adOff a
     f.size = 0 → memExc a 64 = none →
     (adTag a = 0 → GivesLater s (.ldv t f false) (d.withV t f.d (num (Memory.readN (d.core (t / 4)).mem o 64) 512))) ∧
     (adTag a = 1 → d.ownsStage t o 64 false = true →
       GivesLater s (.ldv t f false) (d.withV t f.d (num (Memory.readN d.stage (stageAt (t / 32) o) 64) 512))) ∧
     (adTag a = 3 → d.thrStand t = 0 → o + 64 ≤ d.svcPages * 4096 →
       GivesLater s (.ldv t f false) (d.withV t f.d (num (Memory.readN d.svc o 64) 512))))

/-- For a thread that may issue, a store to an address that raises no exception answers the next state in which the low SIZE
bytes of gs (the 64 bytes of vs) stand at the address: in the local memory of its core for tag 0, in the stage memory of
its cell for tag 1 when the thread owns them for writing, in service memory for tag 3 when its stand is 0 and they exist;
PREF answers the one in which only the program counter has moved on. (R328, R329, R330, R331, R254, R256.) -/
def Obligations.StoreResults : Prop :=
  ∀ (s : State) (t : Fin 512) (f : MemF), s.d.issues t = true →
    let d := s.d
    let stored (c : Instr) (a : W64) (bs : List Byte) : Prop :=
      memExc a bs.length = none →
      (adTag a = 0 → Gives s c ((d.localWrite t (adOff a) bs).past t 4)) ∧
      (adTag a = 1 → d.ownsStage t (adOff a) bs.length true = true → Gives s c ((d.stageWrite (t / 32) (adOff a) bs).past t 4)) ∧
      (adTag a = 3 → d.thrStand t = 0 → adOff a + bs.length ≤ d.svcPages * 4096 →
        Gives s c (Dev.past { d with svc := Memory.write d.svc (adOff a) bs } t 4))
    stored (.st t f) (addOff (d.g t f.a) f.off.toInt) (natLe (2 ^ f.size.toNat) (d.g t f.d).toNat) ∧
    (f.size = 0 → stored (.stv t f) (addOff (d.g t f.a) (64 * f.off.toInt)) (natLe 64 (d.vreg t f.d).toNat)) ∧
    (f.size = 0 → memExc (addOff (d.g t f.a) f.off.toInt) 1 = none → Gives s (.pref t f) (d.past t 4))

/-- For a thread that may issue, when ST answers a next state and the address raises no exception: every byte of the local
memory of every core, of stage memory and of service memory outside the SIZE bytes at ga + OFF reads as before (of the
local memory of the own core only for tag 0, of the stage memory of the own cell only for tag 1, of service memory only
otherwise); the memory of the tiles, every thread but for the own program counter, and the fuses are as before; and a
register changes only in the violation record of the stand. (R328, R330, R256, R331.) -/
def Obligations.StoreFrame : Prop :=
  ∀ (s s' : State) (t : Fin 512) (f : MemF), s.d.issues t = true →
    let a := addOff (s.d.g t f.a) f.off.toInt
    let n := 2 ^ f.size.toNat
    let out (x base : Nat) : Prop := x < base ∨ base + n ≤ x
    memExc a n = none → s.d.doing.burn = none → Sys2Proof.Machine.exec (.st t f) s = .next s' →
    (∀ k x : Nat, (adTag a = 0 → k = t / 4 → out x (adOff a)) → Memory.read (s'.d.core k).mem x = Memory.read (s.d.core k).mem x) ∧
    (∀ x : Nat, (adTag a = 1 → out x (stageAt (t / 32) (adOff a))) → Memory.read s'.d.stage x = Memory.read s.d.stage x) ∧
    (∀ x : Nat, (adTag a ≠ 0 → adTag a ≠ 1 → out x (adOff a)) → Memory.read s'.d.svc x = Memory.read s.d.svc x) ∧
    s'.d.mem = s.d.mem ∧ s'.otp = s.otp ∧ s'.pending = s.pending ∧ s'.d.threads = Tab.set s.d.threads t ((s.d.thr t).next 4) ∧
    ∀ (b : Blk) (i off : Nat), Loc.addr ⟨b, i, off⟩ ≠ Loc.addr ⟨.stand, s.d.thrStand t, 0x200⟩ →
      Loc.addr ⟨b, i, off⟩ ≠ Loc.addr ⟨.stand, s.d.thrStand t, 0x208⟩ → s'.d.rd b i off = s.d.rd b i off

/-- For a thread that may issue, VADD, VMUL, VFMA, VMAX, VRMAX, VRSUM, VEXP2, VRSQRT, VRCP, VCVT, VSEL and VSHUF with
FUNC[7:5] zero (VSEL: naming its predicate) and a lane type that Table 7 lists for them answer the next state in which vd
holds the result and the program counter has moved on by 4; nothing else changes, except that the functions of bounded
error (VEXP2, VRSQRT, VRCP), whose exact result the spec leaves open within its bound, take sixteen free values (log 12).
(R333, R334, R335, R336, R337, R338.) -/
def Obligations.VectorInstructionResults : Prop :=
  ∀ (s : State) (t : Fin 512) (vd a b : BitVec 5) (ty : BitVec 2), s.d.issues t = true →
    let d := s.d
    let o := d.vreg t vd
    let x := d.vreg t a
    let y := d.vreg t b
    let f : VecF := ⟨vd, a, b, 0, ty⟩
    let g (c : Instr) (v : BitVec 512) : Prop := Gives s c (d.withV t vd v)
    let e : Dev := { d with freeCtr := d.freeCtr + 16 }
    (ty ≠ 3 → g (.vadd t f) (vadd ty.toNat o x y) ∧ g (.vmax t f) (vmax ty.toNat o x y) ∧ g (.vshuf t f) (vshuf ty.toNat o x y)) ∧
    (ty = 0 ∨ ty = 1 → g (.vmul t f) (vmul ty.toNat o x y) ∧ g (.vfma t f) (vfma ty.toNat o x y) ∧
      g (.vrmax t f) (vrmax ty.toNat o x y) ∧ g (.vrsum t f) (vrsum ty.toNat o x y)) ∧
    (ty = 0 → Gives s (.vexp2 t f) (e.withV t vd (vfun d.freeCtr exp2F x)) ∧
      Gives s (.vrsqrt t f) (e.withV t vd (vfun d.freeCtr rsqrtF x)) ∧ Gives s (.vrcp t f) (e.withV t vd (vfun d.freeCtr rcpF x))) ∧
    (ty = 0 → b.toNat < 16 → g (.vcvt t f) (vcvt b.toNat x)) ∧
    ∀ pn : BitVec 3, ty ≠ 3 → g (.vsel t ⟨vd, a, b, pn, ty⟩) (if (d.thr t).rp pn.toNat then x else y)

/-- For lanes of 16, 32 or 64 bits, lane i of the result of a lane-wise operation is the operation on lanes i of old vd, va
and vb, cut to the width of a lane: so VADD on i64 adds lane by lane modulo 2^64, and VSHUF gives byte k of vd as the byte
of va that the low six bits of byte k of vb name. (R333, 07 Table 7, 07 Table 8.) -/
def Obligations.VectorLanesAreIndependent : Prop :=
  (∀ (w : Nat) (op : Nat → Nat → Nat → Nat) (o a b : BitVec 512) (i : Nat), (w = 16 ∨ w = 32 ∨ w = 64) → i < 512 / w →
    lane (lanes w op o a b) w i = op (lane o w i) (lane a w i) (lane b w i) % 2 ^ w) ∧
  (∀ (o a b : BitVec 512) (i : Nat), i < 8 → lane (vadd 2 o a b) 64 i = (lane a 64 i + lane b 64 i) % 2 ^ 64) ∧
  ∀ (ty : Nat) (o a b : BitVec 512) (k : Nat), k < 64 → lane (vshuf ty o a b) 8 k = lane a 8 (lane b 8 k % 64)

/-- For a thread that may issue, ADD in the Register format with FUNC[9:5] not zero or U = 1, MULH in an Immediate form, which
does not exist, a shift with IMM[14:6] not zero, CMP with FUNC above 5 or D above 7, and VMUL with lane type i64 or
FUNC[7:5] not zero raise exception cause 1 (ILLEGAL) and do nothing else. (R312, R320, R321, R333, R334.) -/
def Obligations.ReservedFieldsRaiseIllegal : Prop :=
  ∀ (s : State) (t : Fin 512), s.d.issues t = true →
    let illegal (c : Instr) : Prop := Raises s t c 1 0
    (∀ rd a b u rsv, rsv ≠ 0 ∨ u = true → illegal (.add t (.reg rd a b u rsv))) ∧
    (∀ rd a i, illegal (.mulh t (.imm rd a i))) ∧
    (∀ rd a (i : BitVec 15), 64 ≤ i.toNat → illegal (.shl t (.imm rd a i))) ∧
    (∀ f : RegF, 8 ≤ f.d.toNat ∨ 6 ≤ f.func.toNat → illegal (.cmp t f)) ∧
    ∀ f : VecF, f.pn ≠ 0 ∨ f.ty = 2 ∨ f.ty = 3 → illegal (.vmul t f)

/-- For a thread that may issue an 8-byte instruction and has a free token, with X naming handle h and Y zero: TFETCH.Q binds
h to empty rows for the queries of the staged record that gb selects; TFETCH.N empties h when ga is 0, and else binds it
to the page that the entry ga names; TFETCH.A appends that page to the operand; TFETCH.WN and TFETCH.WA do the same with
the window of a staged record; TFETCH.M binds h to activations with scores of zero; TFETCH.W binds h to the weights that
ga and gb select. The thread goes on past the instruction with a token in gd that ends with status 0. The hypotheses say
that the operands are in range, the memory is the stand's and the page is good. (R270, R271, R274, R275, R339, R340, R341,
R281, 06 Table 4, 07 Table 10.) -/
def Obligations.FetchBindsAHandle : Prop :=
  ∀ (s : State) (t : Fin 512) (f : LongF) (h : Nat), LongReady s t → FreeToken s.d t →
    (s.d.thr t).handleOf f.x = some h → f.y = 0 →
    let d := s.d
    let x := d.thr t
    let ga := d.g t f.a
    let gb := d.g t f.b
    let gives (c : Instr) (d1 : Dev) (src : Option Nat) (v : Handle) : Prop :=
      TileIssues s t f.d c d1 0 src ∧ d1.handle t h = some v
    (∀ slot eng hdr c qs, stageExc ga 32 = none → x.isOperand h = false → d.nextSlot t h = some (slot, eng) →
      d.memRead t ga 128 = (hdr, d) → d.recCtx t hdr = some c →
      d.memRead t (ga + 128) (querySize (queryFmt hdr) c.n (c.headCnt * c.g * c.pr.dim)) = (qs, d) →
      bits gb 7 0 < c.headCnt → bits gb 23 8 + bits gb 39 24 ≤ c.n → bits gb 39 24 * c.g ≤ 128 →
      ∃ rs : RowSet, gives (.tfetchQ t f) (d.bind t h (.rows rs)) none (.rows rs) ∧ rs.engine = eng ∧ rs.slot = slot ∧
        rs.rows.length = bits gb 39 24 * c.g ∧ ∀ r ∈ rs.rows, r.st = emptyRow c.pr.dim) ∧
    (ga = 0 → (Tab.has x.t h = true → x.isOperand h = true) →
      TileIssues s t f.d (.tfetchN t f) (d.dropHandle t h) 0 none ∧ (d.dropHandle t h).handle t h = none) ∧
    (∀ fr tile set l p pr, d.tileNamed (d.thrStand t) ga = some (fr, tile, (set, l, p), pr) → tileFlag tile flQuar = false →
      pteTier ga < 2 ∨ (pteTier ga = 2 ∧ dcrcOk tile = true) → ga ≠ 0 →
      let part : KvPart := ⟨false, recNum tile 16 4, recNum tile 12 2, pr, 0, pr.heads, tile, [], (set, l, p),
        if bits gb 31 16 = 0 then 65535 else bits gb 31 16⟩
      let e := d.heatUp set l p
      (d.bindExc t x h (bits gb 5 0) = none → partsBad [part] = false →
        gives (.tfetchN t f) (e.bindKv t h ⟨bits gb 5 0, [part], 0⟩ part) (some fr) (.kv ⟨bits gb 5 0, [part], x.vers + 1⟩)) ∧
      ∀ o, d.appendTo t x h (bits gb 5 0) = .inr o → partsBad (o.parts ++ [part]) = false →
        gives (.tfetchA t f) (e.appendKv t h o part) (some fr) (.kv { o with parts := o.parts ++ [part], version := x.vers + 1 })) ∧
    (∀ part, stageExc ga 32 = none → d.windowPart t ga = some (part, d) →
      (d.bindExc t x h (bits gb 5 0) = none → partsBad [part] = false →
        gives (.tfetchWn t f) (d.bindKv t h ⟨bits gb 5 0, [part], 0⟩ part) none (.kv ⟨bits gb 5 0, [part], x.vers + 1⟩)) ∧
      ∀ o, d.appendTo t x h (bits gb 5 0) = .inr o → partsBad (o.parts ++ [part]) = false →
        gives (.tfetchWa t f) (d.appendKv t h o part) none (.kv { o with parts := o.parts ++ [part], version := x.vers + 1 })) ∧
    (∀ slot eng bs, let rows := bits gb 7 0; let k := bits gb 16 8; let fc := bits gb 18 17
      stageExc ga 32 = none → x.isOperand h = false → d.nextSlot t h = some (slot, eng) → 1 ≤ rows → rows ≤ 128 → 32 ≤ k →
      k ≤ 256 → k % 32 = 0 → fc ≤ 2 → bits gb 63 19 = 0 → d.memRead t ga (querySize (actFmt fc) rows k) = (bs, d) →
      ∃ m : MatRows, gives (.tfetchM t f) (d.bind t h (.mat m)) none (.mat m) ∧ m.rows = rows ∧ m.k = k ∧ m.engine = eng ∧
        m.slot = slot ∧ m.score = List.replicate rows (List.replicate 256 0)) ∧
    (∀ bs, let fmt := bits gb 15 8; let n := bits gb 24 16; let k := bits gb 33 25
      let size := if fmt = 5 then n * k * fmtBits fmt / 8 else roundUp (n * k * fmtBits fmt / 8) 32 + n * k / 32
      d.bindExc t x h (bits gb 5 0) = none → ga.toNat % 256 = 0 → bits gb 7 6 = 0 → fmt ≤ 5 → 1 ≤ n → n ≤ 256 → 32 ≤ k →
      k ≤ 256 → k % 32 = 0 → bits gb 63 34 = 0 → d.doing.badRead = false →
      d.weightRead (d.thrStand t) ga.toNat size = some (bs, false) →
      ∃ w, TileIssues s t f.d (.tfetchW t f false) (Dev.bind (d.reading false) t h (.weight ⟨bits gb 5 0, fmt, n, k, w, false, x.vers + 1⟩)) 0 none ∧
        w.length = n)

/-- For a thread that may issue an 8-byte instruction and has a free token, on a row set h and an operand y on its engine: TQK
leaves the rows, keeps a score for each row and key that is masked exactly when the key is not visible to the row, and is
to be skipped exactly when nothing is visible; TSMX with visible keys replaces the state of row i by the online softmax of
its scores, and does nothing otherwise; TPV after a TQK on the same operand updates o and the check sums of each row and
leaves m and l; TMERGE folds into row i the row that memory holds at ga for it; TCHK outside check mode ends with status 0
and changes no row. Each takes a token, and nothing but the handle, the thread and the count of free values changes. The
order of FP32 sums is a free value (log 16). (R198, R205, R206, R213, R218, R219, R277, R342, R345, R346, 07 Table 11.) -/
def Obligations.AttentionSteps : Prop :=
  ∀ (s : State) (t : Fin 512) (f : LongF) (h : Nat) (r : RowSet), LongReady s t → FreeToken s.d t →
    (s.d.thr t).handleOf f.x = some h → s.d.handle t h = some (.rows r) →
    let d := s.d
    let x := d.thr t
    let rowsBy (c : Instr) (g : Nat → QRow → QRow) : Prop :=
      ∃ d1 r2, TileIssues s t f.d c d1 0 none ∧ OnlyHandles d d1 t ∧ d1.handle t h = some (.rows r2) ∧
        (∀ i, r2.rows[i]? = (r.rows[i]?).map (g i)) ∧ r2.engine = r.engine ∧ r2.slot = r.slot
    (∀ y o func, func.toNat ≤ 2 → f.a = 0 → f.b = 0 → x.handleOf f.y = some y → pairOf x h y = .inr (r, o) →
      quantBad func.toNat o = false → (o.toks d.slots d.freeCtr true r.kvHead r.dim).2 = none →
      let keys := (o.toks d.slots d.freeCtr true r.kvHead r.dim).1
      ∃ d1 r2, TileIssues s t f.d (.tqk t f func) d1 0 none ∧ OnlyHandles d d1 t ∧ d1.handle t h = some (.rows r2) ∧
        r2.rows = r.rows ∧ r2.last = some (y, o.version) ∧ r2.scores.length = r.rows.length ∧
        (∀ (i : Nat) (q : QRow) (row : List (Option (BitVec 32))), r.rows[i]? = some q → r2.scores[i]? = some row →
          row.length = keys.length ∧ ∀ (j : Nat) (k : OpTok) (v : Option (BitVec 32)), keys[j]? = some k → row[j]? = some v → (v = none ↔ r.visible q.pos k = false)) ∧
        (r2.skip = true ↔ ∀ row ∈ r2.scores, ∀ v ∈ row, v = none)) ∧
    (f.a = 0 → f.b = 0 → f.y = 0 →
      (r.skip = true → TileIssues s t f.d (.tsmx t f 0) d 0 none) ∧
      (r.skip = false → rowsBy (.tsmx t f 0) fun i q =>
        { q with st := (smxRow (d.freeCtr + 1000 * i) r.pFmt q.st (r.scores.getD i [])).1 })) ∧
    (∀ y o, f.a = 0 → f.b = 0 → x.handleOf f.y = some y → pairOf x h y = .inr (r, o) → r.last = some (y, o.version) →
      r.skip = false → (o.toks d.slots d.freeCtr false r.kvHead r.dim).2 = none →
      ∃ g, rowsBy (.tpv t f 0) g ∧ ∀ i q, (g i q).st.m = q.st.m ∧ (g i q).st.l = q.st.l ∧ (g i q).idx = q.idx ∧ (g i q).q = q.q ∧
        (g i q).st.o.length = q.st.o.length) ∧
    (∀ bs, f.y = 0 → stageExc (d.g t f.a) 8 = none →
      let n := 8 + (if bitAt (d.g t f.b) 0 then 2 else 4) * r.dim
      d.memRead t (d.g t f.a) (n * r.rows.length) = (bs, d) →
      ∃ g, rowsBy (.tmerge t f 0) g ∧ ∀ i q, (g i q).idx = q.idx ∧
        (g i q).st = mergeRow (d.freeCtr + 4 * i) q.st
          (if bitAt (d.g t f.b) 0 then readRowBf r.dim ((bs.drop (n * i)).take n) else readRow r.dim ((bs.drop (n * i)).take n))) ∧
    (f.a = 0 → f.b = 0 → f.y = 0 → r.check = false → rowsBy (.tchk t f 0) fun _ q => q)

/-- For a thread that may issue an 8-byte instruction and has a free token: TSTORE of rows outside check mode writes each row
as m, l and o in FP32 at ga + index × (8 + 4 × dimension), and frees the handle with its slot; TMM on activations and
weights of one K on its engine gives score column j of row r the old score (0 for Z) plus the products, for j below N, and
leaves the other columns; TSTORE.S writes the first N scores of row r at ga + 1,024 × r. Each takes a token that ends with
status 0. (R215, R219, R272, R343, R344, R346, 05 Table 4.) -/
def Obligations.RowsAndScoresStored : Prop :=
  ∀ (s : State) (t : Fin 512) (f : LongF) (h : Nat), LongReady s t → FreeToken s.d t → (s.d.thr t).handleOf f.x = some h →
    let d := s.d
    let x := d.thr t
    let ga := d.g t f.a
    (∀ r, d.handle t h = some (.rows r) → f.b = 0 → f.y = 0 → stageExc ga 8 = none → r.check = false →
      let d1 := r.rows.foldl (fun d q => d.memWrite t (ga + BitVec.ofNat 64 (q.idx * (8 + 4 * r.dim))) (rowBytes q.st))
        (d.tookN (512 * r.rows.length))
      TileIssues s t f.d (.tstore t f) (d1.dropHandle t h) 0 none ∧ (d1.dropHandle t h).handle t h = none) ∧
    (∀ y m w func, func.toNat ≤ 1 → f.a = 0 → f.b = 0 → x.handleOf f.y = some y → d.handle t h = some (.mat m) →
      d.handle t y = some (.weight w) → w.engines.testBit m.engine = true → m.k = w.k → w.lost = false →
      ∃ d1 m2, TileIssues s t f.d (.tmm t f func) d1 0 none ∧ OnlyHandles d d1 t ∧ d1.handle t h = some (.mat m2) ∧ m2.n = w.n ∧
        m2.a = m.a ∧ ∀ (i : Nat) (a : List Fv) (row : List (BitVec 32)) (j : Nat) (old : BitVec 32), m.a[i]? = some a → m.score[i]? = some row → row[j]? = some old →
          ∃ (row2 : List (BitVec 32)) (v : BitVec 32), m2.score[i]? = some row2 ∧ row2[j]? = some v ∧ (w.n ≤ j → v = old) ∧
            (j < w.n → ∃ k, v = toF32 (sumFree k (f32 (if func.toNat = 1 then 0 else old) :: List.zipWith Fv.mul a (w.w.getD j []))))) ∧
    (∀ m, d.handle t h = some (.mat m) → f.b = 0 → f.y = 0 → stageExc ga 8 = none →
      TileIssues s t f.d (.tstoreS t f)
        (m.score.zipIdx.foldl (fun d (row, r) => d.memWrite t (ga + BitVec.ofNat 64 (1024 * r)) ((row.take m.n).flatMap fun w => natLe 4 w.toNat)) d)
        0 none)

/-- While the device serves: TILE_OP_DONE of a token whose operation reads no frame completes the token with the status that
the operation was to end with, and frees an anonymous token, keeping a status other than 0 as sticky. For a thread that
may issue: TWAIT on a completed token gives its status in gd, frees it and goes on, and on one in use waits for it; TWAIT
on all tokens gives the sticky status, and clears it, once every token has completed, and waits otherwise; NBWAIT gives
the status of a near-bank token whose program has been done away with, and waits on one that has not completed; RFENCE
gives the first status of the remote operations since the last one when none is pending, and waits otherwise. (R281, R282,
R283, R284, R285, 07 Table 11.) -/
def Obligations.TokensCompleteAndAreAwaited : Prop :=
  ∀ (s : State) (t : Fin 512),
    let d := s.d
    let x := d.thr t
    let goes (x : Thread) (rd : BitVec 5) (v len : Nat) : Dev := d.setThr t ((x.wg rd.toNat (BitVec.ofNat 64 v)).next len)
    (∀ (n : BitVec 6) (anon : Bool) (st : Nat), d.serving = true → x.wait = .run →
      Tab.get? x.toks n.toNat = some ⟨.tile none, anon, some st, none⟩ →
      GivesLater s (.tileOpDone t n false) (d.setThr t (if anon then { x with toks := Tab.del x.toks n.toNat }.stick st
        else { x with toks := Tab.set x.toks n.toNat ⟨.tile none, false, some st, some st⟩ }))) ∧
    (∀ (f : LongF) (k : Tok), LongReady s t → f.b = 0 → f.x = 0 → f.y = 0 →
      let n := (d.g t f.a).toNat
      (f.a ≠ 0 → Tab.get? x.toks n = some k →
        (∀ st, k.done = some st → GivesLater s (.twait t f 0) (d.setThr t
          { (x.wg f.d.toNat (BitVec.ofNat 64 st)).next 8 with toks := Tab.del x.toks n })) ∧
        (k.done = none → GivesLater s (.twait t f 0) (d.setThr t { x with wait := .twait f.d.toNat n }))) ∧
      (f.a = 0 → (x.allDone = true → GivesLater s (.twait t f 0) (goes { x with sticky := 0 } f.d x.sticky 8)) ∧
        (x.allDone = false → GivesLater s (.twait t f 0) (d.setThr t { x with wait := .twaitAll f.d.toNat })))) ∧
    (∀ (f : RegF) (anon : Bool) (ready done : Option Nat) (id : Nat), d.issues t = true → f.func = 0 → f.b = 0 →
      let n := (d.g t f.a).toNat
      Tab.get? x.toks n = some ⟨.nbx id, anon, ready, done⟩ →
      (∀ st, done = some st → Tab.has d.nbprogs id = false → GivesLater s (.nbwait t f) (d.setThr t
        { (x.wg f.d.toNat (BitVec.ofNat 64 st)).next 4 with toks := Tab.del x.toks n })) ∧
      (done = none → GivesLater s (.nbwait t f) (d.setThr t { x with wait := .nbwait f.d.toNat n }))) ∧
    ∀ (rd : BitVec 5), LongReady s t →
      let ns := (x.toks.filter fun e => match e.2.kind with
        | .remote _ => e.2.done.isNone
        | _ => false).map (·.1)
      (ns = [] → GivesLater s (.rfence t ⟨rd, 0, 0, 0, 0, 0⟩ 0) (goes { x with rfirst := 0 } rd x.rfirst 8)) ∧
      (ns ≠ [] → GivesLater s (.rfence t ⟨rd, 0, 0, 0, 0, 0⟩ 0) (d.setThr t { x with wait := .rfence rd.toNat ns }))

/-- For a thread that may issue: PWALK on a resident or running sequence of its own, in a layer of the profile, gives the
entry of the page that holds the token in the generation that the thread has pinned, and else pins the present generation,
when the layer has pages and the thread has fewer than 16 pins; PWALK.R gives up the pin; DLOOK gives the entry, without
SET_PTR for a stand other than 0, or 0; DINS and DDEL that are accepted list the directory operation and wait for it, and
refused ones give the status; DIR_UPDATE_DONE writes the entry of the oldest operation to the directory, or takes it out,
and lets the waiting thread go on with status 0. (R135, R141, R258, R349, R350, R351, R352, R353, R359, 07 Table 12.) -/
def Obligations.PageWalkAndDirectoryInstructions : Prop :=
  ∀ (s : State) (t : Fin 512) (f : RegF), s.d.issues t = true →
    let d := s.d
    let x := d.thr t
    let ga := d.g t f.a
    let gb := d.g t f.b
    let st := d.thrStand t
    (∀ v pr, f.func = 0 → x.tokFree ≠ 0 → d.look x.seqKey = some v → d.seqProfile? x.seqKey = some pr →
      (bits v 63 61 = stResident ∨ bits v 63 61 = stRunning) → ga.toNat < pr.layers →
      let set := dvSet v
      let l := ga.toNat
      (∀ p, d.pinOf t set l = some p → GivesLater s (.pwalk t f) (d.withG t f.d (d.walkFrom (d.pinRoot p) pr.tpp gb.toNat))) ∧
      (d.pinOf t set l = none → d.root set l ≠ 0 → (d.pins.filter fun p => p.thread == t.val).length < 16 →
        GivesLater s (.pwalk t f) ((d.pin set l t).withG t f.d (d.walkFrom (d.root set l) pr.tpp gb.toNat))) ∧
      (d.pinOf t set l = none → d.root set l = 0 → GivesLater s (.pwalk t f) (d.withG t f.d 0))) ∧
    (∀ v p, f.func = 1 → f.d = 0 → f.b = 0 → d.entry x.seqKey = some v → d.pinOf t (dvSet v) ga.toNat = some p →
      GivesLater s (.pwalkR t f) ((d.unpin p).past t 4)) ∧
    (f.func = 0 → f.b = 0 →
      (∀ v, d.look (seqKey st ga.toNat) = some v →
        GivesLater s (.dlook t f false) (d.withG t f.d (if st = 0 then v else putBits v 24 0 0))) ∧
      (d.look (seqKey st ga.toNat) = none → GivesLater s (.dlook t f false) (d.withG t f.d 0))) ∧
    (f.func = 0 → ∀ code d1, d.insert (seqKey st ga.toNat) gb.toNat (.thread t f.d.toNat) = (code, d1) →
      (code = dsOk → GivesLater s (.dins t f) (d1.setThr t { d1.thr t with wait := .table f.d.toNat }) ∧
        ∃ v, d1.dirOps = d.dirOps ++ [⟨seqKey st ga.toNat, some v, .thread t f.d.toNat⟩]) ∧
      (code ≠ dsOk → GivesLater s (.dins t f) (d1.withG t f.d (BitVec.ofNat 64 code)))) ∧
    (f.func = 0 → f.b = 0 → ∀ v, d.entry (seqKey st ga.toNat) = some v → bits v 63 61 ≠ stRunning → bits v 63 61 ≠ stRestoring →
      GivesLater s (.ddel t f) (Dev.setThr { d with
        shadow := Tab.del d.shadow (seqKey st ga.toNat), moves := d.moves.filter fun m => m.key != seqKey st ga.toNat,
        dirOps := d.dirOps ++ [⟨seqKey st ga.toNat, none, .thread t f.d.toNat⟩] } t { x with wait := .table f.d.toNat }))

/-- While the device serves, DIR_UPDATE_DONE carries out the oldest listed directory operation: an insertion becomes visible
to lookups with the value that the entry has by then; a deletion takes the entry out and frees its page table set; then a
host command completes with status 0, and a thread that still waits goes on with status 0 in its register. (R141, R142,
R145, R359.) -/
def Obligations.DirectoryUpdateEnds : Prop :=
  ∀ (s : State) (o : DirOp) (r : List DirOp), s.d.serving = true → s.d.dirOps = o :: r →
    let d := s.d
    let d0 : Dev := { d with dirOps := r }
    let d1 : Dev := match o.val with
      | some v => { d0 with dir := Tab.set d.dir o.key ((d.entry o.key).getD v) }
      | none => match d.look o.key with
        | some v => if dvSet v = 0 then { d0 with dir := Tab.del d.dir o.key } else Dev.freeSet { d0 with dir := Tab.del d.dir o.key } (dvSet v)
        | none => { d0 with dir := Tab.del d.dir o.key }
    (∀ q tag opc, o.who = .host q tag opc → GivesLater s .dirUpdateDone (d1.postCmd q tag opc 1 0 0 0)) ∧
    (∀ (t : Fin 512) reg, o.who = .thread t reg → (d1.thr t).wait = .table reg →
      GivesLater s .dirUpdateDone (d1.setThr t (({ d1.thr t with wait := .run }.wg reg 0).next 4)))

/-- For a thread that may issue: MHINT with hint 0 or 1 sets the heat of every page of the layer, or of all layers, to 255 or
0, with 2 or 3 the tier of new pages, with 4 or 5 the pin of the thread's own resident sequence; YARD starts the yarding
of a resident sequence; RESTORE starts the restore of a yarded one when the quota admits it; DIGEST of a sealed page in
cell or edge DRAM that expands writes its CRC-64 into the descriptor and clears STALE. Each gives status 0 and goes on.
(R148, R153, R164, R167, R354, R355, R356, R357, R358, R359.) -/
def Obligations.SequenceInstructions : Prop :=
  ∀ (s : State) (t : Fin 512) (f : RegF), s.d.issues t = true → f.func = 0 →
    let d := s.d
    let x := d.thr t
    let ga := d.g t f.a
    let hint := bits (d.g t f.b) 2 0
    let st := d.thrStand t
    let key := seqKey st ga.toNat
    let ok (c : Instr) (d1 : Dev) : Prop := GivesLater s c (d1.withG t f.d 0)
    (∀ v, d.look x.seqKey = some v → (bits v 63 61 = stResident ∨ bits v 63 61 = stRunning) →
      (hint = 0 → ok (.mhint t f) (d.hintHeat (dvSet v) (bitAt ga 63) ga.toNat 255)) ∧
      (hint = 1 → ok (.mhint t f) (d.hintHeat (dvSet v) (bitAt ga 63) ga.toNat 0)) ∧
      (hint = 2 → ok (.mhint t f) (d.setEntry x.seqKey (putBits v 60 59 0))) ∧
      (hint = 3 → ok (.mhint t f) (d.setEntry x.seqKey (putBits v 60 59 1))) ∧
      (hint = 4 → ok (.mhint t f) (d.setEntry x.seqKey (putBits v 58 58 1))) ∧
      (hint = 5 → ok (.mhint t f) (d.setEntry x.seqKey (putBits v 58 58 0)))) ∧
    (f.b = 0 → ∀ v, d.look key = some v → bits v 63 61 = stResident → ok (.yard t f) (d.startYard key)) ∧
    (f.b = 0 → ∀ d1, d.restore key = (dsOk, d1) → ok (.restore t f) d1) ∧
    (f.b = 0 → ∀ fr tile set l p pr page, d.tileNamed st ga = some (fr, tile, (set, l, p), pr) → tileFlag tile flQuar = false →
      tileFlag tile flOpen = false → pteTier ga < 2 → expandTile d.slots tile = (page, false) →
      ok (.digest t f) (d.tileWrite (pteTier ga) st (pteFrame ga) 0
        ((setTileFlag (recPut tile 64 (natLe 8 (crc64 page))) flStale false).take descLen)))

/-- For a thread that may issue and has a free token, NBX with a descriptor that passes the checks, on a page or scratch page
of its stand, with owned stage ranges and fewer than 256 programs in the cell, lists that program with a token in gd.
While the device serves: a listed program on a scratch page starts when no earlier one waits for that page, and is
counted; a running one that ends a slice before its last row has moved on by its rows, and has the postponed refreshes
that the command names, at most 8; one paused for refresh goes on with none postponed; one that has ended with nothing
outstanding is done away with and its thread looked at; an error of a unit ends the program with status 4 and counts and
raises it. (R426, R431, R436, R437, R441, R442, R446, R456, R457, 07 Table 13.) -/
def Obligations.NearBankProgramIssuedAndRun : Prop :=
  ∀ (s : State),
    let d := s.d
    (∀ (t : Fin 512) (f : RegF) (p : NbPage), d.issues t = true → FreeToken d t → f.func = 0 → (d.g t f.a).toNat % 64 = 0 →
      d.nbPage (d.thrStand t) (d.g t f.b) = some p →
      let g := d.nbProgOf t (d.g t f.a) p
      (d.nbprogs.filter fun e => e.2.cell == d.nbCell (d.thrStand t) p && !e.2.ended).length < 256 → g.bad = false →
      (g.usesAux = true → recNum g.desc 24 8 ≠ 0 → g.aux.isSome = true) →
      (∀ r ∈ g.stageRanges, adTag r.1 = 1 ∧ d.ownsStage t (adOff r.1) r.2.1 r.2.2 = true) →
      ∃ n, n < 64 ∧ Tab.has (d.thr t).toks n = false ∧
        let x := (({ d.thr t with toks := Tab.set (d.thr t).toks n ⟨.nbx d.nbNext, f.d.toNat == 0, none, none⟩ }).wg f.d.toNat (BitVec.ofNat 64 n))
        let e : Dev := { d.took.setThr t x with nbprogs := Tab.set d.nbprogs d.nbNext { g with tok := n }, nbNext := d.nbNext + 1 }
        GivesLater s (.nbx t f) ((e.nbPromote p).setThr t (x.next 4))) ∧
    (d.serving = true → ∀ (id : BitVec 32) (g : NbProg), Tab.get? d.nbprogs id.toNat = some g →
      (g.running = false → g.ended = false → d.halted = false → g.target.scratch = true →
        (∀ e ∈ d.nbprogs, e.1 < id.toNat → e.2.ended = false → e.2.target.same g.target = false) →
        tileFlag (d.tileRead (pteTier (d.nbEntry g.target)) g.stand (pteFrame (d.nbEntry g.target)) descLen) flYarded = false →
        tileFlag (d.tileRead (pteTier (d.nbEntry g.target)) g.stand (pteFrame (d.nbEntry g.target)) descLen) flQuar = false →
        pteTier (d.nbEntry g.target) = 0 → pteMig (d.nbEntry g.target) = 0 → ∀ d0, d.nbRaw g (d.nbEntry g.target) = some d0 →
        ∃ d1, GivesLater s (.nbProgramStart id) d1 ∧ d1.nbprogs = Tab.upd d0.nbprogs id.toNat (fun g => { g with
            running := true, cell := frameDie (pteFrame (d0.nbEntry g.target)), target := { g.target with pte := d0.nbEntry g.target },
            tokens := recNum (d.tileRead (pteTier (d.nbEntry g.target)) g.stand (pteFrame (d.nbEntry g.target)) descLen) 12 2 })) ∧
      (g.paused = true → ∃ d1, GivesLater s (.refreshPauseEnd id) d1 ∧
        d1 = { d with regs := d1.regs, nbprogs := Tab.set d.nbprogs id.toNat { g with paused := false, post := 0 } }) ∧
      (g.ended = true → g.waits = [] → g.target.scratch = true → GivesLater s (.nbProgramEnd id)
        (Dev.wake { d with nbprogs := Tab.del d.nbprogs id.toNat, lateFree := d.lateFree.map fun (y : DeferFree) =>
          { y with waits := y.waits.filter fun w => w != holdWait id.toNat } } g.thread)) ∧
      (∀ (unit kind : BitVec 8), g.running = true → GivesLater s (.nbuError id unit kind)
        ((((d.nbErr g.cell unit.toNat kind.toNat).raise (32 * g.cell + 16) ⟨.nbu, 64 * g.cell + unit.toNat⟩ [g.stand]
          (BitVec.ofNat 64 (kind.toNat * 2 ^ 32 + g.order % 2 ^ 32))).nbQuar g).nbEnd id.toNat 4)) ∧
      (∀ (rows : BitVec 16) (post : BitVec 4), g.running = true → g.paused = false → 1 ≤ rows.toNat →
        (d.nbUnits g (g.rowFirst + g.row) (g.rowFirst + g.row + 1)).any (fun u => d.underPatrol ⟨.nbu, 64 * g.cell + u⟩) = false →
        g.row + rows.toNat < g.rowCnt →
        ∃ d1 g1, GivesLater s (.nbSliceEnd id rows post none) d1 ∧ Tab.get? d1.nbprogs id.toNat = some g1 ∧
          g1.row = g.row + rows.toNat ∧ g1.post = min 8 post.toNat ∧ g1.ended = false))

/-- For a thread that may issue an 8-byte instruction and has a free token, with a descriptor at ga that passes the checks, a
connection of its stand open to the named node, and for all but RNOTE stage bytes at gb that the thread owns: each takes a
token and starts one message on the connection, a PUT with the stage bytes and the notice of its flags, a GET for the
stage bytes, an ATOM of the function with the 16 operand bytes, or a NOTE with the value gb; the thread goes on past the
instruction. (R285, R286, R287, R288, 07 Table 14.) -/
def Obligations.RemoteOperationsStart : Prop :=
  ∀ (s : State) (t : Fin 512) (f : LongF) (r : List Byte) (cx : Conn), LongReady s t → FreeToken s.d t → f.x = 0 → f.y = 0 →
    f.ext = 0 →
    let d := s.d
    let ga := d.g t f.a
    let gb := d.g t f.b
    let c := recNum r 2 2
    let key := BitVec.ofNat 32 (recNum r 4 4)
    let off := recNum r 8 8
    let len := recNum r 16 4
    let tc := recNum r 20 1
    adTag ga = 0 → ga.toNat % 32 = 0 → recNum r 0 2 ≠ d.node → d.conn? c = some cx → cx.st = 2 → cx.stand = d.thrStand t →
    cx.peer = recNum r 0 2 →
    let starts (i : Instr) (m : Nat → OutMsg) : Prop := ∃ n, n < 64 ∧ Tab.has (d.thr t).toks n = false ∧
      let x := ({ d.thr t with toks := Tab.set (d.thr t).toks n ⟨.remote d.opNext, f.d.toNat == 0, none, none⟩ }).wg f.d.toNat (BitVec.ofNat 64 n)
      let e : Dev := { d.took.setThr t x with opNext := d.opNext + 1 }
      GivesLater s i ((e.startMsg c (m n)).advance t 8)
    let bytes (n : Nat) : List Byte := d.stageRead t (adOff gb) n
    (d.remoteDesc t ga false = some r → adTag gb = 1 →
      (d.ownsStage t (adOff gb) len false = true → starts (.rput t f 0) fun n =>
        { mkMsg tyPut tc (recNum r 21 1 == 1) key off (bytes len) len (.thread t n d.opNext (adOff gb)) with pkts := cutPkts len 0 }) ∧
      (d.ownsStage t (adOff gb) len true = true → starts (.rget t f 0) fun n =>
        { mkMsg tyGet tc false key off [] len (.thread t n d.opNext (adOff gb)) with pkts := cutPkts len 0 })) ∧
    (d.remoteDesc t ga true = some r →
      (∀ func : BitVec 10, func.toNat < 6 → adTag gb = 1 → gb.toNat % 16 = 0 → d.ownsStage t (adOff gb) 16 true = true →
        starts (.ratom t f func) fun n =>
          { mkMsg tyAtom tc false key off (bytes 16) 16 (.thread t n d.opNext (adOff gb)) with
            pkts := [⟨0, 16, BitVec.ofNat 64 func.toNat, .unsent, 0, 0, false, false⟩] }) ∧
      starts (.rnote t f 0) fun n =>
        { mkMsg tyNote tc true key off (natLe 8 gb.toNat) len (.thread t n d.opNext 0) with pkts := cutPkts len 0 })

/-- For a thread that may issue: QPOP outside a sub-order, on a core that stays bound, waits for one and leaves the exception
handler; QPUSH ends the sub-order with the status once every token has completed, and waits until then; QPEEK gives the
sub-orders queued for the slot, at most 65,535; TIME gives fabric time in ns, or with FUNC 1 in units of 2^-16 ns; TSLEEP
waits for a fabric time in the future or for a time that is not 0, and else goes on, and TSLEEP_WAKE lets it go on once
the time is reached; SYSR gives a core register, SYSW writes one; a system access reads and writes as the stand's register
access; FAULT raises the stand's software fault with its detail; SESS gives the session status of its own stand, or, to
stand 0, of any; BLAZE writes its 32-byte record at the next place of an enabled ring, and counts a drop with none. (R248,
R249, R263, R264, R286, R290, R293, R295, 07 Table 15, 07 Table 16, 06 Table 12.) -/
def Obligations.QueueTimeAndSystemInstructions : Prop :=
  ∀ (s : State) (t : Fin 512) (f : RegF), s.d.issues t = true →
    let d := s.d
    let x := d.thr t
    let ga := d.g t f.a
    let st := d.thrStand t
    (∀ im, f.b = 0 → f.func = 0 → x.sub = none → (d.core (t / 4)).closing = false → d.thrImage t = some im → im.live = true →
      GivesLater s (.qpop t f) (d.setThr t { x with inExc := false, wait := .qpop f.d.toNat (ga.toNat % 262144 / 64 * 64) d.up })) ∧
    (∀ sid, f.d = 0 → f.b = 0 → f.func = 0 → x.sub = some sid → ga.toNat ≤ 11 →
      let e := d.setThr t { x with wait := .qpush ga.toNat, inExc := false }
      (x.allDone = false → GivesLater s (.qpush t f) e) ∧ (x.allDone = true → GivesLater s (.qpush t f) (e.pushEnd t ga.toNat))) ∧
    (∀ im, f.a = 0 → f.b = 0 → f.func = 0 → d.thrImage t = some im →
      Gives s (.qpeek t f) (d.withG t f.d (BitVec.ofNat 64 (min (d.queuedFor (t / 32) im.stand im.slot) 65535)))) ∧
    (f.a = 0 → f.b = 0 → (f.func = 0 → Gives s (.time t f) (d.withG t f.d (BitVec.ofNat 64 (d.fab / 65536)))) ∧
      (f.func = 1 → Gives s (.time t f) (d.withG t f.d (BitVec.ofNat 64 d.fab)))) ∧
    (f.d = 0 → f.b = 0 →
      (f.func = 0 → d.fab / 65536 < ga.toNat → GivesLater s (.tsleep t f) (d.setThr t { x with wait := .tsleep (ga.toNat * 65536) })) ∧
      (f.func = 0 → ga.toNat ≤ d.fab / 65536 → GivesLater s (.tsleep t f) (d.past t 4)) ∧
      (f.func = 1 → ga.toNat ≠ 0 → GivesLater s (.tsleep t f) (d.setThr t { x with wait := .tsleep (d.fab + ga.toNat * 65536) }))) ∧
    (f.b = 0 → f.func ≠ 0x3FF → GivesLater s (.sysr t f) (d.withG t f.d (d.sysReg t f.func.toNat))) ∧
    (∀ v d1, f.b = 0 → f.func = 0x3FF → d.kernelRead st ga.toNat = (v, d1) →
      GivesLater s (.sysr t f) (d1.withG t f.d v)) ∧
    (f.d = 0 → f.func ≠ 0x3FF → f.func ≠ 6 → GivesLater s (.sysw t f) ((d.sysWrite t f.func.toNat (d.g t f.b)).past t 4)) ∧
    (f.d = 0 → f.func = 6 → GivesLater s (.sysw t f) (d.setThr t ({ x with seqKey := seqKey st (bits (d.g t f.b) 58 0) }.next 4))) ∧
    (∀ d1, f.d = 0 → f.func = 0x3FF → d.kernelWrite st ga.toNat (d.g t f.b) = d1 →
      (d1.thr t).wait = .run → (d1.thrImage t).isSome = true → GivesLater s (.sysw t f) (d1.past t 4)) ∧
    (f.d = 0 → f.b = 0 → GivesLater s (.fault t f) ((d.raise (0x382 + 4 * st) ⟨.core, t / 4⟩ [st]
      (BitVec.ofNat 64 (f.func.toNat * 2 ^ 48 + bits ga 47 0))).advance t 4)) ∧
    (f.b = 0 → (f.func = 0 → GivesLater s (.sess t f) (d.withG t f.d (d.sesStatus st))) ∧
      (f.func = 1 → st = 0 → GivesLater s (.sess t f) (d.withG t f.d (d.sesStatus (bits ga 4 0))))) ∧
    (f.d = 0 → f.b = 0 →
      (∀ i tr, (d.blaze st).len ≠ 0 → d.blazeTract st (d.blaze st) = some (i, tr) → tr.mode = 0 → tr.kind = 0 →
        GivesLater s (.blaze t f) (Dev.past { d.tractWrite tr ((d.blaze st).off.toNat + 32 * ((d.blaze st).seq.toNat % ((d.blaze st).len.toNat / 32)))
              (d.blazeRec t x ga f.func.toNat) with
            blazes := Tab.set d.blazes st { d.blaze st with seq := (d.blaze st).seq + 1 } } t 4)) ∧
      ((d.blaze st).len = 0 → GivesLater s (.blaze t f)
        (Dev.past { d with blazes := Tab.set d.blazes st { d.blaze st with drop := (d.blaze st).drop + 1 } } t 4)))

/-- While the device serves and is not halted, and the admission scheduler chooses an item: a work order with OPCODE KERNEL
and nothing wrong leaves its queue, becomes an order of its own number, and gets one sub-order for each selected cell of
the stand's stripe; a record that fails a check leaves its ring and becomes an order with no sub-orders that ends with the
failing status; a good query record that appends nothing leaves its ring and becomes an order whose sub-orders are those
that bucking makes of its slices and visible pages. SUBORDER_ISSUE with room in the cell queues the oldest held sub-order
of that cell. The device's own work follows each. (R180, R192, R194, R248, 06 Table 5, 12 Table 5.) -/
def Obligations.RecordsAdmittedIntoBucking : Prop :=
  ∀ (s : State) (d1 : Dev) (y : SItem) (a : AdmItem), s.d.serving = true → s.d.halted = false →
    let d := s.d
    let xs := d.admItems
    d.choose 0 (xs.zipIdx.map fun (x, i) => d.admSItem x i)
      (fun x => match xs[x.ref]? with
        | some a => (a.work && recNum a.item.bytes 58 1 == 3) || !(d.stripe a.stand).isEmpty
        | none => false) = (some y, d1) →
    xs[y.ref]? = some a →
    let r := a.item.bytes
    let noWork : Dev := { d1 with wqs := Tab.set d1.wqs a.stand ((d1.workq a.stand).eraseIdx a.pos) }
    let noRing : Dev := { d1 with rings := Tab.set d1.rings a.stand ((d1.ring a.stand).eraseIdx a.pos) }
    let with_ (e : Dev) (o : Order) : Dev := { e with orders := Tab.set e.orders e.orderNext o, orderNext := e.orderNext + 1 }
    (a.work = true → noWork.wCheck a.stand r = 0 → recNum r 58 1 = 4 →
      let seq := (recNum r 60 1).testBit 0
      ∃ (o : Order) (us : List Sub), GivesLater s .recordAdmit (((with_ noWork o).took).addSubs us) ∧
        o.stand = a.stand ∧ o.kind = 4 ∧ o.bytes = r ∧ o.stop = 0 ∧ o.seq = seq ∧ o.key = (if seq then seqKey a.stand (recNum r 16 8) else 0) ∧
        (∀ u ∈ us, u.order = d1.orderNext ∧ u.stand = a.stand ∧ u.cell ∈ d1.stripe a.stand) ∧
        (∀ c ∈ d1.stripe a.stand, (recNum r 56 2).testBit c = true → c ∈ us.map (·.cell)) ∧
        ((∀ c ∈ d1.stripe a.stand, (recNum r 56 2).testBit c = false) → us.length ≤ 1)) ∧
    (a.work = true → ∀ code, noWork.wCheck a.stand r = code → code ≠ 0 → recNum r 58 1 ≠ 3 →
      ∃ o : Order, GivesLater s .recordAdmit (with_ noWork o) ∧ o.stand = a.stand ∧ o.bytes = r ∧ o.stop = code) ∧
    (a.work = false → ∀ pr v, noRing.took.seqProfile? (seqKey a.stand (qHandle r)) = some pr →
      noRing.took.entry (seqKey a.stand (qHandle r)) = some v →
      (∀ code, noRing.qCheck a.stand r = code → code ≠ 0 →
        ∃ o : Order, GivesLater s .recordAdmit (with_ noRing.took o) ∧ o.stand = a.stand ∧ o.bytes = r ∧ o.stop = code) ∧
      (noRing.qCheck a.stand r = 0 → recNum r 58 1 = 0 →
        ∃ o : Order, GivesLater s .recordAdmit
            (((with_ noRing.took o).took).addSubs ((with_ noRing.took o).buckRecord d1.orderNext a.stand pr (dvSet v) r)) ∧
          o.stand = a.stand ∧ o.bytes = r ∧ o.kind = qKind r ∧ o.stop = 0 ∧ o.appendRes = 0 ∧ o.at_ = a.item.at_)) ∧
    (∀ (c : Fin 16) (n : Nat) (u : Sub), d.subs.find? (fun e => e.2.cell == c.val && e.2.st == .held) = some (n, u) →
      d.inFlight c < 384 → (Tab.count d.subs fun _ u => u.st != .held) < 6144 →
      GivesLater s (.suborderIssue c) { d with subs := Tab.set d.subs n { u with st := .queued } })

/-- While the device serves and is not halted, and the scheduler of cell c chooses a sub-order: when a thread of the sub-
order's image waits in QPOP and its areas fit in stage SRAM, the sub-order runs on that thread, which goes on past the
QPOP with 0 in gd, its order counts as started, and the input and output areas are taken; when a core is to be bound, its
four threads start at the image's entry with every other register zero. SUBORDER_WATCHDOG of a thread whose sub-order has
run for WDOG_US takes cause 13 at the image's handler. The device's own work follows each. (R244, R245, R247, R248, R249,
R253, R293, R336, 06 Table 7.) -/
def Obligations.SubordersDispatched : Prop :=
  ∀ (s : State), s.d.serving = true →
    let d := s.d
    (∀ (c : Fin 16) (d1 : Dev) (y : SItem) (u : Sub) (act : DispAct), d.halted = false →
      d.choose (1 + c) (d.cellItems c) (fun x => (match Tab.get? d.subs x.ref with
        | some u => d.dispAct u
        | none => .wait) != .wait) = (some y, d1) →
      Tab.get? d.subs y.ref = some u → d.dispAct u = act →
      (∀ (t im off : Nat) (o : Order) (i : Image) (gd a w : Nat), act = .run t im →
        Tab.get? d1.subs y.ref = some u → Tab.get? d1.orders u.order = some o → Tab.get? d1.images im = some i →
        (d1.thr t).wait = .qpop gd a w →
        let e := d1.took
        let inLen := roundUp (e.inputArea o u).length 64
        let outLen := e.took.outputLen o u
        e.took.stageRoom u.cell (inLen + outLen) = some off →
        ∃ d', GivesLater s (.suborderDispatch c) d' ∧
          (∃ u', Tab.get? d'.subs y.ref = some u' ∧ u'.st = .running t ∧ u'.image = im ∧ u'.inOff = off ∧ u'.outOff = off + inLen ∧
            u'.cell = u.cell ∧ u'.order = u.order ∧ u'.since = d1.up) ∧
          Tab.get? d'.orders u.order = some { o with started := true } ∧
          (d'.thr t).wait = .run ∧ (d'.thr t).sub = some y.ref ∧ (d'.thr t).dogged = false ∧ (d'.thr t).pc = ((d1.thr t).pc + 4) % 65536 ∧
          (gd ≠ 0 → (d'.thr t).rg gd = 0) ∧ ∀ t', t' ≠ t → d'.thr t' = d1.thr t') ∧
      (∀ (k im : Nat) (i : Image), act = .bind k im → Tab.get? d.images im = some i →
        ∃ d', GivesLater s (.suborderDispatch c) d' ∧
          d'.core k = ⟨some im, false, Memory.write [] 0 (recBytes i.bytes i.dataOff i.dataLen)⟩ ∧
          (∀ j, j < 4 → d'.thr (4 * k + j) = { Thread.reset with pc := i.entry, wait := .run, seqKey := seqKey i.stand 0 }) ∧
          (∀ t, t / 4 ≠ k → d'.thr t = d.thr t) ∧ d'.subs = d.subs ∧ d'.orders = d.orders)) ∧
    (∀ (t : Fin 512) (sid : Nat) (u : Sub) (im : Image), (d.thr t).sub = some sid → Tab.get? d.subs sid = some u →
      (d.thr t).dogged = false → u.since + d.sfld u.stand 0x400 47 32 * 1000 ≤ d.up →
      (d.setThr t { d.thr t with dogged := true, wait := .run }).thrImage t = some im → im.excEntry ≠ 0 → (d.thr t).inExc = false →
      ∃ d', GivesLater s (.suborderWatchdog t) d' ∧
        d'.thr t = { d.thr t with dogged := true, wait := .run, excCause := 13, excPc := (d.thr t).pc, excAddr := 0#64, inExc := true,
                                  pc := im.excEntry } ∧
        d'.subs = d.subs ∧ d'.orders = d.orders ∧ ∀ t', t' ≠ t.val → d'.thr t' = d.thr t')

/-- While the device serves, with the device's own work following: RECORD_COMPLETE of order n with no sub-order left removes
it; a work order posts KIND 1 with its TAG and final status on its stand; a query order sends its partial record (header
with that status, body only for status 0 or 9) to the reply node, or to the merge node when MERGE_CNT is not 0.
PARTIAL_HEADER_SEND of a record whose body messages were all acknowledged sends its 96-byte header as one PUT with NOTICE
on the connection to its node. MERGE_DEADLINE of an armed slot past DEADLINE plus MERGE_GRACE_US marks it sent, drops its
rows, posts KIND 1 and sends what it holds to another node; MERGE_HOLD_EXPIRY of a slot not armed frees it and adds its
partials to DISCARDED. (R221, R223, R224, R226, R231, R232, R265, 05 Table 4, 05 Table 5.) -/
def Obligations.RecordsCompletedAndMerged : Prop :=
  ∀ (s : State), s.d.serving = true →
    let d := s.d
    (∀ (n clocks : BitVec 32) (o : Order), Tab.get? d.orders n.toNat = some o → (∀ e ∈ d.subs, e.2.order ≠ n.toNat) →
      let d0 : Dev := { d with orders := Tab.del d.orders n.toNat }
      let st := o.final
      let d1 := if st = 5 ∨ st = 6 then d0.incSat .stand o.stand 0x308 31 0 1 else d0
      let d2 := if o.started = true ∧ o.seq = true then d1.seqEnd o.key else d1
      (o.kind = 4 → GivesLater s (.recordComplete n clocks)
        ((d2.schCharge 0 o.stand (if o.seq then keyHandle o.key + 1 else 0) (clocks.toNat - d2.fld .sch 0 8 63 32)).post o.stand
          ⟨BitVec.ofNat 64 (recNum o.bytes 0 8), 0, 0, 1, 0, 2, st⟩)) ∧
      (o.kind ≠ 4 →
        let body := if st = 0 ∨ st = 9 then d2.partBody o else []
        let merge := recNum o.bytes 84 2 ≠ 0
        GivesLater s (.recordComplete n clocks)
          (d2.took.sendRecord ⟨o.stand, recNum o.bytes (if merge then 66 else 64) 2,
            BitVec.ofNat 32 (recNum o.bytes (if merge then 80 else 68) 4), recNum o.bytes (if merge then 88 else 72) 8,
            d2.partHead o st body.length, 0, false, some o.at_⟩ body))) ∧
    (∀ (n : BitVec 32) (j : PartJob) (c : Nat) (x : Conn), Tab.get? d.parts n.toNat = some j → j.left = 0 → j.failed = false →
      d.connTo j.stand j.node = some c → d.conn? c = some x → x.st = 2 →
      GivesLater s (.partialHeaderSend n)
        ((d.setConn c { x with tx := x.tx ++ [{ mkMsg tyPut 3 true j.key j.off j.head j.head.length (.whole n.toNat) with n := x.txNext }],
                               txNext := x.txNext + 1 }).pump c)) ∧
    (∀ (st : Fin 32) (tag : W64) (m : MergeSlot) (arm : List Byte), d.mergeSlot? st tag.toNat = some m → m.arm = some arm → m.sent = false →
      recNum arm 8 8 + d.sfld st 0x300 47 32 * 1000 ≤ d.now → recNum arm 52 2 ≠ d.node →
      let h := (d.mergeRec m arm false).1
      GivesLater s (.mergeDeadline st tag)
        (((d.putMerge { m with sent := true, rows := [], bytes := 0 }).post m.stand
          ⟨BitVec.ofNat 64 (recNum arm 0 8), 0, 0, 1, 0, 2, recNum h 33 1⟩).sendParts
          ⟨m.stand, recNum arm 52 2, BitVec.ofNat 32 (recNum arm 40 4), recNum arm 24 8, h, 0, false, none⟩ (d.mergeRec m arm false).2)) ∧
    (∀ (st : Fin 32) (tag : W64) (m : MergeSlot), d.mergeSlot? st tag.toNat = some m → m.arm = none →
      GivesLater s (.mergeHoldExpiry st tag)
        (({ d with merges := d.merges.erase m } : Dev).incSat .stand st 0x308 63 32 m.parts))

/-- While the device serves, with the device's own work following: PAGE_SEAL of an open page with TOKENS equal to TPP, no move
and no hold compresses it, and when frames are found its entry names the new tile and the codec counters rise;
HELD_EDIT_PUBLISH of the only held edit of a layer, with fewer than four pinned generations, publishes it as a new
generation; TABLE_PAGE_FREE forgets the generations of the layer that no pin holds, frees their pages that no live
generation shares and keeps those that one does; FRAME_FREE frees the runs of every tile whose waits are over and keeps
the rest. (R126, R127, R136, R137, R138, R139, R174, R453, R464.) -/
def Obligations.PagesSealedAndTablesPublished : Prop :=
  ∀ (s : State), s.d.serving = true →
    let d := s.d
    (∀ (set p : BitVec 32) (l : BitVec 8) (v : W64) (pr : Profile) (d2 : Dev), d.pte set.toNat l.toNat p.toNat = some v →
      d.seqProfile? (d.setKey set.toNat) = some pr →
      let stand := keyStand (d.setKey set.toNat)
      let t := d.tileOf stand v
      let h := tileHead t
      tileFlag t flOpen = true → h.tokens = pr.tpp → pteMig v = 0 →
      (d.pageInfo? set.toNat l.toNat p.toNat).bind (·.hold) = none →
      let cell := d.workCell stand (frameDie (pteFrame v)) l.toNat p.toNat
      let blocks := compressPage d.slots (d.fld .cell cell 0x40000 4 0) (pageSections pr) (tilePage t)
      let t2 := makeTile { h with flags := h.flags - (h.flags &&& (2 ^ flOpen + 2 ^ flStale)), digest := crc64 (tilePage t), sealTime := d.now } blocks
      d.replaceTile set.toNat l.toNat p.toNat v t2 = some d2 →
      GivesLater s (.pageSeal set l p) (d2.sealStats cell blocks) ∧ recNum t2 14 2 = h.flags - (h.flags &&& (2 ^ flOpen + 2 ^ flStale))) ∧
    (∀ (set : BitVec 32) (l : BitVec 8) (h : HeldEdit) (d1 : Dev), d.mustHold set.toNat l.toNat = false →
      (d.held.filter fun h => h.set == set.toNat && h.layer == l.toNat) = [h] → d.publish set.toNat l.toNat h.page h.pte = some d1 →
      GivesLater s (.heldEditPublish set l) { d1 with held := d.held.erase h }) ∧
    (∀ (set : BitVec 32) (l : BitVec 8),
      let mine (g : OldGen) : Prop := g.set = set.toNat ∧ g.layer = l.toNat
      ∃ d', GivesLater s (.tablePageFree set l) d' ∧
        (∀ g, g ∈ d'.oldGens ↔ g ∈ d.oldGens ∧ (mine g → d.pinCount set.toNat l.toNat g.gen ≠ 0)) ∧
        (∀ g ∈ d.oldGens, mine g → d.pinCount set.toNat l.toNat g.gen = 0 → ∀ n ∈ d.genPages g.root,
          n ∉ d.genPages (d.root set.toNat l.toNat) →
          (∀ g' ∈ d'.oldGens, mine g' → n ∉ d.genPages g'.root) → Tab.has d'.svcUsed n = false) ∧
        (∀ n ∈ d.genPages (d.root set.toNat l.toNat), Tab.has d'.svcUsed n = Tab.has d.svcUsed n) ∧
        d' = { d with oldGens := d'.oldGens, svcUsed := d'.svcUsed, svc := d'.svc }) ∧
    (∃ d', GivesLater s .frameFree d' ∧ d'.lateFree = d.lateFree.filter (fun x => !x.waits.isEmpty) ∧
      (∀ x ∈ d.lateFree, x.waits = [] → Tab.has d'.runs (tileFrame x.tier x.stand x.frame) = false) ∧
      (∀ f, (∀ x ∈ d.lateFree, x.waits = [] → tileFrame x.tier x.stand x.frame ≠ f) → Tab.get? d'.runs f = Tab.get? d.runs f) ∧
      d' = { d with lateFree := d'.lateFree, runs := d'.runs, mem := d'.mem, slots := d'.slots })

/-- While the device serves, with the device's own work following: a DIR_SCRUB_PASS with the scrubber enabled counts a pass,
and with one mismatching entry that no operation has first writes the entry back from its shadow, counts it, logs where
and when, and raises 0x240; HEAT_EPOCH halves the HEAT of every entry once for each of at most 8 epochs passed;
MIGRATION_START of a displaceable page in T0 or T1, with no promotion asked for and room under MIG_MAX, marks it EVICTING
with the frames allocated and a move of the next number; MIGRATION_COMMIT of a copy between cells and edge commits TIER,
FRAME and CLEN, frees the source and counts the move; LEND_DEADLINE takes back the granules of a reclaimed window at the
lender and drops a closing window at the borrower. (R148, R150, R476, R477, R485, R486, R489, R496.) -/
def Obligations.DirectoryScrubbedAndPlacementMaintained : Prop :=
  ∀ (s : State), s.d.serving = true →
    let d := s.d
    (d.gateOn 18 = true → bitAt (d.rd .dir 0 0x8) 32 = true →
      GivesLater s (.dirScrubPass []) (d.setFld .dir 0 0x10 31 0 (d.fld .dir 0 0x10 31 0 + 1)) ∧
      ∀ (i : BitVec 24) (key : Nat) (w v : W64), d.dir[i.toNat]? = some (key, w) → (∀ o ∈ d.dirOps, o.key ≠ key) → d.entry key = some v →
        let pos := (d.dir.takeWhile fun e => e.1 < key).length
        let fixed := ((((({ d with dir := Tab.set d.dir key v } : Dev).incSat .dir 0 0x10 63 32 1).wr .dir 0 0x18 (BitVec.ofNat 64 pos)).wr
          .dir 0 0x20 (BitVec.ofNat 64 d.now)).raise 0x240 ⟨.edge, 0⟩ [] 0)
        GivesLater s (.dirScrubPass [i]) (fixed.incWrap .dir 0 0x10 31 0 1)) ∧
    (∀ n, d.now / 1048576 = n → d.heatEpoch < n →
      GivesLater s .heatEpoch { (List.range (min 8 (n - d.heatEpoch))).foldl (fun d _ => d.halveHeat) d with heatEpoch := n }) ∧
    (∀ (set p : BitVec 32) (l : BitVec 8) (v : W64) (tier f : Nat) (d1 : Dev), d.pte set.toNat l.toNat p.toNat = some v →
      (∀ q ∈ d.promos, ¬ (q.set = set.toNat ∧ q.layer = l.toNat ∧ q.page = p.toNat)) → (∀ m ∈ d.migrs, m.id < d.migNext) →
      pteTier v < 2 → pteMig v = 0 → (d.pageInfo? set.toNat l.toNat p.toNat).bind (·.hold) = none →
      let cell := d.stripeCell (keyStand (d.setKey set.toNat)) l.toNat p.toNat
      d.migCount cell < d.fld .cell cell 0x60000 21 16 → d.displaceable set.toNat l.toNat p.toNat = true →
      d.evictTo set.toNat v = some (tier, f, d1) → tier < 2 →
      GivesLater s (.migrationStart set l p)
        { d1.modPte set.toNat l.toNat p.toNat (fun v => putBits v 60 58 2) with
            migrs := d.migrs ++ [⟨d.migNext, set.toNat, l.toNat, p.toNat, tier, f, 2,
              if tier = 0 then frameDie f else d.stripeCell (keyStand (d.setKey set.toNat)) l.toNat p.toNat, [], 0⟩],
            migNext := d.migNext + 1 }) ∧
    (∀ (id : BitVec 32) (m : Migr) (v : W64), (d.migrs.find? fun m => m.id == id.toNat && m.mig != 5 && m.leg == 0) = some m →
      d.pte m.set m.layer m.page = some v → pteTier v < 2 →
      let stand := keyStand (d.setKey m.set)
      let t := d.tileOf stand v
      let d1 : Dev := { d with migrs := d.migrs.filter fun x => x.id != m.id }
      GivesLater s (.migrationCommit id)
        ((((((d1.storeTile m.tier stand m.frame t).putPte m.set m.layer m.page
          (putBits (putBits (putBits (putBits v 62 61 m.tier) 47 36 (tileClen t)) 35 0 m.frame) 60 58 0)).deferTile
          m.set m.layer (pteTier v) stand (pteFrame v)).modPage m.set m.layer m.page fun i => { i with overflow := m.tier == 3 })).moveStats
          (pteTier v) (pteFrame v) m.tier m.frame)) ∧
    (∀ (n : BitVec 16) (w : LendOut), (d.lendOut.filter fun w => w.borrower == n.toNat && w.reclaimed) = [w] →
      (∀ x ∈ d.lendIn, ¬ (x.lender = n.toNat ∧ x.closing = true)) →
      ∃ d', GivesLater s (.lendDeadline n) d' ∧ d'.lendOut = d.lendOut.erase w ∧ d'.lendIn = d.lendIn ∧
        (∀ f ∈ w.granules, Tab.has d'.runs f = false) ∧
        (∀ t, d.tract? (keyIndex (BitVec.ofNat 32 w.tract)) = some t →
          d'.tract? (keyIndex (BitVec.ofNat 32 w.tract)) = some { t with st := .hold, frames := [] })) ∧
    (∀ (n : BitVec 16) (w : LendIn), (d.lendIn.filter fun w => w.lender == n.toNat && w.closing) = [w] →
      (∀ x ∈ d.lendOut, ¬ (x.borrower = n.toNat ∧ x.reclaimed = true)) → d.windowPages w = [] →
      (∀ m ∈ d.migrs, ¬ (m.tier = 2 ∧ w.first ≤ m.frame ∧ m.frame < w.first + w.frames)) →
      GivesLater s (.lendDeadline n)
        (({ (d.incSat .cell 0 0x60828 63 32 0) with lendIn := d.lendIn.erase w } : Dev).showLent))

/-- When the write of a function is accepted and reaches a register of the GLB, DIR or HIF block, the command gives that
register a new word: a field whose bits the access carries takes the written value (RW, and RWL while the lock is open),
is cleared where 1 is written (W1C), or keeps its value (RO); a field that the access does not carry, and every reserved
bit, keeps its value; a field whose description bounds the value takes the bounded one. No other register and nothing else
changes, but for the device's own work that follows. A refused access that Table 8 counts changes the violation count and
log of its stand alone, and one that reaches nothing changes nothing. (R6, R10, R12, R15, 00 Table 2, 17 Table 8.) -/
def Obligations.RegisterWriteByAccessCodes : Prop :=
  ∀ (s : State) (fn : Fin 32) (off : BitVec 26) (size : BitVec 4) (v : W64),
    let d := s.d
    let lane := laneOf (pfOff fn off.toNat) size.toNat
    let w := busWord (pfOff fn off.toNat) size.toNat v
    let verdict := d.hostVerdict fn off.toNat size.toNat true
    (∀ (b : Blk) (i o : Nat) (r : RegRow), verdict = .ok → d.target (pfOff fn off.toNat) = .one ⟨b, i, o⟩ →
      b = .glb ∨ b = .dir ∨ b = .hif → findRow b o = some r →
      let old := d.rd b i o
      ∃ new, GivesLater s (.registerWrite fn off size v) (d.wr b i o new) ∧
        (∀ f ∈ r.fields,
          let whole : Prop := lane.1 ≤ f.lo ∧ f.hi < lane.1 + lane.2
          (f.acc = .ro → bits new f.hi f.lo = bits old f.hi f.lo) ∧
          (f.hi < lane.1 ∨ lane.1 + lane.2 ≤ f.lo → bits new f.hi f.lo = bits old f.hi f.lo) ∧
          (f.acc = .rw → whole → bits new f.hi f.lo = f.fix.apply (bits old f.hi f.lo) (bits w f.hi f.lo) % 2 ^ (f.hi + 1 - f.lo)) ∧
          (f.acc = .rwl → whole → bits new f.hi f.lo = f.fix.apply (bits old f.hi f.lo) (bits w f.hi f.lo) % 2 ^ (f.hi + 1 - f.lo)) ∧
          (f.acc = .w1c → whole → bits new f.hi f.lo = bits old f.hi f.lo - (bits old f.hi f.lo &&& bits w f.hi f.lo))) ∧
        (∀ k, (∀ f ∈ r.fields, k < f.lo ∨ f.hi < k) → new.getLsbD k = old.getLsbD k)) ∧
    (∀ k, verdict = .viol k → GivesLater s (.registerWrite fn off size v)
      ((d.incSat .stand fn 0x200 31 0 1).wr .stand fn 0x208 (BitVec.ofNat 64 (k * 2 ^ 52 + 2 ^ 48 + off.toNat)))) ∧
    (verdict = .zero → GivesLater s (.registerWrite fn off size v) d)

/-- With GLB_LOCK.LOCK at 1, a register write of any function at any offset and of any size leaves every RWL field of the
register that the offset reaches as it was; and so does a write by any stand that any path (alias, kernel, timed action)
carries to a register. (R7.) -/
def Obligations.LockedFieldsIgnoreWrites : Prop :=
  (∀ (d : Dev) (st : Nat) (l : Loc) (lane : Nat × Nat) (v : W64) (r : RegRow) (f : RegField), d.lock = true → findRow l.blk l.off = some r →
    f ∈ r.fields → f.acc = .rwl → bits ((d.regWrite st l lane v).rd l.blk l.inst l.off) f.hi f.lo = bits (d.rd l.blk l.inst l.off) f.hi f.lo) ∧
  ∀ (s : State) (fn : Fin 32) (off : BitVec 26) (size : BitVec 4) (v : W64) (l : Loc) (r : RegRow) (f : RegField), s.d.lock = true →
    s.d.target (pfOff fn off.toNat) = .one l → findRow l.blk l.off = some r → f ∈ r.fields → f.acc = .rwl →
    ∃ d', GivesLater s (.registerWrite fn off size v) d' ∧
      bits (d'.rd l.blk l.inst l.off) f.hi f.lo = bits (s.d.rd l.blk l.inst l.off) f.hi f.lo

/-- An accepted GLB_LOCK_WRITE puts bit 0 of the value into LOCK and changes nothing else; once LOCK is 1 it is counted as a
violation of kind 6. An accepted ALIAS_WRITE through an alias of some cells, at an offset that is no broadcast window and
holds an ordinary register of the cell window, gives each selected cell that is not fenced, and whose block is powered and
clocked, what its access codes make of the value, and leaves that register of every other cell and every register at
another offset as it was. The device's own work follows. (R7, R104, R105, R106, R107, R108, 03 Table 8, 03 Table 10.) -/
def Obligations.LockAndAliasWrites : Prop :=
  ∀ (s : State) (fn : Fin 32) (v : W64),
    let d := s.d
    (d.hostVerdict fn 0x18 8 true = .ok → fn = 0 ∧ d.lock = false ∧
      GivesLater s (.glbLockWrite fn v) (d.setFld .glb 0 0x18 0 0 (bits v 0 0))) ∧
    (d.hostVerdict 0 0x18 8 false = .ok → d.lock = true → d.hostVerdict 0 0x18 8 true = .viol 6 ∧
      GivesLater s (.glbLockWrite 0 v) ((d.incSat .stand 0 0x200 31 0 1).wr .stand 0 0x208 (BitVec.ofNat 64 (6 * 2 ^ 52 + 2 ^ 48 + 0x18)))) ∧
    (∀ (off : BitVec 26) (size : BitVec 4) (cells : List Nat) (o : Nat) (r : RegRow),
      d.hostVerdict fn off.toNat size.toNat true = .ok → d.target (pfOff fn off.toNat) = .spread none cells o →
      isSpread o = false → findRow .cell o = some r → (o < 0x60800 ∨ 0x61000 ≤ o) → o ≠ 0x80000 →
      ∃ d', GivesLater s (.aliasWrite fn off size v) d' ∧ d' = { d with regs := d'.regs } ∧
        (∀ c ∈ cells, d.aliasReaches c o = true → d'.rd .cell c o =
          r.write (!d.lock && fn.val == 0) (laneOf (pfOff fn off.toNat) size.toNat) (busWord (pfOff fn off.toNat) size.toNat v) (d.rd .cell c o)) ∧
        (∀ c, c < 16 → (c ∉ cells ∨ d.aliasReaches c o = false) → d'.rd .cell c o = d.rd .cell c o) ∧
        (∀ c o2, c < 16 → o2 < 0x100000 → o2 ≠ o → d'.rd .cell c o2 = d.rd .cell c o2))

/-- For an accepted write: STD_KEY_COMMIT moves the staged key into the slot, closes the session, discards the nonce and
zeroes counts, and for stand 0 also writes the configuration block and claims it; STD_KEY_ERASE empties another slot and
closes its session, and does nothing to stand 0's; SES_CHALLENGE and SES_SUBMIT of a stand that passes the checks start
their operation, SUBMIT with the proof as it stands; SES_CLOSE closes. While the device serves: CHALLENGE_DONE places a
fresh nonce; SUBMIT_DONE with the right proof opens the session, raises SES_COUNT and discards the nonce, and with a wrong
one counts, and from the third failure n on locks the slot out for min(2^(n-3), 64) s and raises the fault; NONCE_EXPIRY,
LOCKOUT_END and SESSION_IDLE_TIMEOUT return the session to CLOSED. Nothing else changes, but for the device's own work.
(R70, R71, R73, R75, R76, R77, R78, R80, R82, R84, R86, R851.) -/
def Obligations.AccessKeysAndSessions : Prop :=
  ∀ (s : State) (fn st : Fin 32),
    let d := s.d
    let w := standOf fn st
    let x := d.std w
    let y := d.std st
    (WindowOpen s fn st 0x70 → x.op = none →
      let d1 := d.setStd w { x with key := some x.staged, staged := 0, ses := .closed, nonce := 0, count := 0, fails := 0 }
      (w ≠ 0 → GivesLater s (.stdKeyCommit fn st) d1) ∧
      (w = 0 → ∃ d', GivesLater s (.stdKeyCommit fn st) d' ∧ d'.std 0 = d1.std 0 ∧ d'.cfg.claimed = true ∧ d'.cfg.key = x.staged ∧
        d'.cfg.seq = d.cfg.seq + 1 ∧ d' = { d1 with cfg := d'.cfg, cfgA := d'.cfgA, cfgB := d'.cfgB, cfgIsB := d'.cfgIsB }) ∧
      (w ≠ 0 → GivesLater s (.stdKeyErase fn st) (d.setStd w { x with key := none, ses := if x.ses = .opened then .closed else x.ses })) ∧
      (w = 0 → GivesLater s (.stdKeyErase fn st) d)) ∧
    (WindowOpen s fn st 0x1010 → x.op = none → d.sesState w ≠ 2 → d.sesState w ≠ 4 → x.ses ≠ .locked → x.key ≠ none →
      GivesLater s (.sesChallenge fn st) (d.setStd w { x with op := some .challenge }) ∧
      (x.ses = .challenged → GivesLater s (.sesSubmit fn st) (d.setStd w { x with op := some .submit, given := x.proof }))) ∧
    (WindowOpen s fn st 0x1010 →
      (x.op = none → x.ses = .opened → GivesLater s (.sesClose fn st) (d.setStd w { x with ses := .closed })) ∧
      (x.op ≠ none → GivesLater s (.sesClose fn st) (d.setStd w { x with op := none, result := .none, ses := .closed, nonce := 0 }))) ∧
    (d.serving = true →
      (y.op = some .challenge → GivesLater s (.challengeDone st)
        (d.took.setStd st { y with op := none, ses := .challenged, result := .issued, nonce := Config.nonce d.freeCtr })) ∧
      (y.op = some .submit → y.proofOk st = true → GivesLater s (.submitDone st)
        (d.setStd st { y with op := none, ses := .opened, result := .opened, count := y.count + 1, fails := 0, nonce := 0 })) ∧
      (y.op = some .submit → y.proofOk st = false →
        let n := y.fails + 1
        (n < 3 → GivesLater s (.submitDone st) (d.setStd st { y with op := none, ses := .closed, result := .badProof, fails := n, nonce := 0 })) ∧
        (3 ≤ n → GivesLater s (.submitDone st)
          ((d.setStd st { y with
            op := none, ses := .locked, result := .badProof, fails := min n 255, nonce := 0, lockEnd := d.up + min (2 ^ (n - 3)) 64 * 1000000000 }).raise (0x380 + 4 * st) ⟨.none, 0⟩ [st.val]
            (BitVec.ofNat 64 (min n 255))))) ∧
      (y.ses = .challenged → y.op = none → GivesLater s (.nonceExpiry st) (d.setStd st { y with ses := .closed, nonce := 0 })) ∧
      (y.ses = .locked → GivesLater s (.lockoutEnd st) (d.setStd st { y with ses := .closed })) ∧
      (y.ses = .opened → y.op = none → GivesLater s (.sessionIdleTimeout st) (d.setStd st { y with ses := .closed })))

/-- An accepted STAND_RESET of a stand that is not being reset closes its session, sets RST_BUSY, discards the nonce, clears
the fault page, gives up its commands, empties its queues, stops its kernels, returns its sequences to resident,
interrupts its moves, unloads its images, revokes its tracts and cuts its messages; one of a stand that is being reset
changes nothing. STAND_RESET_DONE ends the revocations, closes the stand's connections with REASON 1, clears RST_BUSY and
starts the yardings that waited. An accepted QUOTA_COMMIT of good values puts them in force and records result 1, with
pre-emption down to them; of values that fail a check of R92 it records which and restores the registers to the quotas in
force. The device's own work follows each. (R91, R92, R94, R96, R97, R98, R99, R100, 03 Table 6, 17 R811.) -/
def Obligations.StandResetAndQuotas : Prop :=
  ∀ (s : State) (fn st : Fin 32),
    let d := s.d
    let w := standOf fn st
    (WindowOpen s fn st 0x8 → (d.std w).rst = true → GivesLater s (.standReset fn st) d) ∧
    (WindowOpen s fn st 0x8 → (d.std w).rst = false → (d.std w).op = none →
      let d1 := d.setStd w { d.std w with rst := true, nonce := 0, ses := if (d.std w).ses = .locked then .locked else .closed }
      let d2 := ((((d1.clrRegs (Loc.addr ⟨.stand, w, 0x4000⟩) 0x1000).cutCommands w).clearQueues w).stopKernels w)
      let d3 := ((d2.shadow.filter fun e => keyStand e.1 == w).foldl (fun d e => d.idleSeq w e.1) d2).interruptStand w
      GivesLater s (.standReset fn st) (((d3.unloadAll w).revokeAll w).cutMessages w)) ∧
    (d.serving = true → (d.std st).rst = true →
      let d1 := d.tracts.foldl (fun d e => if e.2.stand = st.val ∧ e.2.st = .revoking then d.tractGone e.1 e.2 else d) d
      let d2 := d1.conns.foldl (fun d e => if e.2.stand = st.val ∧ e.2.cruise.isNone then d.closeConn e.1 1 else d) d1
      let d3 := d2.setStd st { d2.std st with rst := false, yards := [] }
      GivesLater s (.standResetDone st)
        ((d2.std st).yards.foldl (fun d k => if (d.entry k).any (fun v => bits v 63 61 == stYarded) then d.startYard k else d) d3)) ∧
    (WindowOpen s fn st 0x128 →
      let q := d.stagedQuota w
      let total (f : Quota → Nat) : Nat := ((List.range 32).map fun x => if x = w then f q else f (d.std x).quota).sum
      (total (·.t0) ≤ d.t0Cap → q.t1 ≤ 1572864 → total (·.t1) ≤ d.t1Cap → total (·.pool) ≤ 65536 → total (·.conn) ≤ 65536 →
        let d1 := d.setSfld w 0x130 2 0 1
        GivesLater s (.quotaCommit fn st) ((((d1.setStd w { d1.std w with quota := q }).preemptQuota w 0).preemptQuota w 1).pumpAll)) ∧
      (d.t0Cap < total (·.t0) → GivesLater s (.quotaCommit fn st) ((d.setSfld w 0x130 2 0 2).showQuota w)) ∧
      (total (·.t0) ≤ d.t0Cap → (1572864 < q.t1 ∨ d.t1Cap < total (·.t1)) →
        GivesLater s (.quotaCommit fn st) ((d.setSfld w 0x130 2 0 3).showQuota w)) ∧
      (total (·.t0) ≤ d.t0Cap → q.t1 ≤ 1572864 → total (·.t1) ≤ d.t1Cap → 65536 < total (·.pool) →
        GivesLater s (.quotaCommit fn st) ((d.setSfld w 0x130 2 0 4).showQuota w)) ∧
      (total (·.t0) ≤ d.t0Cap → q.t1 ≤ 1572864 → total (·.t1) ≤ d.t1Cap → total (·.pool) ≤ 65536 → 65536 < total (·.conn) →
        GivesLater s (.quotaCommit fn st) ((d.setSfld w 0x130 2 0 5).showQuota w)))

/-- A host command that is started leaves the list of fetched entries. PROFILE of a good record on a slot not in use defines
the profile and completes with the record's first 16 bytes; SEQ_INSERT of a new handle, with a profile, a tier below 2 and
room, adds a resident entry with a new set to the shadow and starts its moves, which complete it later; SEQ_DELETE of a
sequence that is neither running nor restoring removes the entry, drops its moves and starts its own; SEQ_LOOKUP completes
with the directory value, SET_PTR zero for stands other than 0; YARD of a resident sequence starts its yarding and RESTORE
of a yarded one with quota starts its restore, each completing with OK at once. The device's own work follows. (R110,
R113, R141, R142, R145, R151, R157, R168, R169, R355, R810, 17 Table 6.) -/
def Obligations.HostCommandsOnSequences : Prop :=
  ∀ (s : State) (st : Fin 32) (e : CmdEntry) (a : Nat),
    let key := seqKey a e.arg.toNat
    let done (d : Dev) (opc code : Nat) (r0 r1 : W64) : Dev := d.post st ⟨e.tag, r0, r1, 0, opc, 1, code⟩
    (∀ p, HostTakes s st e 16 16 a → parseProfile e.payload = some p →
      let d := s.d.popFetched st 0x01 e
      let slot := nbits e.arg.toNat 2 0
      let r := profileRecord p
      d.profileBusy a slot = false →
      GivesLater s (.profile st e) (done { d with profiles := Tab.set d.profiles (a * 8 + slot) r } 0x01 0
        (BitVec.ofNat 64 (recNum r 0 8)) (BitVec.ofNat 64 (recNum r 8 8)))) ∧
    (∀ pr set d1, HostTakes s st e 8 8 a →
      let d := s.d.popFetched st 0x02 e
      let attr := e.inl 0 8
      let v := BitVec.ofNat 64 (1 * 2 ^ 61 + nbits attr 9 8 * 2 ^ 59 + nbits attr 10 10 * 2 ^ 58 + nbits attr 7 4 * 2 ^ 28 + nbits attr 2 0 * 2 ^ 25 + set)
      d.entry key = none → d.profile? (keyStand key) (nbits attr 2 0) = some pr → nbits attr 9 8 < 2 →
      d.dirCount (keyStand key) < d.fld .dir 0 (0x200 + 8 * keyStand key) 18 0 → d.shadow.length < 262144 →
      d.newSet key (nbits attr 2 0) (nbits attr 7 4) = some (set, d1) →
      GivesLater s (.seqInsert st e)
        { d1 with shadow := Tab.set d1.shadow key v, dirOps := d1.dirOps ++ [⟨key, some v, .host st e.tag 0x02⟩] }) ∧
    (∀ v, HostTakes s st e 0 0 a →
      let d := s.d.popFetched st 0x03 e
      d.entry key = some v → bits v 63 61 ≠ stRunning → bits v 63 61 ≠ stRestoring →
      GivesLater s (.seqDelete st e)
        { d with
            shadow := Tab.del d.shadow key, moves := d.moves.filter fun m => m.key != key, dirOps := d.dirOps ++ [⟨key, none, .host st e.tag 0x03⟩] }) ∧
    (∀ v, HostTakes s st e 0 0 a →
      let d := s.d.popFetched st 0x04 e
      d.look key = some v →
      GivesLater s (.seqLookup st e false) (done d 0x04 0 (if st = 0 then v else putBits v 24 0 0) 0)) ∧
    (HostTakes s st e 0 0 a → (s.d.popFetched st 0x04 e).look key = none →
      ∀ parity, GivesLater s (.seqLookup st e parity) (done (s.d.popFetched st 0x04 e) 0x04 dsNotFound 0 0)) ∧
    (∀ v, HostTakes s st e 0 0 a →
      let d := s.d.popFetched st 0x05 e
      d.look key = some v → bits v 63 61 = stResident → GivesLater s (.yardCommand st e) (done (d.startYard key) 0x05 0 0 0)) ∧
    (∀ v, HostTakes s st e 0 0 a →
      let d := s.d.popFetched st 0x06 e
      let todo := d.yardedPages (dvSet v)
      d.look key = some v → bits v 63 61 = stYarded → (∀ m ∈ d.moves, m.key = key → m.restore = true) →
      d.useOf (keyStand key) (dvTier v) + todo.length ≤ d.quotaOf (keyStand key) (dvTier v) →
      let d1 := todo.foldl (fun d lp => d.modPage (dvSet v) lp.1 lp.2 fun i => { i with charge := some (dvTier v) }) d
      GivesLater s (.restoreCommand st e)
        (done (((((d1.recount (dvSet v)).setSeqState key stRestoring).addMove ⟨key, true, todo, none⟩)).restoreStep key) 0x06 0 0 0))

/-- While the device serves a stand that is not being reset, a host command whose reserved byte or reserved TARGET bits are
not zero, or that names another stand without being stand 0's, or whose DATA_LEN is out of range for it, completes with
table 0 and code 1 and has no other effect; so does a command of the tables, keys and firmware that a stand other than 0
issues. A command of a stand that is being reset changes nothing. The device's own work follows. (R810, R811, R858, 17
Table 6, 17 Table 7.) -/
def Obligations.HostCommandsRefused : Prop :=
  ∀ (s : State) (st : Fin 32) (e : CmdEntry), s.d.serving = true →
    let bad (c : Instr) (opc lo hi : Nat) : Prop :=
      ((s.d.std st).rst = true → GivesLater s c s.d) ∧
      ((s.d.std st).rst = false →
        e.rsv ≠ 0#8 ∨ bits (e.target.setWidth 64) 14 5 ≠ 0 ∨ (e.target.getLsbD 15 = true ∧ st ≠ 0) ∨ e.dataLen.toNat < lo ∨ hi < e.dataLen.toNat →
        GivesLater s c ((s.d.popFetched st opc e).post st ⟨e.tag, 0, 0, 0, opc, 0, 1⟩))
    let owner (c : Instr) (opc : Nat) : Prop :=
      (s.d.std st).rst = false → st ≠ 0 → GivesLater s c ((s.d.popFetched st opc e).post st ⟨e.tag, 0, 0, 0, opc, 0, 1⟩)
    bad (.profile st e) 0x01 16 16 ∧ bad (.seqInsert st e) 0x02 8 8 ∧ bad (.seqDelete st e) 0x03 0 0 ∧
    (∀ parity, bad (.seqLookup st e parity) 0x04 0 0) ∧ bad (.yardCommand st e) 0x05 0 0 ∧ bad (.restoreCommand st e) 0x06 0 0 ∧
    bad (.qrec st e) 0x08 256 1048576 ∧ bad (.wrec st e) 0x09 64 64 ∧ bad (.tractRegister st e) 0x10 64 64 ∧
    bad (.tractRevoke st e) 0x10 64 64 ∧ bad (.connOpen st e) 0x11 10 10 ∧ bad (.connClose st e) 0x11 10 10 ∧
    bad (.weight st e) 0x12 0 0 ∧ bad (.scratch st e) 0x13 0 0 ∧ bad (.kload st e) 0x14 352 1048576 ∧ bad (.kunload st e) 0x15 0 0 ∧
    bad (.cdcLoad st e) 0x18 144 144 ∧ bad (.cdcSetMode st e) 0x18 144 144 ∧ bad (.cdcRecode st e) 0x18 144 144 ∧
    bad (.kkey st e) 0x19 0 96 ∧ bad (.fwUpdate st e) 0x1A 0 4194304 ∧
    owner (.cdcLoad st e) 0x18 ∧ owner (.cdcSetMode st e) 0x18 ∧ owner (.cdcRecode st e) 0x18 ∧ owner (.kkey st e) 0x19 ∧
    owner (.fwUpdate st e) 0x1A

/-- A started QREC or WREC with a good length, room and reply nodes enters its record at the end of the stand's ring or queue
and completes with OK; TRACT_REGISTER of a good record without mirroring, with a free index, quota and frames, makes an
ACTIVE tract and completes with its key; TRACT_REVOKE of an active tract that is not mirrored sets it REVOKING; CONN_OPEN
with quota and a free number makes a context OPENING and sends OPEN_REQ; CONN_CLOSE of an OPEN context of the stand sets
it CLOSING with REASON 0. TRACT_REVOKED with nothing in flight frees the frames, holds the index and completes the
revocation; TRACT_HOLD_EXPIRY frees the index; CONN_CLOSE_SEND of a CLOSING context with no message left sends CLOSE once;
CLOSE_ACK_TIMEOUT frees it. The device's own work follows. (R524, R528, R537, R540, R541, R542, R544, R552, R553, 11 Table
7.) -/
def Obligations.RecordsTractsAndConnections : Prop :=
  ∀ (s : State) (st : Fin 32) (e : CmdEntry) (a : Nat),
    let bs := e.payload
    let done (d : Dev) (opc code : Nat) (r0 : W64) : Dev := d.post st ⟨e.tag, r0, 0, 0, opc, 0, code⟩
    (HostTakes s st e 256 1048576 a → bs.length % 256 = 0 → recNum bs 86 2 * 256 = bs.length →
      let d := s.d.popFetched st 0x08 e
      d.ringUsed a + bs.length ≤ 1048576 → d.replyOk a bs = true →
      GivesLater s (.qrec st e) (done { d with rings := Tab.set d.rings a (d.ring a ++ [⟨bs, 2, d.now⟩]) } 0x08 0 0)) ∧
    (HostTakes s st e 64 64 a →
      let d := s.d.popFetched st 0x09 e
      d.wqUsed a < 4096 → d.wreplyOk a bs = true →
      GivesLater s (.wrec st e) (done { d with wqs := Tab.set d.wqs a (d.workq a ++ [⟨bs, 2, d.now⟩]) } 0x09 0 0)) ∧
    (∀ i fs d1, HostTakes s st e 64 64 a →
      let d := s.d.popFetched st 0x10 e
      let kind := recNum bs 1 1
      let len := recNum bs 24 8
      let units := if kind = 0 ∨ kind = 5 then ceilDiv len 65536 else 0
      d.tractRecOk a bs = true → (a = 0 ∨ d.cmpState ≠ 1) → d.freeIndex = some i → (units = 0 ∨ d.useOf a 1 + units ≤ (d.std a).quota.t1) →
      recNum bs 3 1 = 0 → d.allocUnits a units [] = some (fs, d1) →
      ∃ (t : Tract), GivesLater s (.tractRegister st e)
          (done { d1 with freeCtr := d1.freeCtr + 1, tracts := Tab.set d1.tracts i t } 0x10 0 ((t.key i).setWidth 64)) ∧
        t.st = .active ∧ t.kind = kind ∧ t.rights = recNum bs 2 1 ∧ t.stand = a ∧ t.len = len ∧ t.base = recNum bs 16 8 ∧ t.frames = fs ∧
        t.mode = 0 ∧ (∀ o, d1.tract? i = some o → t.gen = (o.gen + 1) % 256) ∧ (d1.tract? i = none → t.gen = 0)) ∧
    (∀ i t, HostTakes s st e 64 64 a → recNum bs 0 1 = 2 → recNum bs 1 7 = 0 → recNum bs 12 4 = 0 → (∀ b ∈ recBytes bs 16 48, b = 0#8) →
      let d := s.d.popFetched st 0x10 e
      d.tractOf a (BitVec.ofNat 32 (recNum bs 8 4)) = some (i, t) → t.kind ≠ 7 → t.mode = 0 →
      GivesLater s (.tractRevoke st e)
        { d with
            tracts := Tab.set d.tracts i { t with st := .revoking, cmd := some (st.val, e.tag) },
            mirSeqs := d.mirSeqs.filter fun m => m.2.tract != i }) ∧
    (∀ c d1, HostTakes s st e 10 10 a → recNum bs 0 1 = 1 → recNum bs 1 1 = 0 → recNum bs 8 2 = 0 →
      let d := s.d.popFetched st 0x11 e
      recNum bs 2 2 ≠ d.node → (a = 0 ∨ d.cmpState ≠ 1) → d.useConn a < (d.std a).quota.conn →
      d.newConn a (recNum bs 2 2) (BitVec.ofNat 32 (recNum bs 4 4)) (fun x => { x with openCmd := some (st.val, e.tag) }) = some (c, d1) →
      GivesLater s (.connOpen st e) d1 ∧ Tab.has d.conns c = false ∧ c < 65536) ∧
    (∀ x, HostTakes s st e 10 10 a → recNum bs 0 1 = 2 → recNum bs 1 7 = 0 →
      let d := s.d.popFetched st 0x11 e
      let c := recNum bs 8 2
      d.conn? c = some x → x.stand = a → x.st = 2 →
      GivesLater s (.connClose st e) (d.setConn c { x with closeCmd := some (st.val, e.tag), st := 3, reason := 0 })) ∧
    (s.d.serving = true →
      let d := s.d
      (∀ (i : BitVec 16) t, d.tract? i.toNat = some t → t.st = .revoking → t.inflight = 0 →
        let d1 := (d.freeUnits t.frames).setTract i.toNat { t with st := .hold, frames := [], cmd := none, sends := [], ints := [] }
        (t.cmd = none → GivesLater s (.tractRevoked i) d1) ∧
        ∀ w tag, t.cmd = some (w, tag) → GivesLater s (.tractRevoked i) (d1.post w ⟨tag, 0, 0, 0, 0x10, 0, 0⟩)) ∧
      (∀ (i : BitVec 16) t, d.tract? i.toNat = some t → t.st = .hold →
        GivesLater s (.tractHoldExpiry i) { d with tracts := Tab.set d.tracts i.toNat { t with st := .free } }) ∧
      (∀ (c : BitVec 16) x, d.conn? c.toNat = some x → x.st = 3 →
        (x.tx = [] → x.rx = [] → x.closeSent = false →
          GivesLater s (.connCloseSend c)
            ((d.setConn c.toNat { x with closeSent := true }).sendConn x.stand c.toNat x.peer x.peerConn 3 x.reason x.join 0)) ∧
        (x.closeSent = true → GivesLater s (.closeAckTimeout c) (d.freeConn c.toNat))))

/-- A started WEIGHT of whole 64 KiB pages or SCRATCH waits for the stand's running sub-orders and then takes effect; KLOAD of
an image that passes R298, with service pages, replaces the slot's image, marks it LOADED, binds the named kinds the image
serves and completes with OK; KUNLOAD of a loaded slot unbinds it and waits until it is not used. CDC_LOAD of a good table
into an unused slot, and CDC_SET_MODE, change the slot and complete; CDC_RECODE of a DECODE_ONLY slot starts a pass over
its pages; RECODE_PAGE_COMMIT commits a recoded tile and visits pages passed over; RECODE_PASS_DONE completes the oldest
pass with its slot's count once nothing is left. KKEY sets or removes a key in the configuration block; FW_UPDATE of an
image that passes the checks writes it to flash. The device's own work follows. (R298, R299, R301, R394, R395, R396, R399,
R400, R401, R438, R788, R815.) -/
def Obligations.RegionsKernelsAndTables : Prop :=
  ∀ (s : State) (st : Fin 32) (e : CmdEntry) (a : Nat),
    let bs := e.payload
    let done (d : Dev) (opc tbl code : Nat) (r0 : W64) : Dev := d.post st ⟨e.tag, r0, 0, 0, opc, tbl, code⟩
    (HostTakes s st e 0 0 a →
      (e.arg.toNat % 65536 = 0 →
        let d := s.d.popFetched st 0x12 e
        GivesLater s (.weight st e) (Dev.regionCheck { d with regionCmds := d.regionCmds ++ [⟨a, st, e.tag, false, e.arg.toNat / 65536, d.runningSubs a⟩] })) ∧
      (let d := s.d.popFetched st 0x13 e
       GivesLater s (.scratch st e) (Dev.regionCheck { d with regionCmds := d.regionCmds ++ [⟨a, st, e.tag, true, e.arg.toNat, d.runningSubs a⟩] })) ∧
      (∀ im, let d := s.d.popFetched st 0x15 e
        let slot := nbits e.arg.toNat 2 0
        d.slotImage a slot = some im →
        let d1 := d.bindKinds a slot 0
        GivesLater s (.kunload st e) (Dev.unloadCheck { d1 with unloads := d1.unloads ++ [⟨a, st, slot, e.tag, im, false⟩] }))) ∧
    (∀ ps d1, HostTakes s st e 352 1048576 a →
      let d := s.d.popFetched st 0x14 e
      let slot := nbits e.arg.toNat 2 0
      d.imageCheck a bs = 0 → d.svcPagesFor (ceilDiv bs.length 4096) [] = some (ps, d1) →
      (∀ u ∈ d1.unloads, ¬ (u.stand = a ∧ u.slot = slot)) →
      let d2 := d1.emptySlot a slot
      let im := parseImage a slot bs ps
      let d3 : Dev := { d2 with images := Tab.set d2.images d2.imgNext im, imgNext := d2.imgNext + 1, slotImg := Tab.set d2.slotImg (a * 8 + slot) d2.imgNext, svc := ps.zipIdx.foldl (fun m (p, i) => Memory.write m (p * 4096) ((bs.drop (4096 * i)).take 4096)) d2.svc }
      let d4 := ((d3.setSfld a 0x408 slot slot 1).setSfld a 0x408 (8 + slot) (8 + slot) 0).bindKinds a slot (nbits e.arg.toNat 10 8 &&& im.kinds)
      GivesLater s (.kload st e) (done (d4.setRegion a) 0x14 4 0 0)) ∧
    (HostTakes s 0 e 144 144 a →
      let d := s.d.popFetched 0 0x18 e
      let n := recNum bs 1 1
      let m := recNum bs 2 1
      let fin (d : Dev) : Dev := d.post 0 ⟨e.tag, 0, 0, 0, 0x18, 3, 0⟩
      (cdcRecOk bs 1 = true → m ≠ 0 → (d.slot n).count = 0 → tableOk (recBytes bs 8 136) = true →
        GivesLater s (.cdcLoad 0 e) (fin { d with slots := Tab.set d.slots n ⟨m, tableLens (recBytes bs 8 136), 0⟩ })) ∧
      (cdcRecOk bs 2 = true → m ≠ 0 → (d.slot n).mode ≠ 0 →
        GivesLater s (.cdcSetMode 0 e) (fin { d with slots := Tab.set d.slots n { d.slot n with mode := m } })) ∧
      (cdcRecOk bs 2 = true → m = 0 → (d.slot n).count = 0 → GivesLater s (.cdcSetMode 0 e) (fin { d with slots := Tab.del d.slots n })) ∧
      (cdcRecOk bs 3 = true → (d.slot n).mode = 2 →
        let d1 : Dev := { d with recodes := d.recodes ++ [⟨n, 0, e.tag⟩] }
        GivesLater s (.cdcRecode 0 e) ((d1.recodeLeft n).foldl (fun d p => d.recodePage (pkSet p.1) (pkLayer p.1) (pkPage p.1)) d1))) ∧
    (s.d.serving = true →
      let d := s.d
      (∀ (id : BitVec 32) (m : Migr), d.migrs.find? (fun m => m.id == id.toNat && m.mig == 5) = some m →
        GivesLater s (.recodePageCommit id)
          ((d.commitMigr m none).recodes.foldl (fun d r => (d.recodeLeft r.slot).foldl (fun d p => d.recodePage (pkSet p.1) (pkLayer p.1) (pkPage p.1)) d)
            (d.commitMigr m none))) ∧
      (∀ r rest, d.recodes = r :: rest → d.recodeLeft r.slot = [] → (∀ m ∈ d.migrs, m.mig ≠ 5) →
        GivesLater s .recodePassDone (({ d with recodes := rest } : Dev).post r.stand
          ⟨r.tag, BitVec.ofNat 64 (d.slot r.slot).count, 0, 0, 0x18, 3, 0⟩))) ∧
    (HostTakes s 0 e 0 96 a →
      let d := s.d.popFetched 0 0x19 e
      let k := nbits e.arg.toNat 1 0
      let fin (d : Dev) : Dev := d.post 0 ⟨e.tag, 0, 0, 0, 0x19, 0, 0⟩
      (e.arg.getLsbD 8 = true → GivesLater s (.kkey 0 e) (fin (d.cfgStore fun b => { b with kkeys := Tab.del b.kkeys k }))) ∧
      (e.arg.getLsbD 8 = false → e.dataLen.toNat = 96 →
        GivesLater s (.kkey 0 e) (fin (d.cfgStore fun b => { b with kkeys := Tab.set b.kkeys k bs })))) ∧
    (HostTakes s 0 e 0 4194304 a →
      let d := s.d.popFetched 0 0x1A e
      d.fwCheck (some bs) = 0 →
      GivesLater s (.fwUpdate 0 e) (({ d with board := { d.board with flash := some bs } } : Dev).post 0 ⟨e.tag, 0, 0, 0, 0x1A, 0, 0⟩))

/-- An accepted CMD_DOORBELL below the queue size sets TAIL, and with the queue able to fetch and HEAD not equal to TAIL
issues one DMA read of the entries from HEAD up to TAIL or the end; CPL_HEAD_WRITE sets HEAD and writes what the backlog
holds while there is room; QUEUE_ENABLE_WRITE of 1 on a disabled queue sets EN and zeroes its pointers, with PHASE 1 for a
completion queue and ERR clear for a command queue. While the device serves, IRQ_COALESCE_TIMER with completions not
signalled signals them. BUS_MASTER_ENABLE records the function's state and lets what waited go on; MSIX_UNMASK unmasks an
entry and sends it if it was pending on a live function; VF_ENABLE sets FUNC_EN. The device's own work follows. (R808,
R811, R814, R816, R817, R818, R819, R821, 17 Table 1.) -/
def Obligations.QueuesDoorbellsAndInterrupts : Prop :=
  ∀ (s : State) (fn st : Fin 32) (v : W64),
    let d := s.d
    let w := standOf fn st
    (WindowOpen s fn st 0x2010 → bits v 15 0 < 2 ^ d.sfld w 0x2008 4 0 →
      let d1 := d.setSfld w 0x2010 15 0 (bits v 15 0)
      let head := d1.sfld w 0x2018 15 0
      let tail := bits v 15 0
      (d1.mayFetch w = true → head ≠ tail →
        let n := if head < tail then tail - head else 2 ^ d.sfld w 0x2008 4 0 - head
        GivesLater s (.cmdDoorbell fn st v)
          { d1 with
              dma := d1.dma ++ [⟨d1.dmaNext, w, .cmdFetch w n, 0⟩], dmaNext := d1.dmaNext + 1,
              out := d1.out ++ [.dmaRead w d1.dmaNext (d.sfld w 0x2000 63 12 * 4096 + 64 * head) (64 * n)] }) ∧
      (d1.mayFetch w = false ∨ head = tail → GivesLater s (.cmdDoorbell fn st v) d1)) ∧
    (WindowOpen s fn st 0x2010 → 2 ^ d.sfld w 0x2008 4 0 ≤ bits v 15 0 → GivesLater s (.cmdDoorbell fn st v) d) ∧
    (WindowOpen s fn st 0x2050 → bits v 15 0 < 2 ^ d.sfld w 0x2048 4 0 →
      let d1 := d.setSfld w 0x2050 15 0 (bits v 15 0)
      GivesLater s (.cplHeadWrite fn st v) (Dev.cplDrain w (d1.hostQ w).backlog.length d1)) ∧
    (WindowOpen s fn st 0x2008 → bitAt (d.rd .stand w 0x2008) 31 = false → bitAt v 31 = true → 4 ≤ bits v 4 0 → bits v 4 0 ≤ 16 →
      GivesLater s (.queueEnableWrite fn st false v)
        (((((d.setSfld w 0x2008 31 31 1).setSfld w 0x2008 4 0 (bits v 4 0)).setSfld w 0x2010 15 0 0).setSfld w 0x2018 15 0 0).setSfld
          w 0x2020 0 0 0)) ∧
    (WindowOpen s fn st 0x2048 → bitAt (d.rd .stand w 0x2048) 31 = false → bitAt v 31 = true → 4 ≤ bits v 4 0 → bits v 4 0 ≤ 16 →
      let d1 := ((((d.setSfld w 0x2048 31 31 1).setSfld w 0x2048 4 0 (bits v 4 0)).setSfld w 0x2050 15 0 0).setSfld w 0x2058 15 0 0).setSfld
          w 0x2058 16 16 1
      GivesLater s (.queueEnableWrite fn st true v) (Dev.cplDrain w (d.hostQ w).backlog.length d1)) ∧
    (d.serving = true → (d.hostQ st).unsignalled ≠ 0 →
      let d1 := d.setHostQ st { d.hostQ st with unsignalled := 0 }
      (bitAt (d.rd .stand st 0x2060) 31 = true → GivesLater s (.irqCoalesceTimer st) (d1.signal st (d.sfld st 0x2060 7 0))) ∧
      (bitAt (d.rd .stand st 0x2060) 31 = false → GivesLater s (.irqCoalesceTimer st) d1)) ∧
    (∀ bme d3, let d1 : Dev := { d with fns := Tab.set d.fns fn ⟨bme, d3⟩ }
      GivesLater s (.busMasterEnable fn bme d3) ((((Dev.cplDrain fn (d.hostQ fn).backlog.length d1).msixFlush fn).cmdKick fn)) ∧
      (bme = false ∨ d3 = true → GivesLater s (.busMasterEnable fn bme d3) d1)) ∧
    (∀ vec : BitVec 8, let x := d.msixOf fn vec.toNat
      d.fnLive fn = false →
      GivesLater s (.msixUnmask fn vec) { d with msix := Tab.set d.msix (msixKey fn vec.toNat) { x with masked := false } }) ∧
    (∀ vec : BitVec 8, d.fnLive fn = true → d.msix = [] →
      GivesLater s (.msixUnmask fn vec) { d with msix := [(msixKey fn vec.toNat, ⟨false, false⟩)] }) ∧
    (∀ vec : BitVec 8, d.fnLive fn = true → d.msix = [(msixKey fn vec.toNat, ⟨true, true⟩)] →
      GivesLater s (.msixUnmask fn vec) { d with msix := [(msixKey fn vec.toNat, ⟨false, false⟩)], out := d.out ++ [.msix fn vec.toNat] }) ∧
    (st ≠ 0 → GivesLater s (.vfEnable st true) (d.setStd st { d.std st with funcEn := true }) ∧
      GivesLater s (.vfEnable st false)
        { d.setStd st { d.std st with funcEn := false } with fns := Tab.del d.fns st, msix := d.msix.filter fun e => e.1 / 256 != st.val })

/-- While the device is up: a fetch of entries that ends well moves HEAD past them and takes each entry; a payload that ends
well makes its command ready to start; the first failure of a fetch is counted and the request is sent again; the second
stops the queue with ERR and raises DMA_ERR for the stand. An aperture access in an open session through an enabled window
writes its bytes to, or answers the bytes of, the tract, weight region or stored tile that the window names; one that no
window covers is counted as kind 2, and a read of it answers zeros. An accepted LZ_ENABLE_WRITE turns a zone on, or off
when it holds no frames, and is REFUSED when it does; TIE_SVC_RES_WRITE of a multiple of 4 from 16 to 64 stores it in the
configuration block. The device's own work follows. (R498, R499, R503, R468, R805, R806, R807, R811, R816, R819, R857, 10
Table 4.) -/
def Obligations.DmaAndAperture : Prop :=
  ∀ (s : State),
    let d := s.d
    (∀ (id : BitVec 32) (r : DmaReq), d.up? = true → d.dma.find? (fun r => r.id == id.toNat) = some r →
      let d1 : Dev := { d with dma := d.dma.filter fun q => !(q.id == id.toNat) }
      (∀ w n data, r.use = .cmdFetch w n →
        let d2 := d1.setSfld w 0x2018 15 0 ((d.sfld w 0x2018 15 0 + n) % 2 ^ d.sfld w 0x2008 4 0)
        GivesLater s (.dmaRequestDone id (.ok data))
          (((List.range n).foldl (fun d i => d.takeEntryOf w (recBytes data (64 * i) 64)) d2).cmdKick w)) ∧
      (∀ w opc e data, r.use = .payload w opc e →
        GivesLater s (.dmaRequestDone id (.ok data))
          (d1.setHostQ w { d.hostQ w with fetched := (d.hostQ w).fetched ++ [(opc, { e with data := data.take e.dataLen.toNat })] })) ∧
      (∀ w n, r.use = .cmdFetch w n →
        let d2 := d1.incSat .hif 0 0x10 31 16 1
        (r.tries = 0 → GivesLater s (.dmaRequestDone id (.fail .timeout)) { d2 with dma := d2.dma ++ [{ r with tries := 1 }] }) ∧
        (r.tries = 1 → GivesLater s (.dmaRequestDone id (.fail .timeout)) ((d2.setSfld w 0x2020 0 0 1).raise 0x245 ⟨.edge, 0⟩ [w] 0)))) ∧
    (∀ (fn : Fin 32) (off : BitVec 36) (size : BitVec 13) (data : List Byte), d.off = false → d.board.mrst = false → d.board.perst = false →
      (d.fnCtl fn).d3 = false → (fn = 0 ∨ (d.std fn).funcEn = true) → d.stageOf = 3 → (fn ≠ 0 ∨ d.cfgBad = false) →
      d.sesOpen fn = true → d.modPower < 2 →
      (size ≠ 0 → off.toNat % 4096 + size.toNat ≤ 4096 →
        (∀ k x bs d1, d.apWindow fn off.toNat = some (k, x) → d.windowAccess fn k x false size.toNat data false = some (bs, d1) →
          GivesLater s (.kvApertureAccess fn false off size data false) { d1 with out := d1.out ++ [.readData fn bs] }) ∧
        (d.apWindow fn off.toNat = none →
          let d1 := d.violate fn 2 spBar2 false off.toNat
          GivesLater s (.kvApertureAccess fn false off size data false)
            { d1 with out := d1.out ++ [.readData fn (List.replicate size.toNat 0#8)] })) ∧
      (data ≠ [] → off.toNat % 4096 + data.length ≤ 4096 → ∀ k x t i, d.apWindow fn off.toNat = some (k, x) →
        d.sfld fn (0x3010 + 32 * k) 63 62 = 1 → d.tractOf fn (BitVec.ofNat 32 (d.sfld fn (0x3010 + 32 * k) 31 0)) = some (i, t) →
        t.kind = 0 → t.mode = 0 → x + data.length ≤ t.len →
        GivesLater s (.kvApertureAccess fn true off size data false) (d.tractWrite t x data))) ∧
    (∀ (fn st : Fin 32) (v : W64), WindowOpen s fn st 0x610 →
      let w := standOf fn st
      (bitAt v 0 = true → bitAt (d.rd .stand w 0x610) 0 = false →
        let d1 := ((d.setSfld w 0x618 8 8 0).setSfld w 0x610 0 0 1).setSfld w 0x618 1 0 1
        GivesLater s (.lzEnableWrite fn st v) { d1 with zoneFails := Tab.del d.zoneFails w }) ∧
      (bitAt v 0 = false → bitAt (d.rd .stand w 0x610) 0 = true → d.usedIn (d.zoneFrames w) ≠ 0 →
        GivesLater s (.lzEnableWrite fn st v) (d.setSfld w 0x618 8 8 1)) ∧
      (bitAt v 0 = false → (bitAt (d.rd .stand w 0x610) 0 = false ∨ d.usedIn (d.zoneFrames w) = 0) →
        GivesLater s (.lzEnableWrite fn st v) (((d.setSfld w 0x618 8 8 0).setSfld w 0x610 0 0 0).setSfld w 0x618 1 0 0))) ∧
    (∀ (fn : Fin 32) (c : Fin 16) (v : W64), d.hostVerdict fn (0x1000000 + c * 0x100000 + 0x60800) 8 true = .ok → fn = 0 →
      Tab.get? d.lpEnter c = none → d.cellPower c = 0 →
      let g := bits v 6 0
      (16 ≤ g → g ≤ 64 → g % 4 = 0 →
        GivesLater s (.tieSvcResWrite fn c v) ((d.cfgStore fun b => { b with svcRes := g }).setFld .cell 0 0x60800 6 0 g)) ∧
      (g < 16 ∨ 64 < g ∨ g % 4 ≠ 0 → GivesLater s (.tieSvcResWrite fn c v) d))

/-- An accepted PORT_ENABLE of a port that is DOWN and may train starts training at step 1 with a fresh link; one that clears
EN takes the port down, and one of the value EN has does nothing; PORT_RETRAIN takes it down and trains it. While the
device serves: PORT_TRAINED of a training port that may train makes it ACTIVE with the partner's node, port, lanes and
credits, grants its own credit, opens a cruise connection on it and sends HELLO; a TRAINING_STEP_TIMEOUT of steps 1 to 3
with one half of the lanes good goes on with the next step, and any other fails training and waits; TRAINING_RETRY starts
it again; LINK_RX_TIMEOUT of an ACTIVE port takes it down, raises PORT_LOST and retrains it. The device's own work
follows. (R510, R511, R512, R513, R629, R637, R641, R850, 11 Table 1, 11 Table 14.) -/
def Obligations.PortsTrainAndRetrain : Prop :=
  ∀ (s : State) (fn : Fin 32) (p : Fin 16) (v : W64),
    let d := s.d
    let down (d d' : Dev) : Prop := d'.link p = PortLink.reset ∧ Tab.get? d'.egress p = none ∧
      d' = { d with regs := d'.regs, ports := d'.ports, egress := d'.egress }
    (d.hostVerdict fn (0x400000 + p * 0x10000) 8 true = .ok →
      let d1 := d.wr .port p 0 (putBits 0 0 0 (bits v 0 0))
      (bitAt v 0 = d.portEn p → GivesLater s (.portEnable fn p v) d1) ∧
      (bitAt v 0 = true → d.portEn p = false → d.portState p = 0 → d.portFenced p = false → d.halted = false → d.fld .pwr 0 0 35 32 = 0 →
        ∃ d', GivesLater s (.portEnable fn p v) d' ∧ d'.portState p = 1 ∧ d'.portEn p = true ∧ down d d') ∧
      (bitAt v 0 = false → d.portEn p = true → d.portState p ≠ 6 →
        ∃ d', GivesLater s (.portEnable fn p v) d' ∧ d'.portState p = 0 ∧ d'.portEn p = false ∧ down d d') ∧
      (bitAt v 0 = false → d.portEn p = true → d.portState p = 6 →
        GivesLater s (.portEnable fn p v) ((d1.portLeave p true).portTrain p)) ∧
      (bitAt v 0 = true → d.portState p = 6 → GivesLater s (.portRetrain fn p v) ((d1.portLeave p true).portTrain p)) ∧
      (bitAt v 0 = true → d.portState p ≠ 6 → d.portFenced p = false → d.halted = false → d.fld .pwr 0 0 35 32 = 0 →
        ∃ d', GivesLater s (.portRetrain fn p v) d' ∧ d'.portState p = 1 ∧ d'.portEn p = true ∧ down d d')) ∧
    (d.serving = true →
      (∀ (node : BitVec 16) (pp : BitVec 4) (grants : List (BitVec 8)) c d3, 1 ≤ d.portState p → d.portState p ≤ 5 → d.mayTrain p = true →
        let lanes := if (d.link p).lost = 0 then 8 else 4
        let d1 := (d.wr .port p 8 (BitVec.ofNat 64 (node.toNat * 2 ^ 48 + pp.toNat * 2 ^ 44 + lanes * 2 ^ 8 + 6))).modLink p fun l =>
          { l with credits := grants.zipIdx.map fun (n, i) => (i, n.toNat) }
        let d2 := ({ d1 with downLinks := d.downLinks.filter fun x => x != (d1.node, p.val) } : Dev).grantAll p
        d2.newConn 0 node.toNat 0 (fun x => { x with cruise := some p.val }) = some (c, d3) →
        GivesLater s (.portTrained p node pp grants) (d3.sendHello p)) ∧
      (∀ lanes : BitVec 8, let lost := (d.link p).lost ||| lanes.toNat
        1 ≤ d.portState p → d.portState p ≤ 5 →
        (d.portState p ≤ 3 → lanes ≠ 0 → lost % 16 = 0 ∨ lost / 16 = 0 →
          GivesLater s (.trainingStepTimeout p lanes) ((d.modLink p fun l => { l with lost := lost }).setPort p (d.portState p + 1))) ∧
        (3 < d.portState p ∨ lanes = 0 ∨ (lost % 16 ≠ 0 ∧ lost / 16 ≠ 0) →
          GivesLater s (.trainingStepTimeout p lanes) ((d.portReset p).modLink p fun l => { l with retry := true }))) ∧
      ((d.link p).retry = true → d.portState p = 0 → d.mayTrain p = true →
        ∃ d', GivesLater s (.trainingRetry p) d' ∧ d'.portState p = 1 ∧ down d d') ∧
      (d.portState p = 6 → GivesLater s (.linkRxTimeout p) ((d.portLeave p false).portTrain p)))

/-- While the device serves, on an ACTIVE port with no uncorrectable codeword: an acknowledgement frees the replay buffer up
to its number; a request sends the frames from its number on again and counts them; a frame in sequence is taken,
acknowledged, and credits what it grants, and a packet's frame returns one credit; a frame ahead asks for the missing
ones; a frame with a bad CRC asks for the next one wanted. IDLE_FRAME_TIMER with nothing to send and room in the replay
buffer sends an idle frame of the next number. EGRESS_SELECT takes the packet that the scheduler chooses from the queue,
spends a credit of its class, and sends it as the next frame. WHEEL_ELIGIBLE of a queue whose time has come takes it off
the wheel. The device's own work follows. (R509, R510, R511, R513, R514, R603, R606, R613, 12 Table 5.) -/
def Obligations.LinkFramesAndEgress : Prop :=
  ∀ (s : State) (p : Fin 16), s.d.serving = true →
    let d := s.d
    (∀ f : LinkFrame, d.portState p = 6 → f.uncorrectable = 0 →
      let d1 := (d.setFld .port p 0x10 31 0 (d.fld .port p 0x10 31 0 + f.corrected.toNat)).incSat .port p 0x10 63 32 0
      let want := (d.link p).rxSeq
      let ahead := (f.seq.toNat + 4096 - want) % 4096
      let taken := (d1.modLink p fun l => { l with rxSeq := (want + 1) % 4096 }).emit (.frame p (.ack f.seq))
      (f.crcOk = false → GivesLater s (.linkFrameRx p f) (d1.emit (.frame p (.again (BitVec.ofNat 12 want))))) ∧
      (f.crcOk = true →
        (∀ n, f.kind = .ack n → GivesLater s (.linkFrameRx p f) (d1.modLink p fun l => { l with replay := ackReplay n.toNat l.replay })) ∧
        (∀ n, f.kind = .again n → GivesLater s (.linkFrameRx p f) (d1.replayFrom p n.toNat)) ∧
        (f.kind = .idle → ahead = 0 → GivesLater s (.linkFrameRx p f) taken) ∧
        (f.kind = .idle → 0 < ahead → ahead < 2048 →
          GivesLater s (.linkFrameRx p f) (d1.emit (.frame p (.again (BitVec.ofNat 12 want))))) ∧
        (f.kind = .idle → 2048 ≤ ahead → GivesLater s (.linkFrameRx p f) (d1.emit (.frame p (.ack f.seq)))) ∧
        (∀ c two, f.kind = .data c two → f.seq.toNat = want → want < 4096 →
          GivesLater s (.linkFrameRx p f) (taken.emit (.frame p (.credit c two 1)))) ∧
        (∀ c two n, f.kind = .credit c two n → ahead = 0 →
          let i := c.toNat + (if two then 8 else 0)
          let d2 := d1.modLink p fun l => { l with credits := Tab.set l.credits i (Tab.getD l.credits i 0 + n.toNat) }
          GivesLater s (.linkFrameRx p f)
            ((d2.modLink p fun l => { l with rxSeq := (want + 1) % 4096 }).emit (.frame p (.ack f.seq)))))) ∧
    (d.portState p = 6 → d.egq p = [] → (d.link p).replay.length < 64 →
      let n := (d.link p).txSeq
      GivesLater s (.idleFrameTimer p)
        ((d.modLink p fun l => { l with txSeq := (n + 1) % 4096, replay := l.replay ++ [(n, none)] }).emit (.frame p .idle))) ∧
    (∀ (x : SItem) (d1 : Dev) (e : EgItem), d.portState p = 6 → (d.link p).replay.length < 64 → d.halted = false →
      d.choose (17 + p) (egItems (d.egq p)) (fun x => match (d.egq p)[x.ref]? with
        | some e => 0 < Tab.getD (d.link p).credits (d.creditIdx p e.pkt) 0
        | none => false) = (some x, d1) →
      (d.egq p)[x.ref]? = some e →
      let d2 : Dev := { d1 with egress := Tab.set d1.egress p ((d.egq p).eraseIdx x.ref) }
      let i := d2.creditIdx p e.pkt
      let d3 := d2.modLink p fun l => { l with credits := Tab.set l.credits i (Tab.getD l.credits i 0 - 1) }
      let k := (d3.stamp p e.pkt).1
      let d4 := (d3.stamp p e.pkt).2
      let n := (d4.link p).txSeq
      GivesLater s (.egressSelect p)
        ((((d4.modLink p fun l => { l with txSeq := (n + 1) % 4096, replay := l.replay ++ [(n, some k)] }).emit (.packet p n k)).recordLeft
          e).pumpAll)) ∧
    (∀ (i u : Fin 33) (t : Nat), (d.upq i u).wheel = some t → t ≤ d.now →
      GivesLater s (.wheelEligible i u) (d.setUpq i u { d.upq i u with wheel := none }))

/-- For a request from a verified source with its context on chip, of a message of the window that has not finished on an OPEN
connection: a PUT or NOTE to an ACTIVE tract of kind BUFFER or STAGE without mirroring, within bounds and with its rights,
writes its bytes at OFFSET and counts as placed; a GET answers one GRSP with the bytes read and counts them, and finishes
the message with the last; an ATOM does its operation, keeps the old value, answers ARSP and finishes; a LAND that is
placed counts as placed. A packet already placed is acknowledged again. A request that a check of Table 13 refuses counts
a violation and is answered NAK with the check's code. The device's own work follows. (R526, R538, R541, R546, R547, R548,
R550, R557, R571, 11 Table 3, 11 Table 13.) -/
def Obligations.RequestPacketsServed : Prop :=
  ∀ (s : State) (p : Fin 16) (r : Route) (h : ReqHdr) (data : List Byte) (icrc : BitVec 32) (x : Conn) (n i : Nat) (t : Tract),
    let c := r.dstConn.toNat
    let e := s.d.touchConn c
    let served (ty : Nat) (m : InMsg) (e1 : Dev) : Prop :=
      Taken s p (reqPkt ty r h data icrc) x ∧ e.checkHead x ty r h data = .inr n ∧ x.rxBase ≤ n ∧ Tab.has x.fin n = false ∧ x.st = 2 ∧
      e.openRx c n ty r h = (m, e1)
    let passes (ty : Nat) (m : InMsg) (e1 : Dev) : Prop :=
      served ty m e1 ∧ e.pktIndex x.stand ty h ∉ m.got ∧ e1.checkKey x.stand h.key ty r.notice (some r.epoch.toNat) = .inr (i, t) ∧
      t.kind ≤ 1 ∧ t.mode = 0 ∧ e1.outOfBounds t ty r.notice h.offset.toNat h.plen.toNat m.base.toNat m.len = false
    (∀ m e1, passes tyPut m e1 → GivesLater s (.put p r h data icrc)
      (((e1.tractWrite t h.offset.toNat data).setRx c m).placed p c m (reqPkt tyPut r h data icrc) (e.pktIndex x.stand tyPut h) h.plen.toNat)) ∧
    (∀ m e1, passes tyNote m e1 → GivesLater s (.note p r h data icrc)
      (((e1.tractWrite t h.offset.toNat data).setRx c m).placed p c m (reqPkt tyNote r h data icrc) (e.pktIndex x.stand tyNote h) h.plen.toNat)) ∧
    (∀ m e1, passes tyGet m e1 → s.d.doing.badRead = false →
      let m2 : InMsg := { m with got := m.got ++ [e.pktIndex x.stand tyGet h], count := m.count + h.plen.toNat }
      let d2 := (e1.sendGrsp c x (reqPkt tyGet r h data icrc) h (e1.tractRead t h.offset.toNat h.plen.toNat)).setRx c m2
      (m2.count < m.len → GivesLater s (.get p r h data icrc false) d2) ∧
      (m.len ≤ m2.count → GivesLater s (.get p r h data icrc false) (d2.finish c n true))) ∧
    (∀ m e1, passes tyAtom m e1 →
      GivesLater s (.atom p r h data icrc)
        ((e1.atomic t h.offset.toNat (bits h.arg 9 0) data).2.answerAtom c n r.tc.toNat r.ce (e1.atomic t h.offset.toNat (bits h.arg 9 0) data).1)) ∧
    (∀ m e1 ns d2, served tyLand m e1 → e.pktIndex x.stand tyLand h ∉ m.got →
      e1.checkKey x.stand h.key tyLand r.notice (some r.epoch.toNat) = .inr (i, t) → t.kind = 4 → t.mode = 0 →
      (∀ key pr, e1.landSeq x.stand h.offset = some (key, pr) → bits h.arg 7 0 < pr.layers) →
      e1.placeLand i t h data = .inr (ns, d2) →
      GivesLater s (.land p r h data icrc)
        (d2.placed p c { m with mirrors := m.mirrors ++ ns } (reqPkt tyLand r h data icrc) (e.pktIndex x.stand tyLand h) h.plen.toNat)) ∧
    (∀ m e1, served tyPut m e1 → e.pktIndex x.stand tyPut h ∈ m.got →
      let m2 : InMsg := { m with unacked := m.unacked.erase (e.pktIndex x.stand tyPut h) ++ [e.pktIndex x.stand tyPut h], ece := m.ece || r.ce }
      GivesLater s (.put p r h data icrc) ((e1.setRx c m2).ackNow c m2 false)) ∧
    (∀ why, Taken s p (reqPkt tyPut r h data icrc) x → e.checkHead x tyPut r h data = .inl why →
      GivesLater s (.put p r h data icrc) (e.refuse p c x (reqPkt tyPut r h data icrc) (e.pktIndex x.stand tyPut h) why)) ∧
    (∀ m e1 why, served tyPut m e1 → e.pktIndex x.stand tyPut h ∉ m.got →
      e1.checkKey x.stand h.key tyPut r.notice (some r.epoch.toNat) = .inl why →
      GivesLater s (.put p r h data icrc) (e1.refuse p c x (reqPkt tyPut r h data icrc) (e.pktIndex x.stand tyPut h) why))

/-- For a response from a verified source to a message on its way: ACK marks the packets it names as acknowledged, notes DONE,
and finishes the message when it may; a NAK that is not retried ends the message with 0x100 plus its code, and one that is
retried sets the packet aside; GRSP writes the bytes of a get to the operand's place and finishes with the last packet;
ARSP writes the old value and finishes. While the device serves: ACK_TIMER acknowledges what a message has placed;
RETX_TIMEOUT of a packet in flight sends it again, or ends the message with 0x200 after the last try; RETRY_AFTER_EXPIRY
makes a packet set aside ready to send; MESSAGE_TIMEOUT abandons an inbound message that is not complete. The device's own
work follows. (R548, R549, R551, R559, R560, R561, R562, R563, R565, R860.) -/
def Obligations.ResponsesAndMessageTimers : Prop :=
  ∀ (s : State),
    let d := s.d
    (∀ (p : Fin 16) (r : Route) (h : RspHdr) (icrc : BitVec 32) (x : Conn) (m : OutMsg),
      let c := r.dstConn.toNat
      let e := d.touchConn c
      let e0 := if h.code.toNat = 11 then e.modConn c fun x => { x with epoch := h.info.setWidth 32 } else e
      x.msg? h.msgId.toNat = some m →
      (Taken s p (rspPkt tyAck r h icrc) x → m.ty ≠ tyGet → m.ty ≠ tyAtom →
        let ids := ((List.range 64).filterMap fun k => if h.info.getLsbD k then some (h.base.toNat + k) else none).filter fun i =>
          m.pkts[i]?.any fun p => p.st != .acked
        let d1 := ids.foldl (fun d i => d.ackPkt c m i r.ece) e
        let d2 := if h.code.getLsbD 0 then d1.modMsg c m.n fun m => { m with done := true } else d1
        GivesLater s (.ack p r h icrc) ((d2.tryFinish c m.n).pump c)) ∧
      (Taken s p (rspPkt tyNak r h icrc) x → nakRetries h.code.toNat = false →
        GivesLater s (.nak p r h icrc) ((e0.dropMsg c m (0x100 + h.code.toNat)).pump c)) ∧
      (Taken s p (rspPkt tyNak r h icrc) x → nakRetries h.code.toNat = true → m.naks < d.fld .port 0 0x9010 31 16 →
        (∀ q, m.pkts[h.base.toNat]? = some q → q.st ≠ .flight) →
        GivesLater s (.nak p r h icrc)
          (((e0.modMsg c m.n fun m => { m with naks := m.naks + 1 }).modMsg c m.n fun m => m.setPkt h.base.toNat fun q =>
            if q.st = .acked then q else { q with st := .later }).pump c)) ∧
      (Taken s p (rspPkt tyArsp r h icrc) x → m.ty = tyAtom → ∀ t tok op dst, m.who = .thread t tok op dst →
        (∀ k, Tab.get? (d.thr t).toks tok = some k → k.kind = .remote op) → Tab.has (d.thr t).toks tok = true →
        GivesLater s (.arsp p r h icrc)
          ((((e.ackPkt c m 0 r.ece).stageWrite (t / 32) dst (natLe 8 h.info.toNat)).dropMsg c m 0).pump c))) ∧
    (∀ (p : Fin 16) (r : Route) (h : ReqHdr) (data : List Byte) (icrc : BitVec 32) (x : Conn) (m m2 : OutMsg) (q : OutPkt),
      let c := r.dstConn.toNat
      Taken s p (reqPkt tyGrsp r h data icrc) x → x.msg? h.msgId.toNat = some m → m.ty = tyGet →
      m.pkts[h.msgOff.toNat / 4096]? = some q → q.got = false → q.len = data.length →
      ∀ t tok op dst k, m.who = .thread t tok op dst → Tab.get? (d.thr t).toks tok = some k → k.kind = .remote op →
      let d1 := ((d.touchConn c).ackPkt c m (h.msgOff.toNat / 4096) r.ece).stageWrite (t / 32) (dst + h.msgOff.toNat) data
      ((d1.conn? c).bind fun x => x.msg? h.msgId.toNat) = some m2 →
      (m2.pkts.all (·.got) = true → GivesLater s (.grsp p r h data icrc) ((d1.dropMsg c m2 0).pump c)) ∧
      (m2.pkts.all (·.got) = false → GivesLater s (.grsp p r h data icrc) (d1.pump c))) ∧
    (d.serving = true →
      (∀ (c : BitVec 16) (n : BitVec 32) (x : Conn) (m : InMsg), d.conn? c.toNat = some x → x.rx.find? (fun m => m.n == n.toNat) = some m →
        (m.unacked ≠ [] → GivesLater s (.ackTimer c n) (d.ackNow c.toNat m false)) ∧
        (x.rxBase ≤ n.toNat → n.toNat < x.rxTop → Tab.has x.fin n.toNat = false → (∀ y ∈ x.rx, y.n = n.toNat → y.count < y.len) →
          GivesLater s (.messageTimeout c n) (d.finish c.toNat n.toNat false))) ∧
      (∀ (c : BitVec 16) (n i : BitVec 32) (x : Conn) (m : OutMsg) (q : OutPkt), d.conn? c.toNat = some x →
        x.tx.find? (fun m => m.n == n.toNat) = some m → m.pkts[i.toNat]? = some q →
        (q.st = .flight → q.tries < d.fld .port 0 0x9010 15 0 →
          let d1 := if m.windowed then d.setConn c.toNat { x with inflight := x.inflight - q.len } else d
          GivesLater s (.retxTimeout c n i)
            ((d1.modMsg c.toNat n.toNat fun m => m.setPkt i.toNat fun q => { q with st := .unsent, tries := q.tries + 1, again := true }).pump c.toNat)) ∧
        (q.st = .flight → d.fld .port 0 0x9010 15 0 ≤ q.tries →
          GivesLater s (.retxTimeout c n i) ((d.dropMsg c.toNat m 0x200).pump c.toNat)) ∧
        (q.st = .later → GivesLater s (.retryAfterExpiry c n i)
          ((d.modMsg c.toNat n.toNat fun m => m.setPkt i.toNat fun q =>
            if q.st = .later then { q with st := .unsent, again := true } else q).pump c.toNat))))

/-- An OPEN_REQ that reaches this node and names an OPENING context's node and JOIN opens it and answers OPEN_ACK; one that
repeats an OPEN context is only answered; one that matches nothing is dropped and counted. OPEN_ACK opens the OPENING
context it names. CLOSE from a verified source answers CLOSE_ACK and frees the context; CLOSE_ACK frees a CLOSING one.
While the device serves: OPEN_REQ_TIMER of an OPENING context to a higher node sends OPEN_REQ; CONN_OPEN_TIMEOUT of an
OPENING context frees it with completion code 5 for its command; CONTEXT_EVICT of an idle OPEN context with a host area
writes it out by DMA; CONTEXT_FETCH_DONE brings it on chip and serves its parked packets; CONTEXT_FETCH_HOLD answers each
NOT_RESIDENT. The device's own work follows. (R523, R524, R525, R527, R528, R529, R530, R531, R532, R533, 11 Table 8.) -/
def Obligations.ConnectionsOpenedAndContextsMoved : Prop :=
  ∀ (s : State),
    let d := s.d
    (∀ (p : Fin 16) (r : Route) (h : ConnHdr) (icrc : BitVec 32),
      let src := r.srcNode.toNat
      let sc := r.srcConn.toNat
      let pkt (op : Nat) : Pkt := ⟨BitVec.ofNat 4 tyConn, r, .conn op h, icrc⟩
      let cs := d.conns.filter fun e => e.2.peer == src && e.2.join == h.join
      (∀ (c : Nat) (x : Conn), Reaches s p (pkt 1) → cs = [(c, x)] → x.st = 1 →
        GivesLater s (.openReq p r h icrc)
          ((d.connOpened c sc h.epoch).sendConn x.stand c src sc 2 0 x.join
            (BitVec.ofNat 32 ((d.connOpened c sc h.epoch).sliceEpoch x.stand)))) ∧
      (∀ (c : Nat) (x : Conn), Reaches s p (pkt 1) → cs = [(c, x)] → x.st = 2 → x.peerConn = sc →
        GivesLater s (.openReq p r h icrc) (d.sendConn x.stand c src sc 2 0 x.join (BitVec.ofNat 32 (d.sliceEpoch x.stand)))) ∧
      (Reaches s p (pkt 1) → cs = [] → GivesLater s (.openReq p r h icrc) (d.incSat .port p 0x28 31 0 1)) ∧
      (∀ x, Reaches s p (pkt 2) → d.conn? r.dstConn.toNat = some x → x.st = 1 → x.peer = src → x.join = h.join →
        GivesLater s (.openAck p r h icrc) (d.connOpened r.dstConn.toNat sc h.epoch)) ∧
      (∀ x, Reaches s p (pkt 3) → d.verified r = some x →
        GivesLater s (.close p r h icrc)
          ((d.sendConn x.stand r.dstConn.toNat x.peer x.peerConn 4 0 h.join 0).freeConn r.dstConn.toNat)) ∧
      (∀ x, Reaches s p (pkt 4) → d.verified r = some x → x.st = 3 →
        GivesLater s (.closeAck p r h icrc) (d.freeConn r.dstConn.toNat))) ∧
    (d.serving = true → ∀ (c : BitVec 16) (x : Conn), d.conn? c.toNat = some x →
      (x.st = 1 → d.node < x.peer →
        GivesLater s (.openReqTimer c) (d.sendConn x.stand c.toNat x.peer 0xFFFF 1 0 x.join (BitVec.ofNat 32 (d.sliceEpoch x.stand)))) ∧
      (x.st = 1 → x.openCmd = none → GivesLater s (.connOpenTimeout c) (d.freeConn c.toNat)) ∧
      (∀ w tag, x.st = 1 → x.openCmd = some (w, tag) →
        GivesLater s (.connOpenTimeout c) ((d.post w ⟨tag, 0, 0, 0, 0x11, 0, 5⟩).freeConn c.toNat)) ∧
      (bitAt (d.rd .port 0 0x9000) 15 = true → x.res < 2 → x.evict = none → x.rx = [] → (∀ m ∈ x.tx, m.unacked = false) → x.st = 2 →
        256 * (c.toNat + 1) ≤ d.fld .port 0 0x9020 24 0 * 1024 →
        let d1 := d.setConn c.toNat { x with evict := some d.dmaNext }
        GivesLater s (.contextEvict c)
          { d1 with
              dma := d.dma ++ [⟨d.dmaNext, 0, .ctxEvict c.toNat, 0⟩], dmaNext := d.dmaNext + 1,
              out := d.out ++ [.dmaWrite 0 (d.fld .port 0 0x9018 63 12 * 4096 + 256 * c.toNat) []] }) ∧
      (x.res = 3 → GivesLater s (.contextFetchDone c)
        (x.parked.foldl (fun d q => match d.conn? c.toNat with
          | some x => if x.st = 2 ∨ x.st = 3 then d.servePkt q.port c.toNat x q.pkt else d.dropUnverified q.port
          | none => d.dropUnverified q.port) (d.setConn c.toNat { x with res := 0, parked := [] }))) ∧
      (x.res = 3 → GivesLater s (.contextFetchHold c)
        (x.parked.foldl (fun d q => d.took.nakPkt x.stand c.toNat q.pkt 12 (d.idxOf x.stand q.pkt) d.retryHint)
          (d.setConn c.toNat { x with parked := [] }))))

/-- While the device serves: SYNC_REQ from the partner is answered with SYNC_RSP carrying its sequence, its first stamp and
the arrival time; SYNC_RSP from the parent to the request outstanding, at most 100 us old, yields the offset and delay of
R584, which a FREE device steps by; SYNC_TIMER sends SYNC_REQ of the next number; PARENT_TIMEOUT without another path
enters HOLDOVER; PPS_EDGE counts edges within 1 us of a second, sets PPS_VALID at the third, and at the reference corrects
to the nearest whole second; PPS_TIMEOUT clears PPS_VALID. FTM_NOW_READ answers whole nanoseconds and an 8-byte read
latches the fraction; FTM_SET_WRITE on the reference, once, steps forward to the next whole second. The device's own work
follows. (R577, R579, R580, R581, R582, R584, R585, R586, R588, R589, R590, R592.) -/
def Obligations.FabricTimeKept : Prop :=
  ∀ (s : State),
    let d := s.d
    (∀ (p : Fin 16) (op : Nat) (r : Route) (h : TimeHdr) (icrc : BitVec 32), d.serving = true → d.portActive p = true → d.halted = false →
      r.dstNode.toNat = d.node → (⟨BitVec.ofNat 4 tyTime, r, .time op h, icrc⟩ : Pkt).icrcOk = true → r.srcNode.toNat = d.peerNode p →
      let e := (d.modLink p fun l => { l with dist := h.dist.toNat, refNode := h.refNode.toNat }).refreshParent
      (op = 1 → GivesLater s (.syncReq p r h icrc) (e.timePkt p 2 h.seq h.ta (BitVec.ofNat 80 d.fab))) ∧
      (∀ q, op = 2 → (e.link p).req = some q → q.seq = h.seq.toNat → d.fab ≤ q.t1 + 100000 * 65536 → e.isParent p = true → e.ftmState = 0 →
        let e1 := e.modLink p fun l => { l with req := none }
        let corr := (BitVec.ofNat 16 (e1.fld .ftm 0 (0x100 + 8 * p) 15 0)).toInt
        let delay : Int := ((d.fab : Int) - q.t1) - ((h.tc.toNat : Int) - h.tb.toNat)
        let off : Int := ((h.tb.toNat : Int) - q.t1) - ((d.fab : Int) - h.tc.toNat) - corr * 16384
        GivesLater s (.syncRsp p r h icrc)
          (((e1.showOffset off delay).stepFab (((e1.showOffset off delay).fab : Int) + off / 2).toNat).setFtm 1))) ∧
    (d.serving = true →
      (∀ p : Fin 16, d.portActive p = true →
        let n := (d.link p).reqSeq
        GivesLater s (.syncTimer p) ((d.modLink p fun l => { l with reqSeq := (n + 1) % 2 ^ 32 }).timePkt p 1 (BitVec.ofNat 32 n) 0 0)) ∧
      (∀ p : Fin 16, d.isParent p = true → d.ftmState ≠ 0 →
        let e := (d.modLink p fun l => { l with dist := 255 }).refreshParent
        (e.fld .ftm 0 0x10 27 20 = 255 → GivesLater s (.parentTimeout p) (e.setFtm 3)) ∧
        (e.fld .ftm 0 0x10 27 20 ≠ 255 → GivesLater s (.parentTimeout p) e)) ∧
      (∀ n : BitVec 32, d.isRef = false →
        let run := if 999999000 ≤ n.toNat ∧ n.toNat ≤ 1000001000 then d.ppsRun + 1 else 0
        (3 ≤ run → GivesLater s (.ppsEdge n) (({ d with ppsRun := run } : Dev).setFld .ftm 0 0x10 4 4 1)) ∧
        (run < 3 → GivesLater s (.ppsEdge n) { d with ppsRun := run })) ∧
      (∀ n : BitVec 32, d.isRef = true → 999999000 ≤ n.toNat → n.toNat ≤ 1000001000 → 2 ≤ d.ppsRun →
        let e := ({ d with ppsRun := d.ppsRun + 1 } : Dev).setFld .ftm 0 0x10 4 4 1
        let past := d.fab % (1000000000 * 65536)
        GivesLater s (.ppsEdge n)
          (e.correct (if past < 500000000 * 65536 then -(2 * (past : Int)) else 2 * ((1000000000 * 65536 : Int) - past)))) ∧
      GivesLater s .ppsTimeout { d.setFld .ftm 0 0x10 4 4 0 with ppsRun := 0 }) ∧
    (∀ fn : Fin 32, d.hostVerdict fn 0x40000 8 false = .ok →
      let d1 := d.wr .ftm 0 8 (BitVec.ofNat 64 (d.fab % 65536))
      GivesLater s (.ftmNowRead fn true) { d1 with out := d.out ++ [.readData fn (natLe 8 (d.fab / 65536 % 2 ^ 64))] }) ∧
    (∀ (fn : Fin 32) (v : W64), d.hostVerdict fn 0x40028 8 true = .ok → d.isRef = true → bitAt (d.rd .ftm 0 0x10) 5 = false →
      d.now ≤ v.toNat →
      GivesLater s (.ftmSetWrite fn v) ((d.stepFab (roundUp v.toNat 1000000000 * 65536)).setFld .ftm 0 0x10 5 5 1))

/-- An accepted TIMED_ACTION_ARM of a slot that is not armed stores its control word; TIMED_ACTION_FIRE of the one slot that
is due, not periodic, performs its write as stand 0's, sets FIRED and disarms. An accepted ROT_CHANGE with none pending
records the first cycle start at least 1 us ahead and sets PENDING; ROT_CANCEL clears it; ROT_SWAP at that time copies the
administrative list to the operative one, clears PENDING and shows the entry in force, and ROT_ENTRY_BOUNDARY shows it;
SCH_RATE_WRITE of a stand's rate stores it and resets its tokens. TELEMETRY_INTERVAL_END of an interval that has ended
queues a record of each selected stand and starts the next. The device's own work follows. (R596, R597, R598, R599, R612,
R616, R617, R618, R619, R623, 12 Table 6, 12 Table 9.) -/
def Obligations.TimedActionsRotationsAndTelemetry : Prop :=
  ∀ (s : State),
    let d := s.d
    (∀ (i : Fin 32) (v : W64), d.hostVerdict 0 (0x42018 + 32 * i) 8 true = .ok → bitAt (d.rd .ftm 0 (0x2018 + 32 * i)) 0 = false →
      let a := 0x2018 + 32 * i.val
      ∃ w, GivesLater s (.timedActionArm 0 i v) (d.wr .ftm 0 a w) ∧ bits w 63 32 = bits v 63 32 ∧ bits w 31 16 = bits v 31 16 ∧
        bitAt w 0 = bitAt v 0 ∧ bitAt w 1 = (bitAt (d.rd .ftm 0 a) 1 && !bitAt v 1)) ∧
    (∀ (i : Nat) (r : RegRow) (b : Blk) (n o : Nat), d.serving = true → d.dueSlots = [i] → i < 32 →
      let a := 0x2000 + 32 * i
      let off := d.fld .ftm 0 (a + 8) 25 0
      let v := d.rd .ftm 0 (a + 16)
      d.fld .ftm 0 (a + 24) 63 32 = 0 → d.verdict 0 true off 8 true = .ok → d.target off = .one ⟨b, n, o⟩ → b = .dir ∨ b = .hif →
      findRow b o = some r →
      GivesLater s .timedActionFire
        (((d.wr b n o (r.write (!d.lock) (0, 64) v (d.rd b n o))).setFld .ftm 0 (a + 24) 1 1 1).setFld .ftm 0 (a + 24) 0 0 0)) ∧
    (∀ (fn : Fin 32) (i : Fin 33), d.hostVerdict fn (0x800800 + i * 0x10000) 8 true = .ok →
      (bitAt (d.rd .sch i 0x828) 0 = false →
        let base := (d.rd .sch i 0x808).toNat
        let cyc := max 1 (d.fld .sch i 0x810 31 0)
        ∃ t, GivesLater s (.rotChange fn i) ((d.wr .sch i 0x830 (BitVec.ofNat 64 t)).setFld .sch i 0x828 0 0 1) ∧
          d.now + 1000 ≤ t ∧ base ≤ t ∧ (t - base) % cyc = 0 ∧ (t < d.now + 1000 + cyc ∨ t = base)) ∧
      (bitAt (d.rd .sch i 0x828) 0 = true → GivesLater s (.rotChange fn i) d) ∧
      GivesLater s (.rotCancel fn i) (d.setFld .sch i 0x828 0 0 0)) ∧
    (∀ (fn : Fin 32) (i : Fin 33) (u : Fin 32) (v : W64), d.hostVerdict fn (0x800108 + i * 0x10000 + 32 * u) 8 true = .ok →
      let d1 := d.setFld .sch i (0x108 + 32 * u) 31 0 (bits v 31 0)
      let rate := d1.schRate i u
      GivesLater s (.schRateWrite fn i (BitVec.ofNat 16 (0x108 + 32 * u)) v)
        (d1.setUpq i u { d1.upq i u with tat := d1.resetTat i rate.1 rate.2, wheel := none })) ∧
    (d.serving = true →
      (∀ i : Fin 33, bitAt (d.rd .sch i 0x828) 0 = true → (d.rd .sch i 0x830).toNat ≤ d.now →
        ∃ d', GivesLater s (.rotSwap i) d' ∧ d'.rd .sch i 0x818 = d.rd .sch i 0x808 ∧ d'.rd .sch i 0x820 = d.rd .sch i 0x810 ∧
          (∀ j, j < 64 → d'.rd .sch i (0x1200 + 8 * j) = d.rd .sch i (0x1000 + 8 * j)) ∧ bitAt (d'.rd .sch i 0x828) 0 = false ∧
          d' = { d with regs := d'.regs }) ∧
      (∀ i : Fin 33, let e := d.rotAt i d.now
        GivesLater s (.rotEntryBoundary i) ((d.setFld .sch i 0x828 23 16 e.2).setFld .sch i 0x828 9 4 e.1)) ∧
      ((d.telInt + 1) * 1000000 ≤ d.now →
        let recs := if d.telOn then (maskBits 32 (d.fld .ftm 0 0x50 63 32)).map fun w => d.telRecord w d.telInt else []
        let d1 : Dev := { d with telInt := d.telInt + 1, tel := [], telOn := bitAt (d.rd .ftm 0 0x50) 0, telOk := d.ftmState == 2 || d.isRef, telHold := d.ftmState == 3, telQ := d.telQ ++ recs }
        GivesLater s .telemetryIntervalEnd (Dev.telPump (d1.telQ.length + 1) d1)))

/-- For each cruise message, HELLO to SLICE_RESET: when its CTRL packet comes from a verified link partner on a connection of
stand 0, passes the checks and is one whole message that was not taken before, the command opens and places the message
(so that it is acknowledged) and hands the 16-byte header and the body to the cruise engine, with the port of arrival; the
device's own work follows. That work takes the first message that waits: one that is flooded and was taken before is
dropped; another flooded one is remembered, its higher epoch adopted, passed on to the other ports (in the row only for
ENTRY and LINK_DOWN), and acted on; one that is not flooded is acted on, with a higher epoch adopted from HELLO. (R629,
R631, R632, R643, 13 Table 1, 13 Table 2.) -/
def Obligations.CruiseMessagesReachTheEngine : Prop :=
  ∀ (p : Fin 16) (ch : CruiseHdr) (body : List Byte),
    (∀ (s : State) (r : Route) (h : ReqHdr) (icrc : BitVec 32) (x : Conn) (n : Nat) (m : InMsg) (e1 : Dev),
      let goes (op : Nat) (c : Instr) : Prop := CtrlTaken s p r h (ch.bytes op ++ body) icrc x n m e1 →
        GivesLater s c (e1.ctrlPlaced p r h (ch.bytes op ++ body) icrc m)
      goes 1 (.hello p r h ch body icrc) ∧ goes 2 (.heartbeat p r h ch body icrc) ∧
      goes 3 (.entry p r h ch body icrc) ∧ goes 4 (.summary p r h ch body icrc) ∧
      goes 5 (.linkDown p r h ch body icrc) ∧ goes 6 (.fail p r h ch body icrc) ∧
      goes 7 (.epochAdvance p r h ch body icrc) ∧ goes 8 (.offer p r h ch body icrc) ∧
      goes 9 (.accept p r h ch body icrc) ∧ goes 10 (.commit p r h ch body icrc) ∧
      goes 11 (.revert p r h ch body icrc) ∧ goes 12 (.refuse p r h ch body icrc) ∧
      goes 13 (.query p r h ch body icrc) ∧ goes 14 (.record p r h ch body icrc) ∧
      goes 15 (.mirrorOpen p r h ch body icrc) ∧ goes 16 (.mirrorAck p r h ch body icrc) ∧
      goes 17 (.mirrorClose p r h ch body icrc) ∧ goes 18 (.promoted p r h ch body icrc) ∧
      goes 19 (.lendAsk p r h ch body icrc) ∧ goes 20 (.lendGrant p r h ch body icrc) ∧
      goes 21 (.reclaim p r h ch body icrc) ∧ goes 22 (.release p r h ch body icrc) ∧
      goes 23 (.sliceReset p r h ch body icrc)) ∧
    (∀ (d : Dev) (op : Nat), op < 256 → d.react = [] → d.msgEnds = [] → d.cruiseIn = [] → (d.warm = false ∨ op ≠ 23) →
      let hd : CruiseIn := ⟨op, ch.flags.toNat, ch.origin.toNat, ch.version.toNat, ch.epoch.toNat⟩
      let seen := Tab.getD d.seenMsgs ch.origin.toNat []
      let d1 : Dev := { d with seenMsgs := Tab.set d.seenMsgs ch.origin.toNat ((ch.version.toNat :: seen).take 256) }
      (ch.flags.getLsbD 0 = false → CruiseDoes d p op ch body ((if op = 1 then d.adoptEpoch ch.epoch.toNat else d).cruiseAct p hd body)) ∧
      (ch.flags.getLsbD 0 = true → ch.version.toNat ∈ seen → CruiseDoes d p op ch body d) ∧
      (ch.flags.getLsbD 0 = true → ch.version.toNat ∉ seen →
        CruiseDoes d p op ch body
          (((d1.adoptEpoch ch.epoch.toNat).relay (ch.bytes op ++ body) (op == 3 || op == 5) (some p.val)).cruiseAct p hd body)))

/-- The cruise engine: keeps the partner's entry of a HELLO, answers the first and acts on YOU_FAILED; marks the link alive on
HEARTBEAT; keeps an ENTRY, a SUMMARY and a LINK_DOWN; fails the node of a FAIL; on EPOCH_ADVANCE adopts the epoch, empties
the failed set and makes a STANDBY module ACTIVE. At the home, OFFER from the owner at its epoch marks the slice offered;
ACCEPT of the offered node with the old owner's node commits it and with zero reverts it, and anything else is answered
REFUSE; the new owner shows an OFFER in CMP_OFFER_IN, or accepts at once when so set. COMMIT, REVERT, REFUSE and RECORD
end the disclaim, and COMMIT and RECORD raise epochs; QUERY is answered RECORD; SLICE_RESET by the owner at its epoch
resets its stands and cells and commits. Log 23 and 27 give the layouts and readings. (R637, R641, R642, R644, R646, R653,
R656, R658, R659, R716, 13 Table 2, 16 Table 6.) -/
def Obligations.CruiseMessagesActedOn : Prop :=
  ∀ (d : Dev) (p : Fin 16) (origin version epoch flags : Nat) (body : List Byte),
    let act (op : Nat) (d2 : Dev) : Prop := d.cruiseAct p ⟨op, flags, origin, version, epoch⟩ body = d2
    let known := (d.modLink p fun l => { l with helloIn := true }).takeEntry body
    (flags.testBit 1 = false → (d.link p).helloIn = false → act 1 (known.sendHello p)) ∧
    (flags.testBit 1 = false → (d.link p).helloIn = true → act 1 known) ∧
    (flags.testBit 1 = true → (d.link p).helloIn = true → act 1 known.selfFailed) ∧
    act 2 { d.modLink p (fun l => { l with hb := true }) with downLinks := d.downLinks.filter fun x => x != (d.node, p.val) } ∧
    (recNum body 2 1 ≠ 4 → recNum body 0 2 ≠ d.node → nodeRow (recNum body 0 2) = nodeRow d.node →
      act 3 { d with rowMap := Tab.set d.rowMap (recNum body 0 2) (recBytes body 0 64), downLinks := d.downLinks.filter fun x => x.1 != recNum body 0 2 }) ∧
    act 4 ({ d with rowSums := Tab.set d.rowSums (recNum body 0 1 % 64) (recBytes body 0 40) } : Dev).refreshRef ∧
    (d.downLinks.contains (recNum body 0 2, recNum body 2 1) = false →
      act 5 { d with downLinks := d.downLinks ++ [(recNum body 0 2, recNum body 2 1)] }) ∧
    act 6 (d.nodeFailed (recNum body 0 2)) ∧
    (let e := d.adoptEpoch (recNum body 0 4)
     let e1 : Dev := { e with failed := [], lastAdv := (e.okCells, e.activePorts) }
     (e1.cmpState = 1 → e1.standbyEpoch < recNum body 0 4 → act 7 (e1.setFld .cmp 0 8 2 0 2).refreshComp) ∧
     (e1.cmpState ≠ 1 → act 7 e1.refreshComp)) ∧
    (let home := recNum body 0 2
     let k := recNum body 2 1
     (∀ sl, home = d.node → d.slice? k = some sl → sl.offer = none → sl.owner = origin → sl.epoch = recNum body 4 4 → recNum body 8 2 ≠ d.node →
       act 8 (d.setSlice k { sl with offer := some (recNum body 8 2, d.now) })) ∧
     (home ≠ d.node → recNum body 8 2 = d.node → bitAt (d.rd .cmp 0 0x10) 0 = false →
       act 8 ((d.wr .cmp 0 0x400 (BitVec.ofNat 64 (home * 2 ^ 48 + origin * 2 ^ 32 + 16 + k % 16))).wr .cmp 0 0x408 (BitVec.ofNat 64 (recNum body 4 4)))) ∧
     (home ≠ d.node → recNum body 8 2 = d.node → bitAt (d.rd .cmp 0 0x10) 0 = true →
       act 8 (d.answerOffer home k (recNum body 4 4) origin true)) ∧
     (∀ sl t, home = d.node → d.slice? k = some sl → sl.offer = some (origin, t) → sl.epoch = recNum body 4 4 →
       (recNum body 8 2 = sl.owner → act 9 (d.commitSlice k origin)) ∧
       (recNum body 8 2 = 0 → sl.owner ≠ 0 → act 9 (d.revertSlice k)) ∧
       (recNum body 8 2 ≠ 0 → recNum body 8 2 ≠ sl.owner → act 9 (d.cruiseMsg origin 12 (d.recordBody k)))) ∧
     (let d1 : Dev := { d with disclaims := d.disclaims.filter fun x => !(x.home == home && x.slice == k) }
      act 11 d1 ∧ act 12 d1 ∧ (home = d.node → act 10 d1 ∧ act 14 d1) ∧
      (home ≠ d.node →
        let e := recNum body 8 4
        let d2 : Dev := { d1 with conns := Tab.mapAll d.conns fun _ (x : Conn) => if x.peer = home ∧ x.cruise = none ∧ x.epoch.toNat < e then { x with epoch := BitVec.ofNat 32 e } else x }
        let d3 : Dev := { d2 with tracts := Tab.mapAll d.tracts fun _ (t : Tract) => if t.kind = 7 ∧ (t.src.any fun s => s.1 == home) = true ∧ t.srcEpoch.toNat < e then { t with srcEpoch := BitVec.ofNat 32 e } else t }
        act 10 d3 ∧ act 14 d3))) ∧
    act 13 (d.cruiseMsg origin 14 (d.recordBody (recNum body 0 1))) ∧
    (∀ sl, recNum body 0 2 = d.node → d.slice? (recNum body 2 1) = some sl → sl.owner = origin → sl.epoch = recNum body 4 4 →
      let k := recNum body 2 1
      let d1 := ((List.range 32).filter fun x => d.sliceOf x == k).foldl (fun d x => d.standReset x) (d.lastReset 4)
      let cells := (List.range 16).filter fun c => !d1.cellFenced c && (if k = 0 then
        !(d1.slices.any fun e => e.1 != 0 && nbit e.2.cells c) else nbit sl.cells c)
      act 23 ((cells.foldl (fun d c => d.cellReset c) d1).commitSlice k sl.owner))

/-- The cruise engine answers a MIRROR_OPEN that it can serve with a new MIRROR tract's key and opens the connection, and one
it cannot with the status that says why; on MIRROR_ACK of status 0 the source's tract becomes ACTIVE and its registration
completes with the key, on another the tract goes and the command completes with that status; MIRROR_CLOSE at the partner
deletes the copy, at the source ends the mirroring; PROMOTED is held. LEND_ASK from the sled grants at most what is
offered; LEND_GRANT adds a window; RECLAIM closes it; RELEASE takes it back. MIRROR_OPEN_TIMEOUT of a tract still OPENING,
while the device serves, fails its registration with status 5. Log 20, 23 and 28 give the layouts and readings. (R663,
R664, R665, R666, R677, R681, R490, R491, R494, R685, 13 Table 2, 10 Table 2.) -/
def Obligations.MirrorsOpenedClosedAndPromoted : Prop :=
  ∀ (d : Dev) (p : Fin 16) (origin version epoch flags : Nat) (body : List Byte),
    let act (op : Nat) (d2 : Dev) : Prop := d.cruiseAct p ⟨op, flags, origin, version, epoch⟩ body = d2
    (let st := recNum body 0 1 % 32
     let kind := recNum body 1 1
     let skey := BitVec.ofNat 32 (recNum body 4 4)
     let units := if kind = 0 then ceilDiv (recNum body 8 8) 65536 else 0
     let same : Prop := ∀ k, k < 8 → recBytes (Tab.getD d.profiles (st * 8 + k) []) 0 16 = recBytes body (24 + 16 * k) 16
     let ack (d : Dev) (status : Nat) (key : BitVec 32) : Dev := d.cruiseMsg origin 16 (natLe 4 skey.toNat ++ natLe 4 status ++ natLe 4 key.toNat ++ natLe 4 0)
     (d.cmpState = 1 → act 15 (ack d 2 0)) ∧
     (d.cmpState ≠ 1 → units ≠ 0 → (d.std st).quota.t1 < d.useOf st 1 + units → act 15 (ack d 3 0)) ∧
     (d.cmpState ≠ 1 → units = 0 ∨ d.useOf st 1 + units ≤ (d.std st).quota.t1 →
       (kind = 4 → ¬ same → act 15 (ack d 8 0)) ∧
       (∀ i fs d1, kind ≠ 4 ∨ same → d.freeIndex = some i → d.allocUnits st units [] = some (fs, d1) →
         ∃ t : Tract, act 15 (ack (({ d1 with freeCtr := d1.freeCtr + 1, tracts := Tab.set d1.tracts i t } : Dev).openMirConn st origin) 0 (t.key i)) ∧
           t.kind = 7 ∧ t.st = .active ∧ t.partner = origin ∧ t.stand = st ∧ t.src = some (origin, skey) ∧ t.srcKind = kind ∧
           t.srcLen = recNum body 8 8 ∧ t.mode = recNum body 2 1 ∧ t.frames = fs))) ∧
    (let key := BitVec.ofNat 32 (recNum body 0 4)
     ∀ t, d.tract? (keyIndex key) = some t → t.st = .opening → t.key (keyIndex key) = key → t.partner = origin →
       (recNum body 4 4 = 0 →
         let e := (d.setTract (keyIndex key) { t with st := .active, mkey := some (BitVec.ofNat 32 (recNum body 8 4)), cmd := none, nextInt := d.mirNow }).openMirConn t.stand origin
         (t.cmd = none → act 16 e) ∧ ∀ w tag, t.cmd = some (w, tag) → act 16 (e.post w ⟨tag, key.setWidth 64, 0, 0, 0x10, 0, 0⟩)) ∧
       (recNum body 4 4 ≠ 0 → ∀ w tag, t.cmd = some (w, tag) →
         act 16 (((d.freeUnits t.frames).setTract (keyIndex key) { t with st := .free, frames := [], cmd := none }).post w
           ⟨tag, 0, 0, 0, 0x10, 0, recNum body 4 4⟩))) ∧
    (let key := BitVec.ofNat 32 (recNum body 0 4)
     (∀ i t, d.tracts.find? (fun e => e.2.kind == 7 && e.2.st == .active && e.2.src == some (origin, key)) = some (i, t) →
       act 17 (d.dropCopy i t)) ∧
     (∀ t, (∀ e ∈ d.tracts, ¬ (e.2.kind = 7 ∧ e.2.src = some (origin, key))) → d.tract? (keyIndex key) = some t →
       t.key (keyIndex key) = key → t.partner = origin → act 17 (d.unmirror (keyIndex key)))) ∧
    (let q : Promoted := ⟨recNum body 0 2, BitVec.ofNat 32 (recNum body 4 4), recNum body 2 2, BitVec.ofNat 32 (recNum body 8 4), BitVec.ofNat 32 (recNum body 12 4)⟩
     let d1 : Dev := { d with promoted := (d.promoted.filter fun x => !(x.node == q.node && x.key == q.key)) ++ [q] }
     act 18 { d1 with conns := Tab.mapAll d.conns fun _ (x : Conn) => if x.peer = recNum body 2 2 ∧ x.cruise.isNone ∧ x.epoch.toNat < (BitVec.ofNat 32 (recNum body 12 4)).toNat then { x with epoch := BitVec.ofNat 32 (recNum body 12 4) } else x }) ∧
    (let mine := ((d.lendOut.filter fun w => w.borrower == origin).map fun w => w.granules.length).sum
     let n := min (recNum body 0 1) (min d.lendOffer (min 7 (d.fld .cell 0 0x60810 10 8) - mine))
     (n = 0 → act 19 d) ∧
     (∀ fs d1 i, n ≠ 0 → sameSled origin d.node = true → origin ≠ d.node → d.takeGranules n [] = (fs, d1) → fs ≠ [] → d1.freeIndex = some i →
       ∃ t : Tract, t.kind = 8 ∧ t.partner = origin ∧ t.rights = 3 ∧ t.frames = fs ∧ t.len = fs.length * 2 ^ 28 ∧ t.st = .active ∧
         act 19 ((({ d1 with freeCtr := d1.freeCtr + 1, tracts := Tab.set d1.tracts i t, lendOut := d1.lendOut ++ [⟨origin, (t.key i).toNat, fs, false⟩] } : Dev).showLent).cruiseMsg
           origin 20 (natLe 1 fs.length ++ natLe 3 0 ++ natLe 4 (t.key i).toNat ++ natLe 8 0)))) ∧
    (1 ≤ recNum body 0 1 → recNum body 0 1 ≤ 7 → d.lendOut = [] →
      act 20 ({ d with lendAsk := false, lendIn := d.lendIn ++ [⟨origin, recNum body 4 4, (d.lendIn.map fun w => w.first + w.frames).foldl max 0, recNum body 0 1 * 1048576, false⟩] } : Dev).showLent) ∧
    act 21 ({ d with lendIn := d.lendIn.map fun (w : LendIn) => if w.lender = origin ∧ w.tract = recNum body 4 4 then { w with closing := true } else w } : Dev).showLent ∧
    (∀ w, d.lendOut.find? (fun w => w.borrower == origin && w.tract == recNum body 4 4) = some w → act 22 (d.takeBack w)) ∧
    (∀ (s : State) (i : BitVec 16) (t : Tract) (w : Nat) (tag : W64), s.d = d → d.serving = true → d.tract? i.toNat = some t → t.st = .opening →
      t.cmd = some (w, tag) →
      GivesLater s (.mirrorOpenTimeout i)
        (((d.freeUnits t.frames).setTract i.toNat { t with st := .free, frames := [], cmd := none }).post w ⟨tag, 0, 0, 0, 0x10, 0, 5⟩))

/-- For a PUT to an ACTIVE MIRROR tract that passes the checks: in the synchronous mode, a mirror write that can be applied
changes the copy and counts as placed; in the asynchronous mode a write other than SEQ_NEW is kept with its interval, and
a FLUSH notes how many writes the interval has. MIRROR_INTERVAL_END of an asynchronous tract whose oldest interval has
ended, with everything sent, sends FLUSH of it with its count of writes; MIRROR_INTERVAL_APPLY of a copy applies the
writes of the first interval that is whole and goes past it. The device's own work follows. (R668, R669, R670, R671, R672,
R674, R675, 13 Table 6.) -/
def Obligations.MirrorWritesPlaced : Prop :=
  ∀ (s : State),
    (∀ (p : Fin 16) (r : Route) (h : ReqHdr) (mh : MirHdr) (data : List Byte) (icrc : BitVec 32) (x : Conn) (n i : Nat) (t : Tract) (m : InMsg) (e1 : Dev),
      let c := r.dstConn.toNat
      let e := s.d.touchConn c
      let bs (op : Nat) := mh.bytes op ++ data
      let k (op : Nat) := reqPkt tyPut r h (bs op) icrc
      let passes (op : Nat) : Prop := Taken s p (k op) x ∧ e.checkHead x tyPut r h (bs op) = .inr n ∧ x.rxBase ≤ n ∧ Tab.has x.fin n = false ∧
        x.st = 2 ∧ e.openRx c n tyPut r h = (m, e1) ∧ e.pktIndex x.stand tyPut h ∉ m.got ∧
        e1.checkKey x.stand h.key tyPut r.notice (some r.epoch.toNat) = .inr (i, t) ∧ t.kind = 7 ∧
        e1.outOfBounds t tyPut r.notice h.offset.toNat h.plen.toNat m.base.toNat m.len = false
      let ints (op : Nat) : Tab MirInterval :=
        let iv := Tab.getD t.ints mh.interval.toNat ⟨[], none⟩
        Tab.set t.ints mh.interval.toNat (if op = 6 then { iv with flush := some mh.handle.toNat } else { iv with writes := iv.writes ++ [bs op] })
      let sync (op : Nat) (cmd : Instr) : Prop := passes op → t.mode = 1 → ∀ d2, e1.mirApply i t (bs op) = (0, d2) →
        GivesLater s cmd (d2.placed p c m (k op) (e.pktIndex x.stand tyPut h) h.plen.toNat)
      let async (op : Nat) (cmd : Instr) : Prop := passes op → t.mode = 2 → e1.tract? i = some t →
        GivesLater s cmd ((e1.setTract i { t with ints := ints op }).placed p c m (k op) (e.pktIndex x.stand tyPut h) h.plen.toNat)
      sync 1 (.seqNew p r h mh data icrc) ∧ sync 2 (.seqDel p r h mh data icrc) ∧ sync 3 (.tokens p r h mh data icrc) ∧
      sync 4 (.sectors p r h mh data icrc) ∧ sync 5 (.buffer p r h mh data icrc) ∧ sync 6 (.flush p r h mh data icrc) ∧
      async 2 (.seqDel p r h mh data icrc) ∧ async 3 (.tokens p r h mh data icrc) ∧ async 4 (.sectors p r h mh data icrc) ∧
      async 5 (.buffer p r h mh data icrc) ∧ async 6 (.flush p r h mh data icrc)) ∧
    (s.d.serving = true → ∀ (i : BitVec 16) (t : Tract), s.d.tract? i.toNat = some t →
      let d := s.d
      (∀ c x, t.mode = 2 → t.st = .active → t.mkey ≠ none → t.nextInt < d.mirNow → d.mirConn t.stand t.partner = some c → d.conn? c = some x → x.tx = [] →
        let writes := (t.sends.filter fun m => m.interval == t.nextInt && !m.flush).length
        let t2 : Tract := { t with nextInt := t.nextInt + 1, sends := t.sends.filter fun m => m.flush || m.interval != t.nextInt || !m.acked }
        let hd : MirHdr := ⟨0, 0, 0, BitVec.ofNat 64 writes, BitVec.ofNat 64 t.nextInt, 0, 0⟩
        GivesLater s (.mirrorIntervalEnd i)
          ((d.setTract i.toNat { t2 with sends := t2.sends ++ [⟨t.sendNext, t.nextInt, false, true⟩], sendNext := t.sendNext + 1 }).startMsg c
            { mkMsg tyPut 5 false (t.mkey.getD 0) 0 (hd.bytes 6) 32 .cruise with who := .mirror i.toNat t.sendNext })) ∧
      (∀ k iv, t.ints.find? (fun e => e.1 ≤ t.nextInt && e.2.whole) = some (k, iv) →
        GivesLater s (.mirrorIntervalApply i)
          ((iv.writes.foldl (fun d bs => (d.mirApply i.toNat t bs).2) d).modTract i.toNat fun t =>
            { t with nextInt := max t.nextInt (k + 1), ints := Tab.del t.ints k })))

/-- While the device serves: HEARTBEAT_TIMER sends HEARTBEAT on the cruise connection of every ACTIVE port; HEARTBEAT_TIMEOUT
of an ACTIVE port not yet down clears its liveness, records LINK_DOWN and floods it in the row, and one already down
changes nothing; ENTRY_TIMER gives this node's entry the next version, keeps it and floods it in the row; SUMMARY_TIMER
floods and takes the row summary on the lowest live node and does nothing elsewhere; LOOKOUT_TIMEOUT of a node whose
lookout this is and that no live link reaches floods FAIL and has its effect here; SELF_FAIL_TIMEOUT with no live port has
the effect of R642; ORPHAN_TIMEOUT of an offer ORPHAN_MS old clears it, counts it and tells both nodes;
OWNER_QUERY_TIMEOUT of a disclaim that old asks the home again. The device's own work follows each. Layouts and readings:
log 23 and 27. (R634, R635, R637, R638, R639, R640, R642, R658, R659, 13 Table 2.) -/
def Obligations.CruiseTimersRun : Prop :=
  ∀ (s : State), s.d.serving = true →
    let d := s.d
    let alive (p : Nat) : Prop := d.portActive p = true ∧ (d.link p).hb = true
    let old := d.fld .cmp 0 0x10 63 48 * 1000000
    GivesLater s .heartbeatTimer ((List.range 16).foldl (fun (e : Dev) p => if e.portActive p = true then
        (match e.cruiseOf p with
          | some c => (e.newCruise 2 0 []).2.ctrlTo c (e.newCruise 2 0 []).1
          | none => e) else e) d) ∧
    (∀ p : Fin 16, d.portActive p = true →
      (d.downLinks.contains (d.node, p.val) = false → GivesLater s (.heartbeatTimeout p)
        (({ d.modLink p (fun l => { l with hb := false }) with downLinks := d.downLinks ++ [(d.node, p.val)] } : Dev).flood 5 true
          (natLe 2 d.node ++ natLe 1 p ++ [0]))) ∧
      (d.downLinks.contains (d.node, p.val) = true → GivesLater s (.heartbeatTimeout p) d)) ∧
    (let e := d.ownEntry (d.version + 1)
     GivesLater s .entryTimer (({ d with rowMap := Tab.set d.rowMap d.node e } : Dev).flood 3 true e)) ∧
    (let live := d.rowNodes.filter fun e => nodeRow e.1 == nodeRow d.node && d.nodeLive e.1
     (live.head?.map (·.1) = some d.node → GivesLater s .summaryTimer ((d.flood 4 false d.summaryBody).takeSummary d.summaryBody)) ∧
     (live.head?.map (·.1) ≠ some d.node → GivesLater s .summaryTimer d)) ∧
    (∀ x : BitVec 16,
      ((∃ p, p < 16 ∧ alive p ∧ d.peerNode p = x.toNat) → GivesLater s (.lookoutTimeout x) d) ∧
      ((∀ p, p < 16 → alive p → d.peerNode p ≠ x.toNat) →
        (x.toNat ∉ d.failed → d.lookoutOf x.toNat = d.node → x.toNat ≠ d.node → GivesLater s (.lookoutTimeout x)
          ((d.flood 6 false (natLe 2 x.toNat ++ natLe 2 d.node ++ [0, 0, 0, 0])).nodeFailed x.toNat)) ∧
        (x.toNat ∈ d.failed ∨ d.lookoutOf x.toNat ≠ d.node → GivesLater s (.lookoutTimeout x) d))) ∧
    ((∃ p, p < 16 ∧ alive p) → GivesLater s .selfFailTimeout d) ∧
    ((∀ p, p < 16 → ¬ alive p) → GivesLater s .selfFailTimeout d.selfFailed) ∧
    (∀ (k : Fin 16) (sl : Slice) (n t : Nat), d.slice? k = some sl → sl.offer = some (n, t) →
      let d1 := (d.setSlice k { sl with offer := none }).incSat .cmp 0 0x20 31 16 1
      let tell (e : Dev) (m : Nat) : Dev := e.cruiseMsg m 11 (d1.recordBody k)
      (d.now < t + old → GivesLater s (.orphanTimeout k) d) ∧
      (t + old ≤ d.now → sl.owner ≠ n → GivesLater s (.orphanTimeout k) (tell (tell d1 sl.owner) n)) ∧
      (t + old ≤ d.now → sl.owner = n → GivesLater s (.orphanTimeout k) (tell d1 n))) ∧
    (∀ (home : BitVec 16) (k : Fin 16) (a b : List Disclaim) (x : Disclaim), d.disclaims = a ++ x :: b → x.home = home.toNat → x.slice = k.val →
      (∀ y ∈ a, y.home ≠ home.toNat ∨ y.slice ≠ k.val) → x.since + old ≤ d.now →
      GivesLater s (.ownerQueryTimeout home k) (({ d with disclaims := (d.disclaims.filter fun y => !(y.home == home.toNat && y.slice == k.val)) ++ [{ x with since := d.now }] } : Dev).cruiseMsg home.toNat 13
        [BitVec.ofNat 8 k, 0, 0, 0]))

/-- For an accepted write by function 0: CMP_ADVANCE adopts the epoch plus 1, floods EPOCH_ADVANCE and applies it.
SLICE_DEFINE of a slice that this module may define, with cells and ports that no other slice holds, commits a record of
the register's masks, owned here, at the highest epoch of its stands' slices plus 1, and counts it; a definition of slice
0, of nothing, of what another slice holds, or without ownership raises the refusal count alone. SLICE_OFFER by the owner
of an unoffered slice marks it offered and sends OFFER; SLICE_RELEASE deletes the record and raises slice 0's epoch;
SLICE_RECLAIM commits this module as owner. Each without the right is counted refused. OFFER_ACCEPT and OFFER_REFUSE of
the offer that waits clear VALID and send ACCEPT with the owner, or with zero; without one they change nothing. The
device's own work follows. (R644, R647, R648, R649, R650, R656, R657, R661, 13 Table 5, 13 Table 9.) -/
def Obligations.SlicesDefinedOfferedAndTaken : Prop :=
  ∀ (s : State),
    let d := s.d
    let refused := d.setFld .cmp 0 0x20 15 0 (min 65535 (d.fld .cmp 0 0x20 15 0 + 1))
    (d.hostVerdict 0 0x50018 8 true = .ok →
      let e := (d.cruiseEpoch + 1) % 2 ^ 32
      GivesLater s (.cmpAdvance 0) (((d.adoptEpoch e).flood 7 false (natLe 4 e ++ [0, 0, 0, 0])).epochAdvance e)) ∧
    (∀ (k : Fin 16) (n : BitVec 16), d.hostVerdict 0 (0x50118 + 32 * k) 8 true = .ok →
      (let cells := d.fld .cmp 0 (0x100 + 32 * k) 47 32
       let ports := d.fld .cmp 0 (0x100 + 32 * k) 31 16
       let stands := d.fld .cmp 0 (0x108 + 32 * k) 31 0
       let free : Prop := ∀ x ∈ d.slices, x.1 ≠ 0 → x.1 ≠ k.val → x.2.cells &&& cells = 0 ∧ x.2.ports &&& ports = 0 ∧ x.2.stands &&& stands = 0
       let mine : Prop := d.owns 0 = true ∧ (Tab.has d.slices k = false ∨ d.owns k = true)
       (k ≠ 0 → cells ≠ 0 → ports ≠ 0 → free → mine → ∃ ep, GivesLater s (.sliceDefine 0 k n)
          (({ d with slices := Tab.set d.slices k ⟨cells, ports, stands, d.node, ep + 1, none⟩ } : Dev).setFld .cmp 0 0x20 63 32
            (d.fld .cmp 0 0x20 63 32 + 1)) ∧
          (∀ w, w < 32 → stands.testBit w = true → d.sliceEpoch w ≤ ep) ∧ (ep = 0 ∨ ∃ w, w < 32 ∧ stands.testBit w = true ∧ d.sliceEpoch w = ep)) ∧
       (k = 0 ∨ cells = 0 ∨ ports = 0 ∨ ¬ free ∨ ¬ mine → GivesLater s (.sliceDefine 0 k n) refused)) ∧
      (∀ sl, d.slice? k = some sl → sl.owner = d.node → sl.offer = none → n.toNat ≠ d.node → GivesLater s (.sliceOffer 0 k n)
        ((d.setSlice k { sl with offer := some (n.toNat, d.now) }).cruiseMsg n.toNat 8 (handBody d.node k sl.epoch n.toNat))) ∧
      (d.owns k = false → GivesLater s (.sliceOffer 0 k n) refused ∧ GivesLater s (.sliceRelease 0 k n) refused) ∧
      (∀ s0, k ≠ 0 → d.owns k = true → d.owns 0 = true → d.slice? 0 = some s0 → GivesLater s (.sliceRelease 0 k n)
        { d with slices := Tab.set (Tab.del d.slices k) 0 { s0 with epoch := s0.epoch + 1 } }) ∧
      (d.slice? k = none → GivesLater s (.sliceReclaim 0 k n) refused) ∧
      (∀ sl, d.slice? k = some sl → GivesLater s (.sliceReclaim 0 k n) (d.commitSlice k d.node) ∧
        (d.commitSlice k d.node).slice? k = some { sl with owner := d.node, epoch := sl.epoch + 1, offer := none })) ∧
    (d.hostVerdict 0 0x50410 8 true = .ok →
      let w := d.rd .cmp 0 0x400
      let home := bits w 63 48
      let k := bits w 3 0
      let e := d.fld .cmp 0 0x408 31 0
      let d1 := d.setFld .cmp 0 0x400 4 4 0
      (bitAt w 4 = true → home ≠ d.node → GivesLater s (.offerRefuse 0) (d1.cruiseMsg home 9 (handBody home k e 0)) ∧
        GivesLater s (.offerAccept 0) ((d1.disclaim home k e true).cruiseMsg home 9 (handBody home k e (bits w 47 32)))) ∧
      (bitAt w 4 = false → GivesLater s (.offerAccept 0) d ∧ GivesLater s (.offerRefuse 0) d))

/-- For an accepted write: FLT_FORCE makes one occurrence of each source named, in ascending order, with detail
0xF0F0F0F0F0F0F0, sets the status bit of each that exists and changes no other source's; FLT_ENABLE takes the bits of the
sources that exist; each CLEAR writes zero to its latch; FLT_FENCE_SET fences the unit named and ignores a bad unit or one
already fenced; FLT_UNFENCE marks a firebreak fence to end when the epoch rises, and for a cell records and starts a cell
reset. CELL_RESET_DONE of such a reset puts the cell's registers below its TIE at their reset values and forgets its
patrol runs. While the device serves, a failed mesh link raises its source and fences the cells cut off; CELLPLL and
LINKPLL losses clear their flag, raise, and fence the cell or retrain four ports. Awake, XTAL losses fall back to FIO. The
device's own work follows. Log 35 has the readings. (R691, R692, R697, R701, R703, R710, R715, R853, 02 R45, 15 R769, 16
R779, 14 Table 5.) -/
def Obligations.FaultsForcedLatchedFencedAndCleared : Prop :=
  ∀ (s : State),
    let d := s.d
    (∀ (w : Fin 32) (v : W64), d.hostVerdict 0 (0x21200 + 8 * w) 8 true = .ok →
      ∃ d', GivesLater s (.fltForceWrite 0 w v) d' ∧
        d' = ((List.range 32).filter fun b => bitAt v b).foldl (fun (e : Dev) b =>
          e.raise (32 * w + b) (srcUnit (32 * w + b)) (if 0x380 ≤ 32 * w + b then [(32 * w + b - 0x380) / 4] else []) 0xF0F0F0F0F0F0F0) d ∧
        ∀ b, b < 32 → bitAt (d'.rd .flt 0 (0x1000 + 8 * w)) b =
          (bitAt (d.rd .flt 0 (0x1000 + 8 * w)) b || (bitAt v b && (srcReact (32 * w + b)).isSome))) ∧
    (∀ (w : Fin 32) (v : W64), d.hostVerdict 0 (0x21100 + 8 * w) 8 true = .ok →
      ∃ new, GivesLater s (.fltEnableWrite 0 w v) (d.wr .flt 0 (0x1100 + 8 * w) new) ∧
        ∀ b, b < 32 → bitAt new b = (bitAt v b && (srcReact (32 * w + b)).isSome)) ∧
    (d.hostVerdict 0 0x20020 8 true = .ok → GivesLater s (.firstFaultClear 0) (((d.wr .flt 0 8 0).wr .flt 0 0x10 0).wr .flt 0 0x18 0)) ∧
    (∀ fn st : Fin 32, WindowOpen s fn st 0x4020 →
      let w := standOf fn st
      GivesLater s (.standFaultClear fn st) (((d.wr .stand w 0x4008 0).wr .stand w 0x4010 0).wr .stand w 0x4018 0)) ∧
    (∀ v : W64, d.hostVerdict 0 0x20110 8 true = .ok →
      (fenceTarget v = none → GivesLater s (.fltFenceSet 0 v) d) ∧
      (∀ u, fenceTarget v = some u → (d.unitFenced u = true → GivesLater s (.fltFenceSet 0 v) d) ∧
        (d.unitFenced u = false → ∃ d', GivesLater s (.fltFenceSet 0 v) d' ∧ d' = d.fenceUnit u 6 0 ∧
          (u.kind = .nbu → d.programsOn (u.idx / 64) (fun x => x == u.idx % 64) = [] →
            d' = (({ d with fences := Tab.set d.fences u.key ⟨6, none⟩ } : Dev).wr .flt 0 0x100
              (BitVec.ofNat 64 (3 * 2 ^ 44 + u.idx * 2 ^ 32 + 6 * 2 ^ 28))).wr .flt 0 0x108 (BitVec.ofNat 64 d.now))))) ∧
    (∀ v : W64, d.hostVerdict 0 0x20118 8 true = .ok →
      (fenceTarget v = none → GivesLater s (.fltUnfence 0 v) d) ∧
      (∀ u, fenceTarget v = some u →
        (Tab.get? d.fences u.key = none → GivesLater s (.fltUnfence 0 v) d) ∧
        (∀ f, Tab.get? d.fences u.key = some f →
          let d1 : Dev := { d with fences := Tab.set d.fences u.key { f with lift := some d.cruiseEpoch } }
          (u.kind ≠ .cell → GivesLater s (.fltUnfence 0 v) d1) ∧
          (u.kind = .cell → u.idx ∈ d.cellRst → GivesLater s (.fltUnfence 0 v) (d1.setFld .boot 0 0 35 32 5)) ∧
          (u.kind = .cell → u.idx ∉ d.cellRst → GivesLater s (.fltUnfence 0 v)
            { d1.setFld .boot 0 0 35 32 5 with cellRst := d.cellRst ++ [u.idx] })))) ∧
    (d.serving = true →
      (∀ c : Fin 16, c.val ∈ d.cellRst → ∃ d', GivesLater s (.cellResetDone c) d' ∧ c.val ∉ d'.cellRst ∧
        Tab.has d'.ptlRun c = false ∧ d'.ptlNext c = none ∧
        (∀ o, o < 0x60800 → d'.rd .cell c o = ({} : Dev).rd .cell c o) ∧
        (∀ x, x < 16 → x ≠ c.val → x ∈ d.cellRst → x ∈ d'.cellRst)) ∧
      (∀ c : Fin 16, c.val ∉ d.cellRst → GivesLater s (.cellResetDone c) d) ∧
      (∀ (c : Fin 20) (link : BitVec 8) (cut : BitVec 16),
        let src := if c.val < 16 then 32 * c.val + 18 else 0x204 + 8 * (c.val - 16)
        let u : FUnit := if c.val < 16 then ⟨.cell, c⟩ else ⟨.edge, c.val - 16⟩
        GivesLater s (.meshLinkFail c link cut) ((maskBits 16 cut.toNat).foldl (fun (e : Dev) x => e.fenceUnit ⟨.cell, x⟩ 4 0)
          (d.raise src u [] (link.setWidth 64)))) ∧
      (∀ c : Fin 16, GivesLater s (.cellpllUnlock c)
        (((d.setFld .pwr 0 0x8000 (16 + c) (16 + c) 0).raise (32 * c + 19) ⟨.cell, c⟩ [] 0).fenceUnit ⟨.cell, c⟩ 3 (32 * c + 19))) ∧
      (∀ e : Fin 4,
        let again (x : Dev) (p : Nat) : Dev := (x.portLeave p false).portTrain p
        let d1 := (d.setFld .pwr 0 0x8000 (8 + e) (8 + e) 0).raise (0x203 + 8 * e) ⟨.edge, e⟩ [] 0
        GivesLater s (.linkpllUnlock e) (again (again (again (again d1 (4 * e)) (4 * e + 1)) (4 * e + 2)) (4 * e + 3)))) ∧
    (d.up? = true →
      (let d1 := (d.setFld .pwr 0 0x8000 4 4 0).raise 0x252 ⟨.edge, 2⟩ [] 0
       let d2 := ((List.range 16).map (· + 3)).foldl (fun (e : Dev) k => e.wr .pwr 0 (0x8100 + 8 * k) 0) (d1.wr .pwr 0 0x8100 0)
       GivesLater s (.xtal0Loss true) ((List.range 16).foldl (fun (e : Dev) p => e.portLeave p false) d2)) ∧
      (let d1 := ([2, 4, 8, 9, 10, 11, 16, 17, 18, 19, 20, 21, 22, 23, 24, 25, 26, 27, 28, 29, 30, 31].foldl (fun (e : Dev) b => e.setFld .pwr 0 0x8000 b b 0) d).raise 0x250 ⟨.edge, 2⟩ [] 0
       let d2 := ((List.range 16).map (· + 3)).foldl (fun (e : Dev) k => e.wr .pwr 0 (0x8100 + 8 * k) 0) (d1.wr .pwr 0 0x8100 0)
       GivesLater s (.xtal0Loss false) ((List.range 16).foldl (fun (e : Dev) p => e.portLeave p false) d2)) ∧
      (let d1 := ((d.setFld .pwr 0 0x8000 5 5 0).raise 0x253 ⟨.edge, 2⟩ [] 0).wr .pwr 0 0x8110 0
       (d.ftmState = 1 ∨ d.ftmState = 2 → GivesLater s (.xtal1Loss true) (d1.setFtm 3)) ∧
       (d.ftmState = 0 ∨ d.ftmState = 3 → GivesLater s (.xtal1Loss true) d1)) ∧
      (let d1 := (((d.setFld .pwr 0 0x8000 3 3 0).setFld .pwr 0 0x8000 5 5 0).raise 0x251 ⟨.edge, 2⟩ [] 0).wr .pwr 0 0x8110 0
       let d2 := if d.fld .pwr 0 0x8108 2 0 = 2 then d1.wr .pwr 0 0x8108 0 else d1
       (d.ftmState = 1 ∨ d.ftmState = 2 → GivesLater s (.xtal1Loss false) (d2.setFtm 3)) ∧
       (d.ftmState = 0 ∨ d.ftmState = 3 → GivesLater s (.xtal1Loss false) d2)) ∧
      GivesLater s .rangerWdogExpiry (d.raise 0x242 ⟨.edge, 0⟩ [] 0))

/-- An accepted PTL_RUN_WRITE on an awake cell queues one run, or one for each unit of the kind, and nothing for a kind, unit
or pattern set outside Table 6. While the device serves: PATROL_RUN_START takes the cell's next run when its unit is idle
and nothing runs there, and notes temperature and bin; PATROL_WAIT_TIMEOUT drops the next run and counts a skip;
PATROL_RUN_END files the result: a good run is counted and shown; a bad one is counted, raises PTL_MISMATCH for the unit,
and at the second mismatch among the last three runs of its bin fences the unit and logs it. CELL_WATCHDOG raises CEL_WDOG
when work waits in the cell. The device's own work follows. (R693, R719, R720, R721, R722, R723, 14 Table 6.) -/
def Obligations.PatrolRunsAndWatchdogs : Prop :=
  ∀ (s : State) (c : Fin 16),
    let d := s.d
    (∀ v : W64, d.hostVerdict 0 (0x1080000 + c * 0x100000) 8 true = .ok → d.cellPower c = 0 → Tab.has d.lpEnter c = false →
      let k := bits v 18 16
      let u := bits v 13 8
      let p := bits v 2 0
      let write := GivesLater s (.ptlRunWrite 0 c v)
      (ptlPatterns k ≤ p → write d) ∧
      (p < ptlPatterns k → bitAt v 31 = true → write { d with ptlQ := d.ptlQ ++ (List.range (ptlUnits k)).map fun u => ⟨c, k, u, p, 0, 0⟩ }) ∧
      (p < ptlPatterns k → bitAt v 31 = false → ptlUnits k ≤ u → write d) ∧
      (p < ptlPatterns k → bitAt v 31 = false → u < ptlUnits k → write { d with ptlQ := d.ptlQ ++ [⟨c, k, u, p, 0, 0⟩] })) ∧
    (d.serving = true →
      (∀ (a b : List PtlRun) (r : PtlRun), d.ptlQ = a ++ r :: b → r.cell = c.val → (∀ y ∈ a, y.cell ≠ c.val) →
        (Tab.has d.ptlRun c = false → d.ptlIdle r = true → d.halted = false →
          let t := d.dieTemp (2 * c)
          GivesLater s (.patrolRunStart c) { d with ptlQ := a ++ b, ptlRun := Tab.set d.ptlRun c { r with bin := min 25 (t / 5), temp := t } }) ∧
        (Tab.has d.ptlRun c = true ∨ d.ptlIdle r = false → GivesLater s (.patrolRunStart c) d) ∧
        GivesLater s (.patrolWaitTimeout c)
          (({ d with ptlQ := a ++ b } : Dev).setFld .cell c 0x80018 31 0 (min 0xFFFFFFFF (d.fld .cell c 0x80018 31 0 + 1)))) ∧
      (∀ r, Tab.get? d.ptlRun c = some r →
        let shown (ok : Bool) : Dev :=
          (({ d with
            ptlRun := Tab.del d.ptlRun c
            ptlHist := Tab.set d.ptlHist r.key ((ok :: Tab.getD d.ptlHist r.key []).take 3) } : Dev).wr .cell c 0x80008
            (BitVec.ofNat 64 (r.pat * 2 ^ 32 + r.unit * 2 ^ 24 + r.kind * 2 ^ 18 + (if ok then 0 else 2 ^ 17) + r.bin * 2 ^ 8 + r.temp % 256))).setFld .cell c 0x80010 31 0
              (d.fld .cell c 0x80010 31 0 + 1)
        let bad := ((shown false).incSat .cell c 0x80010 63 32 1).raise (32 * c + 21) r.tested []
          (BitVec.ofNat 64 (d.now % 2 ^ 32 * 2 ^ 32 + r.pat * 2 ^ 24 + r.bin * 2 ^ 16 + r.kind * 2 ^ 8 + r.unit))
        let misses := ((false :: Tab.getD d.ptlHist r.key []).take 3).countP fun x => !x
        GivesLater s (.patrolRunEnd c true) (shown true) ∧
        (misses < 2 ∨ d.unitFenced r.tested = true → GivesLater s (.patrolRunEnd c false) bad) ∧
        (2 ≤ misses → d.unitFenced r.tested = false → GivesLater s (.patrolRunEnd c false) ((bad.fenceUnit r.tested 5 (32 * c + 21)).ptlLog r))) ∧
      ((∃ n x, (n, x) ∈ d.subs ∧ x.cell = c.val ∧ (∀ t, x.st ≠ .running t)) → GivesLater s (.cellWatchdog c) (d.raise (32 * c + 22) ⟨.cell, c⟩ [] 0)) ∧
      ((∀ n x, (n, x) ∈ d.subs → x.cell = c.val → ∃ t, x.st = .running t) → GivesLater s (.cellWatchdog c) d))

/-- Of a powered device: VIN_SAMPLE below 38 V leaves what a loss of power leaves; else it shows the sample and the minimum;
below 42 V a new warning is counted, caps at OP3, starts the supply path and raises; the tenth sample in a row above 42.5
V ends the warning. THERM_L asserted caps at OP3 and raises. Past its boot ROM: SUPPLY_HOLD_END lifts the cap; TEMP_SAMPLE
shows the hotter die of each pair, raises THERM_WARN when some die passes WARN_C and caps at OP3 and raises THERM_CRIT
when one passes 105 C; THERMAL_CAP_TIMER moves the cap one point; THERM_L_CAP_END lifts its cap; AVS_REQUEST_DONE and
AVS_TIMEOUT of a link that is asked show it and end the step with the last link, an upward step that was acknowledged
moving the clock; OP_STEP begins one step to the goal. The device's own work follows. Log 36 has the readings. (R732,
R733, R734, R737, R738, R743, R744, R746, R747, R748, R749, R750.) -/
def Obligations.SupplyTemperatureAndVoltage : Prop :=
  ∀ (s : State),
    let d := s.d
    let crit (e : Dev) (u : FUnit) : Dev := ((e.setOpSt 9 8 3).supplyPath).raise 0x258 u [] 0
    (∀ mv : BitVec 32,
      let d1 := d.setFld .pwr 0 0x28 15 0 mv.toNat
      let d2 := if mv.toNat < d.fld .pwr 0 0x28 47 32 then d1.setFld .pwr 0 0x28 47 32 mv.toNat else d1
      let gives := GivesLater s (.vinSample mv)
      (d.off = true → gives d) ∧
      (d.off = false →
        (mv.toNat < 38000 → gives { d.powerClear with off := true, board := { d.board with mrst := false } }) ∧
        (38000 ≤ mv.toNat → mv.toNat < 42000 →
          (d.warn = true → gives { d2 with goodRun := 0 }) ∧
          (d.warn = false →
            let d3 := ({ d2 with goodRun := 0, warn := true } : Dev).setFld .pwr 0 0x28 31 16 (min 65535 (d.fld .pwr 0 0x28 31 16 + 1))
            gives ((((d3.setOpSt 13 12 3).setOpSt 25 25 0).supplyPath).raise 0x255 ⟨.edge, 2⟩ [] 0))) ∧
        (42000 ≤ mv.toNat → mv.toNat ≤ 42500 → gives { d2 with goodRun := 0 }) ∧
        (42500 < mv.toNat → d.warn = true → 9 ≤ d.goodRun → gives (({ d2 with warn := false, goodRun := 0 } : Dev).setOpSt 25 25 1)) ∧
        (42500 < mv.toNat → d.warn = false ∨ d.goodRun < 9 → gives { d2 with goodRun := min (d.goodRun + 1) 10 }))) ∧
    (d.thermL = false → d.off = false →
      GivesLater s .thermLAssert (((({ d with thermL := true } : Dev).setOpSt 17 16 3).supplyPath).raise 0x259 ⟨.edge, 2⟩ [] 0)) ∧
    (d.thermL = true ∨ d.off = true → GivesLater s .thermLAssert { d with thermL := true }) ∧
    GivesLater s .thermLRelease { d with thermL := false } ∧
    (d.up? = true →
      (d.opSt 25 25 = 1 → GivesLater s .supplyHoldEnd ((d.setOpSt 25 25 0).setOpSt 13 12 0)) ∧
      (d.opSt 25 25 ≠ 1 → GivesLater s .supplyHoldEnd d) ∧
      (∀ ts : List (BitVec 8), ts.length = 40 →
        let t (i : Nat) : Nat := (ts.getD i 0).toNat
        let warm : Prop := ∃ i, i < 40 ∧ d.temps.getD i 0 < d.warnC ∧ d.warnC ≤ t i
        let hot : Prop := ∃ i, i < 40 ∧ d.temps.getD i 0 < 105 ∧ 105 ≤ t i
        ∃ d1 : Dev, d1 = { d with temps := ts.map (·.toNat), regs := d1.regs } ∧
          (∀ p, p < 20 → d1.fld .pwr 0 (0x50 + 8 * (p / 8)) (8 * (p % 8) + 7) (8 * (p % 8)) = max (t (2 * p)) (t (2 * p + 1))) ∧
          (∀ a, a ≠ 0x30050 → a ≠ 0x30058 → a ≠ 0x30060 → Tab.get? d1.regs a = Tab.get? d.regs a) ∧
          (¬ warm → ¬ hot → GivesLater s (.tempSample ts) d1) ∧
          (warm → ¬ hot → GivesLater s (.tempSample ts) (d1.raise 0x257 (dieUnit d1.hottest) [] 0)) ∧
          (¬ warm → hot → GivesLater s (.tempSample ts) (crit d1 (dieUnit d1.hottest))) ∧
          (warm → hot → GivesLater s (.tempSample ts) (crit (d1.raise 0x257 (dieUnit d1.hottest) [] 0) (dieUnit d1.hottest)))) ∧
      ((∃ x ∈ d.temps, d.warnC ≤ x) → GivesLater s .thermalCapTimer (d.setOpSt 9 8 (min 3 (d.opSt 9 8 + 1)))) ∧
      ((∀ x ∈ d.temps, x + 5 < d.warnC) → GivesLater s .thermalCapTimer (d.setOpSt 9 8 (d.opSt 9 8 - 1))) ∧
      ((∀ x ∈ d.temps, x < d.warnC) → (∃ x ∈ d.temps, d.warnC ≤ x + 5) → GivesLater s .thermalCapTimer d) ∧
      (d.thermL = false → GivesLater s .thermLCapEnd (d.setOpSt 17 16 0)) ∧
      (d.thermL = true → GivesLater s .thermLCapEnd d) ∧
      (∀ (l : Fin 6) (us retries : BitVec 16),
        let left := d.avsWait.erase l.val
        let done := GivesLater s (.avsRequestDone l us retries)
        let d1 : Dev := { (d.setFld .pwr 0 0x38 47 32 us.toNat).setFld .pwr 0 0x38 31 16 (min 65535 (d.fld .pwr 0 0x38 31 16 + retries.toNat)) with
          avsWait := left, rails := Tab.set d.rails l d.avsPoint }
        let e := (d.setFld .pwr 0 0x38 l l 1).raise 0x256 ⟨.edge, 2⟩ [] 0
        let d2 : Dev := { e with avsWait := left, rails := Tab.upd d.rails l fun r => min r d.avsPoint, avsLate := true }
        (l.val ∉ d.avsWait → done d ∧ GivesLater s (.avsTimeout l) d) ∧
        (l.val ∈ d.avsWait →
          (left ≠ [] → done d1 ∧ GivesLater s (.avsTimeout l) d2) ∧
          (left = [] → GivesLater s (.avsTimeout l) (d2.setOpSt 24 24 0)) ∧
          (left = [] → d.avsPoint < d.curOp → d.avsLate = false → done ((d1.setOpSt 24 24 0).setOpSt 1 0 d.avsPoint)) ∧
          (left = [] → d.curOp ≤ d.avsPoint ∨ d.avsLate = true → done (d1.setOpSt 24 24 0)))) ∧
      (let asks (e : Dev) (p : Nat) : Dev := { e.setOpSt 24 24 1 with avsWait := [0, 1, 2, 3], avsPoint := p, avsLate := false }
       let held : Prop := bitAt (d.rd .flt 0 0x1090) 22 = true
       (d.avsWait = [] → d.goalOp < d.curOp → ¬ held → GivesLater s .opStep (asks d (d.curOp - 1))) ∧
       (d.avsWait = [] → d.curOp < d.goalOp → GivesLater s .opStep (asks (d.setOpSt 1 0 (d.curOp + 1)) (d.curOp + 1))) ∧
       (d.avsWait ≠ [] ∨ d.goalOp = d.curOp ∨ (d.goalOp < d.curOp ∧ held) → GivesLater s .opStep d)))

/-- While the device serves, an idle cell enters S1, and one in S1 begins S2 or is refused by the first refuser, which is
counted and recorded; else nothing changes. Past the boot ROM: CELL_WAKE of a sleeping cell starts its wake, and one of an
entering cell aborts the entry; CELL_WAKE_DONE ends it; LOW_POWER_ENTRY_DONE puts the cell or module into its state, or
aborts for a refuser that has arisen; S3_EXIT_DONE restores power, rebuilds the search array, retrains ports and frees
fabric time; a clock source whose crystal is ready sets its flag. An accepted S3 or S4 request is refused or begins; a
request of REQ 0 or WAKE_L leaves S3, aborts an entry, or does nothing; WAKE_L boots out of S4. CLK_SEL takes an allowed
source, else sets REFUSED; CLK_GATE keeps what Table 10 holds on. The device's own work follows. Log 36 has the readings.
(R754, R757, R758, R759, R760, R761, R762, R763, R764, R765, R768, R770.) -/
def Obligations.LowPowerStatesAndClocks : Prop :=
  ∀ (s : State),
    let d := s.d
    let abortAll (st : Nat) : Dev := (({ d with lpEnter := Tab.del d.lpEnter 16 } : Dev).refuseLp 10 0 true 31 st).setFld .pwr 0 0 35 32 0
    (d.serving = true → ∀ c : Fin 16,
      (bitAt (d.rd .pwr 0 0x10) 16 = true → d.cellPower c = 0 → d.cellBusy c = false → d.modPower = 0 →
        GivesLater s (.cellS1Entry c) (d.setFld .pwr 0 0 (2 * c + 1) (2 * c) 1)) ∧
      (bitAt (d.rd .pwr 0 0x10) 16 = false ∨ d.cellPower c ≠ 0 ∨ d.cellBusy c = true ∨ d.modPower ≠ 0 → GivesLater s (.cellS1Entry c) d) ∧
      (bitAt (d.rd .pwr 0 0x10) 32 = true → d.cellPower c = 1 → d.cellBusy c = false → d.modPower = 0 → Tab.has d.lpEnter c = false →
        (d.cellRefuser c = none → GivesLater s (.cellS2Entry c) { d with lpEnter := Tab.set d.lpEnter c 2 }) ∧
        (∀ code x, d.cellRefuser c = some (code, x) → GivesLater s (.cellS2Entry c)
          (((d.setFld .pwr 0 (0x100 + 8 * code) 31 0 (min 0xFFFFFFFF (d.fld .pwr 0 (0x100 + 8 * code) 31 0 + 1))).wr .pwr 0 0x180
            (BitVec.ofNat 64 (2 * 2 ^ 20 + x * 2 ^ 15 + c * 2 ^ 8 + code))).wr .pwr 0 0x188 (BitVec.ofNat 64 d.now)))) ∧
      (bitAt (d.rd .pwr 0 0x10) 32 = false ∨ d.cellPower c ≠ 1 ∨ d.cellBusy c = true ∨ d.modPower ≠ 0 → GivesLater s (.cellS2Entry c) d)) ∧
    (d.up? = true →
      (∀ c : Fin 16,
        (∀ st, Tab.get? d.lpEnter c = some st →
          let e : Dev := { d with lpEnter := Tab.del d.lpEnter c }
          GivesLater s (.cellWake c) ((e.refuseLp 10 0 true c st).setFld .pwr 0 0 (2 * c + 1) (2 * c) 0) ∧
          (e.cellRefuser c = none → GivesLater s (.lowPowerEntryDone ⟨c, by omega⟩)
            ((((List.range 8).foldl (fun (x : Dev) k => x.unbind (8 * c + k)) e).setCellPower c 2).domains (3 * c) 2 false)) ∧
          (∀ code x, e.cellRefuser c = some (code, x) →
            GivesLater s (.lowPowerEntryDone ⟨c, by omega⟩) ((e.refuseLp code x true c st).setCellPower c 0))) ∧
        (Tab.get? d.lpEnter c = none →
          GivesLater s (.lowPowerEntryDone ⟨c, by omega⟩) d ∧
          (d.cellPower c = 1 ∨ d.cellPower c = 2 → GivesLater s (.cellWake c) (d.setCellPower c 3)) ∧
          (d.cellPower c = 0 ∨ d.cellPower c = 3 → GivesLater s (.cellWake c) d)) ∧
        (d.cellPower c = 3 → GivesLater s (.cellWakeDone c) ((d.setCellPower c 0).domains (3 * c) 2 true)) ∧
        (d.cellPower c ≠ 3 → GivesLater s (.cellWakeDone c) d)) ∧
      (∀ st, Tab.get? d.lpEnter 16 = some st →
        (∀ code x, d.moduleRefuser st = some (code, x) → GivesLater s (.lowPowerEntryDone 16)
          ((({ d with lpEnter := Tab.del d.lpEnter 16 } : Dev).refuseLp code x true 31 st).setFld .pwr 0 0 35 32 0)) ∧
        (d.moduleRefuser st = none → st ≠ 4 → GivesLater s (.lowPowerEntryDone 16) d.enterS3) ∧
        (d.moduleRefuser st = none → st = 4 → GivesLater s (.lowPowerEntryDone 16) { d.enterS3.powerClear with off := true, inS4 := true })) ∧
      (d.modPower = 2 →
        let d1 := ((d.domains 0 60 true).setFld .pwr 0 0 35 32 0).setFld .pwr 0 0 31 0 0
        let d2 := ({ d1 with dir := d.shadow, fab := 0, slew := 0, slewAcc := 0, lockRun := 0 } : Dev).setFtm 0
        GivesLater s .s3ExitDone ((List.range 16).foldl (fun (x : Dev) p => if x.portEn p then x.portTrain p else x) d2)) ∧
      (d.modPower ≠ 2 → GivesLater s .s3ExitDone d) ∧
      (∀ b : Fin 32,
        let ready : Prop := b = 2 ∨ b = 3 ∨ (b = 5 ∧ d.clkReady 3 = true) ∨ ((b = 4 ∨ (8 ≤ b.val ∧ b.val < 12) ∨ 16 ≤ b.val) ∧ d.clkReady 2 = true)
        (ready → GivesLater s (.clockSourceReady b) (d.setFld .pwr 0 0x8000 b b 1)) ∧
        (¬ ready → GivesLater s (.clockSourceReady b) d))) ∧
    (d.hostVerdict 0 0x30008 8 true = .ok →
      (∀ st, st = 3 ∨ st = 4 →
        let asks := if st = 3 then GivesLater s (.s3EntryReq 0) else GivesLater s (.s4EntryReq 0)
        (d.modPower = 0 → d.moduleRefuser st = none → asks (({ d with lpEnter := Tab.set d.lpEnter 16 st } : Dev).setFld .pwr 0 0 35 32 1)) ∧
        (∀ code x, d.modPower = 0 → d.moduleRefuser st = some (code, x) → asks (d.refuseLp code x false 31 st)) ∧
        (d.modPower ≠ 0 → asks d)) ∧
      (∀ st, Tab.get? d.lpEnter 16 = some st → GivesLater s (.s3ExitReq 0) (abortAll st)) ∧
      (Tab.get? d.lpEnter 16 = none → d.modPower = 3 → GivesLater s (.s3ExitReq 0) (d.setFld .pwr 0 0 35 32 2)) ∧
      (Tab.get? d.lpEnter 16 = none → d.modPower ≠ 3 → GivesLater s (.s3ExitReq 0) d)) ∧
    (d.inS4 = true ∧ d.board.mrst = true ∨ d.inS4 = false ∧ d.off = true → GivesLater s .wakeLAssert d) ∧
    (d.inS4 = true → d.board.mrst = false → GivesLater s .wakeLAssert ((d.powerClear.lastReset 1).boot true)) ∧
    (d.inS4 = false → d.off = false →
      (∀ st, Tab.get? d.lpEnter 16 = some st → GivesLater s .wakeLAssert (abortAll st)) ∧
      (Tab.get? d.lpEnter 16 = none → d.modPower = 3 → GivesLater s .wakeLAssert (d.setFld .pwr 0 0 35 32 2)) ∧
      (Tab.get? d.lpEnter 16 = none → d.modPower ≠ 3 → GivesLater s .wakeLAssert d)) ∧
    (∀ (k : Fin 19) (v : W64), d.hostVerdict 0 (0x38100 + 8 * k) 8 true = .ok →
      (d.clkAllowed k (bits v 2 0) = true → GivesLater s (.clkSelWrite 0 k v) (d.setFld .pwr 0 (0x8100 + 8 * k) 2 0 (bits v 2 0))) ∧
      (d.clkAllowed k (bits v 2 0) = false → GivesLater s (.clkSelWrite 0 k v) (d.setFld .pwr 0 0x8000 32 32 1))) ∧
    (∀ v : W64, d.hostVerdict 0 0x38008 8 true = .ok →
      ∃ new, GivesLater s (.clkGateWrite 0 v) (d.wr .pwr 0 0x8008 new) ∧
        (∀ b, b < 20 → bitAt new b = (bitAt v b || (bitAt (d.rd .pwr 0 0x8008) b && d.gateHeld b))) ∧
        (∀ b, 20 ≤ b → bitAt new b = bitAt (d.rd .pwr 0 0x8008) b))

/-- POWER_ON takes the inventory and boots: HALTED when it halts, RECOVERY with the first failed check as CAUSE, else the
image runs with its SVN shown; nothing volatile is left, and flash, fuses and configuration copies are kept. BOOT_READY
makes a booting device READY and STANDBY at the goal point. MRST_L asserted holds a cleared module in reset, and released
boots it, as BOOT_CTL.MODULE does at once; each keeps the inventory and the first-fault latch. BOOT_CTL.WARM in READY
begins a warm reset, whose end clears the cells, rebuilds the search array, completes the stand resets and reads READY.
COMMIT_SVN and REVOKE burn fuses where 16 allows it; CFG_ERASE erases both copies while CFG_BAD is 1; BOOT_RCV_CTL.GO in
RECOVERY reads the recovery image. Else these writes change nothing. The device's own work follows. Log 39 has the
readings. (R59, R772, R775, R777, R781, R784, R785, R786, R787, R790, R792, R854.) -/
def Obligations.BootAndModuleResets : Prop :=
  ∀ (s : State),
    let d := s.d
    (∀ (straps : BitVec 6) (dies : List (Option (BitVec 128))),
      ∃ d', GivesLater s (.powerOn straps dies) d' ∧
        d'.invCause = dieCauses dies ∧ d'.slotId = straps.toNat ∧ d'.curOp = 3 ∧ d'.fld .boot 0 0 35 32 = 1 ∧
        (d'.invHalts = true → d'.stageOf = 5 ∧ d'.fld .boot 0 0 23 16 = 0x10 ∧ d'.halted = true) ∧
        (d'.invHalts = false → d.fwCheck d.board.flash ≠ 0 → d'.stageOf = 4 ∧ d'.fld .boot 0 0 23 16 = d.fwCheck d.board.flash) ∧
        (∀ b, d'.invHalts = false → d.board.flash = some b → d.fwCheck (some b) = 0 →
          d'.stageOf = 2 ∧ d'.fld .boot 0 0 23 16 = 0 ∧ d'.fld .boot 0 0 47 40 = recNum b 12 4) ∧
        d'.threads = [] ∧ d'.images = [] ∧ d'.tracts = [] ∧ d'.conns = [] ∧ d'.shadow = [] ∧ d'.mem = [] ∧ d'.fences = [] ∧
        d'.rd .flt 0 8 = 0 ∧ d'.cfgA = d.cfgA ∧ d'.cfgB = d.cfgB ∧ d'.board = { d.board with straps := straps, dieRec := dies, mrst := false } ∧
        d'.fld .boot 0 0 55 48 = d.fld .boot 0 0 55 48 ∧ d'.fld .boot 0 0x18 11 8 = d.fld .boot 0 0x18 11 8) ∧
    (∀ us : BitVec 32,
      let d1 := (((d.setFld .boot 0 0 3 0 3).setFld .boot 0 0 23 16 0).setFld .boot 0 0xA0 31 0 us.toNat).setFld .cmp 0 8 2 0 1
      let at_ (e : Dev) (g : Nat) : Dev := { e.setFld .pwr 0 0x20 1 0 g with rails := [(0, g), (1, g), (2, g), (3, g)] }
      (d.stageOf = 2 → d.warm = false → d.off = false → d.thermL = false → GivesLater s (.bootReady us) (at_ d1 d.goalOp)) ∧
      (d.stageOf = 2 → d.warm = false → d.off = false → d.thermL = true → GivesLater s (.bootReady us)
        (at_ (((d1.setFld .pwr 0 0x20 17 16 3).supplyPath).raise 0x259 ⟨.edge, 2⟩ [] 0) 3)) ∧
      (d.stageOf ≠ 2 ∨ d.warm = true ∨ d.off = true → GivesLater s (.bootReady us) d)) ∧
    (let e := if d.stageOf = 3 ∨ d.warm = true then d.sayFailed else d
     let m := e.moduleClear.setFld .boot 0 0 35 32 2
     (d.off = false → GivesLater s .mrstLAssert { m with board := { m.board with mrst := true } }) ∧
     (d.off = true → d.inS4 = true → GivesLater s .mrstLAssert { d with board := { d.board with mrst := true } }) ∧
     (d.off = true → d.inS4 = false → GivesLater s .mrstLAssert d) ∧
     (d.hostVerdict 0 0x10008 8 true = .ok → ∃ d', GivesLater s (.bootCtlModule 0) d' ∧ d' = m.boot false ∧
       d'.invCause = e.invCause ∧ d'.rd .flt 0 8 = e.rd .flt 0 8 ∧ d'.threads = [] ∧ d'.tracts = [] ∧ d'.mem = [] ∧
       (e.invHalts = false → e.fwCheck e.board.flash ≠ 0 → d'.stageOf = 4)) ∧
     (∀ straps : BitVec 6,
       let r : Dev := { d with board := { d.board with mrst := false, straps := straps } }
       (d.board.mrst = false → GivesLater s (.mrstLRelease straps) d) ∧
       (d.board.mrst = true → d.off = true → GivesLater s (.mrstLRelease straps) ((r.powerClear.setFld .boot 0 0 35 32 1).boot true)) ∧
       (d.board.mrst = true → d.off = false → GivesLater s (.mrstLRelease straps) ((r.setFld .boot 0 0 35 32 2).boot false)))) ∧
    (d.hostVerdict 0 0x10008 8 true = .ok →
      let d1 : Dev := { (d.setFld .boot 0 0 35 32 3).setFld .boot 0 0 3 0 2 with warm := true, cellRst := [] }
      let d2 := (List.range 32).foldl (fun (x : Dev) w => x.standReset w) d1
      (d.stageOf = 3 → d.halted = false → GivesLater s (.bootCtlWarm 0)
        ((d2.moves.foldl (fun (x : Dev) m => x.interrupt m.key) d2).dmaAbandon fun _ => true)) ∧
      (d.stageOf ≠ 3 → GivesLater s (.bootCtlWarm 0) d ∧ GivesLater s (.commitSvn 0) d) ∧
      (d.stageOf = 3 → GivesLater s (.commitSvn 0) { d with doing := { d.doing with burn := some (.svn (d.fld .boot 0 0 47 40)) } }) ∧
      (d.cfgBad = true → GivesLater s (.cfgErase 0) { d with cfgA := .erased, cfgB := .erased }) ∧
      (d.cfgBad = false → GivesLater s (.cfgErase 0) d)) ∧
    (d.up? = true →
      (d.warm = true →
        let c := (List.range 16).foldl (fun (x : Dev) i => x.cellClear i) d
        GivesLater s .warmResetDone (((List.range 32).foldl (fun (x : Dev) w => x.standResetDone w)
          ({ c with dir := c.shadow, warm := false } : Dev)).setFld .boot 0 0 3 0 3)) ∧
      (d.warm = false → GivesLater s .warmResetDone d)) ∧
    (∀ slot : BitVec 2, d.hostVerdict 0 0x10010 8 true = .ok →
      let may : Prop := (d.imageRuns = false ∨ slot.toNat ≠ d.fld .boot 0 0x18 1 0) ∧
        ∃ i, i < 4 ∧ i ≠ slot.toNat ∧ bitAt (d.rd .boot 0 0x18) (8 + i) = false
      (may → GivesLater s (.rootKeyRevoke 0 slot) { d with doing := { d.doing with burn := some (.revoke slot.toNat) } }) ∧
      (¬ may → GivesLater s (.rootKeyRevoke 0 slot) d)) ∧
    (∀ e : Dev, (e.doing.burn = none → (s.put e).otp = s.otp) ∧
      (∀ n, e.doing.burn = some (.svn n) → (s.put e).otp = { s.otp with svn := max s.otp.svn (min n 64) }) ∧
      (∀ k, k < 4 → e.doing.burn = some (.revoke k) → (∃ i, i < 4 ∧ i ≠ k ∧ s.otp.revoked.getLsbD i = false) →
        (s.put e).otp.svn = s.otp.svn ∧ ∀ i, i < 4 → (s.put e).otp.revoked.getLsbD i = (s.otp.revoked.getLsbD i || decide (i = k)))) ∧
    (d.hostVerdict 0 0x10090 8 true = .ok →
      let n := d.fld .boot 0 0x88 22 0
      let go : Prop := d.stageOf = 4 ∧ d.fnLive 0 = true ∧ n ≤ 4194304 ∧ (∀ r ∈ d.dma, r.use ≠ .recovery)
      (go → GivesLater s (.recoveryGo 0) { d with
        dma := d.dma ++ [⟨d.dmaNext, 0, .recovery, 0⟩], dmaNext := d.dmaNext + 1, out := d.out ++ [.dmaRead 0 d.dmaNext (d.fld .boot 0 0x80 63 12 * 4096) n] }) ∧
      (¬ go → GivesLater s (.recoveryGo 0) d))

/-- PERST_L, a hot reset and an FLR of the PF wait while another reset runs, and else have the effects of R780 and R97;
PERST_L released and a hot reset train the link; an FLR of an enabled VF resets its stand, abandons its requests and
clears its configuration. When the I3C target answers, ENTDAA gives an address and sends the provisional ID, and MCTP
commands are answered, with MODULE_RESET, WARM_RESET and WAKE carried out and READ limited to the allowed pages; else
nothing happens. An SPDM request of a channel in its place is answered and counted and moves the channel on, one out of
place or not admitted is answered with an error, and session requests hold on the PF channel alone. BYPASS and IDCODE
shift out the register's bits, SAMPLE and EXTEST free ones, and EXTEST out of reset is BYPASS. The device's own work
follows. Log 37, 39 and 40. (R96, R97, R773, R780, R782, R796, R797, R799, R822, R834, R836, R857.) -/
def Obligations.EndpointResetsAndManagement : Prop :=
  ∀ (s : State),
    let d := s.d
    let d0 : Dev := { d with board := { d.board with perst := true } }
    let held : Prop := d.off = true ∨ d.board.mrst = true
    let up (e : Dev) (rate : BitVec 4) (width : BitVec 5) (flit : Bool) : Dev :=
      e.wr .hif 0 0 (BitVec.ofNat 64 (rate.toNat * 2 ^ 9 + width.toNat * 2 ^ 4 + (if flit then 1 else 0)))
    (held → GivesLater s .perstLAssert d0 ∧ GivesLater s .pfFlr d) ∧
    (¬ held → d.resetRuns = true → GivesLater s .perstLAssert { d0 with resetQ := d.resetQ ++ [6] } ∧
      GivesLater s .pfFlr { d with resetQ := d.resetQ ++ [8] }) ∧
    (¬ held → d.resetRuns = false → GivesLater s .perstLAssert (d0.pcieReset 6) ∧ GivesLater s .pfFlr d.pfReset) ∧
    (∀ (rate : BitVec 4) (width : BitVec 5) (flit : Bool),
      let r : Dev := { d with board := { d.board with perst := false } }
      (held ∨ d.stageOf < 2 → GivesLater s (.perstLRelease rate width flit) r) ∧
      (¬ held → 2 ≤ d.stageOf → GivesLater s (.perstLRelease rate width flit) (up r rate width flit)) ∧
      (d.board.perst = true ∨ held → GivesLater s (.pcieHotReset rate width flit) d) ∧
      (d.board.perst = false → ¬ held → d.resetRuns = true → GivesLater s (.pcieHotReset rate width flit) (up { d with resetQ := d.resetQ ++ [7] } rate width flit)) ∧
      (d.board.perst = false → ¬ held → d.resetRuns = false → GivesLater s (.pcieHotReset rate width flit) (up (d.pcieReset 7) rate width flit))) ∧
    (∀ w : Fin 32,
      (w = 0 ∨ (d.std w).funcEn = false → GivesLater s (.vfFlr w) d) ∧
      (w ≠ 0 → (d.std w).funcEn = true →
        let e := (d.standReset w).dmaAbandon fun r => r.fn == w.val
        GivesLater s (.vfFlr w) { e with
          mgmt := { e.mgmt with spdm := Tab.del e.mgmt.spdm w }, fns := Tab.del e.fns w, msix := e.msix.filter fun v => v.1 / 256 != w.val })) ∧
    (∀ a : BitVec 7,
      (d.i3cUp = true → d.mgmt.i3c = none → GivesLater s (.entdaa a)
        { d with mgmt := { d.mgmt with i3c := some a.toNat }, out := d.out ++ [.provisional d.slotId] }) ∧
      (d.i3cUp = false ∨ d.mgmt.i3c ≠ none → GivesLater s (.entdaa a) d)) ∧
    (d.mctpUp = false → GivesLater s .mctpStatus d ∧ GivesLater s .mctpModuleReset d ∧ GivesLater s .mctpWarmReset d ∧
      GivesLater s .mctpWake d ∧ ∀ off, GivesLater s (.mctpRead off) d) ∧
    (d.mctpUp = true →
      let tells (k : Nat) (ws : List W64) : Dev := { d with out := d.out ++ [.mctp k ws] }
      GivesLater s .mctpStatus (tells 1 [d.readReg ⟨.boot, 0, 0⟩, d.readReg ⟨.flt, 0, 0⟩, d.readReg ⟨.pwr, 0, 0⟩, d.readReg ⟨.cmp, 0, 8⟩]) ∧
      GivesLater s .mctpModuleReset (tells 2 []).moduleReset ∧
      GivesLater s .mctpWarmReset (tells 3 []).warmReset ∧
      GivesLater s .mctpWake ((tells 4 []).stateReq 0) ∧
      ∀ off : BitVec 26,
        (∀ l, off.toNat < 0x40000 → off.toNat % 8 = 0 → d.target off.toNat = .one l → GivesLater s (.mctpRead off) (tells 5 [d.readReg l])) ∧
        (0x40000 ≤ off.toNat ∨ off.toNat % 8 ≠ 0 → GivesLater s (.mctpRead off) (tells 5 [0]))) ∧
    (∀ (c : Fin 33),
      let is (x : SpdmState) : Prop := d.spdmUp c = true ∧ d.spdmOf c = x
      let out_ (x : SpdmState) : Prop := d.spdmUp c = true ∧ d.spdmOf c ≠ x
      let ok (e : Dev) (r : SpdmRsp) : Dev := { e.setFld .boot 0 0x8000 31 0 (min 0xFFFFFFFF (e.fld .boot 0 0x8000 31 0 + 1)) with out := e.out ++ [.spdm c r] }
      let err (n : Nat) : Dev := { d.setFld .boot 0 0x8000 63 32 (min 0xFFFFFFFF (d.fld .boot 0 0x8000 63 32 + 1)) with out := d.out ++ [.spdm c (.error n)] }
      let to_ (x : SpdmState) : Dev := { d with mgmt := { d.mgmt with spdm := Tab.set d.mgmt.spdm c x } }
      let ses (x : SpdmSes) : Dev := { d with mgmt := { d.mgmt with ses := x } }
      (d.spdmUp c = false → GivesLater s (.getVersion c) d ∧ GivesLater s (.getCapabilities c) d ∧ GivesLater s (.getDigests c) d ∧
        GivesLater s (.keyExchange c) d ∧ GivesLater s (.finish c) d ∧ GivesLater s (.endSession c) d) ∧
      (d.spdmUp c = true →
        let e := to_ .version
        (c ≠ 0 → GivesLater s (.getVersion c) (ok e .version)) ∧
        (c = 0 → GivesLater s (.getVersion c) (ok { e with mgmt := { e.mgmt with ses := .none } } .version))) ∧
      (is .version → GivesLater s (.getCapabilities c) (ok (to_ .capabilities) .capabilities)) ∧
      (out_ .version → GivesLater s (.getCapabilities c) (err 4)) ∧
      (is .capabilities → GivesLater s (.negotiateAlgorithms c true) (ok (to_ .algorithms) .algorithms) ∧
        GivesLater s (.negotiateAlgorithms c false) (err 1)) ∧
      (out_ .capabilities → ∀ common, GivesLater s (.negotiateAlgorithms c common) (err 4)) ∧
      (out_ .algorithms → GivesLater s (.getDigests c) (err 4) ∧ GivesLater s (.keyExchange c) (err 4) ∧ GivesLater s (.finish c) (err 4) ∧
        GivesLater s (.endSession c) (err 4) ∧ (∀ slot off len, GivesLater s (.getCertificate c slot off len) (err 4)) ∧
        (∀ slot nonce, GivesLater s (.spdmChallenge c slot nonce) (err 4)) ∧ ∀ op nonce sig, GivesLater s (.getMeasurements c op nonce sig) (err 4)) ∧
      (is .algorithms →
        GivesLater s (.getDigests c) (ok d (.digests 1)) ∧
        (∀ (slot : BitVec 4) (off len : BitVec 16) (nonce : BitVec 256),
          (slot = 0 → GivesLater s (.getCertificate c slot off len) (ok d (.certificate off.toNat len.toNat)) ∧
            GivesLater s (.spdmChallenge c slot nonce) (ok d (.challengeAuth nonce))) ∧
          (slot ≠ 0 → GivesLater s (.getCertificate c slot off len) (err 1) ∧ GivesLater s (.spdmChallenge c slot nonce) (err 1))) ∧
        (∀ (op : BitVec 8) (nonce : BitVec 256) (sig : Bool),
          let n := if sig then some nonce else none
          let from_ : Dev := if d.cfgInUse = none then { d with freeCtr := d.freeCtr + 1 } else d
          let has (i : Nat) : Prop := (1 ≤ i ∧ i ≤ 4) ∨ i = 37 ∨ (5 ≤ i ∧ i ≤ 36 ∧ (c = 0 ∨ c = 32 ∨ i = 5 + c.val))
          (op = 0 → GivesLater s (.getMeasurements c op nonce sig) (ok d (.measurements (if c = 0 ∨ c = 32 then 37 else 6) [] n))) ∧
          (op ≠ 255 → has op.toNat → GivesLater s (.getMeasurements c op nonce sig) (ok from_ (.measurements 1 [(op.toNat, d.measurement op.toNat)] n))) ∧
          (op ≠ 0 → op ≠ 255 → ¬ has op.toNat → GivesLater s (.getMeasurements c op nonce sig) (err 1)) ∧
          (op = 255 → ∃ is_ : List Nat, is_.Nodup ∧ (∀ i, i ∈ is_ ↔ has i) ∧
            GivesLater s (.getMeasurements c op nonce sig) (ok from_ (.measurements is_.length (is_.map fun i => (i, d.measurement i)) n)))) ∧
        (c ≠ 0 → GivesLater s (.keyExchange c) (err 7) ∧ GivesLater s (.finish c) (err 7) ∧ GivesLater s (.endSession c) (err 7)) ∧
        (c = 0 → d.mgmt.ses = .none → GivesLater s (.keyExchange c) (ok (ses .handshake) .keyExchange) ∧
          GivesLater s (.finish c) (err 2) ∧ GivesLater s (.endSession c) (err 2)) ∧
        (c = 0 → d.mgmt.ses = .handshake → GivesLater s (.keyExchange c) (err 10) ∧
          GivesLater s (.finish c) (ok (ses .established) .finish) ∧ GivesLater s (.endSession c) (err 4)) ∧
        (c = 0 → d.mgmt.ses = .established → GivesLater s (.keyExchange c) (err 10) ∧
          GivesLater s (.finish c) (err 4) ∧ GivesLater s (.endSession c) (ok (ses .none) .endSession)))) ∧
    (∀ bs : List Bool,
      let tap (e : Dev) (ir : TapIr) (o : List Bool) : Dev := { e with board := { e.board with tapIr := ir }, out := e.out ++ [.tdo o] }
      let free := (List.range bs.length).map fun i => (Config.choice d.freeCtr).testBit i
      let scan (ir : TapIr) : Dev := tap { d with freeCtr := d.freeCtr + 1, board := { d.board with tapLatch := bs } } ir free
      (d.off = true → GivesLater s (.bypass bs) d ∧ GivesLater s (.idcode bs) d ∧ GivesLater s (.samplePreload bs) d ∧ GivesLater s (.extest bs) d) ∧
      (d.off = false →
        GivesLater s (.bypass bs) (tap d .bypass ((false :: bs).take bs.length)) ∧
        GivesLater s (.idcode bs) (tap d .idcode (((List.range 32).map (fun i => (0x10640B4D : Nat).testBit i) ++ bs).take bs.length)) ∧
        GivesLater s (.samplePreload bs) (scan .samplePreload) ∧
        (d.board.mrst = true → GivesLater s (.extest bs) (scan .extest)) ∧
        (d.board.mrst = false → GivesLater s (.extest bs) (tap d .bypass ((false :: bs).take bs.length)))))

/-- For every command c and every state, a step with c at the front of the queue is exec of c with the rest of the queue. A
step on an empty queue is the model's own tick (log 43, a DESIGN CHOICE): the device clock goes on by 1 ns and, with no
slewing under way, fabric time by 1 ns, and nothing else changes. (00_scope.md, 12_fabric_time.md R577.) -/
def Obligations.StepRunsTheFrontCommand : Prop :=
  (∀ (s : State) (c : Instr) (rest : List Instr), step { s with pending := c :: rest } = exec c { s with pending := rest }) ∧
  (∀ s : State, s.pending = [] → step s = .next s.tick ∧
    (s.d.slew = 0 → s.tick = { s with d := { s.d with fab := s.d.fab + 65536, up := s.d.up + 1 } }))

/-- In every state, whatever command waits, a step answers a next state, never a fault or a refusal; its queue is the old one
without its front; the fused version does not fall and no revocation is undone (R786, R787); and where the fused version
is at most 64 and some root-key slot is unrevoked, the same holds after the step. That every command completes is the
model's reading (log 42): one that the state does not enable changes nothing. (R786, R787, 00_scope.md.) -/
def Obligations.EveryStepCompletesAndFusesHold : Prop :=
  let inv (o : Otp) : Prop := o.svn ≤ 64 ∧ ∃ i, i < 4 ∧ o.revoked.getLsbD i = false
  ∀ s : State, ∃ s', step s = .next s' ∧ s'.pending = s.pending.tail ∧
    s.otp.svn ≤ s'.otp.svn ∧ (∀ i, s.otp.revoked.getLsbD i = true → s'.otp.revoked.getLsbD i = true) ∧ (inv s.otp → inv s'.otp)

/-- State.reset: no command waits; every register of every block reads its reset word; STAGE is 0 and RESET code 1; the fused
version is 0 and no slot is revoked, as the fuse invariant asks; the lock is open; module power and CURRENT are 0; WARN_C
is 95, HB_US 250, FAIL_US 1000, ORPHAN_MS 50, CMP_STATUS.STATE 1, the distance of the fabric-time parent 255, every clock
gate is 1, the first-fault latch 0; each stand's queue size exponent is 4, its PHASE 1, its session closed and no reset
runs; no thread, tract, connection, sequence, request or message exists, all memory is in its canonical form with nothing
listed, and fabric time is 0. That unlisted bytes read as zero is log 9, the unburnt fuses and the flash are log 4. (R772,
R774, R786, R787, 12 Table 9, 13 Table 9, 15 Table 11, 17 Table 9.) -/
def Obligations.ResetStateAsSpecified : Prop :=
  let d := State.reset.d
  State.reset.pending = [] ∧ State.reset.otp.svn = 0 ∧ State.reset.otp.revoked = 0 ∧
  (State.reset.otp.svn ≤ 64 ∧ ∃ i, i < 4 ∧ State.reset.otp.revoked.getLsbD i = false) ∧
  (∀ (b : Blk) (i o : Nat), d.rd b i o = resetWord ⟨b, i, o⟩) ∧
  d.stageOf = 0 ∧ d.fld .boot 0 0 35 32 = 1 ∧ d.lock = false ∧ d.modPower = 0 ∧ d.curOp = 0 ∧
  d.fld .pwr 0 0x40 6 0 = 95 ∧ d.fld .cmp 0 0x10 31 16 = 250 ∧ d.fld .cmp 0 0x10 47 32 = 1000 ∧ d.fld .cmp 0 0x10 63 48 = 50 ∧
  d.fld .cmp 0 8 2 0 = 1 ∧ d.fld .ftm 0 0x10 27 20 = 255 ∧ d.fld .pwr 0 0x8008 19 0 = 0xFFFFF ∧ d.rd .flt 0 8 = 0 ∧
  (∀ w : Fin 32, d.fld .stand w 0x2008 4 0 = 4 ∧ d.fld .stand w 0x2058 16 16 = 1 ∧ (d.std w).ses = .closed ∧ (d.std w).rst = false) ∧
  d.threads = [] ∧ d.tracts = [] ∧ d.conns = [] ∧ d.shadow = [] ∧ d.dir = [] ∧ d.dma = [] ∧ d.out = [] ∧ d.fences = [] ∧
  d.mem = [] ∧ Memory.wf d.mem = true ∧ Memory.wf d.svc = true ∧ Memory.wf d.stage = true ∧
  d.off = false ∧ d.fab = 0 ∧ d.slew = 0
end

