-- ==== Sys2Proof/Laws/Tab.lean ====
section
/-!
SUPPORT. Sparse tables: an entry set is the entry read, every other entry stays, and setting twice is setting once.
-/
namespace Sys2Proof.Machine

@[simp] theorem Tab.get?_set_self {α : Type} (t : Tab α) (n : Nat) (x : α) : Tab.get? (Tab.set t n x) n = some x := by
  induction t with
  | nil => simp [Tab.set, Tab.get?]
  | cons e r ih =>
    obtain ⟨k, v⟩ := e
    simp only [Tab.set]
    split
    · simp [Tab.get?]
    · split
      · simp [Tab.get?]
      · rename_i h _
        simp [Tab.get?, h, ih]

theorem Tab.get?_set_ne {α : Type} (t : Tab α) {n m : Nat} (x : α) (h : m ≠ n) :
    Tab.get? (Tab.set t n x) m = Tab.get? t m := by
  induction t with
  | nil => simp [Tab.set, Tab.get?, Ne.symm h]
  | cons e r ih =>
    obtain ⟨k, v⟩ := e
    simp only [Tab.set]
    split
    · rename_i hk
      subst hk
      simp [Tab.get?, Ne.symm h]
    · split
      · simp [Tab.get?, Ne.symm h]
      · simp only [Tab.get?, ih]

@[simp] theorem Tab.getD_set_self {α : Type} (t : Tab α) (n : Nat) (x y : α) : Tab.getD (Tab.set t n x) n y = x := by
  simp [Tab.getD]

theorem Tab.getD_set_ne {α : Type} (t : Tab α) {n m : Nat} (x y : α) (h : m ≠ n) :
    Tab.getD (Tab.set t n x) m y = Tab.getD t m y := by
  simp [Tab.getD, Tab.get?_set_ne t x h]

@[simp] theorem Tab.set_set {α : Type} (t : Tab α) (n : Nat) (x y : α) : Tab.set (Tab.set t n x) n y = Tab.set t n y := by
  induction t with
  | nil => simp [Tab.set]
  | cons e r ih =>
    obtain ⟨k, v⟩ := e
    simp only [Tab.set]
    split
    · simp [Tab.set]
    · split
      · simp [Tab.set]
      · rename_i h1 h2
        simp [Tab.set, h1, h2, ih]

@[simp] theorem Tab.get?_del_self {α : Type} (t : Tab α) (n : Nat) : Tab.get? (Tab.del t n) n = none := by
  induction t with
  | nil => simp [Tab.del, Tab.get?]
  | cons e r ih =>
    obtain ⟨k, v⟩ := e
    by_cases h : k = n
    · simpa [Tab.del, h] using ih
    · simpa [Tab.del, h, Tab.get?] using ih

theorem Tab.get?_del_ne {α : Type} (t : Tab α) {n m : Nat} (h : m ≠ n) : Tab.get? (Tab.del t n) m = Tab.get? t m := by
  induction t with
  | nil => simp [Tab.del, Tab.get?]
  | cons e r ih =>
    obtain ⟨k, v⟩ := e
    by_cases hk : k = n
    · subst hk
      simpa [Tab.del, Tab.get?, Ne.symm h] using ih
    · by_cases hm : k = m
      · simp [Tab.del, Tab.get?, hk, hm, h]
      · simpa [Tab.del, hk, Tab.get?, hm] using ih

@[simp] theorem Tab.get?_upd_self {α : Type} (t : Tab α) (n : Nat) (f : α → α) :
    Tab.get? (Tab.upd t n f) n = (Tab.get? t n).map f := by
  unfold Tab.upd
  split
  · rename_i x h
    simp [h]
  · rename_i h
    simp [h]

theorem Tab.get?_upd_ne {α : Type} (t : Tab α) {n m : Nat} (f : α → α) (h : m ≠ n) :
    Tab.get? (Tab.upd t n f) m = Tab.get? t m := by
  unfold Tab.upd
  split
  · exact Tab.get?_set_ne t _ h
  · rfl

theorem Tab.upd_of_get? {α : Type} {t : Tab α} {n : Nat} {x : α} (f : α → α) (h : Tab.get? t n = some x) :
    Tab.upd t n f = Tab.set t n (f x) := by
  simp [Tab.upd, h]

theorem Tab.get?_mapAll {α : Type} (t : Tab α) (f : Nat → α → α) (n : Nat) :
    Tab.get? (Tab.mapAll t f) n = (Tab.get? t n).map (f n) := by
  induction t with
  | nil => simp [Tab.mapAll, Tab.get?]
  | cons e r ih =>
    obtain ⟨k, v⟩ := e
    by_cases h : k = n
    · subst h
      simp [Tab.mapAll, Tab.get?]
    · simpa [Tab.mapAll, Tab.get?, h] using ih

end Sys2Proof.Machine
end

