-- ==== Sys2Proof/Laws/Alloc.lean ====
section
/-!
SUPPORT. What the allocators answer: each finds a place, whichever the free choice suggests, while one place is free.
-/
namespace Sys2Proof.Machine

/-- Some number is free, whichever the free value suggests. -/
theorem freeAt_some {α : Type} (t : Tab α) (n a hint : Nat) (ok : Nat → Bool) (ha : a < n) (h : Tab.has t a = false) (k : ok a = true) :
    (Tab.freeAt t n hint ok).isSome = true := by
  unfold Tab.freeAt
  split
  · rfl
  · unfold Tab.lowestFree
    rw [List.find?_isSome]
    exact ⟨a, List.mem_range.2 ha, by simp [h, k]⟩

/-- A free index into a list of one element finds it. -/
theorem hint_one {α : Type} (d : Dev) (t : α) : ([t])[d.hint [t].length]? = some t := by
  have h : d.hint [t].length = 0 := by unfold Dev.hint; exact Nat.mod_one _
  rw [h]; rfl

/-- Service memory has a page left after one is taken. -/
theorem svcAlloc_some (d : Dev) (a : Nat) (h : 0 < a) (h1 : a < d.svcPages) (h2 : Tab.has d.svcUsed a = false) :
    ∃ n e, d.svcAlloc = some (n, e) ∧ e.svcUsed = Tab.set d.svcUsed n () ∧ e.svcRes = d.svcRes := by
  obtain ⟨n, hn⟩ := Option.isSome_iff_exists.1 (freeAt_some d.svcUsed d.svcPages a (d.hint d.svcPages) (fun i => i != 0) h1 h2 (by simp; omega))
  exact ⟨n, { d.took with svcUsed := Tab.set d.svcUsed n (), svc := Memory.zero d.svc (n * 4096) 4096 }, by simp [Dev.svcAlloc, hn], rfl, rfl⟩

/-- A set for a new sequence: whichever page of service memory is free. -/
theorem newSet_some (d : Dev) (key p m a : Nat) (h : a < d.svcPages) (h0 : 0 < a) (hf : Tab.has d.svcUsed a = false) :
    ∃ set e, d.newSet key p m = some (set, e) := by
  obtain ⟨n, e, hn, -, -⟩ := svcAlloc_some d a h0 h hf
  have : (d.newSet key p m).isSome = true := by
    unfold Dev.newSet
    rw [Option.isSome_map, hn]
    rfl
  obtain ⟨⟨set, e⟩, he⟩ := Option.isSome_iff_exists.1 this
  exact ⟨set, e, he⟩

/-- An insertion of an absent sequence with a known profile is accepted. -/
theorem insert_ok (d : Dev) (key attr : Nat) (who : DirWaiter) (h1 : ¬ (d.entry key).isSome = true)
    (h2 : ¬ ((d.profile? (keyStand key) (nbits attr 2 0)).isNone = true ∨ 2 ≤ nbits attr 9 8))
    (h3 : ¬ d.fld .dir 0 (0x200 + 8 * keyStand key) 18 0 ≤ d.dirCount (keyStand key)) (h4 : ¬ 262144 ≤ d.shadow.length)
    (h5 : Tab.has d.svcUsed 1 = false) (h6 : 1 < d.svcPages) : ∃ d1, d.insert key attr who = (dsOk, d1) := by
  have h : d.svcAlloc.isSome = true := by
    unfold Dev.svcAlloc
    rw [Option.isSome_map]
    exact freeAt_some d.svcUsed d.svcPages 1 (d.hint d.svcPages) (fun i => i != 0) h6 h5 rfl
  have hn : ∃ r, d.newSet key (nbits attr 2 0) (nbits attr 7 4) = some r := by
    rw [← Option.isSome_iff_exists]
    unfold Dev.newSet
    rw [Option.isSome_map]
    exact h
  obtain ⟨⟨n, e⟩, hn⟩ := hn
  unfold Dev.insert
  rw [if_neg h1, if_neg h2, if_neg h3, if_neg h4, hn]
  exact ⟨_, rfl⟩

/-- A publication finds its pages of service memory while two are free. -/
theorem publish_some (d : Dev) (a b set l p : Nat) (v : W64) (h : 0 < a) (h1 : a < d.svcPages) (h2 : Tab.has d.svcUsed a = false)
    (h3 : 0 < b) (h4 : b < d.svcPages) (h5 : Tab.has d.svcUsed b = false) (h6 : a ≠ b) : (d.publish set l p v).isSome = true := by
  obtain ⟨n, e, he, hu, hr⟩ := svcAlloc_some d a h h1 h2
  have hp : e.svcPages = d.svcPages := by simp [Dev.svcPages, hr]
  have hb : ∃ c, 0 < c ∧ c < e.svcPages ∧ Tab.has e.svcUsed c = false := by
    rw [hp, hu]
    by_cases hn : a = n
    · exact ⟨b, h3, h4, by rw [Tab.has, Tab.get?_set_ne _ _ (by omega)]; exact h5⟩
    · exact ⟨a, h, h1, by rw [Tab.has, Tab.get?_set_ne _ _ hn]; exact h2⟩
  obtain ⟨c, hc, hc1, hc2⟩ := hb
  obtain ⟨m, g, hg, -, -⟩ := svcAlloc_some e c hc hc1 hc2
  unfold Dev.publish
  rw [he, Option.bind_some, hg]
  rfl

/-- Room at the start of a cell's stage SRAM is some room. -/
theorem stageRoom_some (d : Dev) (cell n a : Nat) (h : a ∈ d.stageEnds cell)
    (h2 : (decide (a + n ≤ stageSize) && d.stageClear cell a n && d.regionClear a n none) = true) : (d.stageRoom cell n).isSome = true := by
  simp only [Dev.stageRoom]
  split
  · rfl
  · rw [List.find?_isSome]; exact ⟨a, h, h2⟩

/-- A gap is a free run. -/
theorem freeRun_some (d : Dev) (r : Nat × Nat) (n : Nat) (h : (firstGap n (r.1 + r.2) r.1 (d.runsIn r)).isSome = true) :
    (d.freeRun r n).isSome = true := by
  simp only [Dev.freeRun]
  split
  · rfl
  · exact h

/-- Frames are found when the first die of the list has a gap. -/
theorem allocFrom_some (d : Dev) (n x : Nat) (r : List Nat)
    (h : (firstGap n ((d.dieFrames x).1 + (d.dieFrames x).2) (d.dieFrames x).1 (d.runsIn (d.dieFrames x))).isSome = true) :
    (d.allocFrom n (x :: r)).isSome = true := by
  have h2 := freeRun_some d (d.dieFrames x) n h
  obtain ⟨f, hf⟩ := Option.isSome_iff_exists.1 h2
  simp [Dev.allocFrom, Dev.allocRun, hf]

/-- A list turned by a free number starts with one of its elements. -/
theorem turned_cons {α : Type} (d : Dev) (i : Nat) (xs : List α) (h : xs ≠ []) : ∃ y r, d.turned i xs = y :: r ∧ y ∈ xs := by
  have hlt : d.nth i % xs.length < xs.length := Nat.mod_lt _ (List.length_pos_iff.2 h)
  refine ⟨xs[d.nth i % xs.length], xs.drop (d.nth i % xs.length + 1) ++ xs.take (d.nth i % xs.length), ?_, List.getElem_mem hlt⟩
  rw [Dev.turned, List.drop_eq_getElem_cons hlt, List.cons_append]

/-- Frames are found in a turned list of dies when each of them has a gap. -/
theorem allocFrom_turned (d : Dev) (n i : Nat) (xs : List Nat) (h : xs ≠ [])
    (hg : ∀ x ∈ xs, (firstGap n ((d.dieFrames x).1 + (d.dieFrames x).2) (d.dieFrames x).1 (d.runsIn (d.dieFrames x))).isSome = true) :
    (d.allocFrom n (d.turned i xs)).isSome = true := by
  obtain ⟨y, r, hy, hm⟩ := turned_cons d i xs h
  rw [hy]
  exact allocFrom_some d n y r (hg y hm)

/-- Some element of a list that is not empty is picked. -/
theorem pick_some {α : Type} (d : Dev) (i : Nat) (xs : List α) (h : xs ≠ []) : ∃ x, d.pick i xs = some x ∧ x ∈ xs := by
  match xs, h with
  | [x], _ => exact ⟨x, rfl, List.mem_cons_self⟩
  | x :: y :: r, _ =>
    have hlt : d.nth i % (r.length + 2) < (x :: y :: r).length := Nat.mod_lt _ (by omega)
    exact ⟨(x :: y :: r)[d.nth i % (r.length + 2)], List.getElem?_eq_getElem hlt, List.getElem_mem hlt⟩

/-- A connection index is found for a link partner. -/
theorem newConn_some (d : Dev) (s peer : Nat) (join : BitVec 32) (f : Conn → Conn) (h : Tab.has d.conns 65535 = false) :
    (d.newConn s peer join f).isSome = true := by
  unfold Dev.newConn
  rw [Option.isSome_map]
  exact freeAt_some _ _ 65535 _ _ (by decide) h rfl

end Sys2Proof.Machine
end

