-- ==== Sys2Proof/Laws/Bytes.lean ====
section
/-!
SUPPORT. The bytes of records and numbers: lengths, bounds and reading back what was written, and a tile whose blocks are
all raw.
-/
namespace Sys2Proof.Machine

/-- A field of a record has its length, padded with zeros past the record. -/
theorem recBytes_length (r : List Byte) (a n : Nat) : (recBytes r a n).length = n := by
  rw [recBytes, List.length_append, List.length_replicate, List.length_take]
  omega

/-- A little-endian number is below the power its length gives. -/
theorem leNat_lt (r : List Byte) : leNat r < 256 ^ r.length := by
  induction r with
  | nil => simp [leNat]
  | cons b r ih =>
    have := b.isLt
    simp only [leNat, List.length_cons, Nat.pow_succ]
    omega

/-- A number read from a record is below the power its width gives. -/
theorem recNum_lt (r : List Byte) (a n : Nat) : recNum r a n < 256 ^ n := by
  have h := leNat_lt (recBytes r a n)
  rwa [recBytes_length] at h

/-- The bytes of the number that bytes spell are those bytes. -/
theorem natLe_leNat (r : List Byte) : natLe r.length (leNat r) = r := by
  induction r with
  | nil => rfl
  | cons b r ih =>
    have h1 : (b.toNat + 256 * leNat r) / 256 = leNat r := by have := b.isLt; omega
    have h2 : BitVec.ofNat 8 (b.toNat + 256 * leNat r) = b := by
      apply BitVec.eq_of_toNat_eq
      have := b.isLt
      simp only [BitVec.toNat_ofNat]
      omega
    simp only [List.length_cons, natLe, leNat, h1, h2, ih]

/-- A number written in n bytes has n bytes. -/
theorem natLe_length (n v : Nat) : (natLe n v).length = n := by
  induction n generalizing v with
  | zero => rfl
  | succ n ih => simp [natLe, ih]

/-- A SHA-384 digest has 48 bytes. -/
theorem sha384_length (m : List Byte) : (sha384 m).length = 48 := by
  simp [sha384, natBe, natLe_length]

/-- A 48-byte value held as a 384-bit register reads back as its bytes. -/
theorem bytes384_of (r : List Byte) (h : r.length = 48) : bytes384 (BitVec.ofNat 384 (leNat r)) = r := by
  have hb := leNat_lt r
  have he := natLe_leNat r
  rw [h] at hb he
  unfold bytes384
  rw [BitVec.toNat_ofNat, Nat.mod_eq_of_lt (Nat.lt_of_lt_of_le hb (by decide +kernel)), he]

/-- A tile of raw blocks of full length expands. -/
theorem expand_raw (sl : Tab CodecSlot) (t : List Byte) (h : ((List.range 16).all fun b => blockRaw t b && blockUnits t b == 128) = true) :
    (expandTile sl t).2 = false := by
  simp only [expandTile, List.any_map, List.any_eq_false, Function.comp]
  intro b hb
  have := (List.all_eq_true.1 h) b hb
  simp only [Bool.and_eq_true, beq_iff_eq] at this
  have e : expandBlock sl t b = some (blockBytes t b) := by
    unfold expandBlock; simp [this.1, blockBytes, recBytes_length, this.2]
  simp [e]

/-- A packet that carries the ICRC of its own bytes is intact (11 R515). -/
theorem icrcOk_reqPkt (ty : Nat) (r : Route) (h : ReqHdr) (data : List Byte) (ht : ty < 16) :
    (reqPkt ty r h data (pktIcrc ty r (.req h data))).icrcOk = true := by
  have : (BitVec.ofNat 4 ty).toNat = ty := by rw [BitVec.toNat_ofNat]; exact Nat.mod_eq_of_lt ht
  simp only [Pkt.icrcOk, reqPkt, this, beq_self_eq_true]

end Sys2Proof.Machine
end

