-- ==== Sys2Proof/Laws/Commands.lean ====
section
/-!
SUPPORT. What the shared operations of the commands answer, case by case: the wrappers of the dispatch, host commands,
register accesses of the host, completion entries and occurrences of fault sources.
-/
namespace Sys2Proof.Machine

/-! ## The wrappers -/

/-- A command that has its own conditions. -/
theorem State.always_eq (s : State) (f : Dev → Dev) : s.always f = .next (s.put (f s.d).settle) := rfl

/-- A command of normal operation changes nothing while the device does not serve. -/
theorem State.served_idle {s : State} (f : Dev → Dev) (h : s.d.serving = false) : s.served f = .next (s.put s.d) := by
  simp [State.served, h]

/-- An event of a powered device changes nothing while it is down. -/
theorem State.alive_idle {s : State} (f : Dev → Dev) (h : s.d.up? = false) : s.alive f = .next (s.put s.d) := by
  simp [State.alive, h]

/-- A thread's command changes nothing while the thread may not issue. -/
theorem State.thread_idle {s : State} {t : Nat} (f : Dev → Dev) (h : s.d.issues t = false) : s.thread t f = .next (s.put s.d) := by
  simp [State.thread, h]

/-- A thread's command whose instruction leaves the thread waiting is followed by the device's own work. -/
theorem State.thread_wait {s : State} {t : Nat} {f : Dev → Dev} (h : s.d.issues t = true) (hw : ((f s.d).thr t).wait ≠ .run) :
    s.thread t f = .next (s.put (f s.d).settle) := by
  simp [State.thread, h, hw]

/-- A device that burns nothing is the state's device with nothing carried along. -/
theorem State.put_keeps (s : State) (d : Dev) (h : d.doing.burn = none) : s.put d = { s with d := { d with doing := {} } } := by
  simp [State.put, h]

/-- A burning reaches the fuses and what BOOT shows of them. -/
theorem State.put_burns (s : State) (d : Dev) (b : Burn) (h : d.doing.burn = some b) :
    s.put d = { s with otp := s.otp.burn b, d := { d.showOtp (s.otp.burn b) with doing := {} } } := by
  simp [State.put, h]

/-! ## Host commands -/

/-- A host command that is accepted has its own effect, for the stand it acts for. -/
theorem Dev.hostCmd_takes {d : Dev} {s opc lo hi a : Nat} {e : CmdEntry} (f : Dev → Nat → Dev) (h : (d.std s).rst = false)
    (ha : e.actor s lo hi = some a) : d.hostCmd s opc e lo hi f = f (d.popFetched s opc e) a := by
  simp [Dev.hostCmd, h, ha]

/-- A host command whose common fields are refused completes with BAD_COMMAND. -/
theorem Dev.hostCmd_refused {d : Dev} {s opc lo hi : Nat} {e : CmdEntry} (f : Dev → Nat → Dev) (h : (d.std s).rst = false)
    (ha : e.actor s lo hi = none) : d.hostCmd s opc e lo hi f = (d.popFetched s opc e).postCmd s e.tag opc 0 1 0 0 := by
  simp [Dev.hostCmd, h, ha]

/-- A stand in reset starts no command. -/
theorem Dev.hostCmd_reset {d : Dev} {s opc lo hi : Nat} {e : CmdEntry} (f : Dev → Nat → Dev) (h : (d.std s).rst = true) :
    d.hostCmd s opc e lo hi f = d := by
  simp [Dev.hostCmd, h]

/-! ## Register writes of the host -/

/-- An accepted write is done. -/
theorem Dev.busWrite_ok {d : Dev} {fn off size : Nat} (v : W64) (h : d.hostVerdict fn off size true = .ok) :
    d.busWrite fn off size v = d.doWrite fn (pfOff fn off) size v := by
  simp [Dev.busWrite, h]

/-- A write that reaches nothing is ignored. -/
theorem Dev.busWrite_zero {d : Dev} {fn off size : Nat} (v : W64) (h : d.hostVerdict fn off size true = .zero) :
    d.busWrite fn off size v = d := by
  simp [Dev.busWrite, h]

/-- A write that is a violation is counted and nothing else. -/
theorem Dev.busWrite_viol {d : Dev} {fn off size k : Nat} (v : W64) (h : d.hostVerdict fn off size true = .viol k) :
    d.busWrite fn off size v = d.violate fn k spBar0 true off := by
  simp [Dev.busWrite, h]

/-! ## Completion entries -/

/-- With room in the queue and an empty backlog an entry is written. -/
theorem Dev.post_now {d : Dev} {s : Nat} (e : CplEntry) (h : (d.hostQ s).backlog = []) (hr : d.cplRoom s = true) :
    d.post s e = d.cplWrite s e := by
  simp [Dev.post, h, hr]

/-- Without room an entry is held. -/
theorem Dev.post_held {d : Dev} {s : Nat} (e : CplEntry) (hr : d.cplRoom s = false) (hl : (d.hostQ s).backlog.length < 65536) :
    d.post s e = d.setHostQ s { d.hostQ s with backlog := (d.hostQ s).backlog ++ [e] } := by
  simp [Dev.post, hr, hl]

/-- With a full backlog an entry is lost and counted. -/
theorem Dev.post_lost {d : Dev} {s : Nat} (e : CplEntry) (hr : d.cplRoom s = false) (hl : 65536 ≤ (d.hostQ s).backlog.length) :
    d.post s e = d.incSat .stand s 0x2068 63 32 1 := by
  simp [Dev.post, hr, Nat.not_lt.2 hl]

/-! ## Fault sources -/

/-- A reserved source has no occurrences. -/
theorem Dev.raise_reserved {d : Dev} {src : Nat} (u : FUnit) (ss : List Nat) (w : W64) (h : srcReact src = none) :
    d.raise src u ss w = d := by
  simp [Dev.raise, h]

/-- An occurrence without stands while the source is disabled or its status stands is counted and shown, and nothing else. -/
theorem Dev.raise_quiet {d : Dev} {src r : Nat} (u : FUnit) (w : W64) (h : srcReact src = some r)
    (hq : bitAt (d.rd .flt 0 (0x1000 + 8 * (src / 32))) (src % 32) = true ∨ bitAt (d.rd .flt 0 (0x1100 + 8 * (src / 32))) (src % 32) = false) :
    d.raise src u [] w = (d.incSat .flt 0 (0x2000 + 8 * src) 63 32 1).setFld .flt 0 (0x1000 + 8 * (src / 32)) (src % 32) (src % 32) 1 := by
  rcases hq with hq | hq <;> simp [Dev.raise, h, hq]

end Sys2Proof.Machine
end

