-- ==== Sys2Proof/Laws/Memory.lean ====
section
/-!
SUPPORT. Byte memories: what a read gives after a write, and that every memory operation keeps the canonical form.
-/
namespace Sys2Proof.Machine

theorem Memory.read_append (m1 m2 : Memory) (a : Nat) :
    Memory.read (m1 ++ m2) a = if m1.any (fun e => e.1 == a) then Memory.read m1 a else Memory.read m2 a := by
  induction m1 with
  | nil => simp
  | cons e r ih =>
    obtain ⟨k, b⟩ := e
    by_cases h : k = a
    · simp [Memory.read, h]
    · simp [Memory.read, h, ih]

theorem Memory.read_of_not_any (m : Memory) (a : Nat) (h : m.any (fun e => e.1 == a) = false) : Memory.read m a = 0#8 := by
  induction m with
  | nil => rfl
  | cons e r ih =>
    obtain ⟨k, b⟩ := e
    simp only [List.any_cons, Bool.or_eq_false_iff, beq_eq_false_iff_ne, ne_eq] at h
    simp [Memory.read, h.1, ih h.2]

theorem Memory.read_filter (m : Memory) (p : Nat → Bool) (a : Nat) :
    Memory.read (m.filter fun e => p e.1) a = if p a then Memory.read m a else 0#8 := by
  induction m with
  | nil => simp [Memory.read]
  | cons e r ih =>
    obtain ⟨k, b⟩ := e
    by_cases hp : p k = true
    · by_cases h : k = a
      · subst h
        simp [hp, Memory.read]
      · simp [hp, Memory.read, h, ih]
    · by_cases h : k = a
      · subst h
        have hp' : p k = false := by simpa using hp
        rw [List.filter_cons_of_neg (by simp [hp']), ih]
        simp [hp']
      · simp [hp, Memory.read, h, ih]

theorem Memory.any_filter (m : Memory) (p : Nat → Bool) (a : Nat) (h : p a = false) :
    (m.filter fun e => p e.1).any (fun e => e.1 == a) = false := by
  induction m with
  | nil => rfl
  | cons e r ih =>
    obtain ⟨k, b⟩ := e
    by_cases hp : p k = true
    · have hk : k ≠ a := fun hk => by simp [hk, h] at hp
      simp [hp, hk, ih]
    · simp [hp, ih]

theorem Memory.block_any (bs : List Byte) (a x : Nat) (h : x < a ∨ a + bs.length ≤ x) :
    (Memory.block a bs).any (fun e => e.1 == x) = false := by
  induction bs generalizing a with
  | nil => rfl
  | cons b r ih =>
    simp only [List.length_cons] at h
    unfold Memory.block
    split
    · exact ih (a + 1) (by omega)
    · simp only [List.any_cons, ih (a + 1) (by omega), Bool.or_false, beq_eq_false_iff_ne]
      omega

theorem Memory.block_read (bs : List Byte) (a i : Nat) (h : i < bs.length) : Memory.read (Memory.block a bs) (a + i) = bs[i] := by
  induction bs generalizing a i with
  | nil => simp at h
  | cons b r ih =>
    unfold Memory.block
    cases i with
    | zero =>
      split
      · rename_i hb
        have hz := Memory.read_of_not_any _ _ (Memory.block_any r (a + 1) a (by omega))
        rw [show a + 0 = a from rfl, hz]
        simp [hb]
      · simp [Memory.read]
    | succ j =>
      simp only [List.length_cons] at h
      have e : a + (j + 1) = (a + 1) + j := by omega
      split
      · rw [e, ih (a + 1) j (by omega)]
        rfl
      · rw [Memory.read, if_neg (by omega), e, ih (a + 1) j (by omega)]
        rfl

/-- A byte outside the bytes written stays. -/
theorem Memory.read_write_outside (m : Memory) (a : Nat) (bs : List Byte) (x : Nat) (h : x < a ∨ a + bs.length ≤ x) :
    Memory.read (Memory.write m a bs) x = Memory.read m x := by
  unfold Memory.write
  rw [List.append_assoc, Memory.read_append, Memory.read_append]
  rw [Memory.read_filter m (fun k => decide (k < a)) x, Memory.read_filter m (fun k => decide (a + bs.length ≤ k)) x]
  by_cases hx : x < a
  · by_cases hany : (m.filter fun e => decide (e.1 < a)).any (fun e => e.1 == x) = true
    · simp [hany, hx]
    · simp only [hany, Memory.block_any bs a x h]
      have h3 : ¬ (a + bs.length ≤ x) := by omega
      have h4 := Memory.read_filter m (fun k => decide (k < a)) x
      rw [Memory.read_of_not_any _ _ (by simpa only [Bool.not_eq_true] using hany)] at h4
      simpa [h3, hx] using h4
  · have h3 : a + bs.length ≤ x := by omega
    rw [Memory.any_filter m (fun k => decide (k < a)) x (by simpa using hx)]
    simp [Memory.block_any bs a x h, h3]

/-- A byte written is the byte read. -/
theorem Memory.read_write_inside (m : Memory) (a : Nat) (bs : List Byte) (i : Nat) (h : i < bs.length) :
    Memory.read (Memory.write m a bs) (a + i) = bs[i] := by
  unfold Memory.write
  rw [List.append_assoc, Memory.read_append, Memory.any_filter m (fun k => decide (k < a)) (a + i) (by simp)]
  rw [if_neg (by simp), Memory.read_append]
  split
  · exact Memory.block_read bs a i h
  · rename_i hn
    have hz : Memory.read (Memory.block a bs) (a + i) = 0#8 := Memory.read_of_not_any _ _ (by simpa only [Bool.not_eq_true] using hn)
    rw [Memory.block_read bs a i h] at hz
    rw [Memory.read_filter m (fun k => decide (a + bs.length ≤ k)) (a + i)]
    have h3 : ¬ (a + bs.length ≤ a + i) := by omega
    simp [h3, hz]

/-! ## The canonical form is kept -/

theorem Memory.wfFrom_mono (m : Memory) (lo lo' : Nat) (h : lo' ≤ lo) (hw : Memory.wfFrom lo m = true) :
    Memory.wfFrom lo' m = true := by
  cases m with
  | nil => rfl
  | cons e r =>
    obtain ⟨k, b⟩ := e
    simp only [Memory.wfFrom, Bool.and_eq_true, decide_eq_true_eq] at hw ⊢
    exact ⟨⟨by omega, hw.1.2⟩, hw.2⟩

theorem Memory.wfFrom_filter (m : Memory) (lo : Nat) (p : Host.Cell → Bool) (hw : Memory.wfFrom lo m = true) :
    Memory.wfFrom lo (m.filter p) = true := by
  induction m generalizing lo with
  | nil => rfl
  | cons e r ih =>
    obtain ⟨k, b⟩ := e
    simp only [Memory.wfFrom, Bool.and_eq_true, decide_eq_true_eq] at hw
    rw [List.filter_cons]
    split
    · simp only [Memory.wfFrom, Bool.and_eq_true, decide_eq_true_eq]
      exact ⟨hw.1, ih (k + 1) hw.2⟩
    · exact Memory.wfFrom_mono _ _ _ (by omega) (ih (k + 1) hw.2)

theorem Memory.wfFrom_append (m1 m2 : Memory) (lo mid : Nat) (h1 : Memory.wfFrom lo m1 = true) (hb : ∀ e ∈ m1, e.1 < mid)
    (hl : lo ≤ mid) (h2 : Memory.wfFrom mid m2 = true) : Memory.wfFrom lo (m1 ++ m2) = true := by
  induction m1 generalizing lo with
  | nil => exact Memory.wfFrom_mono _ _ _ hl h2
  | cons e r ih =>
    obtain ⟨k, b⟩ := e
    simp only [Memory.wfFrom, Bool.and_eq_true, decide_eq_true_eq] at h1
    simp only [List.cons_append, Memory.wfFrom, Bool.and_eq_true, decide_eq_true_eq]
    have hk : k < mid := hb (k, b) (by simp)
    exact ⟨h1.1, ih (k + 1) h1.2 (fun e he => hb e (by simp [he])) (by omega)⟩

theorem Memory.wfFrom_block (bs : List Byte) (a : Nat) : Memory.wfFrom a (Memory.block a bs) = true := by
  induction bs generalizing a with
  | nil => rfl
  | cons b r ih =>
    unfold Memory.block
    split
    · exact Memory.wfFrom_mono _ _ _ (by omega) (ih (a + 1))
    · rename_i hb
      simp [Memory.wfFrom, hb, ih (a + 1)]

theorem Memory.block_lt (bs : List Byte) (a : Nat) : ∀ e ∈ Memory.block a bs, e.1 < a + bs.length := by
  induction bs generalizing a with
  | nil => simp [Memory.block]
  | cons b r ih =>
    intro e he
    unfold Memory.block at he
    simp only [List.length_cons]
    split at he
    · have := ih (a + 1) e he
      omega
    · rcases List.mem_cons.mp he with rfl | h
      · simp
      · have := ih (a + 1) e h
        omega

theorem Memory.wfFrom_above (m : Memory) (lo n : Nat) (hw : Memory.wfFrom lo m = true) :
    Memory.wfFrom n (m.filter fun e => decide (n ≤ e.1)) = true := by
  induction m generalizing lo with
  | nil => rfl
  | cons e r ih =>
    obtain ⟨k, b⟩ := e
    simp only [Memory.wfFrom, Bool.and_eq_true, decide_eq_true_eq] at hw
    rw [List.filter_cons]
    split
    · rename_i hk
      simp only [decide_eq_true_eq] at hk
      simp only [Memory.wfFrom, Bool.and_eq_true, decide_eq_true_eq]
      exact ⟨⟨hk, hw.1.2⟩, Memory.wfFrom_filter _ _ _ hw.2⟩
    · exact ih (k + 1) hw.2

/-- A write keeps the canonical form. -/
theorem Memory.wf_write (m : Memory) (a : Nat) (bs : List Byte) (h : Memory.wf m = true) : Memory.wf (Memory.write m a bs) = true := by
  unfold Memory.wf Memory.write
  rw [List.append_assoc]
  refine Memory.wfFrom_append _ _ 0 a (Memory.wfFrom_filter m 0 _ h) ?_ (by omega) ?_
  · intro e he
    simpa using (List.mem_filter.mp he).2
  · refine Memory.wfFrom_append _ _ a (a + bs.length) (Memory.wfFrom_block bs a) (Memory.block_lt bs a) (by omega) ?_
    exact Memory.wfFrom_above m 0 _ h

/-- Clearing a range keeps the canonical form. -/
theorem Memory.wf_zero (m : Memory) (a n : Nat) (h : Memory.wf m = true) : Memory.wf (Memory.zero m a n) = true :=
  Memory.wfFrom_filter m 0 _ h

/-- Leaving entries out keeps the canonical form. -/
theorem Memory.wf_filter (m : Memory) (p : Host.Cell → Bool) (h : Memory.wf m = true) : Memory.wf (m.filter p) = true :=
  Memory.wfFrom_filter m 0 _ h

/-- Storing a number keeps the canonical form. -/
theorem Memory.wf_putNum (m : Memory) (a n v : Nat) (h : Memory.wf m = true) : Memory.wf (Memory.putNum m a n v) = true :=
  Memory.wf_write m a _ h

@[simp] theorem Memory.wf_nil : Memory.wf [] = true := rfl

/-- A cleared byte reads zero, and every other byte stays. -/
theorem Memory.read_zero (m : Memory) (a n x : Nat) :
    Memory.read (Memory.zero m a n) x = if a ≤ x ∧ x < a + n then 0#8 else Memory.read m x := by
  unfold Memory.zero
  rw [Memory.read_filter m (fun k => decide (k < a) || decide (a + n ≤ k)) x]
  by_cases h : a ≤ x ∧ x < a + n
  · have h1 : ¬ x < a := by omega
    have h2 : ¬ a + n ≤ x := by omega
    simp [h, h1, h2]
  · rw [if_neg h]
    have h1 : x < a ∨ a + n ≤ x := by omega
    rcases h1 with h1 | h1 <;> simp [h1]

end Sys2Proof.Machine
end

