-- ==== Sys2Proof/Laws/State.lean ====
section
/-!
SUPPORT. The fields of the state after each of its plain updates: the field that the update names, and every other one
unchanged. All are true by unfolding, so that no later proof opens a record update.
-/
namespace Sys2Proof.Machine

/-! ## The fields of the machine -/

@[simp] theorem State.put_pending (s : State) (d : Dev) : (s.put d).pending = s.pending := by
  unfold State.put
  split <;> rfl

@[simp] theorem State.tick_pending (s : State) : s.tick.pending = s.pending := rfl
@[simp] theorem State.tick_otp (s : State) : s.tick.otp = s.otp := rfl
@[simp] theorem State.withFetchWord_eq (s : State) (n w : Nat) : s.withFetchWord n w = s := rfl

/-- A command that burns no fuse leaves the fuses. -/
theorem State.put_otp (s : State) (d : Dev) (h : d.doing.burn = none) : (s.put d).otp = s.otp := by
  unfold State.put
  rw [h]

/-- A command that burns no fuse leaves the device as the command made it, with nothing carried along. -/
theorem State.put_d (s : State) (d : Dev) (h : d.doing.burn = none) : (s.put d).d = { d with doing := {} } := by
  unfold State.put
  rw [h]

/-! ## wr -/

@[simp] theorem Dev.wr_freeCtr (d : Dev) (b : Blk) (i off : Nat) (v : W64) : (d.wr b i off v).freeCtr = d.freeCtr := rfl
@[simp] theorem Dev.wr_up (d : Dev) (b : Blk) (i off : Nat) (v : W64) : (d.wr b i off v).up = d.up := rfl
@[simp] theorem Dev.wr_fab (d : Dev) (b : Blk) (i off : Nat) (v : W64) : (d.wr b i off v).fab = d.fab := rfl
@[simp] theorem Dev.wr_regs (d : Dev) (b : Blk) (i off : Nat) (v : W64) : (d.wr b i off v).regs = Tab.set d.regs (Loc.addr ⟨b, i, off⟩) v := rfl
@[simp] theorem Dev.wr_out (d : Dev) (b : Blk) (i off : Nat) (v : W64) : (d.wr b i off v).out = d.out := rfl
@[simp] theorem Dev.wr_stands (d : Dev) (b : Blk) (i off : Nat) (v : W64) : (d.wr b i off v).stands = d.stands := rfl
@[simp] theorem Dev.wr_cfgA (d : Dev) (b : Blk) (i off : Nat) (v : W64) : (d.wr b i off v).cfgA = d.cfgA := rfl
@[simp] theorem Dev.wr_cfgB (d : Dev) (b : Blk) (i off : Nat) (v : W64) : (d.wr b i off v).cfgB = d.cfgB := rfl
@[simp] theorem Dev.wr_cfg (d : Dev) (b : Blk) (i off : Nat) (v : W64) : (d.wr b i off v).cfg = d.cfg := rfl
@[simp] theorem Dev.wr_cfgIsB (d : Dev) (b : Blk) (i off : Nat) (v : W64) : (d.wr b i off v).cfgIsB = d.cfgIsB := rfl
@[simp] theorem Dev.wr_fences (d : Dev) (b : Blk) (i off : Nat) (v : W64) : (d.wr b i off v).fences = d.fences := rfl
@[simp] theorem Dev.wr_react (d : Dev) (b : Blk) (i off : Nat) (v : W64) : (d.wr b i off v).react = d.react := rfl
@[simp] theorem Dev.wr_invCause (d : Dev) (b : Blk) (i off : Nat) (v : W64) : (d.wr b i off v).invCause = d.invCause := rfl
@[simp] theorem Dev.wr_invTaken (d : Dev) (b : Blk) (i off : Nat) (v : W64) : (d.wr b i off v).invTaken = d.invTaken := rfl
@[simp] theorem Dev.wr_halted (d : Dev) (b : Blk) (i off : Nat) (v : W64) : (d.wr b i off v).halted = d.halted := rfl
@[simp] theorem Dev.wr_ptlQ (d : Dev) (b : Blk) (i off : Nat) (v : W64) : (d.wr b i off v).ptlQ = d.ptlQ := rfl
@[simp] theorem Dev.wr_ptlRun (d : Dev) (b : Blk) (i off : Nat) (v : W64) : (d.wr b i off v).ptlRun = d.ptlRun := rfl
@[simp] theorem Dev.wr_ptlHist (d : Dev) (b : Blk) (i off : Nat) (v : W64) : (d.wr b i off v).ptlHist = d.ptlHist := rfl
@[simp] theorem Dev.wr_warn (d : Dev) (b : Blk) (i off : Nat) (v : W64) : (d.wr b i off v).warn = d.warn := rfl
@[simp] theorem Dev.wr_goodRun (d : Dev) (b : Blk) (i off : Nat) (v : W64) : (d.wr b i off v).goodRun = d.goodRun := rfl
@[simp] theorem Dev.wr_thermL (d : Dev) (b : Blk) (i off : Nat) (v : W64) : (d.wr b i off v).thermL = d.thermL := rfl
@[simp] theorem Dev.wr_avsWait (d : Dev) (b : Blk) (i off : Nat) (v : W64) : (d.wr b i off v).avsWait = d.avsWait := rfl
@[simp] theorem Dev.wr_avsPoint (d : Dev) (b : Blk) (i off : Nat) (v : W64) : (d.wr b i off v).avsPoint = d.avsPoint := rfl
@[simp] theorem Dev.wr_avsLate (d : Dev) (b : Blk) (i off : Nat) (v : W64) : (d.wr b i off v).avsLate = d.avsLate := rfl
@[simp] theorem Dev.wr_rails (d : Dev) (b : Blk) (i off : Nat) (v : W64) : (d.wr b i off v).rails = d.rails := rfl
@[simp] theorem Dev.wr_lpEnter (d : Dev) (b : Blk) (i off : Nat) (v : W64) : (d.wr b i off v).lpEnter = d.lpEnter := rfl
@[simp] theorem Dev.wr_off (d : Dev) (b : Blk) (i off : Nat) (v : W64) : (d.wr b i off v).off = d.off := rfl
@[simp] theorem Dev.wr_inS4 (d : Dev) (b : Blk) (i off : Nat) (v : W64) : (d.wr b i off v).inS4 = d.inS4 := rfl
@[simp] theorem Dev.wr_temps (d : Dev) (b : Blk) (i off : Nat) (v : W64) : (d.wr b i off v).temps = d.temps := rfl
@[simp] theorem Dev.wr_cellRst (d : Dev) (b : Blk) (i off : Nat) (v : W64) : (d.wr b i off v).cellRst = d.cellRst := rfl
@[simp] theorem Dev.wr_warm (d : Dev) (b : Blk) (i off : Nat) (v : W64) : (d.wr b i off v).warm = d.warm := rfl
@[simp] theorem Dev.wr_resetQ (d : Dev) (b : Blk) (i off : Nat) (v : W64) : (d.wr b i off v).resetQ = d.resetQ := rfl
@[simp] theorem Dev.wr_board (d : Dev) (b : Blk) (i off : Nat) (v : W64) : (d.wr b i off v).board = d.board := rfl
@[simp] theorem Dev.wr_mgmt (d : Dev) (b : Blk) (i off : Nat) (v : W64) : (d.wr b i off v).mgmt = d.mgmt := rfl
@[simp] theorem Dev.wr_doing (d : Dev) (b : Blk) (i off : Nat) (v : W64) : (d.wr b i off v).doing = d.doing := rfl
@[simp] theorem Dev.wr_hq (d : Dev) (b : Blk) (i off : Nat) (v : W64) : (d.wr b i off v).hq = d.hq := rfl
@[simp] theorem Dev.wr_msix (d : Dev) (b : Blk) (i off : Nat) (v : W64) : (d.wr b i off v).msix = d.msix := rfl
@[simp] theorem Dev.wr_fns (d : Dev) (b : Blk) (i off : Nat) (v : W64) : (d.wr b i off v).fns = d.fns := rfl
@[simp] theorem Dev.wr_dma (d : Dev) (b : Blk) (i off : Nat) (v : W64) : (d.wr b i off v).dma = d.dma := rfl
@[simp] theorem Dev.wr_dmaNext (d : Dev) (b : Blk) (i off : Nat) (v : W64) : (d.wr b i off v).dmaNext = d.dmaNext := rfl
@[simp] theorem Dev.wr_profiles (d : Dev) (b : Blk) (i off : Nat) (v : W64) : (d.wr b i off v).profiles = d.profiles := rfl
@[simp] theorem Dev.wr_dir (d : Dev) (b : Blk) (i off : Nat) (v : W64) : (d.wr b i off v).dir = d.dir := rfl
@[simp] theorem Dev.wr_shadow (d : Dev) (b : Blk) (i off : Nat) (v : W64) : (d.wr b i off v).shadow = d.shadow := rfl
@[simp] theorem Dev.wr_dirOps (d : Dev) (b : Blk) (i off : Nat) (v : W64) : (d.wr b i off v).dirOps = d.dirOps := rfl
@[simp] theorem Dev.wr_svc (d : Dev) (b : Blk) (i off : Nat) (v : W64) : (d.wr b i off v).svc = d.svc := rfl
@[simp] theorem Dev.wr_svcUsed (d : Dev) (b : Blk) (i off : Nat) (v : W64) : (d.wr b i off v).svcUsed = d.svcUsed := rfl
@[simp] theorem Dev.wr_pins (d : Dev) (b : Blk) (i off : Nat) (v : W64) : (d.wr b i off v).pins = d.pins := rfl
@[simp] theorem Dev.wr_pinNext (d : Dev) (b : Blk) (i off : Nat) (v : W64) : (d.wr b i off v).pinNext = d.pinNext := rfl
@[simp] theorem Dev.wr_oldGens (d : Dev) (b : Blk) (i off : Nat) (v : W64) : (d.wr b i off v).oldGens = d.oldGens := rfl
@[simp] theorem Dev.wr_held (d : Dev) (b : Blk) (i off : Nat) (v : W64) : (d.wr b i off v).held = d.held := rfl
@[simp] theorem Dev.wr_lateFree (d : Dev) (b : Blk) (i off : Nat) (v : W64) : (d.wr b i off v).lateFree = d.lateFree := rfl
@[simp] theorem Dev.wr_pages (d : Dev) (b : Blk) (i off : Nat) (v : W64) : (d.wr b i off v).pages = d.pages := rfl
@[simp] theorem Dev.wr_mem (d : Dev) (b : Blk) (i off : Nat) (v : W64) : (d.wr b i off v).mem = d.mem := rfl
@[simp] theorem Dev.wr_runs (d : Dev) (b : Blk) (i off : Nat) (v : W64) : (d.wr b i off v).runs = d.runs := rfl
@[simp] theorem Dev.wr_slots (d : Dev) (b : Blk) (i off : Nat) (v : W64) : (d.wr b i off v).slots = d.slots := rfl
@[simp] theorem Dev.wr_moves (d : Dev) (b : Blk) (i off : Nat) (v : W64) : (d.wr b i off v).moves = d.moves := rfl
@[simp] theorem Dev.wr_migrs (d : Dev) (b : Blk) (i off : Nat) (v : W64) : (d.wr b i off v).migrs = d.migrs := rfl
@[simp] theorem Dev.wr_migNext (d : Dev) (b : Blk) (i off : Nat) (v : W64) : (d.wr b i off v).migNext = d.migNext := rfl
@[simp] theorem Dev.wr_promos (d : Dev) (b : Blk) (i off : Nat) (v : W64) : (d.wr b i off v).promos = d.promos := rfl
@[simp] theorem Dev.wr_recodes (d : Dev) (b : Blk) (i off : Nat) (v : W64) : (d.wr b i off v).recodes = d.recodes := rfl
@[simp] theorem Dev.wr_images (d : Dev) (b : Blk) (i off : Nat) (v : W64) : (d.wr b i off v).images = d.images := rfl
@[simp] theorem Dev.wr_imgNext (d : Dev) (b : Blk) (i off : Nat) (v : W64) : (d.wr b i off v).imgNext = d.imgNext := rfl
@[simp] theorem Dev.wr_slotImg (d : Dev) (b : Blk) (i off : Nat) (v : W64) : (d.wr b i off v).slotImg = d.slotImg := rfl
@[simp] theorem Dev.wr_cores (d : Dev) (b : Blk) (i off : Nat) (v : W64) : (d.wr b i off v).cores = d.cores := rfl
@[simp] theorem Dev.wr_threads (d : Dev) (b : Blk) (i off : Nat) (v : W64) : (d.wr b i off v).threads = d.threads := rfl
@[simp] theorem Dev.wr_blazes (d : Dev) (b : Blk) (i off : Nat) (v : W64) : (d.wr b i off v).blazes = d.blazes := rfl
@[simp] theorem Dev.wr_stage (d : Dev) (b : Blk) (i off : Nat) (v : W64) : (d.wr b i off v).stage = d.stage := rfl
@[simp] theorem Dev.wr_stageAreas (d : Dev) (b : Blk) (i off : Nat) (v : W64) : (d.wr b i off v).stageAreas = d.stageAreas := rfl
@[simp] theorem Dev.wr_stageRegion (d : Dev) (b : Blk) (i off : Nat) (v : W64) : (d.wr b i off v).stageRegion = d.stageRegion := rfl
@[simp] theorem Dev.wr_orders (d : Dev) (b : Blk) (i off : Nat) (v : W64) : (d.wr b i off v).orders = d.orders := rfl
@[simp] theorem Dev.wr_orderNext (d : Dev) (b : Blk) (i off : Nat) (v : W64) : (d.wr b i off v).orderNext = d.orderNext := rfl
@[simp] theorem Dev.wr_subs (d : Dev) (b : Blk) (i off : Nat) (v : W64) : (d.wr b i off v).subs = d.subs := rfl
@[simp] theorem Dev.wr_subNext (d : Dev) (b : Blk) (i off : Nat) (v : W64) : (d.wr b i off v).subNext = d.subNext := rfl
@[simp] theorem Dev.wr_rings (d : Dev) (b : Blk) (i off : Nat) (v : W64) : (d.wr b i off v).rings = d.rings := rfl
@[simp] theorem Dev.wr_wqs (d : Dev) (b : Blk) (i off : Nat) (v : W64) : (d.wr b i off v).wqs = d.wqs := rfl
@[simp] theorem Dev.wr_merges (d : Dev) (b : Blk) (i off : Nat) (v : W64) : (d.wr b i off v).merges = d.merges := rfl
@[simp] theorem Dev.wr_parts (d : Dev) (b : Blk) (i off : Nat) (v : W64) : (d.wr b i off v).parts = d.parts := rfl
@[simp] theorem Dev.wr_partNext (d : Dev) (b : Blk) (i off : Nat) (v : W64) : (d.wr b i off v).partNext = d.partNext := rfl
@[simp] theorem Dev.wr_tel (d : Dev) (b : Blk) (i off : Nat) (v : W64) : (d.wr b i off v).tel = d.tel := rfl
@[simp] theorem Dev.wr_weights (d : Dev) (b : Blk) (i off : Nat) (v : W64) : (d.wr b i off v).weights = d.weights := rfl
@[simp] theorem Dev.wr_scratches (d : Dev) (b : Blk) (i off : Nat) (v : W64) : (d.wr b i off v).scratches = d.scratches := rfl
@[simp] theorem Dev.wr_nbprogs (d : Dev) (b : Blk) (i off : Nat) (v : W64) : (d.wr b i off v).nbprogs = d.nbprogs := rfl
@[simp] theorem Dev.wr_nbNext (d : Dev) (b : Blk) (i off : Nat) (v : W64) : (d.wr b i off v).nbNext = d.nbNext := rfl
@[simp] theorem Dev.wr_locals (d : Dev) (b : Blk) (i off : Nat) (v : W64) : (d.wr b i off v).locals = d.locals := rfl
@[simp] theorem Dev.wr_slot4 (d : Dev) (b : Blk) (i off : Nat) (v : W64) : (d.wr b i off v).slot4 = d.slot4 := rfl
@[simp] theorem Dev.wr_regionCmds (d : Dev) (b : Blk) (i off : Nat) (v : W64) : (d.wr b i off v).regionCmds = d.regionCmds := rfl
@[simp] theorem Dev.wr_unloads (d : Dev) (b : Blk) (i off : Nat) (v : W64) : (d.wr b i off v).unloads = d.unloads := rfl
@[simp] theorem Dev.wr_slices (d : Dev) (b : Blk) (i off : Nat) (v : W64) : (d.wr b i off v).slices = d.slices := rfl
@[simp] theorem Dev.wr_copies (d : Dev) (b : Blk) (i off : Nat) (v : W64) : (d.wr b i off v).copies = d.copies := rfl
@[simp] theorem Dev.wr_mirSeqs (d : Dev) (b : Blk) (i off : Nat) (v : W64) : (d.wr b i off v).mirSeqs = d.mirSeqs := rfl
@[simp] theorem Dev.wr_lendIn (d : Dev) (b : Blk) (i off : Nat) (v : W64) : (d.wr b i off v).lendIn = d.lendIn := rfl
@[simp] theorem Dev.wr_lendOut (d : Dev) (b : Blk) (i off : Nat) (v : W64) : (d.wr b i off v).lendOut = d.lendOut := rfl
@[simp] theorem Dev.wr_ports (d : Dev) (b : Blk) (i off : Nat) (v : W64) : (d.wr b i off v).ports = d.ports := rfl
@[simp] theorem Dev.wr_egress (d : Dev) (b : Blk) (i off : Nat) (v : W64) : (d.wr b i off v).egress = d.egress := rfl
@[simp] theorem Dev.wr_scheds (d : Dev) (b : Blk) (i off : Nat) (v : W64) : (d.wr b i off v).scheds = d.scheds := rfl
@[simp] theorem Dev.wr_conns (d : Dev) (b : Blk) (i off : Nat) (v : W64) : (d.wr b i off v).conns = d.conns := rfl
@[simp] theorem Dev.wr_tracts (d : Dev) (b : Blk) (i off : Nat) (v : W64) : (d.wr b i off v).tracts = d.tracts := rfl
@[simp] theorem Dev.wr_opNext (d : Dev) (b : Blk) (i off : Nat) (v : W64) : (d.wr b i off v).opNext = d.opNext := rfl
@[simp] theorem Dev.wr_msgEnds (d : Dev) (b : Blk) (i off : Nat) (v : W64) : (d.wr b i off v).msgEnds = d.msgEnds := rfl
@[simp] theorem Dev.wr_slew (d : Dev) (b : Blk) (i off : Nat) (v : W64) : (d.wr b i off v).slew = d.slew := rfl
@[simp] theorem Dev.wr_slewAcc (d : Dev) (b : Blk) (i off : Nat) (v : W64) : (d.wr b i off v).slewAcc = d.slewAcc := rfl
@[simp] theorem Dev.wr_lockRun (d : Dev) (b : Blk) (i off : Nat) (v : W64) : (d.wr b i off v).lockRun = d.lockRun := rfl
@[simp] theorem Dev.wr_ppsRun (d : Dev) (b : Blk) (i off : Nat) (v : W64) : (d.wr b i off v).ppsRun = d.ppsRun := rfl
@[simp] theorem Dev.wr_telInt (d : Dev) (b : Blk) (i off : Nat) (v : W64) : (d.wr b i off v).telInt = d.telInt := rfl
@[simp] theorem Dev.wr_telOk (d : Dev) (b : Blk) (i off : Nat) (v : W64) : (d.wr b i off v).telOk = d.telOk := rfl
@[simp] theorem Dev.wr_telHold (d : Dev) (b : Blk) (i off : Nat) (v : W64) : (d.wr b i off v).telHold = d.telHold := rfl
@[simp] theorem Dev.wr_telStep (d : Dev) (b : Blk) (i off : Nat) (v : W64) : (d.wr b i off v).telStep = d.telStep := rfl
@[simp] theorem Dev.wr_telOn (d : Dev) (b : Blk) (i off : Nat) (v : W64) : (d.wr b i off v).telOn = d.telOn := rfl
@[simp] theorem Dev.wr_telQ (d : Dev) (b : Blk) (i off : Nat) (v : W64) : (d.wr b i off v).telQ = d.telQ := rfl
@[simp] theorem Dev.wr_slotId (d : Dev) (b : Blk) (i off : Nat) (v : W64) : (d.wr b i off v).slotId = d.slotId := rfl
@[simp] theorem Dev.wr_standbyEpoch (d : Dev) (b : Blk) (i off : Nat) (v : W64) : (d.wr b i off v).standbyEpoch = d.standbyEpoch := rfl
@[simp] theorem Dev.wr_lastAdv (d : Dev) (b : Blk) (i off : Nat) (v : W64) : (d.wr b i off v).lastAdv = d.lastAdv := rfl
@[simp] theorem Dev.wr_version (d : Dev) (b : Blk) (i off : Nat) (v : W64) : (d.wr b i off v).version = d.version := rfl
@[simp] theorem Dev.wr_cruiseIn (d : Dev) (b : Blk) (i off : Nat) (v : W64) : (d.wr b i off v).cruiseIn = d.cruiseIn := rfl
@[simp] theorem Dev.wr_lendAsk (d : Dev) (b : Blk) (i off : Nat) (v : W64) : (d.wr b i off v).lendAsk = d.lendAsk := rfl
@[simp] theorem Dev.wr_seenMsgs (d : Dev) (b : Blk) (i off : Nat) (v : W64) : (d.wr b i off v).seenMsgs = d.seenMsgs := rfl
@[simp] theorem Dev.wr_rowMap (d : Dev) (b : Blk) (i off : Nat) (v : W64) : (d.wr b i off v).rowMap = d.rowMap := rfl
@[simp] theorem Dev.wr_rowSums (d : Dev) (b : Blk) (i off : Nat) (v : W64) : (d.wr b i off v).rowSums = d.rowSums := rfl
@[simp] theorem Dev.wr_failed (d : Dev) (b : Blk) (i off : Nat) (v : W64) : (d.wr b i off v).failed = d.failed := rfl
@[simp] theorem Dev.wr_downLinks (d : Dev) (b : Blk) (i off : Nat) (v : W64) : (d.wr b i off v).downLinks = d.downLinks := rfl
@[simp] theorem Dev.wr_disclaims (d : Dev) (b : Blk) (i off : Nat) (v : W64) : (d.wr b i off v).disclaims = d.disclaims := rfl
@[simp] theorem Dev.wr_promoted (d : Dev) (b : Blk) (i off : Nat) (v : W64) : (d.wr b i off v).promoted = d.promoted := rfl
@[simp] theorem Dev.wr_zoneFails (d : Dev) (b : Blk) (i off : Nat) (v : W64) : (d.wr b i off v).zoneFails = d.zoneFails := rfl
@[simp] theorem Dev.wr_heatEpoch (d : Dev) (b : Blk) (i off : Nat) (v : W64) : (d.wr b i off v).heatEpoch = d.heatEpoch := rfl
@[simp] theorem Dev.wr_svcRes (d : Dev) (b : Blk) (i off : Nat) (v : W64) : (d.wr b i off v).svcRes = d.svcRes := rfl

/-! ## setFld -/

@[simp] theorem Dev.setFld_freeCtr (d : Dev) (b : Blk) (i off hi lo v : Nat) : (d.setFld b i off hi lo v).freeCtr = d.freeCtr := rfl
@[simp] theorem Dev.setFld_up (d : Dev) (b : Blk) (i off hi lo v : Nat) : (d.setFld b i off hi lo v).up = d.up := rfl
@[simp] theorem Dev.setFld_fab (d : Dev) (b : Blk) (i off hi lo v : Nat) : (d.setFld b i off hi lo v).fab = d.fab := rfl
@[simp] theorem Dev.setFld_regs (d : Dev) (b : Blk) (i off hi lo v : Nat) :
    (d.setFld b i off hi lo v).regs = Tab.set d.regs (Loc.addr ⟨b, i, off⟩) (putBits (d.rd b i off) hi lo v) := rfl
@[simp] theorem Dev.setFld_out (d : Dev) (b : Blk) (i off hi lo v : Nat) : (d.setFld b i off hi lo v).out = d.out := rfl
@[simp] theorem Dev.setFld_stands (d : Dev) (b : Blk) (i off hi lo v : Nat) : (d.setFld b i off hi lo v).stands = d.stands := rfl
@[simp] theorem Dev.setFld_cfgA (d : Dev) (b : Blk) (i off hi lo v : Nat) : (d.setFld b i off hi lo v).cfgA = d.cfgA := rfl
@[simp] theorem Dev.setFld_cfgB (d : Dev) (b : Blk) (i off hi lo v : Nat) : (d.setFld b i off hi lo v).cfgB = d.cfgB := rfl
@[simp] theorem Dev.setFld_cfg (d : Dev) (b : Blk) (i off hi lo v : Nat) : (d.setFld b i off hi lo v).cfg = d.cfg := rfl
@[simp] theorem Dev.setFld_cfgIsB (d : Dev) (b : Blk) (i off hi lo v : Nat) : (d.setFld b i off hi lo v).cfgIsB = d.cfgIsB := rfl
@[simp] theorem Dev.setFld_fences (d : Dev) (b : Blk) (i off hi lo v : Nat) : (d.setFld b i off hi lo v).fences = d.fences := rfl
@[simp] theorem Dev.setFld_react (d : Dev) (b : Blk) (i off hi lo v : Nat) : (d.setFld b i off hi lo v).react = d.react := rfl
@[simp] theorem Dev.setFld_invCause (d : Dev) (b : Blk) (i off hi lo v : Nat) : (d.setFld b i off hi lo v).invCause = d.invCause := rfl
@[simp] theorem Dev.setFld_invTaken (d : Dev) (b : Blk) (i off hi lo v : Nat) : (d.setFld b i off hi lo v).invTaken = d.invTaken := rfl
@[simp] theorem Dev.setFld_halted (d : Dev) (b : Blk) (i off hi lo v : Nat) : (d.setFld b i off hi lo v).halted = d.halted := rfl
@[simp] theorem Dev.setFld_ptlQ (d : Dev) (b : Blk) (i off hi lo v : Nat) : (d.setFld b i off hi lo v).ptlQ = d.ptlQ := rfl
@[simp] theorem Dev.setFld_ptlRun (d : Dev) (b : Blk) (i off hi lo v : Nat) : (d.setFld b i off hi lo v).ptlRun = d.ptlRun := rfl
@[simp] theorem Dev.setFld_ptlHist (d : Dev) (b : Blk) (i off hi lo v : Nat) : (d.setFld b i off hi lo v).ptlHist = d.ptlHist := rfl
@[simp] theorem Dev.setFld_warn (d : Dev) (b : Blk) (i off hi lo v : Nat) : (d.setFld b i off hi lo v).warn = d.warn := rfl
@[simp] theorem Dev.setFld_goodRun (d : Dev) (b : Blk) (i off hi lo v : Nat) : (d.setFld b i off hi lo v).goodRun = d.goodRun := rfl
@[simp] theorem Dev.setFld_thermL (d : Dev) (b : Blk) (i off hi lo v : Nat) : (d.setFld b i off hi lo v).thermL = d.thermL := rfl
@[simp] theorem Dev.setFld_avsWait (d : Dev) (b : Blk) (i off hi lo v : Nat) : (d.setFld b i off hi lo v).avsWait = d.avsWait := rfl
@[simp] theorem Dev.setFld_avsPoint (d : Dev) (b : Blk) (i off hi lo v : Nat) : (d.setFld b i off hi lo v).avsPoint = d.avsPoint := rfl
@[simp] theorem Dev.setFld_avsLate (d : Dev) (b : Blk) (i off hi lo v : Nat) : (d.setFld b i off hi lo v).avsLate = d.avsLate := rfl
@[simp] theorem Dev.setFld_rails (d : Dev) (b : Blk) (i off hi lo v : Nat) : (d.setFld b i off hi lo v).rails = d.rails := rfl
@[simp] theorem Dev.setFld_lpEnter (d : Dev) (b : Blk) (i off hi lo v : Nat) : (d.setFld b i off hi lo v).lpEnter = d.lpEnter := rfl
@[simp] theorem Dev.setFld_off (d : Dev) (b : Blk) (i off hi lo v : Nat) : (d.setFld b i off hi lo v).off = d.off := rfl
@[simp] theorem Dev.setFld_inS4 (d : Dev) (b : Blk) (i off hi lo v : Nat) : (d.setFld b i off hi lo v).inS4 = d.inS4 := rfl
@[simp] theorem Dev.setFld_temps (d : Dev) (b : Blk) (i off hi lo v : Nat) : (d.setFld b i off hi lo v).temps = d.temps := rfl
@[simp] theorem Dev.setFld_cellRst (d : Dev) (b : Blk) (i off hi lo v : Nat) : (d.setFld b i off hi lo v).cellRst = d.cellRst := rfl
@[simp] theorem Dev.setFld_warm (d : Dev) (b : Blk) (i off hi lo v : Nat) : (d.setFld b i off hi lo v).warm = d.warm := rfl
@[simp] theorem Dev.setFld_resetQ (d : Dev) (b : Blk) (i off hi lo v : Nat) : (d.setFld b i off hi lo v).resetQ = d.resetQ := rfl
@[simp] theorem Dev.setFld_board (d : Dev) (b : Blk) (i off hi lo v : Nat) : (d.setFld b i off hi lo v).board = d.board := rfl
@[simp] theorem Dev.setFld_mgmt (d : Dev) (b : Blk) (i off hi lo v : Nat) : (d.setFld b i off hi lo v).mgmt = d.mgmt := rfl
@[simp] theorem Dev.setFld_doing (d : Dev) (b : Blk) (i off hi lo v : Nat) : (d.setFld b i off hi lo v).doing = d.doing := rfl
@[simp] theorem Dev.setFld_hq (d : Dev) (b : Blk) (i off hi lo v : Nat) : (d.setFld b i off hi lo v).hq = d.hq := rfl
@[simp] theorem Dev.setFld_msix (d : Dev) (b : Blk) (i off hi lo v : Nat) : (d.setFld b i off hi lo v).msix = d.msix := rfl
@[simp] theorem Dev.setFld_fns (d : Dev) (b : Blk) (i off hi lo v : Nat) : (d.setFld b i off hi lo v).fns = d.fns := rfl
@[simp] theorem Dev.setFld_dma (d : Dev) (b : Blk) (i off hi lo v : Nat) : (d.setFld b i off hi lo v).dma = d.dma := rfl
@[simp] theorem Dev.setFld_dmaNext (d : Dev) (b : Blk) (i off hi lo v : Nat) : (d.setFld b i off hi lo v).dmaNext = d.dmaNext := rfl
@[simp] theorem Dev.setFld_profiles (d : Dev) (b : Blk) (i off hi lo v : Nat) : (d.setFld b i off hi lo v).profiles = d.profiles := rfl
@[simp] theorem Dev.setFld_dir (d : Dev) (b : Blk) (i off hi lo v : Nat) : (d.setFld b i off hi lo v).dir = d.dir := rfl
@[simp] theorem Dev.setFld_shadow (d : Dev) (b : Blk) (i off hi lo v : Nat) : (d.setFld b i off hi lo v).shadow = d.shadow := rfl
@[simp] theorem Dev.setFld_dirOps (d : Dev) (b : Blk) (i off hi lo v : Nat) : (d.setFld b i off hi lo v).dirOps = d.dirOps := rfl
@[simp] theorem Dev.setFld_svc (d : Dev) (b : Blk) (i off hi lo v : Nat) : (d.setFld b i off hi lo v).svc = d.svc := rfl
@[simp] theorem Dev.setFld_svcUsed (d : Dev) (b : Blk) (i off hi lo v : Nat) : (d.setFld b i off hi lo v).svcUsed = d.svcUsed := rfl
@[simp] theorem Dev.setFld_pins (d : Dev) (b : Blk) (i off hi lo v : Nat) : (d.setFld b i off hi lo v).pins = d.pins := rfl
@[simp] theorem Dev.setFld_pinNext (d : Dev) (b : Blk) (i off hi lo v : Nat) : (d.setFld b i off hi lo v).pinNext = d.pinNext := rfl
@[simp] theorem Dev.setFld_oldGens (d : Dev) (b : Blk) (i off hi lo v : Nat) : (d.setFld b i off hi lo v).oldGens = d.oldGens := rfl
@[simp] theorem Dev.setFld_held (d : Dev) (b : Blk) (i off hi lo v : Nat) : (d.setFld b i off hi lo v).held = d.held := rfl
@[simp] theorem Dev.setFld_lateFree (d : Dev) (b : Blk) (i off hi lo v : Nat) : (d.setFld b i off hi lo v).lateFree = d.lateFree := rfl
@[simp] theorem Dev.setFld_pages (d : Dev) (b : Blk) (i off hi lo v : Nat) : (d.setFld b i off hi lo v).pages = d.pages := rfl
@[simp] theorem Dev.setFld_mem (d : Dev) (b : Blk) (i off hi lo v : Nat) : (d.setFld b i off hi lo v).mem = d.mem := rfl
@[simp] theorem Dev.setFld_runs (d : Dev) (b : Blk) (i off hi lo v : Nat) : (d.setFld b i off hi lo v).runs = d.runs := rfl
@[simp] theorem Dev.setFld_slots (d : Dev) (b : Blk) (i off hi lo v : Nat) : (d.setFld b i off hi lo v).slots = d.slots := rfl
@[simp] theorem Dev.setFld_moves (d : Dev) (b : Blk) (i off hi lo v : Nat) : (d.setFld b i off hi lo v).moves = d.moves := rfl
@[simp] theorem Dev.setFld_migrs (d : Dev) (b : Blk) (i off hi lo v : Nat) : (d.setFld b i off hi lo v).migrs = d.migrs := rfl
@[simp] theorem Dev.setFld_migNext (d : Dev) (b : Blk) (i off hi lo v : Nat) : (d.setFld b i off hi lo v).migNext = d.migNext := rfl
@[simp] theorem Dev.setFld_promos (d : Dev) (b : Blk) (i off hi lo v : Nat) : (d.setFld b i off hi lo v).promos = d.promos := rfl
@[simp] theorem Dev.setFld_recodes (d : Dev) (b : Blk) (i off hi lo v : Nat) : (d.setFld b i off hi lo v).recodes = d.recodes := rfl
@[simp] theorem Dev.setFld_images (d : Dev) (b : Blk) (i off hi lo v : Nat) : (d.setFld b i off hi lo v).images = d.images := rfl
@[simp] theorem Dev.setFld_imgNext (d : Dev) (b : Blk) (i off hi lo v : Nat) : (d.setFld b i off hi lo v).imgNext = d.imgNext := rfl
@[simp] theorem Dev.setFld_slotImg (d : Dev) (b : Blk) (i off hi lo v : Nat) : (d.setFld b i off hi lo v).slotImg = d.slotImg := rfl
@[simp] theorem Dev.setFld_cores (d : Dev) (b : Blk) (i off hi lo v : Nat) : (d.setFld b i off hi lo v).cores = d.cores := rfl
@[simp] theorem Dev.setFld_threads (d : Dev) (b : Blk) (i off hi lo v : Nat) : (d.setFld b i off hi lo v).threads = d.threads := rfl
@[simp] theorem Dev.setFld_blazes (d : Dev) (b : Blk) (i off hi lo v : Nat) : (d.setFld b i off hi lo v).blazes = d.blazes := rfl
@[simp] theorem Dev.setFld_stage (d : Dev) (b : Blk) (i off hi lo v : Nat) : (d.setFld b i off hi lo v).stage = d.stage := rfl
@[simp] theorem Dev.setFld_stageAreas (d : Dev) (b : Blk) (i off hi lo v : Nat) : (d.setFld b i off hi lo v).stageAreas = d.stageAreas := rfl
@[simp] theorem Dev.setFld_stageRegion (d : Dev) (b : Blk) (i off hi lo v : Nat) : (d.setFld b i off hi lo v).stageRegion = d.stageRegion := rfl
@[simp] theorem Dev.setFld_orders (d : Dev) (b : Blk) (i off hi lo v : Nat) : (d.setFld b i off hi lo v).orders = d.orders := rfl
@[simp] theorem Dev.setFld_orderNext (d : Dev) (b : Blk) (i off hi lo v : Nat) : (d.setFld b i off hi lo v).orderNext = d.orderNext := rfl
@[simp] theorem Dev.setFld_subs (d : Dev) (b : Blk) (i off hi lo v : Nat) : (d.setFld b i off hi lo v).subs = d.subs := rfl
@[simp] theorem Dev.setFld_subNext (d : Dev) (b : Blk) (i off hi lo v : Nat) : (d.setFld b i off hi lo v).subNext = d.subNext := rfl
@[simp] theorem Dev.setFld_rings (d : Dev) (b : Blk) (i off hi lo v : Nat) : (d.setFld b i off hi lo v).rings = d.rings := rfl
@[simp] theorem Dev.setFld_wqs (d : Dev) (b : Blk) (i off hi lo v : Nat) : (d.setFld b i off hi lo v).wqs = d.wqs := rfl
@[simp] theorem Dev.setFld_merges (d : Dev) (b : Blk) (i off hi lo v : Nat) : (d.setFld b i off hi lo v).merges = d.merges := rfl
@[simp] theorem Dev.setFld_parts (d : Dev) (b : Blk) (i off hi lo v : Nat) : (d.setFld b i off hi lo v).parts = d.parts := rfl
@[simp] theorem Dev.setFld_partNext (d : Dev) (b : Blk) (i off hi lo v : Nat) : (d.setFld b i off hi lo v).partNext = d.partNext := rfl
@[simp] theorem Dev.setFld_tel (d : Dev) (b : Blk) (i off hi lo v : Nat) : (d.setFld b i off hi lo v).tel = d.tel := rfl
@[simp] theorem Dev.setFld_weights (d : Dev) (b : Blk) (i off hi lo v : Nat) : (d.setFld b i off hi lo v).weights = d.weights := rfl
@[simp] theorem Dev.setFld_scratches (d : Dev) (b : Blk) (i off hi lo v : Nat) : (d.setFld b i off hi lo v).scratches = d.scratches := rfl
@[simp] theorem Dev.setFld_nbprogs (d : Dev) (b : Blk) (i off hi lo v : Nat) : (d.setFld b i off hi lo v).nbprogs = d.nbprogs := rfl
@[simp] theorem Dev.setFld_nbNext (d : Dev) (b : Blk) (i off hi lo v : Nat) : (d.setFld b i off hi lo v).nbNext = d.nbNext := rfl
@[simp] theorem Dev.setFld_locals (d : Dev) (b : Blk) (i off hi lo v : Nat) : (d.setFld b i off hi lo v).locals = d.locals := rfl
@[simp] theorem Dev.setFld_slot4 (d : Dev) (b : Blk) (i off hi lo v : Nat) : (d.setFld b i off hi lo v).slot4 = d.slot4 := rfl
@[simp] theorem Dev.setFld_regionCmds (d : Dev) (b : Blk) (i off hi lo v : Nat) : (d.setFld b i off hi lo v).regionCmds = d.regionCmds := rfl
@[simp] theorem Dev.setFld_unloads (d : Dev) (b : Blk) (i off hi lo v : Nat) : (d.setFld b i off hi lo v).unloads = d.unloads := rfl
@[simp] theorem Dev.setFld_slices (d : Dev) (b : Blk) (i off hi lo v : Nat) : (d.setFld b i off hi lo v).slices = d.slices := rfl
@[simp] theorem Dev.setFld_copies (d : Dev) (b : Blk) (i off hi lo v : Nat) : (d.setFld b i off hi lo v).copies = d.copies := rfl
@[simp] theorem Dev.setFld_mirSeqs (d : Dev) (b : Blk) (i off hi lo v : Nat) : (d.setFld b i off hi lo v).mirSeqs = d.mirSeqs := rfl
@[simp] theorem Dev.setFld_lendIn (d : Dev) (b : Blk) (i off hi lo v : Nat) : (d.setFld b i off hi lo v).lendIn = d.lendIn := rfl
@[simp] theorem Dev.setFld_lendOut (d : Dev) (b : Blk) (i off hi lo v : Nat) : (d.setFld b i off hi lo v).lendOut = d.lendOut := rfl
@[simp] theorem Dev.setFld_ports (d : Dev) (b : Blk) (i off hi lo v : Nat) : (d.setFld b i off hi lo v).ports = d.ports := rfl
@[simp] theorem Dev.setFld_egress (d : Dev) (b : Blk) (i off hi lo v : Nat) : (d.setFld b i off hi lo v).egress = d.egress := rfl
@[simp] theorem Dev.setFld_scheds (d : Dev) (b : Blk) (i off hi lo v : Nat) : (d.setFld b i off hi lo v).scheds = d.scheds := rfl
@[simp] theorem Dev.setFld_conns (d : Dev) (b : Blk) (i off hi lo v : Nat) : (d.setFld b i off hi lo v).conns = d.conns := rfl
@[simp] theorem Dev.setFld_tracts (d : Dev) (b : Blk) (i off hi lo v : Nat) : (d.setFld b i off hi lo v).tracts = d.tracts := rfl
@[simp] theorem Dev.setFld_opNext (d : Dev) (b : Blk) (i off hi lo v : Nat) : (d.setFld b i off hi lo v).opNext = d.opNext := rfl
@[simp] theorem Dev.setFld_msgEnds (d : Dev) (b : Blk) (i off hi lo v : Nat) : (d.setFld b i off hi lo v).msgEnds = d.msgEnds := rfl
@[simp] theorem Dev.setFld_slew (d : Dev) (b : Blk) (i off hi lo v : Nat) : (d.setFld b i off hi lo v).slew = d.slew := rfl
@[simp] theorem Dev.setFld_slewAcc (d : Dev) (b : Blk) (i off hi lo v : Nat) : (d.setFld b i off hi lo v).slewAcc = d.slewAcc := rfl
@[simp] theorem Dev.setFld_lockRun (d : Dev) (b : Blk) (i off hi lo v : Nat) : (d.setFld b i off hi lo v).lockRun = d.lockRun := rfl
@[simp] theorem Dev.setFld_ppsRun (d : Dev) (b : Blk) (i off hi lo v : Nat) : (d.setFld b i off hi lo v).ppsRun = d.ppsRun := rfl
@[simp] theorem Dev.setFld_telInt (d : Dev) (b : Blk) (i off hi lo v : Nat) : (d.setFld b i off hi lo v).telInt = d.telInt := rfl
@[simp] theorem Dev.setFld_telOk (d : Dev) (b : Blk) (i off hi lo v : Nat) : (d.setFld b i off hi lo v).telOk = d.telOk := rfl
@[simp] theorem Dev.setFld_telHold (d : Dev) (b : Blk) (i off hi lo v : Nat) : (d.setFld b i off hi lo v).telHold = d.telHold := rfl
@[simp] theorem Dev.setFld_telStep (d : Dev) (b : Blk) (i off hi lo v : Nat) : (d.setFld b i off hi lo v).telStep = d.telStep := rfl
@[simp] theorem Dev.setFld_telOn (d : Dev) (b : Blk) (i off hi lo v : Nat) : (d.setFld b i off hi lo v).telOn = d.telOn := rfl
@[simp] theorem Dev.setFld_telQ (d : Dev) (b : Blk) (i off hi lo v : Nat) : (d.setFld b i off hi lo v).telQ = d.telQ := rfl
@[simp] theorem Dev.setFld_slotId (d : Dev) (b : Blk) (i off hi lo v : Nat) : (d.setFld b i off hi lo v).slotId = d.slotId := rfl
@[simp] theorem Dev.setFld_standbyEpoch (d : Dev) (b : Blk) (i off hi lo v : Nat) : (d.setFld b i off hi lo v).standbyEpoch = d.standbyEpoch := rfl
@[simp] theorem Dev.setFld_lastAdv (d : Dev) (b : Blk) (i off hi lo v : Nat) : (d.setFld b i off hi lo v).lastAdv = d.lastAdv := rfl
@[simp] theorem Dev.setFld_version (d : Dev) (b : Blk) (i off hi lo v : Nat) : (d.setFld b i off hi lo v).version = d.version := rfl
@[simp] theorem Dev.setFld_cruiseIn (d : Dev) (b : Blk) (i off hi lo v : Nat) : (d.setFld b i off hi lo v).cruiseIn = d.cruiseIn := rfl
@[simp] theorem Dev.setFld_lendAsk (d : Dev) (b : Blk) (i off hi lo v : Nat) : (d.setFld b i off hi lo v).lendAsk = d.lendAsk := rfl
@[simp] theorem Dev.setFld_seenMsgs (d : Dev) (b : Blk) (i off hi lo v : Nat) : (d.setFld b i off hi lo v).seenMsgs = d.seenMsgs := rfl
@[simp] theorem Dev.setFld_rowMap (d : Dev) (b : Blk) (i off hi lo v : Nat) : (d.setFld b i off hi lo v).rowMap = d.rowMap := rfl
@[simp] theorem Dev.setFld_rowSums (d : Dev) (b : Blk) (i off hi lo v : Nat) : (d.setFld b i off hi lo v).rowSums = d.rowSums := rfl
@[simp] theorem Dev.setFld_failed (d : Dev) (b : Blk) (i off hi lo v : Nat) : (d.setFld b i off hi lo v).failed = d.failed := rfl
@[simp] theorem Dev.setFld_downLinks (d : Dev) (b : Blk) (i off hi lo v : Nat) : (d.setFld b i off hi lo v).downLinks = d.downLinks := rfl
@[simp] theorem Dev.setFld_disclaims (d : Dev) (b : Blk) (i off hi lo v : Nat) : (d.setFld b i off hi lo v).disclaims = d.disclaims := rfl
@[simp] theorem Dev.setFld_promoted (d : Dev) (b : Blk) (i off hi lo v : Nat) : (d.setFld b i off hi lo v).promoted = d.promoted := rfl
@[simp] theorem Dev.setFld_zoneFails (d : Dev) (b : Blk) (i off hi lo v : Nat) : (d.setFld b i off hi lo v).zoneFails = d.zoneFails := rfl
@[simp] theorem Dev.setFld_heatEpoch (d : Dev) (b : Blk) (i off hi lo v : Nat) : (d.setFld b i off hi lo v).heatEpoch = d.heatEpoch := rfl
@[simp] theorem Dev.setFld_svcRes (d : Dev) (b : Blk) (i off hi lo v : Nat) : (d.setFld b i off hi lo v).svcRes = d.svcRes := rfl

/-! ## setThr -/

@[simp] theorem Dev.setThr_freeCtr (d : Dev) (t : Nat) (x : Thread) : (d.setThr t x).freeCtr = d.freeCtr := rfl
@[simp] theorem Dev.setThr_up (d : Dev) (t : Nat) (x : Thread) : (d.setThr t x).up = d.up := rfl
@[simp] theorem Dev.setThr_fab (d : Dev) (t : Nat) (x : Thread) : (d.setThr t x).fab = d.fab := rfl
@[simp] theorem Dev.setThr_regs (d : Dev) (t : Nat) (x : Thread) : (d.setThr t x).regs = d.regs := rfl
@[simp] theorem Dev.setThr_out (d : Dev) (t : Nat) (x : Thread) : (d.setThr t x).out = d.out := rfl
@[simp] theorem Dev.setThr_stands (d : Dev) (t : Nat) (x : Thread) : (d.setThr t x).stands = d.stands := rfl
@[simp] theorem Dev.setThr_cfgA (d : Dev) (t : Nat) (x : Thread) : (d.setThr t x).cfgA = d.cfgA := rfl
@[simp] theorem Dev.setThr_cfgB (d : Dev) (t : Nat) (x : Thread) : (d.setThr t x).cfgB = d.cfgB := rfl
@[simp] theorem Dev.setThr_cfg (d : Dev) (t : Nat) (x : Thread) : (d.setThr t x).cfg = d.cfg := rfl
@[simp] theorem Dev.setThr_cfgIsB (d : Dev) (t : Nat) (x : Thread) : (d.setThr t x).cfgIsB = d.cfgIsB := rfl
@[simp] theorem Dev.setThr_fences (d : Dev) (t : Nat) (x : Thread) : (d.setThr t x).fences = d.fences := rfl
@[simp] theorem Dev.setThr_react (d : Dev) (t : Nat) (x : Thread) : (d.setThr t x).react = d.react := rfl
@[simp] theorem Dev.setThr_invCause (d : Dev) (t : Nat) (x : Thread) : (d.setThr t x).invCause = d.invCause := rfl
@[simp] theorem Dev.setThr_invTaken (d : Dev) (t : Nat) (x : Thread) : (d.setThr t x).invTaken = d.invTaken := rfl
@[simp] theorem Dev.setThr_halted (d : Dev) (t : Nat) (x : Thread) : (d.setThr t x).halted = d.halted := rfl
@[simp] theorem Dev.setThr_ptlQ (d : Dev) (t : Nat) (x : Thread) : (d.setThr t x).ptlQ = d.ptlQ := rfl
@[simp] theorem Dev.setThr_ptlRun (d : Dev) (t : Nat) (x : Thread) : (d.setThr t x).ptlRun = d.ptlRun := rfl
@[simp] theorem Dev.setThr_ptlHist (d : Dev) (t : Nat) (x : Thread) : (d.setThr t x).ptlHist = d.ptlHist := rfl
@[simp] theorem Dev.setThr_warn (d : Dev) (t : Nat) (x : Thread) : (d.setThr t x).warn = d.warn := rfl
@[simp] theorem Dev.setThr_goodRun (d : Dev) (t : Nat) (x : Thread) : (d.setThr t x).goodRun = d.goodRun := rfl
@[simp] theorem Dev.setThr_thermL (d : Dev) (t : Nat) (x : Thread) : (d.setThr t x).thermL = d.thermL := rfl
@[simp] theorem Dev.setThr_avsWait (d : Dev) (t : Nat) (x : Thread) : (d.setThr t x).avsWait = d.avsWait := rfl
@[simp] theorem Dev.setThr_avsPoint (d : Dev) (t : Nat) (x : Thread) : (d.setThr t x).avsPoint = d.avsPoint := rfl
@[simp] theorem Dev.setThr_avsLate (d : Dev) (t : Nat) (x : Thread) : (d.setThr t x).avsLate = d.avsLate := rfl
@[simp] theorem Dev.setThr_rails (d : Dev) (t : Nat) (x : Thread) : (d.setThr t x).rails = d.rails := rfl
@[simp] theorem Dev.setThr_lpEnter (d : Dev) (t : Nat) (x : Thread) : (d.setThr t x).lpEnter = d.lpEnter := rfl
@[simp] theorem Dev.setThr_off (d : Dev) (t : Nat) (x : Thread) : (d.setThr t x).off = d.off := rfl
@[simp] theorem Dev.setThr_inS4 (d : Dev) (t : Nat) (x : Thread) : (d.setThr t x).inS4 = d.inS4 := rfl
@[simp] theorem Dev.setThr_temps (d : Dev) (t : Nat) (x : Thread) : (d.setThr t x).temps = d.temps := rfl
@[simp] theorem Dev.setThr_cellRst (d : Dev) (t : Nat) (x : Thread) : (d.setThr t x).cellRst = d.cellRst := rfl
@[simp] theorem Dev.setThr_warm (d : Dev) (t : Nat) (x : Thread) : (d.setThr t x).warm = d.warm := rfl
@[simp] theorem Dev.setThr_resetQ (d : Dev) (t : Nat) (x : Thread) : (d.setThr t x).resetQ = d.resetQ := rfl
@[simp] theorem Dev.setThr_board (d : Dev) (t : Nat) (x : Thread) : (d.setThr t x).board = d.board := rfl
@[simp] theorem Dev.setThr_mgmt (d : Dev) (t : Nat) (x : Thread) : (d.setThr t x).mgmt = d.mgmt := rfl
@[simp] theorem Dev.setThr_doing (d : Dev) (t : Nat) (x : Thread) : (d.setThr t x).doing = d.doing := rfl
@[simp] theorem Dev.setThr_hq (d : Dev) (t : Nat) (x : Thread) : (d.setThr t x).hq = d.hq := rfl
@[simp] theorem Dev.setThr_msix (d : Dev) (t : Nat) (x : Thread) : (d.setThr t x).msix = d.msix := rfl
@[simp] theorem Dev.setThr_fns (d : Dev) (t : Nat) (x : Thread) : (d.setThr t x).fns = d.fns := rfl
@[simp] theorem Dev.setThr_dma (d : Dev) (t : Nat) (x : Thread) : (d.setThr t x).dma = d.dma := rfl
@[simp] theorem Dev.setThr_dmaNext (d : Dev) (t : Nat) (x : Thread) : (d.setThr t x).dmaNext = d.dmaNext := rfl
@[simp] theorem Dev.setThr_profiles (d : Dev) (t : Nat) (x : Thread) : (d.setThr t x).profiles = d.profiles := rfl
@[simp] theorem Dev.setThr_dir (d : Dev) (t : Nat) (x : Thread) : (d.setThr t x).dir = d.dir := rfl
@[simp] theorem Dev.setThr_shadow (d : Dev) (t : Nat) (x : Thread) : (d.setThr t x).shadow = d.shadow := rfl
@[simp] theorem Dev.setThr_dirOps (d : Dev) (t : Nat) (x : Thread) : (d.setThr t x).dirOps = d.dirOps := rfl
@[simp] theorem Dev.setThr_svc (d : Dev) (t : Nat) (x : Thread) : (d.setThr t x).svc = d.svc := rfl
@[simp] theorem Dev.setThr_svcUsed (d : Dev) (t : Nat) (x : Thread) : (d.setThr t x).svcUsed = d.svcUsed := rfl
@[simp] theorem Dev.setThr_pins (d : Dev) (t : Nat) (x : Thread) : (d.setThr t x).pins = d.pins := rfl
@[simp] theorem Dev.setThr_pinNext (d : Dev) (t : Nat) (x : Thread) : (d.setThr t x).pinNext = d.pinNext := rfl
@[simp] theorem Dev.setThr_oldGens (d : Dev) (t : Nat) (x : Thread) : (d.setThr t x).oldGens = d.oldGens := rfl
@[simp] theorem Dev.setThr_held (d : Dev) (t : Nat) (x : Thread) : (d.setThr t x).held = d.held := rfl
@[simp] theorem Dev.setThr_lateFree (d : Dev) (t : Nat) (x : Thread) : (d.setThr t x).lateFree = d.lateFree := rfl
@[simp] theorem Dev.setThr_pages (d : Dev) (t : Nat) (x : Thread) : (d.setThr t x).pages = d.pages := rfl
@[simp] theorem Dev.setThr_mem (d : Dev) (t : Nat) (x : Thread) : (d.setThr t x).mem = d.mem := rfl
@[simp] theorem Dev.setThr_runs (d : Dev) (t : Nat) (x : Thread) : (d.setThr t x).runs = d.runs := rfl
@[simp] theorem Dev.setThr_slots (d : Dev) (t : Nat) (x : Thread) : (d.setThr t x).slots = d.slots := rfl
@[simp] theorem Dev.setThr_moves (d : Dev) (t : Nat) (x : Thread) : (d.setThr t x).moves = d.moves := rfl
@[simp] theorem Dev.setThr_migrs (d : Dev) (t : Nat) (x : Thread) : (d.setThr t x).migrs = d.migrs := rfl
@[simp] theorem Dev.setThr_migNext (d : Dev) (t : Nat) (x : Thread) : (d.setThr t x).migNext = d.migNext := rfl
@[simp] theorem Dev.setThr_promos (d : Dev) (t : Nat) (x : Thread) : (d.setThr t x).promos = d.promos := rfl
@[simp] theorem Dev.setThr_recodes (d : Dev) (t : Nat) (x : Thread) : (d.setThr t x).recodes = d.recodes := rfl
@[simp] theorem Dev.setThr_images (d : Dev) (t : Nat) (x : Thread) : (d.setThr t x).images = d.images := rfl
@[simp] theorem Dev.setThr_imgNext (d : Dev) (t : Nat) (x : Thread) : (d.setThr t x).imgNext = d.imgNext := rfl
@[simp] theorem Dev.setThr_slotImg (d : Dev) (t : Nat) (x : Thread) : (d.setThr t x).slotImg = d.slotImg := rfl
@[simp] theorem Dev.setThr_cores (d : Dev) (t : Nat) (x : Thread) : (d.setThr t x).cores = d.cores := rfl
@[simp] theorem Dev.setThr_threads (d : Dev) (t : Nat) (x : Thread) : (d.setThr t x).threads = Tab.set d.threads t x := rfl
@[simp] theorem Dev.setThr_blazes (d : Dev) (t : Nat) (x : Thread) : (d.setThr t x).blazes = d.blazes := rfl
@[simp] theorem Dev.setThr_stage (d : Dev) (t : Nat) (x : Thread) : (d.setThr t x).stage = d.stage := rfl
@[simp] theorem Dev.setThr_stageAreas (d : Dev) (t : Nat) (x : Thread) : (d.setThr t x).stageAreas = d.stageAreas := rfl
@[simp] theorem Dev.setThr_stageRegion (d : Dev) (t : Nat) (x : Thread) : (d.setThr t x).stageRegion = d.stageRegion := rfl
@[simp] theorem Dev.setThr_orders (d : Dev) (t : Nat) (x : Thread) : (d.setThr t x).orders = d.orders := rfl
@[simp] theorem Dev.setThr_orderNext (d : Dev) (t : Nat) (x : Thread) : (d.setThr t x).orderNext = d.orderNext := rfl
@[simp] theorem Dev.setThr_subs (d : Dev) (t : Nat) (x : Thread) : (d.setThr t x).subs = d.subs := rfl
@[simp] theorem Dev.setThr_subNext (d : Dev) (t : Nat) (x : Thread) : (d.setThr t x).subNext = d.subNext := rfl
@[simp] theorem Dev.setThr_rings (d : Dev) (t : Nat) (x : Thread) : (d.setThr t x).rings = d.rings := rfl
@[simp] theorem Dev.setThr_wqs (d : Dev) (t : Nat) (x : Thread) : (d.setThr t x).wqs = d.wqs := rfl
@[simp] theorem Dev.setThr_merges (d : Dev) (t : Nat) (x : Thread) : (d.setThr t x).merges = d.merges := rfl
@[simp] theorem Dev.setThr_parts (d : Dev) (t : Nat) (x : Thread) : (d.setThr t x).parts = d.parts := rfl
@[simp] theorem Dev.setThr_partNext (d : Dev) (t : Nat) (x : Thread) : (d.setThr t x).partNext = d.partNext := rfl
@[simp] theorem Dev.setThr_tel (d : Dev) (t : Nat) (x : Thread) : (d.setThr t x).tel = d.tel := rfl
@[simp] theorem Dev.setThr_weights (d : Dev) (t : Nat) (x : Thread) : (d.setThr t x).weights = d.weights := rfl
@[simp] theorem Dev.setThr_scratches (d : Dev) (t : Nat) (x : Thread) : (d.setThr t x).scratches = d.scratches := rfl
@[simp] theorem Dev.setThr_nbprogs (d : Dev) (t : Nat) (x : Thread) : (d.setThr t x).nbprogs = d.nbprogs := rfl
@[simp] theorem Dev.setThr_nbNext (d : Dev) (t : Nat) (x : Thread) : (d.setThr t x).nbNext = d.nbNext := rfl
@[simp] theorem Dev.setThr_locals (d : Dev) (t : Nat) (x : Thread) : (d.setThr t x).locals = d.locals := rfl
@[simp] theorem Dev.setThr_slot4 (d : Dev) (t : Nat) (x : Thread) : (d.setThr t x).slot4 = d.slot4 := rfl
@[simp] theorem Dev.setThr_regionCmds (d : Dev) (t : Nat) (x : Thread) : (d.setThr t x).regionCmds = d.regionCmds := rfl
@[simp] theorem Dev.setThr_unloads (d : Dev) (t : Nat) (x : Thread) : (d.setThr t x).unloads = d.unloads := rfl
@[simp] theorem Dev.setThr_slices (d : Dev) (t : Nat) (x : Thread) : (d.setThr t x).slices = d.slices := rfl
@[simp] theorem Dev.setThr_copies (d : Dev) (t : Nat) (x : Thread) : (d.setThr t x).copies = d.copies := rfl
@[simp] theorem Dev.setThr_mirSeqs (d : Dev) (t : Nat) (x : Thread) : (d.setThr t x).mirSeqs = d.mirSeqs := rfl
@[simp] theorem Dev.setThr_lendIn (d : Dev) (t : Nat) (x : Thread) : (d.setThr t x).lendIn = d.lendIn := rfl
@[simp] theorem Dev.setThr_lendOut (d : Dev) (t : Nat) (x : Thread) : (d.setThr t x).lendOut = d.lendOut := rfl
@[simp] theorem Dev.setThr_ports (d : Dev) (t : Nat) (x : Thread) : (d.setThr t x).ports = d.ports := rfl
@[simp] theorem Dev.setThr_egress (d : Dev) (t : Nat) (x : Thread) : (d.setThr t x).egress = d.egress := rfl
@[simp] theorem Dev.setThr_scheds (d : Dev) (t : Nat) (x : Thread) : (d.setThr t x).scheds = d.scheds := rfl
@[simp] theorem Dev.setThr_conns (d : Dev) (t : Nat) (x : Thread) : (d.setThr t x).conns = d.conns := rfl
@[simp] theorem Dev.setThr_tracts (d : Dev) (t : Nat) (x : Thread) : (d.setThr t x).tracts = d.tracts := rfl
@[simp] theorem Dev.setThr_opNext (d : Dev) (t : Nat) (x : Thread) : (d.setThr t x).opNext = d.opNext := rfl
@[simp] theorem Dev.setThr_msgEnds (d : Dev) (t : Nat) (x : Thread) : (d.setThr t x).msgEnds = d.msgEnds := rfl
@[simp] theorem Dev.setThr_slew (d : Dev) (t : Nat) (x : Thread) : (d.setThr t x).slew = d.slew := rfl
@[simp] theorem Dev.setThr_slewAcc (d : Dev) (t : Nat) (x : Thread) : (d.setThr t x).slewAcc = d.slewAcc := rfl
@[simp] theorem Dev.setThr_lockRun (d : Dev) (t : Nat) (x : Thread) : (d.setThr t x).lockRun = d.lockRun := rfl
@[simp] theorem Dev.setThr_ppsRun (d : Dev) (t : Nat) (x : Thread) : (d.setThr t x).ppsRun = d.ppsRun := rfl
@[simp] theorem Dev.setThr_telInt (d : Dev) (t : Nat) (x : Thread) : (d.setThr t x).telInt = d.telInt := rfl
@[simp] theorem Dev.setThr_telOk (d : Dev) (t : Nat) (x : Thread) : (d.setThr t x).telOk = d.telOk := rfl
@[simp] theorem Dev.setThr_telHold (d : Dev) (t : Nat) (x : Thread) : (d.setThr t x).telHold = d.telHold := rfl
@[simp] theorem Dev.setThr_telStep (d : Dev) (t : Nat) (x : Thread) : (d.setThr t x).telStep = d.telStep := rfl
@[simp] theorem Dev.setThr_telOn (d : Dev) (t : Nat) (x : Thread) : (d.setThr t x).telOn = d.telOn := rfl
@[simp] theorem Dev.setThr_telQ (d : Dev) (t : Nat) (x : Thread) : (d.setThr t x).telQ = d.telQ := rfl
@[simp] theorem Dev.setThr_slotId (d : Dev) (t : Nat) (x : Thread) : (d.setThr t x).slotId = d.slotId := rfl
@[simp] theorem Dev.setThr_standbyEpoch (d : Dev) (t : Nat) (x : Thread) : (d.setThr t x).standbyEpoch = d.standbyEpoch := rfl
@[simp] theorem Dev.setThr_lastAdv (d : Dev) (t : Nat) (x : Thread) : (d.setThr t x).lastAdv = d.lastAdv := rfl
@[simp] theorem Dev.setThr_version (d : Dev) (t : Nat) (x : Thread) : (d.setThr t x).version = d.version := rfl
@[simp] theorem Dev.setThr_cruiseIn (d : Dev) (t : Nat) (x : Thread) : (d.setThr t x).cruiseIn = d.cruiseIn := rfl
@[simp] theorem Dev.setThr_lendAsk (d : Dev) (t : Nat) (x : Thread) : (d.setThr t x).lendAsk = d.lendAsk := rfl
@[simp] theorem Dev.setThr_seenMsgs (d : Dev) (t : Nat) (x : Thread) : (d.setThr t x).seenMsgs = d.seenMsgs := rfl
@[simp] theorem Dev.setThr_rowMap (d : Dev) (t : Nat) (x : Thread) : (d.setThr t x).rowMap = d.rowMap := rfl
@[simp] theorem Dev.setThr_rowSums (d : Dev) (t : Nat) (x : Thread) : (d.setThr t x).rowSums = d.rowSums := rfl
@[simp] theorem Dev.setThr_failed (d : Dev) (t : Nat) (x : Thread) : (d.setThr t x).failed = d.failed := rfl
@[simp] theorem Dev.setThr_downLinks (d : Dev) (t : Nat) (x : Thread) : (d.setThr t x).downLinks = d.downLinks := rfl
@[simp] theorem Dev.setThr_disclaims (d : Dev) (t : Nat) (x : Thread) : (d.setThr t x).disclaims = d.disclaims := rfl
@[simp] theorem Dev.setThr_promoted (d : Dev) (t : Nat) (x : Thread) : (d.setThr t x).promoted = d.promoted := rfl
@[simp] theorem Dev.setThr_zoneFails (d : Dev) (t : Nat) (x : Thread) : (d.setThr t x).zoneFails = d.zoneFails := rfl
@[simp] theorem Dev.setThr_heatEpoch (d : Dev) (t : Nat) (x : Thread) : (d.setThr t x).heatEpoch = d.heatEpoch := rfl
@[simp] theorem Dev.setThr_svcRes (d : Dev) (t : Nat) (x : Thread) : (d.setThr t x).svcRes = d.svcRes := rfl

/-! ## setCore -/

@[simp] theorem Dev.setCore_freeCtr (d : Dev) (k : Nat) (x : Core) : (d.setCore k x).freeCtr = d.freeCtr := rfl
@[simp] theorem Dev.setCore_up (d : Dev) (k : Nat) (x : Core) : (d.setCore k x).up = d.up := rfl
@[simp] theorem Dev.setCore_fab (d : Dev) (k : Nat) (x : Core) : (d.setCore k x).fab = d.fab := rfl
@[simp] theorem Dev.setCore_regs (d : Dev) (k : Nat) (x : Core) : (d.setCore k x).regs = d.regs := rfl
@[simp] theorem Dev.setCore_out (d : Dev) (k : Nat) (x : Core) : (d.setCore k x).out = d.out := rfl
@[simp] theorem Dev.setCore_stands (d : Dev) (k : Nat) (x : Core) : (d.setCore k x).stands = d.stands := rfl
@[simp] theorem Dev.setCore_cfgA (d : Dev) (k : Nat) (x : Core) : (d.setCore k x).cfgA = d.cfgA := rfl
@[simp] theorem Dev.setCore_cfgB (d : Dev) (k : Nat) (x : Core) : (d.setCore k x).cfgB = d.cfgB := rfl
@[simp] theorem Dev.setCore_cfg (d : Dev) (k : Nat) (x : Core) : (d.setCore k x).cfg = d.cfg := rfl
@[simp] theorem Dev.setCore_cfgIsB (d : Dev) (k : Nat) (x : Core) : (d.setCore k x).cfgIsB = d.cfgIsB := rfl
@[simp] theorem Dev.setCore_fences (d : Dev) (k : Nat) (x : Core) : (d.setCore k x).fences = d.fences := rfl
@[simp] theorem Dev.setCore_react (d : Dev) (k : Nat) (x : Core) : (d.setCore k x).react = d.react := rfl
@[simp] theorem Dev.setCore_invCause (d : Dev) (k : Nat) (x : Core) : (d.setCore k x).invCause = d.invCause := rfl
@[simp] theorem Dev.setCore_invTaken (d : Dev) (k : Nat) (x : Core) : (d.setCore k x).invTaken = d.invTaken := rfl
@[simp] theorem Dev.setCore_halted (d : Dev) (k : Nat) (x : Core) : (d.setCore k x).halted = d.halted := rfl
@[simp] theorem Dev.setCore_ptlQ (d : Dev) (k : Nat) (x : Core) : (d.setCore k x).ptlQ = d.ptlQ := rfl
@[simp] theorem Dev.setCore_ptlRun (d : Dev) (k : Nat) (x : Core) : (d.setCore k x).ptlRun = d.ptlRun := rfl
@[simp] theorem Dev.setCore_ptlHist (d : Dev) (k : Nat) (x : Core) : (d.setCore k x).ptlHist = d.ptlHist := rfl
@[simp] theorem Dev.setCore_warn (d : Dev) (k : Nat) (x : Core) : (d.setCore k x).warn = d.warn := rfl
@[simp] theorem Dev.setCore_goodRun (d : Dev) (k : Nat) (x : Core) : (d.setCore k x).goodRun = d.goodRun := rfl
@[simp] theorem Dev.setCore_thermL (d : Dev) (k : Nat) (x : Core) : (d.setCore k x).thermL = d.thermL := rfl
@[simp] theorem Dev.setCore_avsWait (d : Dev) (k : Nat) (x : Core) : (d.setCore k x).avsWait = d.avsWait := rfl
@[simp] theorem Dev.setCore_avsPoint (d : Dev) (k : Nat) (x : Core) : (d.setCore k x).avsPoint = d.avsPoint := rfl
@[simp] theorem Dev.setCore_avsLate (d : Dev) (k : Nat) (x : Core) : (d.setCore k x).avsLate = d.avsLate := rfl
@[simp] theorem Dev.setCore_rails (d : Dev) (k : Nat) (x : Core) : (d.setCore k x).rails = d.rails := rfl
@[simp] theorem Dev.setCore_lpEnter (d : Dev) (k : Nat) (x : Core) : (d.setCore k x).lpEnter = d.lpEnter := rfl
@[simp] theorem Dev.setCore_off (d : Dev) (k : Nat) (x : Core) : (d.setCore k x).off = d.off := rfl
@[simp] theorem Dev.setCore_inS4 (d : Dev) (k : Nat) (x : Core) : (d.setCore k x).inS4 = d.inS4 := rfl
@[simp] theorem Dev.setCore_temps (d : Dev) (k : Nat) (x : Core) : (d.setCore k x).temps = d.temps := rfl
@[simp] theorem Dev.setCore_cellRst (d : Dev) (k : Nat) (x : Core) : (d.setCore k x).cellRst = d.cellRst := rfl
@[simp] theorem Dev.setCore_warm (d : Dev) (k : Nat) (x : Core) : (d.setCore k x).warm = d.warm := rfl
@[simp] theorem Dev.setCore_resetQ (d : Dev) (k : Nat) (x : Core) : (d.setCore k x).resetQ = d.resetQ := rfl
@[simp] theorem Dev.setCore_board (d : Dev) (k : Nat) (x : Core) : (d.setCore k x).board = d.board := rfl
@[simp] theorem Dev.setCore_mgmt (d : Dev) (k : Nat) (x : Core) : (d.setCore k x).mgmt = d.mgmt := rfl
@[simp] theorem Dev.setCore_doing (d : Dev) (k : Nat) (x : Core) : (d.setCore k x).doing = d.doing := rfl
@[simp] theorem Dev.setCore_hq (d : Dev) (k : Nat) (x : Core) : (d.setCore k x).hq = d.hq := rfl
@[simp] theorem Dev.setCore_msix (d : Dev) (k : Nat) (x : Core) : (d.setCore k x).msix = d.msix := rfl
@[simp] theorem Dev.setCore_fns (d : Dev) (k : Nat) (x : Core) : (d.setCore k x).fns = d.fns := rfl
@[simp] theorem Dev.setCore_dma (d : Dev) (k : Nat) (x : Core) : (d.setCore k x).dma = d.dma := rfl
@[simp] theorem Dev.setCore_dmaNext (d : Dev) (k : Nat) (x : Core) : (d.setCore k x).dmaNext = d.dmaNext := rfl
@[simp] theorem Dev.setCore_profiles (d : Dev) (k : Nat) (x : Core) : (d.setCore k x).profiles = d.profiles := rfl
@[simp] theorem Dev.setCore_dir (d : Dev) (k : Nat) (x : Core) : (d.setCore k x).dir = d.dir := rfl
@[simp] theorem Dev.setCore_shadow (d : Dev) (k : Nat) (x : Core) : (d.setCore k x).shadow = d.shadow := rfl
@[simp] theorem Dev.setCore_dirOps (d : Dev) (k : Nat) (x : Core) : (d.setCore k x).dirOps = d.dirOps := rfl
@[simp] theorem Dev.setCore_svc (d : Dev) (k : Nat) (x : Core) : (d.setCore k x).svc = d.svc := rfl
@[simp] theorem Dev.setCore_svcUsed (d : Dev) (k : Nat) (x : Core) : (d.setCore k x).svcUsed = d.svcUsed := rfl
@[simp] theorem Dev.setCore_pins (d : Dev) (k : Nat) (x : Core) : (d.setCore k x).pins = d.pins := rfl
@[simp] theorem Dev.setCore_pinNext (d : Dev) (k : Nat) (x : Core) : (d.setCore k x).pinNext = d.pinNext := rfl
@[simp] theorem Dev.setCore_oldGens (d : Dev) (k : Nat) (x : Core) : (d.setCore k x).oldGens = d.oldGens := rfl
@[simp] theorem Dev.setCore_held (d : Dev) (k : Nat) (x : Core) : (d.setCore k x).held = d.held := rfl
@[simp] theorem Dev.setCore_lateFree (d : Dev) (k : Nat) (x : Core) : (d.setCore k x).lateFree = d.lateFree := rfl
@[simp] theorem Dev.setCore_pages (d : Dev) (k : Nat) (x : Core) : (d.setCore k x).pages = d.pages := rfl
@[simp] theorem Dev.setCore_mem (d : Dev) (k : Nat) (x : Core) : (d.setCore k x).mem = d.mem := rfl
@[simp] theorem Dev.setCore_runs (d : Dev) (k : Nat) (x : Core) : (d.setCore k x).runs = d.runs := rfl
@[simp] theorem Dev.setCore_slots (d : Dev) (k : Nat) (x : Core) : (d.setCore k x).slots = d.slots := rfl
@[simp] theorem Dev.setCore_moves (d : Dev) (k : Nat) (x : Core) : (d.setCore k x).moves = d.moves := rfl
@[simp] theorem Dev.setCore_migrs (d : Dev) (k : Nat) (x : Core) : (d.setCore k x).migrs = d.migrs := rfl
@[simp] theorem Dev.setCore_migNext (d : Dev) (k : Nat) (x : Core) : (d.setCore k x).migNext = d.migNext := rfl
@[simp] theorem Dev.setCore_promos (d : Dev) (k : Nat) (x : Core) : (d.setCore k x).promos = d.promos := rfl
@[simp] theorem Dev.setCore_recodes (d : Dev) (k : Nat) (x : Core) : (d.setCore k x).recodes = d.recodes := rfl
@[simp] theorem Dev.setCore_images (d : Dev) (k : Nat) (x : Core) : (d.setCore k x).images = d.images := rfl
@[simp] theorem Dev.setCore_imgNext (d : Dev) (k : Nat) (x : Core) : (d.setCore k x).imgNext = d.imgNext := rfl
@[simp] theorem Dev.setCore_slotImg (d : Dev) (k : Nat) (x : Core) : (d.setCore k x).slotImg = d.slotImg := rfl
@[simp] theorem Dev.setCore_cores (d : Dev) (k : Nat) (x : Core) : (d.setCore k x).cores = Tab.set d.cores k x := rfl
@[simp] theorem Dev.setCore_threads (d : Dev) (k : Nat) (x : Core) : (d.setCore k x).threads = d.threads := rfl
@[simp] theorem Dev.setCore_blazes (d : Dev) (k : Nat) (x : Core) : (d.setCore k x).blazes = d.blazes := rfl
@[simp] theorem Dev.setCore_stage (d : Dev) (k : Nat) (x : Core) : (d.setCore k x).stage = d.stage := rfl
@[simp] theorem Dev.setCore_stageAreas (d : Dev) (k : Nat) (x : Core) : (d.setCore k x).stageAreas = d.stageAreas := rfl
@[simp] theorem Dev.setCore_stageRegion (d : Dev) (k : Nat) (x : Core) : (d.setCore k x).stageRegion = d.stageRegion := rfl
@[simp] theorem Dev.setCore_orders (d : Dev) (k : Nat) (x : Core) : (d.setCore k x).orders = d.orders := rfl
@[simp] theorem Dev.setCore_orderNext (d : Dev) (k : Nat) (x : Core) : (d.setCore k x).orderNext = d.orderNext := rfl
@[simp] theorem Dev.setCore_subs (d : Dev) (k : Nat) (x : Core) : (d.setCore k x).subs = d.subs := rfl
@[simp] theorem Dev.setCore_subNext (d : Dev) (k : Nat) (x : Core) : (d.setCore k x).subNext = d.subNext := rfl
@[simp] theorem Dev.setCore_rings (d : Dev) (k : Nat) (x : Core) : (d.setCore k x).rings = d.rings := rfl
@[simp] theorem Dev.setCore_wqs (d : Dev) (k : Nat) (x : Core) : (d.setCore k x).wqs = d.wqs := rfl
@[simp] theorem Dev.setCore_merges (d : Dev) (k : Nat) (x : Core) : (d.setCore k x).merges = d.merges := rfl
@[simp] theorem Dev.setCore_parts (d : Dev) (k : Nat) (x : Core) : (d.setCore k x).parts = d.parts := rfl
@[simp] theorem Dev.setCore_partNext (d : Dev) (k : Nat) (x : Core) : (d.setCore k x).partNext = d.partNext := rfl
@[simp] theorem Dev.setCore_tel (d : Dev) (k : Nat) (x : Core) : (d.setCore k x).tel = d.tel := rfl
@[simp] theorem Dev.setCore_weights (d : Dev) (k : Nat) (x : Core) : (d.setCore k x).weights = d.weights := rfl
@[simp] theorem Dev.setCore_scratches (d : Dev) (k : Nat) (x : Core) : (d.setCore k x).scratches = d.scratches := rfl
@[simp] theorem Dev.setCore_nbprogs (d : Dev) (k : Nat) (x : Core) : (d.setCore k x).nbprogs = d.nbprogs := rfl
@[simp] theorem Dev.setCore_nbNext (d : Dev) (k : Nat) (x : Core) : (d.setCore k x).nbNext = d.nbNext := rfl
@[simp] theorem Dev.setCore_locals (d : Dev) (k : Nat) (x : Core) : (d.setCore k x).locals = d.locals := rfl
@[simp] theorem Dev.setCore_slot4 (d : Dev) (k : Nat) (x : Core) : (d.setCore k x).slot4 = d.slot4 := rfl
@[simp] theorem Dev.setCore_regionCmds (d : Dev) (k : Nat) (x : Core) : (d.setCore k x).regionCmds = d.regionCmds := rfl
@[simp] theorem Dev.setCore_unloads (d : Dev) (k : Nat) (x : Core) : (d.setCore k x).unloads = d.unloads := rfl
@[simp] theorem Dev.setCore_slices (d : Dev) (k : Nat) (x : Core) : (d.setCore k x).slices = d.slices := rfl
@[simp] theorem Dev.setCore_copies (d : Dev) (k : Nat) (x : Core) : (d.setCore k x).copies = d.copies := rfl
@[simp] theorem Dev.setCore_mirSeqs (d : Dev) (k : Nat) (x : Core) : (d.setCore k x).mirSeqs = d.mirSeqs := rfl
@[simp] theorem Dev.setCore_lendIn (d : Dev) (k : Nat) (x : Core) : (d.setCore k x).lendIn = d.lendIn := rfl
@[simp] theorem Dev.setCore_lendOut (d : Dev) (k : Nat) (x : Core) : (d.setCore k x).lendOut = d.lendOut := rfl
@[simp] theorem Dev.setCore_ports (d : Dev) (k : Nat) (x : Core) : (d.setCore k x).ports = d.ports := rfl
@[simp] theorem Dev.setCore_egress (d : Dev) (k : Nat) (x : Core) : (d.setCore k x).egress = d.egress := rfl
@[simp] theorem Dev.setCore_scheds (d : Dev) (k : Nat) (x : Core) : (d.setCore k x).scheds = d.scheds := rfl
@[simp] theorem Dev.setCore_conns (d : Dev) (k : Nat) (x : Core) : (d.setCore k x).conns = d.conns := rfl
@[simp] theorem Dev.setCore_tracts (d : Dev) (k : Nat) (x : Core) : (d.setCore k x).tracts = d.tracts := rfl
@[simp] theorem Dev.setCore_opNext (d : Dev) (k : Nat) (x : Core) : (d.setCore k x).opNext = d.opNext := rfl
@[simp] theorem Dev.setCore_msgEnds (d : Dev) (k : Nat) (x : Core) : (d.setCore k x).msgEnds = d.msgEnds := rfl
@[simp] theorem Dev.setCore_slew (d : Dev) (k : Nat) (x : Core) : (d.setCore k x).slew = d.slew := rfl
@[simp] theorem Dev.setCore_slewAcc (d : Dev) (k : Nat) (x : Core) : (d.setCore k x).slewAcc = d.slewAcc := rfl
@[simp] theorem Dev.setCore_lockRun (d : Dev) (k : Nat) (x : Core) : (d.setCore k x).lockRun = d.lockRun := rfl
@[simp] theorem Dev.setCore_ppsRun (d : Dev) (k : Nat) (x : Core) : (d.setCore k x).ppsRun = d.ppsRun := rfl
@[simp] theorem Dev.setCore_telInt (d : Dev) (k : Nat) (x : Core) : (d.setCore k x).telInt = d.telInt := rfl
@[simp] theorem Dev.setCore_telOk (d : Dev) (k : Nat) (x : Core) : (d.setCore k x).telOk = d.telOk := rfl
@[simp] theorem Dev.setCore_telHold (d : Dev) (k : Nat) (x : Core) : (d.setCore k x).telHold = d.telHold := rfl
@[simp] theorem Dev.setCore_telStep (d : Dev) (k : Nat) (x : Core) : (d.setCore k x).telStep = d.telStep := rfl
@[simp] theorem Dev.setCore_telOn (d : Dev) (k : Nat) (x : Core) : (d.setCore k x).telOn = d.telOn := rfl
@[simp] theorem Dev.setCore_telQ (d : Dev) (k : Nat) (x : Core) : (d.setCore k x).telQ = d.telQ := rfl
@[simp] theorem Dev.setCore_slotId (d : Dev) (k : Nat) (x : Core) : (d.setCore k x).slotId = d.slotId := rfl
@[simp] theorem Dev.setCore_standbyEpoch (d : Dev) (k : Nat) (x : Core) : (d.setCore k x).standbyEpoch = d.standbyEpoch := rfl
@[simp] theorem Dev.setCore_lastAdv (d : Dev) (k : Nat) (x : Core) : (d.setCore k x).lastAdv = d.lastAdv := rfl
@[simp] theorem Dev.setCore_version (d : Dev) (k : Nat) (x : Core) : (d.setCore k x).version = d.version := rfl
@[simp] theorem Dev.setCore_cruiseIn (d : Dev) (k : Nat) (x : Core) : (d.setCore k x).cruiseIn = d.cruiseIn := rfl
@[simp] theorem Dev.setCore_lendAsk (d : Dev) (k : Nat) (x : Core) : (d.setCore k x).lendAsk = d.lendAsk := rfl
@[simp] theorem Dev.setCore_seenMsgs (d : Dev) (k : Nat) (x : Core) : (d.setCore k x).seenMsgs = d.seenMsgs := rfl
@[simp] theorem Dev.setCore_rowMap (d : Dev) (k : Nat) (x : Core) : (d.setCore k x).rowMap = d.rowMap := rfl
@[simp] theorem Dev.setCore_rowSums (d : Dev) (k : Nat) (x : Core) : (d.setCore k x).rowSums = d.rowSums := rfl
@[simp] theorem Dev.setCore_failed (d : Dev) (k : Nat) (x : Core) : (d.setCore k x).failed = d.failed := rfl
@[simp] theorem Dev.setCore_downLinks (d : Dev) (k : Nat) (x : Core) : (d.setCore k x).downLinks = d.downLinks := rfl
@[simp] theorem Dev.setCore_disclaims (d : Dev) (k : Nat) (x : Core) : (d.setCore k x).disclaims = d.disclaims := rfl
@[simp] theorem Dev.setCore_promoted (d : Dev) (k : Nat) (x : Core) : (d.setCore k x).promoted = d.promoted := rfl
@[simp] theorem Dev.setCore_zoneFails (d : Dev) (k : Nat) (x : Core) : (d.setCore k x).zoneFails = d.zoneFails := rfl
@[simp] theorem Dev.setCore_heatEpoch (d : Dev) (k : Nat) (x : Core) : (d.setCore k x).heatEpoch = d.heatEpoch := rfl
@[simp] theorem Dev.setCore_svcRes (d : Dev) (k : Nat) (x : Core) : (d.setCore k x).svcRes = d.svcRes := rfl

/-! ## stageWrite -/

@[simp] theorem Dev.stageWrite_freeCtr (d : Dev) (c off : Nat) (bs : List Byte) : (d.stageWrite c off bs).freeCtr = d.freeCtr := rfl
@[simp] theorem Dev.stageWrite_up (d : Dev) (c off : Nat) (bs : List Byte) : (d.stageWrite c off bs).up = d.up := rfl
@[simp] theorem Dev.stageWrite_fab (d : Dev) (c off : Nat) (bs : List Byte) : (d.stageWrite c off bs).fab = d.fab := rfl
@[simp] theorem Dev.stageWrite_regs (d : Dev) (c off : Nat) (bs : List Byte) : (d.stageWrite c off bs).regs = d.regs := rfl
@[simp] theorem Dev.stageWrite_out (d : Dev) (c off : Nat) (bs : List Byte) : (d.stageWrite c off bs).out = d.out := rfl
@[simp] theorem Dev.stageWrite_stands (d : Dev) (c off : Nat) (bs : List Byte) : (d.stageWrite c off bs).stands = d.stands := rfl
@[simp] theorem Dev.stageWrite_cfgA (d : Dev) (c off : Nat) (bs : List Byte) : (d.stageWrite c off bs).cfgA = d.cfgA := rfl
@[simp] theorem Dev.stageWrite_cfgB (d : Dev) (c off : Nat) (bs : List Byte) : (d.stageWrite c off bs).cfgB = d.cfgB := rfl
@[simp] theorem Dev.stageWrite_cfg (d : Dev) (c off : Nat) (bs : List Byte) : (d.stageWrite c off bs).cfg = d.cfg := rfl
@[simp] theorem Dev.stageWrite_cfgIsB (d : Dev) (c off : Nat) (bs : List Byte) : (d.stageWrite c off bs).cfgIsB = d.cfgIsB := rfl
@[simp] theorem Dev.stageWrite_fences (d : Dev) (c off : Nat) (bs : List Byte) : (d.stageWrite c off bs).fences = d.fences := rfl
@[simp] theorem Dev.stageWrite_react (d : Dev) (c off : Nat) (bs : List Byte) : (d.stageWrite c off bs).react = d.react := rfl
@[simp] theorem Dev.stageWrite_invCause (d : Dev) (c off : Nat) (bs : List Byte) : (d.stageWrite c off bs).invCause = d.invCause := rfl
@[simp] theorem Dev.stageWrite_invTaken (d : Dev) (c off : Nat) (bs : List Byte) : (d.stageWrite c off bs).invTaken = d.invTaken := rfl
@[simp] theorem Dev.stageWrite_halted (d : Dev) (c off : Nat) (bs : List Byte) : (d.stageWrite c off bs).halted = d.halted := rfl
@[simp] theorem Dev.stageWrite_ptlQ (d : Dev) (c off : Nat) (bs : List Byte) : (d.stageWrite c off bs).ptlQ = d.ptlQ := rfl
@[simp] theorem Dev.stageWrite_ptlRun (d : Dev) (c off : Nat) (bs : List Byte) : (d.stageWrite c off bs).ptlRun = d.ptlRun := rfl
@[simp] theorem Dev.stageWrite_ptlHist (d : Dev) (c off : Nat) (bs : List Byte) : (d.stageWrite c off bs).ptlHist = d.ptlHist := rfl
@[simp] theorem Dev.stageWrite_warn (d : Dev) (c off : Nat) (bs : List Byte) : (d.stageWrite c off bs).warn = d.warn := rfl
@[simp] theorem Dev.stageWrite_goodRun (d : Dev) (c off : Nat) (bs : List Byte) : (d.stageWrite c off bs).goodRun = d.goodRun := rfl
@[simp] theorem Dev.stageWrite_thermL (d : Dev) (c off : Nat) (bs : List Byte) : (d.stageWrite c off bs).thermL = d.thermL := rfl
@[simp] theorem Dev.stageWrite_avsWait (d : Dev) (c off : Nat) (bs : List Byte) : (d.stageWrite c off bs).avsWait = d.avsWait := rfl
@[simp] theorem Dev.stageWrite_avsPoint (d : Dev) (c off : Nat) (bs : List Byte) : (d.stageWrite c off bs).avsPoint = d.avsPoint := rfl
@[simp] theorem Dev.stageWrite_avsLate (d : Dev) (c off : Nat) (bs : List Byte) : (d.stageWrite c off bs).avsLate = d.avsLate := rfl
@[simp] theorem Dev.stageWrite_rails (d : Dev) (c off : Nat) (bs : List Byte) : (d.stageWrite c off bs).rails = d.rails := rfl
@[simp] theorem Dev.stageWrite_lpEnter (d : Dev) (c off : Nat) (bs : List Byte) : (d.stageWrite c off bs).lpEnter = d.lpEnter := rfl
@[simp] theorem Dev.stageWrite_off (d : Dev) (c off : Nat) (bs : List Byte) : (d.stageWrite c off bs).off = d.off := rfl
@[simp] theorem Dev.stageWrite_inS4 (d : Dev) (c off : Nat) (bs : List Byte) : (d.stageWrite c off bs).inS4 = d.inS4 := rfl
@[simp] theorem Dev.stageWrite_temps (d : Dev) (c off : Nat) (bs : List Byte) : (d.stageWrite c off bs).temps = d.temps := rfl
@[simp] theorem Dev.stageWrite_cellRst (d : Dev) (c off : Nat) (bs : List Byte) : (d.stageWrite c off bs).cellRst = d.cellRst := rfl
@[simp] theorem Dev.stageWrite_warm (d : Dev) (c off : Nat) (bs : List Byte) : (d.stageWrite c off bs).warm = d.warm := rfl
@[simp] theorem Dev.stageWrite_resetQ (d : Dev) (c off : Nat) (bs : List Byte) : (d.stageWrite c off bs).resetQ = d.resetQ := rfl
@[simp] theorem Dev.stageWrite_board (d : Dev) (c off : Nat) (bs : List Byte) : (d.stageWrite c off bs).board = d.board := rfl
@[simp] theorem Dev.stageWrite_mgmt (d : Dev) (c off : Nat) (bs : List Byte) : (d.stageWrite c off bs).mgmt = d.mgmt := rfl
@[simp] theorem Dev.stageWrite_doing (d : Dev) (c off : Nat) (bs : List Byte) : (d.stageWrite c off bs).doing = d.doing := rfl
@[simp] theorem Dev.stageWrite_hq (d : Dev) (c off : Nat) (bs : List Byte) : (d.stageWrite c off bs).hq = d.hq := rfl
@[simp] theorem Dev.stageWrite_msix (d : Dev) (c off : Nat) (bs : List Byte) : (d.stageWrite c off bs).msix = d.msix := rfl
@[simp] theorem Dev.stageWrite_fns (d : Dev) (c off : Nat) (bs : List Byte) : (d.stageWrite c off bs).fns = d.fns := rfl
@[simp] theorem Dev.stageWrite_dma (d : Dev) (c off : Nat) (bs : List Byte) : (d.stageWrite c off bs).dma = d.dma := rfl
@[simp] theorem Dev.stageWrite_dmaNext (d : Dev) (c off : Nat) (bs : List Byte) : (d.stageWrite c off bs).dmaNext = d.dmaNext := rfl
@[simp] theorem Dev.stageWrite_profiles (d : Dev) (c off : Nat) (bs : List Byte) : (d.stageWrite c off bs).profiles = d.profiles := rfl
@[simp] theorem Dev.stageWrite_dir (d : Dev) (c off : Nat) (bs : List Byte) : (d.stageWrite c off bs).dir = d.dir := rfl
@[simp] theorem Dev.stageWrite_shadow (d : Dev) (c off : Nat) (bs : List Byte) : (d.stageWrite c off bs).shadow = d.shadow := rfl
@[simp] theorem Dev.stageWrite_dirOps (d : Dev) (c off : Nat) (bs : List Byte) : (d.stageWrite c off bs).dirOps = d.dirOps := rfl
@[simp] theorem Dev.stageWrite_svc (d : Dev) (c off : Nat) (bs : List Byte) : (d.stageWrite c off bs).svc = d.svc := rfl
@[simp] theorem Dev.stageWrite_svcUsed (d : Dev) (c off : Nat) (bs : List Byte) : (d.stageWrite c off bs).svcUsed = d.svcUsed := rfl
@[simp] theorem Dev.stageWrite_pins (d : Dev) (c off : Nat) (bs : List Byte) : (d.stageWrite c off bs).pins = d.pins := rfl
@[simp] theorem Dev.stageWrite_pinNext (d : Dev) (c off : Nat) (bs : List Byte) : (d.stageWrite c off bs).pinNext = d.pinNext := rfl
@[simp] theorem Dev.stageWrite_oldGens (d : Dev) (c off : Nat) (bs : List Byte) : (d.stageWrite c off bs).oldGens = d.oldGens := rfl
@[simp] theorem Dev.stageWrite_held (d : Dev) (c off : Nat) (bs : List Byte) : (d.stageWrite c off bs).held = d.held := rfl
@[simp] theorem Dev.stageWrite_lateFree (d : Dev) (c off : Nat) (bs : List Byte) : (d.stageWrite c off bs).lateFree = d.lateFree := rfl
@[simp] theorem Dev.stageWrite_pages (d : Dev) (c off : Nat) (bs : List Byte) : (d.stageWrite c off bs).pages = d.pages := rfl
@[simp] theorem Dev.stageWrite_mem (d : Dev) (c off : Nat) (bs : List Byte) : (d.stageWrite c off bs).mem = d.mem := rfl
@[simp] theorem Dev.stageWrite_runs (d : Dev) (c off : Nat) (bs : List Byte) : (d.stageWrite c off bs).runs = d.runs := rfl
@[simp] theorem Dev.stageWrite_slots (d : Dev) (c off : Nat) (bs : List Byte) : (d.stageWrite c off bs).slots = d.slots := rfl
@[simp] theorem Dev.stageWrite_moves (d : Dev) (c off : Nat) (bs : List Byte) : (d.stageWrite c off bs).moves = d.moves := rfl
@[simp] theorem Dev.stageWrite_migrs (d : Dev) (c off : Nat) (bs : List Byte) : (d.stageWrite c off bs).migrs = d.migrs := rfl
@[simp] theorem Dev.stageWrite_migNext (d : Dev) (c off : Nat) (bs : List Byte) : (d.stageWrite c off bs).migNext = d.migNext := rfl
@[simp] theorem Dev.stageWrite_promos (d : Dev) (c off : Nat) (bs : List Byte) : (d.stageWrite c off bs).promos = d.promos := rfl
@[simp] theorem Dev.stageWrite_recodes (d : Dev) (c off : Nat) (bs : List Byte) : (d.stageWrite c off bs).recodes = d.recodes := rfl
@[simp] theorem Dev.stageWrite_images (d : Dev) (c off : Nat) (bs : List Byte) : (d.stageWrite c off bs).images = d.images := rfl
@[simp] theorem Dev.stageWrite_imgNext (d : Dev) (c off : Nat) (bs : List Byte) : (d.stageWrite c off bs).imgNext = d.imgNext := rfl
@[simp] theorem Dev.stageWrite_slotImg (d : Dev) (c off : Nat) (bs : List Byte) : (d.stageWrite c off bs).slotImg = d.slotImg := rfl
@[simp] theorem Dev.stageWrite_cores (d : Dev) (c off : Nat) (bs : List Byte) : (d.stageWrite c off bs).cores = d.cores := rfl
@[simp] theorem Dev.stageWrite_threads (d : Dev) (c off : Nat) (bs : List Byte) : (d.stageWrite c off bs).threads = d.threads := rfl
@[simp] theorem Dev.stageWrite_blazes (d : Dev) (c off : Nat) (bs : List Byte) : (d.stageWrite c off bs).blazes = d.blazes := rfl
@[simp] theorem Dev.stageWrite_stage (d : Dev) (c off : Nat) (bs : List Byte) : (d.stageWrite c off bs).stage = Memory.write d.stage (stageAt c off) bs := rfl
@[simp] theorem Dev.stageWrite_stageAreas (d : Dev) (c off : Nat) (bs : List Byte) : (d.stageWrite c off bs).stageAreas = d.stageAreas := rfl
@[simp] theorem Dev.stageWrite_stageRegion (d : Dev) (c off : Nat) (bs : List Byte) : (d.stageWrite c off bs).stageRegion = d.stageRegion := rfl
@[simp] theorem Dev.stageWrite_orders (d : Dev) (c off : Nat) (bs : List Byte) : (d.stageWrite c off bs).orders = d.orders := rfl
@[simp] theorem Dev.stageWrite_orderNext (d : Dev) (c off : Nat) (bs : List Byte) : (d.stageWrite c off bs).orderNext = d.orderNext := rfl
@[simp] theorem Dev.stageWrite_subs (d : Dev) (c off : Nat) (bs : List Byte) : (d.stageWrite c off bs).subs = d.subs := rfl
@[simp] theorem Dev.stageWrite_subNext (d : Dev) (c off : Nat) (bs : List Byte) : (d.stageWrite c off bs).subNext = d.subNext := rfl
@[simp] theorem Dev.stageWrite_rings (d : Dev) (c off : Nat) (bs : List Byte) : (d.stageWrite c off bs).rings = d.rings := rfl
@[simp] theorem Dev.stageWrite_wqs (d : Dev) (c off : Nat) (bs : List Byte) : (d.stageWrite c off bs).wqs = d.wqs := rfl
@[simp] theorem Dev.stageWrite_merges (d : Dev) (c off : Nat) (bs : List Byte) : (d.stageWrite c off bs).merges = d.merges := rfl
@[simp] theorem Dev.stageWrite_parts (d : Dev) (c off : Nat) (bs : List Byte) : (d.stageWrite c off bs).parts = d.parts := rfl
@[simp] theorem Dev.stageWrite_partNext (d : Dev) (c off : Nat) (bs : List Byte) : (d.stageWrite c off bs).partNext = d.partNext := rfl
@[simp] theorem Dev.stageWrite_tel (d : Dev) (c off : Nat) (bs : List Byte) : (d.stageWrite c off bs).tel = d.tel := rfl
@[simp] theorem Dev.stageWrite_weights (d : Dev) (c off : Nat) (bs : List Byte) : (d.stageWrite c off bs).weights = d.weights := rfl
@[simp] theorem Dev.stageWrite_scratches (d : Dev) (c off : Nat) (bs : List Byte) : (d.stageWrite c off bs).scratches = d.scratches := rfl
@[simp] theorem Dev.stageWrite_nbprogs (d : Dev) (c off : Nat) (bs : List Byte) : (d.stageWrite c off bs).nbprogs = d.nbprogs := rfl
@[simp] theorem Dev.stageWrite_nbNext (d : Dev) (c off : Nat) (bs : List Byte) : (d.stageWrite c off bs).nbNext = d.nbNext := rfl
@[simp] theorem Dev.stageWrite_locals (d : Dev) (c off : Nat) (bs : List Byte) : (d.stageWrite c off bs).locals = d.locals := rfl
@[simp] theorem Dev.stageWrite_slot4 (d : Dev) (c off : Nat) (bs : List Byte) : (d.stageWrite c off bs).slot4 = d.slot4 := rfl
@[simp] theorem Dev.stageWrite_regionCmds (d : Dev) (c off : Nat) (bs : List Byte) : (d.stageWrite c off bs).regionCmds = d.regionCmds := rfl
@[simp] theorem Dev.stageWrite_unloads (d : Dev) (c off : Nat) (bs : List Byte) : (d.stageWrite c off bs).unloads = d.unloads := rfl
@[simp] theorem Dev.stageWrite_slices (d : Dev) (c off : Nat) (bs : List Byte) : (d.stageWrite c off bs).slices = d.slices := rfl
@[simp] theorem Dev.stageWrite_copies (d : Dev) (c off : Nat) (bs : List Byte) : (d.stageWrite c off bs).copies = d.copies := rfl
@[simp] theorem Dev.stageWrite_mirSeqs (d : Dev) (c off : Nat) (bs : List Byte) : (d.stageWrite c off bs).mirSeqs = d.mirSeqs := rfl
@[simp] theorem Dev.stageWrite_lendIn (d : Dev) (c off : Nat) (bs : List Byte) : (d.stageWrite c off bs).lendIn = d.lendIn := rfl
@[simp] theorem Dev.stageWrite_lendOut (d : Dev) (c off : Nat) (bs : List Byte) : (d.stageWrite c off bs).lendOut = d.lendOut := rfl
@[simp] theorem Dev.stageWrite_ports (d : Dev) (c off : Nat) (bs : List Byte) : (d.stageWrite c off bs).ports = d.ports := rfl
@[simp] theorem Dev.stageWrite_egress (d : Dev) (c off : Nat) (bs : List Byte) : (d.stageWrite c off bs).egress = d.egress := rfl
@[simp] theorem Dev.stageWrite_scheds (d : Dev) (c off : Nat) (bs : List Byte) : (d.stageWrite c off bs).scheds = d.scheds := rfl
@[simp] theorem Dev.stageWrite_conns (d : Dev) (c off : Nat) (bs : List Byte) : (d.stageWrite c off bs).conns = d.conns := rfl
@[simp] theorem Dev.stageWrite_tracts (d : Dev) (c off : Nat) (bs : List Byte) : (d.stageWrite c off bs).tracts = d.tracts := rfl
@[simp] theorem Dev.stageWrite_opNext (d : Dev) (c off : Nat) (bs : List Byte) : (d.stageWrite c off bs).opNext = d.opNext := rfl
@[simp] theorem Dev.stageWrite_msgEnds (d : Dev) (c off : Nat) (bs : List Byte) : (d.stageWrite c off bs).msgEnds = d.msgEnds := rfl
@[simp] theorem Dev.stageWrite_slew (d : Dev) (c off : Nat) (bs : List Byte) : (d.stageWrite c off bs).slew = d.slew := rfl
@[simp] theorem Dev.stageWrite_slewAcc (d : Dev) (c off : Nat) (bs : List Byte) : (d.stageWrite c off bs).slewAcc = d.slewAcc := rfl
@[simp] theorem Dev.stageWrite_lockRun (d : Dev) (c off : Nat) (bs : List Byte) : (d.stageWrite c off bs).lockRun = d.lockRun := rfl
@[simp] theorem Dev.stageWrite_ppsRun (d : Dev) (c off : Nat) (bs : List Byte) : (d.stageWrite c off bs).ppsRun = d.ppsRun := rfl
@[simp] theorem Dev.stageWrite_telInt (d : Dev) (c off : Nat) (bs : List Byte) : (d.stageWrite c off bs).telInt = d.telInt := rfl
@[simp] theorem Dev.stageWrite_telOk (d : Dev) (c off : Nat) (bs : List Byte) : (d.stageWrite c off bs).telOk = d.telOk := rfl
@[simp] theorem Dev.stageWrite_telHold (d : Dev) (c off : Nat) (bs : List Byte) : (d.stageWrite c off bs).telHold = d.telHold := rfl
@[simp] theorem Dev.stageWrite_telStep (d : Dev) (c off : Nat) (bs : List Byte) : (d.stageWrite c off bs).telStep = d.telStep := rfl
@[simp] theorem Dev.stageWrite_telOn (d : Dev) (c off : Nat) (bs : List Byte) : (d.stageWrite c off bs).telOn = d.telOn := rfl
@[simp] theorem Dev.stageWrite_telQ (d : Dev) (c off : Nat) (bs : List Byte) : (d.stageWrite c off bs).telQ = d.telQ := rfl
@[simp] theorem Dev.stageWrite_slotId (d : Dev) (c off : Nat) (bs : List Byte) : (d.stageWrite c off bs).slotId = d.slotId := rfl
@[simp] theorem Dev.stageWrite_standbyEpoch (d : Dev) (c off : Nat) (bs : List Byte) : (d.stageWrite c off bs).standbyEpoch = d.standbyEpoch := rfl
@[simp] theorem Dev.stageWrite_lastAdv (d : Dev) (c off : Nat) (bs : List Byte) : (d.stageWrite c off bs).lastAdv = d.lastAdv := rfl
@[simp] theorem Dev.stageWrite_version (d : Dev) (c off : Nat) (bs : List Byte) : (d.stageWrite c off bs).version = d.version := rfl
@[simp] theorem Dev.stageWrite_cruiseIn (d : Dev) (c off : Nat) (bs : List Byte) : (d.stageWrite c off bs).cruiseIn = d.cruiseIn := rfl
@[simp] theorem Dev.stageWrite_lendAsk (d : Dev) (c off : Nat) (bs : List Byte) : (d.stageWrite c off bs).lendAsk = d.lendAsk := rfl
@[simp] theorem Dev.stageWrite_seenMsgs (d : Dev) (c off : Nat) (bs : List Byte) : (d.stageWrite c off bs).seenMsgs = d.seenMsgs := rfl
@[simp] theorem Dev.stageWrite_rowMap (d : Dev) (c off : Nat) (bs : List Byte) : (d.stageWrite c off bs).rowMap = d.rowMap := rfl
@[simp] theorem Dev.stageWrite_rowSums (d : Dev) (c off : Nat) (bs : List Byte) : (d.stageWrite c off bs).rowSums = d.rowSums := rfl
@[simp] theorem Dev.stageWrite_failed (d : Dev) (c off : Nat) (bs : List Byte) : (d.stageWrite c off bs).failed = d.failed := rfl
@[simp] theorem Dev.stageWrite_downLinks (d : Dev) (c off : Nat) (bs : List Byte) : (d.stageWrite c off bs).downLinks = d.downLinks := rfl
@[simp] theorem Dev.stageWrite_disclaims (d : Dev) (c off : Nat) (bs : List Byte) : (d.stageWrite c off bs).disclaims = d.disclaims := rfl
@[simp] theorem Dev.stageWrite_promoted (d : Dev) (c off : Nat) (bs : List Byte) : (d.stageWrite c off bs).promoted = d.promoted := rfl
@[simp] theorem Dev.stageWrite_zoneFails (d : Dev) (c off : Nat) (bs : List Byte) : (d.stageWrite c off bs).zoneFails = d.zoneFails := rfl
@[simp] theorem Dev.stageWrite_heatEpoch (d : Dev) (c off : Nat) (bs : List Byte) : (d.stageWrite c off bs).heatEpoch = d.heatEpoch := rfl
@[simp] theorem Dev.stageWrite_svcRes (d : Dev) (c off : Nat) (bs : List Byte) : (d.stageWrite c off bs).svcRes = d.svcRes := rfl

/-! ## setStd -/

@[simp] theorem Dev.setStd_freeCtr (d : Dev) (s : Nat) (x : Stand) : (d.setStd s x).freeCtr = d.freeCtr := rfl
@[simp] theorem Dev.setStd_up (d : Dev) (s : Nat) (x : Stand) : (d.setStd s x).up = d.up := rfl
@[simp] theorem Dev.setStd_fab (d : Dev) (s : Nat) (x : Stand) : (d.setStd s x).fab = d.fab := rfl
@[simp] theorem Dev.setStd_regs (d : Dev) (s : Nat) (x : Stand) : (d.setStd s x).regs = d.regs := rfl
@[simp] theorem Dev.setStd_out (d : Dev) (s : Nat) (x : Stand) : (d.setStd s x).out = d.out := rfl
@[simp] theorem Dev.setStd_stands (d : Dev) (s : Nat) (x : Stand) : (d.setStd s x).stands = Tab.set d.stands s x := rfl
@[simp] theorem Dev.setStd_cfgA (d : Dev) (s : Nat) (x : Stand) : (d.setStd s x).cfgA = d.cfgA := rfl
@[simp] theorem Dev.setStd_cfgB (d : Dev) (s : Nat) (x : Stand) : (d.setStd s x).cfgB = d.cfgB := rfl
@[simp] theorem Dev.setStd_cfg (d : Dev) (s : Nat) (x : Stand) : (d.setStd s x).cfg = d.cfg := rfl
@[simp] theorem Dev.setStd_cfgIsB (d : Dev) (s : Nat) (x : Stand) : (d.setStd s x).cfgIsB = d.cfgIsB := rfl
@[simp] theorem Dev.setStd_fences (d : Dev) (s : Nat) (x : Stand) : (d.setStd s x).fences = d.fences := rfl
@[simp] theorem Dev.setStd_react (d : Dev) (s : Nat) (x : Stand) : (d.setStd s x).react = d.react := rfl
@[simp] theorem Dev.setStd_invCause (d : Dev) (s : Nat) (x : Stand) : (d.setStd s x).invCause = d.invCause := rfl
@[simp] theorem Dev.setStd_invTaken (d : Dev) (s : Nat) (x : Stand) : (d.setStd s x).invTaken = d.invTaken := rfl
@[simp] theorem Dev.setStd_halted (d : Dev) (s : Nat) (x : Stand) : (d.setStd s x).halted = d.halted := rfl
@[simp] theorem Dev.setStd_ptlQ (d : Dev) (s : Nat) (x : Stand) : (d.setStd s x).ptlQ = d.ptlQ := rfl
@[simp] theorem Dev.setStd_ptlRun (d : Dev) (s : Nat) (x : Stand) : (d.setStd s x).ptlRun = d.ptlRun := rfl
@[simp] theorem Dev.setStd_ptlHist (d : Dev) (s : Nat) (x : Stand) : (d.setStd s x).ptlHist = d.ptlHist := rfl
@[simp] theorem Dev.setStd_warn (d : Dev) (s : Nat) (x : Stand) : (d.setStd s x).warn = d.warn := rfl
@[simp] theorem Dev.setStd_goodRun (d : Dev) (s : Nat) (x : Stand) : (d.setStd s x).goodRun = d.goodRun := rfl
@[simp] theorem Dev.setStd_thermL (d : Dev) (s : Nat) (x : Stand) : (d.setStd s x).thermL = d.thermL := rfl
@[simp] theorem Dev.setStd_avsWait (d : Dev) (s : Nat) (x : Stand) : (d.setStd s x).avsWait = d.avsWait := rfl
@[simp] theorem Dev.setStd_avsPoint (d : Dev) (s : Nat) (x : Stand) : (d.setStd s x).avsPoint = d.avsPoint := rfl
@[simp] theorem Dev.setStd_avsLate (d : Dev) (s : Nat) (x : Stand) : (d.setStd s x).avsLate = d.avsLate := rfl
@[simp] theorem Dev.setStd_rails (d : Dev) (s : Nat) (x : Stand) : (d.setStd s x).rails = d.rails := rfl
@[simp] theorem Dev.setStd_lpEnter (d : Dev) (s : Nat) (x : Stand) : (d.setStd s x).lpEnter = d.lpEnter := rfl
@[simp] theorem Dev.setStd_off (d : Dev) (s : Nat) (x : Stand) : (d.setStd s x).off = d.off := rfl
@[simp] theorem Dev.setStd_inS4 (d : Dev) (s : Nat) (x : Stand) : (d.setStd s x).inS4 = d.inS4 := rfl
@[simp] theorem Dev.setStd_temps (d : Dev) (s : Nat) (x : Stand) : (d.setStd s x).temps = d.temps := rfl
@[simp] theorem Dev.setStd_cellRst (d : Dev) (s : Nat) (x : Stand) : (d.setStd s x).cellRst = d.cellRst := rfl
@[simp] theorem Dev.setStd_warm (d : Dev) (s : Nat) (x : Stand) : (d.setStd s x).warm = d.warm := rfl
@[simp] theorem Dev.setStd_resetQ (d : Dev) (s : Nat) (x : Stand) : (d.setStd s x).resetQ = d.resetQ := rfl
@[simp] theorem Dev.setStd_board (d : Dev) (s : Nat) (x : Stand) : (d.setStd s x).board = d.board := rfl
@[simp] theorem Dev.setStd_mgmt (d : Dev) (s : Nat) (x : Stand) : (d.setStd s x).mgmt = d.mgmt := rfl
@[simp] theorem Dev.setStd_doing (d : Dev) (s : Nat) (x : Stand) : (d.setStd s x).doing = d.doing := rfl
@[simp] theorem Dev.setStd_hq (d : Dev) (s : Nat) (x : Stand) : (d.setStd s x).hq = d.hq := rfl
@[simp] theorem Dev.setStd_msix (d : Dev) (s : Nat) (x : Stand) : (d.setStd s x).msix = d.msix := rfl
@[simp] theorem Dev.setStd_fns (d : Dev) (s : Nat) (x : Stand) : (d.setStd s x).fns = d.fns := rfl
@[simp] theorem Dev.setStd_dma (d : Dev) (s : Nat) (x : Stand) : (d.setStd s x).dma = d.dma := rfl
@[simp] theorem Dev.setStd_dmaNext (d : Dev) (s : Nat) (x : Stand) : (d.setStd s x).dmaNext = d.dmaNext := rfl
@[simp] theorem Dev.setStd_profiles (d : Dev) (s : Nat) (x : Stand) : (d.setStd s x).profiles = d.profiles := rfl
@[simp] theorem Dev.setStd_dir (d : Dev) (s : Nat) (x : Stand) : (d.setStd s x).dir = d.dir := rfl
@[simp] theorem Dev.setStd_shadow (d : Dev) (s : Nat) (x : Stand) : (d.setStd s x).shadow = d.shadow := rfl
@[simp] theorem Dev.setStd_dirOps (d : Dev) (s : Nat) (x : Stand) : (d.setStd s x).dirOps = d.dirOps := rfl
@[simp] theorem Dev.setStd_svc (d : Dev) (s : Nat) (x : Stand) : (d.setStd s x).svc = d.svc := rfl
@[simp] theorem Dev.setStd_svcUsed (d : Dev) (s : Nat) (x : Stand) : (d.setStd s x).svcUsed = d.svcUsed := rfl
@[simp] theorem Dev.setStd_pins (d : Dev) (s : Nat) (x : Stand) : (d.setStd s x).pins = d.pins := rfl
@[simp] theorem Dev.setStd_pinNext (d : Dev) (s : Nat) (x : Stand) : (d.setStd s x).pinNext = d.pinNext := rfl
@[simp] theorem Dev.setStd_oldGens (d : Dev) (s : Nat) (x : Stand) : (d.setStd s x).oldGens = d.oldGens := rfl
@[simp] theorem Dev.setStd_held (d : Dev) (s : Nat) (x : Stand) : (d.setStd s x).held = d.held := rfl
@[simp] theorem Dev.setStd_lateFree (d : Dev) (s : Nat) (x : Stand) : (d.setStd s x).lateFree = d.lateFree := rfl
@[simp] theorem Dev.setStd_pages (d : Dev) (s : Nat) (x : Stand) : (d.setStd s x).pages = d.pages := rfl
@[simp] theorem Dev.setStd_mem (d : Dev) (s : Nat) (x : Stand) : (d.setStd s x).mem = d.mem := rfl
@[simp] theorem Dev.setStd_runs (d : Dev) (s : Nat) (x : Stand) : (d.setStd s x).runs = d.runs := rfl
@[simp] theorem Dev.setStd_slots (d : Dev) (s : Nat) (x : Stand) : (d.setStd s x).slots = d.slots := rfl
@[simp] theorem Dev.setStd_moves (d : Dev) (s : Nat) (x : Stand) : (d.setStd s x).moves = d.moves := rfl
@[simp] theorem Dev.setStd_migrs (d : Dev) (s : Nat) (x : Stand) : (d.setStd s x).migrs = d.migrs := rfl
@[simp] theorem Dev.setStd_migNext (d : Dev) (s : Nat) (x : Stand) : (d.setStd s x).migNext = d.migNext := rfl
@[simp] theorem Dev.setStd_promos (d : Dev) (s : Nat) (x : Stand) : (d.setStd s x).promos = d.promos := rfl
@[simp] theorem Dev.setStd_recodes (d : Dev) (s : Nat) (x : Stand) : (d.setStd s x).recodes = d.recodes := rfl
@[simp] theorem Dev.setStd_images (d : Dev) (s : Nat) (x : Stand) : (d.setStd s x).images = d.images := rfl
@[simp] theorem Dev.setStd_imgNext (d : Dev) (s : Nat) (x : Stand) : (d.setStd s x).imgNext = d.imgNext := rfl
@[simp] theorem Dev.setStd_slotImg (d : Dev) (s : Nat) (x : Stand) : (d.setStd s x).slotImg = d.slotImg := rfl
@[simp] theorem Dev.setStd_cores (d : Dev) (s : Nat) (x : Stand) : (d.setStd s x).cores = d.cores := rfl
@[simp] theorem Dev.setStd_threads (d : Dev) (s : Nat) (x : Stand) : (d.setStd s x).threads = d.threads := rfl
@[simp] theorem Dev.setStd_blazes (d : Dev) (s : Nat) (x : Stand) : (d.setStd s x).blazes = d.blazes := rfl
@[simp] theorem Dev.setStd_stage (d : Dev) (s : Nat) (x : Stand) : (d.setStd s x).stage = d.stage := rfl
@[simp] theorem Dev.setStd_stageAreas (d : Dev) (s : Nat) (x : Stand) : (d.setStd s x).stageAreas = d.stageAreas := rfl
@[simp] theorem Dev.setStd_stageRegion (d : Dev) (s : Nat) (x : Stand) : (d.setStd s x).stageRegion = d.stageRegion := rfl
@[simp] theorem Dev.setStd_orders (d : Dev) (s : Nat) (x : Stand) : (d.setStd s x).orders = d.orders := rfl
@[simp] theorem Dev.setStd_orderNext (d : Dev) (s : Nat) (x : Stand) : (d.setStd s x).orderNext = d.orderNext := rfl
@[simp] theorem Dev.setStd_subs (d : Dev) (s : Nat) (x : Stand) : (d.setStd s x).subs = d.subs := rfl
@[simp] theorem Dev.setStd_subNext (d : Dev) (s : Nat) (x : Stand) : (d.setStd s x).subNext = d.subNext := rfl
@[simp] theorem Dev.setStd_rings (d : Dev) (s : Nat) (x : Stand) : (d.setStd s x).rings = d.rings := rfl
@[simp] theorem Dev.setStd_wqs (d : Dev) (s : Nat) (x : Stand) : (d.setStd s x).wqs = d.wqs := rfl
@[simp] theorem Dev.setStd_merges (d : Dev) (s : Nat) (x : Stand) : (d.setStd s x).merges = d.merges := rfl
@[simp] theorem Dev.setStd_parts (d : Dev) (s : Nat) (x : Stand) : (d.setStd s x).parts = d.parts := rfl
@[simp] theorem Dev.setStd_partNext (d : Dev) (s : Nat) (x : Stand) : (d.setStd s x).partNext = d.partNext := rfl
@[simp] theorem Dev.setStd_tel (d : Dev) (s : Nat) (x : Stand) : (d.setStd s x).tel = d.tel := rfl
@[simp] theorem Dev.setStd_weights (d : Dev) (s : Nat) (x : Stand) : (d.setStd s x).weights = d.weights := rfl
@[simp] theorem Dev.setStd_scratches (d : Dev) (s : Nat) (x : Stand) : (d.setStd s x).scratches = d.scratches := rfl
@[simp] theorem Dev.setStd_nbprogs (d : Dev) (s : Nat) (x : Stand) : (d.setStd s x).nbprogs = d.nbprogs := rfl
@[simp] theorem Dev.setStd_nbNext (d : Dev) (s : Nat) (x : Stand) : (d.setStd s x).nbNext = d.nbNext := rfl
@[simp] theorem Dev.setStd_locals (d : Dev) (s : Nat) (x : Stand) : (d.setStd s x).locals = d.locals := rfl
@[simp] theorem Dev.setStd_slot4 (d : Dev) (s : Nat) (x : Stand) : (d.setStd s x).slot4 = d.slot4 := rfl
@[simp] theorem Dev.setStd_regionCmds (d : Dev) (s : Nat) (x : Stand) : (d.setStd s x).regionCmds = d.regionCmds := rfl
@[simp] theorem Dev.setStd_unloads (d : Dev) (s : Nat) (x : Stand) : (d.setStd s x).unloads = d.unloads := rfl
@[simp] theorem Dev.setStd_slices (d : Dev) (s : Nat) (x : Stand) : (d.setStd s x).slices = d.slices := rfl
@[simp] theorem Dev.setStd_copies (d : Dev) (s : Nat) (x : Stand) : (d.setStd s x).copies = d.copies := rfl
@[simp] theorem Dev.setStd_mirSeqs (d : Dev) (s : Nat) (x : Stand) : (d.setStd s x).mirSeqs = d.mirSeqs := rfl
@[simp] theorem Dev.setStd_lendIn (d : Dev) (s : Nat) (x : Stand) : (d.setStd s x).lendIn = d.lendIn := rfl
@[simp] theorem Dev.setStd_lendOut (d : Dev) (s : Nat) (x : Stand) : (d.setStd s x).lendOut = d.lendOut := rfl
@[simp] theorem Dev.setStd_ports (d : Dev) (s : Nat) (x : Stand) : (d.setStd s x).ports = d.ports := rfl
@[simp] theorem Dev.setStd_egress (d : Dev) (s : Nat) (x : Stand) : (d.setStd s x).egress = d.egress := rfl
@[simp] theorem Dev.setStd_scheds (d : Dev) (s : Nat) (x : Stand) : (d.setStd s x).scheds = d.scheds := rfl
@[simp] theorem Dev.setStd_conns (d : Dev) (s : Nat) (x : Stand) : (d.setStd s x).conns = d.conns := rfl
@[simp] theorem Dev.setStd_tracts (d : Dev) (s : Nat) (x : Stand) : (d.setStd s x).tracts = d.tracts := rfl
@[simp] theorem Dev.setStd_opNext (d : Dev) (s : Nat) (x : Stand) : (d.setStd s x).opNext = d.opNext := rfl
@[simp] theorem Dev.setStd_msgEnds (d : Dev) (s : Nat) (x : Stand) : (d.setStd s x).msgEnds = d.msgEnds := rfl
@[simp] theorem Dev.setStd_slew (d : Dev) (s : Nat) (x : Stand) : (d.setStd s x).slew = d.slew := rfl
@[simp] theorem Dev.setStd_slewAcc (d : Dev) (s : Nat) (x : Stand) : (d.setStd s x).slewAcc = d.slewAcc := rfl
@[simp] theorem Dev.setStd_lockRun (d : Dev) (s : Nat) (x : Stand) : (d.setStd s x).lockRun = d.lockRun := rfl
@[simp] theorem Dev.setStd_ppsRun (d : Dev) (s : Nat) (x : Stand) : (d.setStd s x).ppsRun = d.ppsRun := rfl
@[simp] theorem Dev.setStd_telInt (d : Dev) (s : Nat) (x : Stand) : (d.setStd s x).telInt = d.telInt := rfl
@[simp] theorem Dev.setStd_telOk (d : Dev) (s : Nat) (x : Stand) : (d.setStd s x).telOk = d.telOk := rfl
@[simp] theorem Dev.setStd_telHold (d : Dev) (s : Nat) (x : Stand) : (d.setStd s x).telHold = d.telHold := rfl
@[simp] theorem Dev.setStd_telStep (d : Dev) (s : Nat) (x : Stand) : (d.setStd s x).telStep = d.telStep := rfl
@[simp] theorem Dev.setStd_telOn (d : Dev) (s : Nat) (x : Stand) : (d.setStd s x).telOn = d.telOn := rfl
@[simp] theorem Dev.setStd_telQ (d : Dev) (s : Nat) (x : Stand) : (d.setStd s x).telQ = d.telQ := rfl
@[simp] theorem Dev.setStd_slotId (d : Dev) (s : Nat) (x : Stand) : (d.setStd s x).slotId = d.slotId := rfl
@[simp] theorem Dev.setStd_standbyEpoch (d : Dev) (s : Nat) (x : Stand) : (d.setStd s x).standbyEpoch = d.standbyEpoch := rfl
@[simp] theorem Dev.setStd_lastAdv (d : Dev) (s : Nat) (x : Stand) : (d.setStd s x).lastAdv = d.lastAdv := rfl
@[simp] theorem Dev.setStd_version (d : Dev) (s : Nat) (x : Stand) : (d.setStd s x).version = d.version := rfl
@[simp] theorem Dev.setStd_cruiseIn (d : Dev) (s : Nat) (x : Stand) : (d.setStd s x).cruiseIn = d.cruiseIn := rfl
@[simp] theorem Dev.setStd_lendAsk (d : Dev) (s : Nat) (x : Stand) : (d.setStd s x).lendAsk = d.lendAsk := rfl
@[simp] theorem Dev.setStd_seenMsgs (d : Dev) (s : Nat) (x : Stand) : (d.setStd s x).seenMsgs = d.seenMsgs := rfl
@[simp] theorem Dev.setStd_rowMap (d : Dev) (s : Nat) (x : Stand) : (d.setStd s x).rowMap = d.rowMap := rfl
@[simp] theorem Dev.setStd_rowSums (d : Dev) (s : Nat) (x : Stand) : (d.setStd s x).rowSums = d.rowSums := rfl
@[simp] theorem Dev.setStd_failed (d : Dev) (s : Nat) (x : Stand) : (d.setStd s x).failed = d.failed := rfl
@[simp] theorem Dev.setStd_downLinks (d : Dev) (s : Nat) (x : Stand) : (d.setStd s x).downLinks = d.downLinks := rfl
@[simp] theorem Dev.setStd_disclaims (d : Dev) (s : Nat) (x : Stand) : (d.setStd s x).disclaims = d.disclaims := rfl
@[simp] theorem Dev.setStd_promoted (d : Dev) (s : Nat) (x : Stand) : (d.setStd s x).promoted = d.promoted := rfl
@[simp] theorem Dev.setStd_zoneFails (d : Dev) (s : Nat) (x : Stand) : (d.setStd s x).zoneFails = d.zoneFails := rfl
@[simp] theorem Dev.setStd_heatEpoch (d : Dev) (s : Nat) (x : Stand) : (d.setStd s x).heatEpoch = d.heatEpoch := rfl
@[simp] theorem Dev.setStd_svcRes (d : Dev) (s : Nat) (x : Stand) : (d.setStd s x).svcRes = d.svcRes := rfl

/-! ## setHostQ -/

@[simp] theorem Dev.setHostQ_freeCtr (d : Dev) (s : Nat) (x : HostQ) : (d.setHostQ s x).freeCtr = d.freeCtr := rfl
@[simp] theorem Dev.setHostQ_up (d : Dev) (s : Nat) (x : HostQ) : (d.setHostQ s x).up = d.up := rfl
@[simp] theorem Dev.setHostQ_fab (d : Dev) (s : Nat) (x : HostQ) : (d.setHostQ s x).fab = d.fab := rfl
@[simp] theorem Dev.setHostQ_regs (d : Dev) (s : Nat) (x : HostQ) : (d.setHostQ s x).regs = d.regs := rfl
@[simp] theorem Dev.setHostQ_out (d : Dev) (s : Nat) (x : HostQ) : (d.setHostQ s x).out = d.out := rfl
@[simp] theorem Dev.setHostQ_stands (d : Dev) (s : Nat) (x : HostQ) : (d.setHostQ s x).stands = d.stands := rfl
@[simp] theorem Dev.setHostQ_cfgA (d : Dev) (s : Nat) (x : HostQ) : (d.setHostQ s x).cfgA = d.cfgA := rfl
@[simp] theorem Dev.setHostQ_cfgB (d : Dev) (s : Nat) (x : HostQ) : (d.setHostQ s x).cfgB = d.cfgB := rfl
@[simp] theorem Dev.setHostQ_cfg (d : Dev) (s : Nat) (x : HostQ) : (d.setHostQ s x).cfg = d.cfg := rfl
@[simp] theorem Dev.setHostQ_cfgIsB (d : Dev) (s : Nat) (x : HostQ) : (d.setHostQ s x).cfgIsB = d.cfgIsB := rfl
@[simp] theorem Dev.setHostQ_fences (d : Dev) (s : Nat) (x : HostQ) : (d.setHostQ s x).fences = d.fences := rfl
@[simp] theorem Dev.setHostQ_react (d : Dev) (s : Nat) (x : HostQ) : (d.setHostQ s x).react = d.react := rfl
@[simp] theorem Dev.setHostQ_invCause (d : Dev) (s : Nat) (x : HostQ) : (d.setHostQ s x).invCause = d.invCause := rfl
@[simp] theorem Dev.setHostQ_invTaken (d : Dev) (s : Nat) (x : HostQ) : (d.setHostQ s x).invTaken = d.invTaken := rfl
@[simp] theorem Dev.setHostQ_halted (d : Dev) (s : Nat) (x : HostQ) : (d.setHostQ s x).halted = d.halted := rfl
@[simp] theorem Dev.setHostQ_ptlQ (d : Dev) (s : Nat) (x : HostQ) : (d.setHostQ s x).ptlQ = d.ptlQ := rfl
@[simp] theorem Dev.setHostQ_ptlRun (d : Dev) (s : Nat) (x : HostQ) : (d.setHostQ s x).ptlRun = d.ptlRun := rfl
@[simp] theorem Dev.setHostQ_ptlHist (d : Dev) (s : Nat) (x : HostQ) : (d.setHostQ s x).ptlHist = d.ptlHist := rfl
@[simp] theorem Dev.setHostQ_warn (d : Dev) (s : Nat) (x : HostQ) : (d.setHostQ s x).warn = d.warn := rfl
@[simp] theorem Dev.setHostQ_goodRun (d : Dev) (s : Nat) (x : HostQ) : (d.setHostQ s x).goodRun = d.goodRun := rfl
@[simp] theorem Dev.setHostQ_thermL (d : Dev) (s : Nat) (x : HostQ) : (d.setHostQ s x).thermL = d.thermL := rfl
@[simp] theorem Dev.setHostQ_avsWait (d : Dev) (s : Nat) (x : HostQ) : (d.setHostQ s x).avsWait = d.avsWait := rfl
@[simp] theorem Dev.setHostQ_avsPoint (d : Dev) (s : Nat) (x : HostQ) : (d.setHostQ s x).avsPoint = d.avsPoint := rfl
@[simp] theorem Dev.setHostQ_avsLate (d : Dev) (s : Nat) (x : HostQ) : (d.setHostQ s x).avsLate = d.avsLate := rfl
@[simp] theorem Dev.setHostQ_rails (d : Dev) (s : Nat) (x : HostQ) : (d.setHostQ s x).rails = d.rails := rfl
@[simp] theorem Dev.setHostQ_lpEnter (d : Dev) (s : Nat) (x : HostQ) : (d.setHostQ s x).lpEnter = d.lpEnter := rfl
@[simp] theorem Dev.setHostQ_off (d : Dev) (s : Nat) (x : HostQ) : (d.setHostQ s x).off = d.off := rfl
@[simp] theorem Dev.setHostQ_inS4 (d : Dev) (s : Nat) (x : HostQ) : (d.setHostQ s x).inS4 = d.inS4 := rfl
@[simp] theorem Dev.setHostQ_temps (d : Dev) (s : Nat) (x : HostQ) : (d.setHostQ s x).temps = d.temps := rfl
@[simp] theorem Dev.setHostQ_cellRst (d : Dev) (s : Nat) (x : HostQ) : (d.setHostQ s x).cellRst = d.cellRst := rfl
@[simp] theorem Dev.setHostQ_warm (d : Dev) (s : Nat) (x : HostQ) : (d.setHostQ s x).warm = d.warm := rfl
@[simp] theorem Dev.setHostQ_resetQ (d : Dev) (s : Nat) (x : HostQ) : (d.setHostQ s x).resetQ = d.resetQ := rfl
@[simp] theorem Dev.setHostQ_board (d : Dev) (s : Nat) (x : HostQ) : (d.setHostQ s x).board = d.board := rfl
@[simp] theorem Dev.setHostQ_mgmt (d : Dev) (s : Nat) (x : HostQ) : (d.setHostQ s x).mgmt = d.mgmt := rfl
@[simp] theorem Dev.setHostQ_doing (d : Dev) (s : Nat) (x : HostQ) : (d.setHostQ s x).doing = d.doing := rfl
@[simp] theorem Dev.setHostQ_hq (d : Dev) (s : Nat) (x : HostQ) : (d.setHostQ s x).hq = Tab.set d.hq s x := rfl
@[simp] theorem Dev.setHostQ_msix (d : Dev) (s : Nat) (x : HostQ) : (d.setHostQ s x).msix = d.msix := rfl
@[simp] theorem Dev.setHostQ_fns (d : Dev) (s : Nat) (x : HostQ) : (d.setHostQ s x).fns = d.fns := rfl
@[simp] theorem Dev.setHostQ_dma (d : Dev) (s : Nat) (x : HostQ) : (d.setHostQ s x).dma = d.dma := rfl
@[simp] theorem Dev.setHostQ_dmaNext (d : Dev) (s : Nat) (x : HostQ) : (d.setHostQ s x).dmaNext = d.dmaNext := rfl
@[simp] theorem Dev.setHostQ_profiles (d : Dev) (s : Nat) (x : HostQ) : (d.setHostQ s x).profiles = d.profiles := rfl
@[simp] theorem Dev.setHostQ_dir (d : Dev) (s : Nat) (x : HostQ) : (d.setHostQ s x).dir = d.dir := rfl
@[simp] theorem Dev.setHostQ_shadow (d : Dev) (s : Nat) (x : HostQ) : (d.setHostQ s x).shadow = d.shadow := rfl
@[simp] theorem Dev.setHostQ_dirOps (d : Dev) (s : Nat) (x : HostQ) : (d.setHostQ s x).dirOps = d.dirOps := rfl
@[simp] theorem Dev.setHostQ_svc (d : Dev) (s : Nat) (x : HostQ) : (d.setHostQ s x).svc = d.svc := rfl
@[simp] theorem Dev.setHostQ_svcUsed (d : Dev) (s : Nat) (x : HostQ) : (d.setHostQ s x).svcUsed = d.svcUsed := rfl
@[simp] theorem Dev.setHostQ_pins (d : Dev) (s : Nat) (x : HostQ) : (d.setHostQ s x).pins = d.pins := rfl
@[simp] theorem Dev.setHostQ_pinNext (d : Dev) (s : Nat) (x : HostQ) : (d.setHostQ s x).pinNext = d.pinNext := rfl
@[simp] theorem Dev.setHostQ_oldGens (d : Dev) (s : Nat) (x : HostQ) : (d.setHostQ s x).oldGens = d.oldGens := rfl
@[simp] theorem Dev.setHostQ_held (d : Dev) (s : Nat) (x : HostQ) : (d.setHostQ s x).held = d.held := rfl
@[simp] theorem Dev.setHostQ_lateFree (d : Dev) (s : Nat) (x : HostQ) : (d.setHostQ s x).lateFree = d.lateFree := rfl
@[simp] theorem Dev.setHostQ_pages (d : Dev) (s : Nat) (x : HostQ) : (d.setHostQ s x).pages = d.pages := rfl
@[simp] theorem Dev.setHostQ_mem (d : Dev) (s : Nat) (x : HostQ) : (d.setHostQ s x).mem = d.mem := rfl
@[simp] theorem Dev.setHostQ_runs (d : Dev) (s : Nat) (x : HostQ) : (d.setHostQ s x).runs = d.runs := rfl
@[simp] theorem Dev.setHostQ_slots (d : Dev) (s : Nat) (x : HostQ) : (d.setHostQ s x).slots = d.slots := rfl
@[simp] theorem Dev.setHostQ_moves (d : Dev) (s : Nat) (x : HostQ) : (d.setHostQ s x).moves = d.moves := rfl
@[simp] theorem Dev.setHostQ_migrs (d : Dev) (s : Nat) (x : HostQ) : (d.setHostQ s x).migrs = d.migrs := rfl
@[simp] theorem Dev.setHostQ_migNext (d : Dev) (s : Nat) (x : HostQ) : (d.setHostQ s x).migNext = d.migNext := rfl
@[simp] theorem Dev.setHostQ_promos (d : Dev) (s : Nat) (x : HostQ) : (d.setHostQ s x).promos = d.promos := rfl
@[simp] theorem Dev.setHostQ_recodes (d : Dev) (s : Nat) (x : HostQ) : (d.setHostQ s x).recodes = d.recodes := rfl
@[simp] theorem Dev.setHostQ_images (d : Dev) (s : Nat) (x : HostQ) : (d.setHostQ s x).images = d.images := rfl
@[simp] theorem Dev.setHostQ_imgNext (d : Dev) (s : Nat) (x : HostQ) : (d.setHostQ s x).imgNext = d.imgNext := rfl
@[simp] theorem Dev.setHostQ_slotImg (d : Dev) (s : Nat) (x : HostQ) : (d.setHostQ s x).slotImg = d.slotImg := rfl
@[simp] theorem Dev.setHostQ_cores (d : Dev) (s : Nat) (x : HostQ) : (d.setHostQ s x).cores = d.cores := rfl
@[simp] theorem Dev.setHostQ_threads (d : Dev) (s : Nat) (x : HostQ) : (d.setHostQ s x).threads = d.threads := rfl
@[simp] theorem Dev.setHostQ_blazes (d : Dev) (s : Nat) (x : HostQ) : (d.setHostQ s x).blazes = d.blazes := rfl
@[simp] theorem Dev.setHostQ_stage (d : Dev) (s : Nat) (x : HostQ) : (d.setHostQ s x).stage = d.stage := rfl
@[simp] theorem Dev.setHostQ_stageAreas (d : Dev) (s : Nat) (x : HostQ) : (d.setHostQ s x).stageAreas = d.stageAreas := rfl
@[simp] theorem Dev.setHostQ_stageRegion (d : Dev) (s : Nat) (x : HostQ) : (d.setHostQ s x).stageRegion = d.stageRegion := rfl
@[simp] theorem Dev.setHostQ_orders (d : Dev) (s : Nat) (x : HostQ) : (d.setHostQ s x).orders = d.orders := rfl
@[simp] theorem Dev.setHostQ_orderNext (d : Dev) (s : Nat) (x : HostQ) : (d.setHostQ s x).orderNext = d.orderNext := rfl
@[simp] theorem Dev.setHostQ_subs (d : Dev) (s : Nat) (x : HostQ) : (d.setHostQ s x).subs = d.subs := rfl
@[simp] theorem Dev.setHostQ_subNext (d : Dev) (s : Nat) (x : HostQ) : (d.setHostQ s x).subNext = d.subNext := rfl
@[simp] theorem Dev.setHostQ_rings (d : Dev) (s : Nat) (x : HostQ) : (d.setHostQ s x).rings = d.rings := rfl
@[simp] theorem Dev.setHostQ_wqs (d : Dev) (s : Nat) (x : HostQ) : (d.setHostQ s x).wqs = d.wqs := rfl
@[simp] theorem Dev.setHostQ_merges (d : Dev) (s : Nat) (x : HostQ) : (d.setHostQ s x).merges = d.merges := rfl
@[simp] theorem Dev.setHostQ_parts (d : Dev) (s : Nat) (x : HostQ) : (d.setHostQ s x).parts = d.parts := rfl
@[simp] theorem Dev.setHostQ_partNext (d : Dev) (s : Nat) (x : HostQ) : (d.setHostQ s x).partNext = d.partNext := rfl
@[simp] theorem Dev.setHostQ_tel (d : Dev) (s : Nat) (x : HostQ) : (d.setHostQ s x).tel = d.tel := rfl
@[simp] theorem Dev.setHostQ_weights (d : Dev) (s : Nat) (x : HostQ) : (d.setHostQ s x).weights = d.weights := rfl
@[simp] theorem Dev.setHostQ_scratches (d : Dev) (s : Nat) (x : HostQ) : (d.setHostQ s x).scratches = d.scratches := rfl
@[simp] theorem Dev.setHostQ_nbprogs (d : Dev) (s : Nat) (x : HostQ) : (d.setHostQ s x).nbprogs = d.nbprogs := rfl
@[simp] theorem Dev.setHostQ_nbNext (d : Dev) (s : Nat) (x : HostQ) : (d.setHostQ s x).nbNext = d.nbNext := rfl
@[simp] theorem Dev.setHostQ_locals (d : Dev) (s : Nat) (x : HostQ) : (d.setHostQ s x).locals = d.locals := rfl
@[simp] theorem Dev.setHostQ_slot4 (d : Dev) (s : Nat) (x : HostQ) : (d.setHostQ s x).slot4 = d.slot4 := rfl
@[simp] theorem Dev.setHostQ_regionCmds (d : Dev) (s : Nat) (x : HostQ) : (d.setHostQ s x).regionCmds = d.regionCmds := rfl
@[simp] theorem Dev.setHostQ_unloads (d : Dev) (s : Nat) (x : HostQ) : (d.setHostQ s x).unloads = d.unloads := rfl
@[simp] theorem Dev.setHostQ_slices (d : Dev) (s : Nat) (x : HostQ) : (d.setHostQ s x).slices = d.slices := rfl
@[simp] theorem Dev.setHostQ_copies (d : Dev) (s : Nat) (x : HostQ) : (d.setHostQ s x).copies = d.copies := rfl
@[simp] theorem Dev.setHostQ_mirSeqs (d : Dev) (s : Nat) (x : HostQ) : (d.setHostQ s x).mirSeqs = d.mirSeqs := rfl
@[simp] theorem Dev.setHostQ_lendIn (d : Dev) (s : Nat) (x : HostQ) : (d.setHostQ s x).lendIn = d.lendIn := rfl
@[simp] theorem Dev.setHostQ_lendOut (d : Dev) (s : Nat) (x : HostQ) : (d.setHostQ s x).lendOut = d.lendOut := rfl
@[simp] theorem Dev.setHostQ_ports (d : Dev) (s : Nat) (x : HostQ) : (d.setHostQ s x).ports = d.ports := rfl
@[simp] theorem Dev.setHostQ_egress (d : Dev) (s : Nat) (x : HostQ) : (d.setHostQ s x).egress = d.egress := rfl
@[simp] theorem Dev.setHostQ_scheds (d : Dev) (s : Nat) (x : HostQ) : (d.setHostQ s x).scheds = d.scheds := rfl
@[simp] theorem Dev.setHostQ_conns (d : Dev) (s : Nat) (x : HostQ) : (d.setHostQ s x).conns = d.conns := rfl
@[simp] theorem Dev.setHostQ_tracts (d : Dev) (s : Nat) (x : HostQ) : (d.setHostQ s x).tracts = d.tracts := rfl
@[simp] theorem Dev.setHostQ_opNext (d : Dev) (s : Nat) (x : HostQ) : (d.setHostQ s x).opNext = d.opNext := rfl
@[simp] theorem Dev.setHostQ_msgEnds (d : Dev) (s : Nat) (x : HostQ) : (d.setHostQ s x).msgEnds = d.msgEnds := rfl
@[simp] theorem Dev.setHostQ_slew (d : Dev) (s : Nat) (x : HostQ) : (d.setHostQ s x).slew = d.slew := rfl
@[simp] theorem Dev.setHostQ_slewAcc (d : Dev) (s : Nat) (x : HostQ) : (d.setHostQ s x).slewAcc = d.slewAcc := rfl
@[simp] theorem Dev.setHostQ_lockRun (d : Dev) (s : Nat) (x : HostQ) : (d.setHostQ s x).lockRun = d.lockRun := rfl
@[simp] theorem Dev.setHostQ_ppsRun (d : Dev) (s : Nat) (x : HostQ) : (d.setHostQ s x).ppsRun = d.ppsRun := rfl
@[simp] theorem Dev.setHostQ_telInt (d : Dev) (s : Nat) (x : HostQ) : (d.setHostQ s x).telInt = d.telInt := rfl
@[simp] theorem Dev.setHostQ_telOk (d : Dev) (s : Nat) (x : HostQ) : (d.setHostQ s x).telOk = d.telOk := rfl
@[simp] theorem Dev.setHostQ_telHold (d : Dev) (s : Nat) (x : HostQ) : (d.setHostQ s x).telHold = d.telHold := rfl
@[simp] theorem Dev.setHostQ_telStep (d : Dev) (s : Nat) (x : HostQ) : (d.setHostQ s x).telStep = d.telStep := rfl
@[simp] theorem Dev.setHostQ_telOn (d : Dev) (s : Nat) (x : HostQ) : (d.setHostQ s x).telOn = d.telOn := rfl
@[simp] theorem Dev.setHostQ_telQ (d : Dev) (s : Nat) (x : HostQ) : (d.setHostQ s x).telQ = d.telQ := rfl
@[simp] theorem Dev.setHostQ_slotId (d : Dev) (s : Nat) (x : HostQ) : (d.setHostQ s x).slotId = d.slotId := rfl
@[simp] theorem Dev.setHostQ_standbyEpoch (d : Dev) (s : Nat) (x : HostQ) : (d.setHostQ s x).standbyEpoch = d.standbyEpoch := rfl
@[simp] theorem Dev.setHostQ_lastAdv (d : Dev) (s : Nat) (x : HostQ) : (d.setHostQ s x).lastAdv = d.lastAdv := rfl
@[simp] theorem Dev.setHostQ_version (d : Dev) (s : Nat) (x : HostQ) : (d.setHostQ s x).version = d.version := rfl
@[simp] theorem Dev.setHostQ_cruiseIn (d : Dev) (s : Nat) (x : HostQ) : (d.setHostQ s x).cruiseIn = d.cruiseIn := rfl
@[simp] theorem Dev.setHostQ_lendAsk (d : Dev) (s : Nat) (x : HostQ) : (d.setHostQ s x).lendAsk = d.lendAsk := rfl
@[simp] theorem Dev.setHostQ_seenMsgs (d : Dev) (s : Nat) (x : HostQ) : (d.setHostQ s x).seenMsgs = d.seenMsgs := rfl
@[simp] theorem Dev.setHostQ_rowMap (d : Dev) (s : Nat) (x : HostQ) : (d.setHostQ s x).rowMap = d.rowMap := rfl
@[simp] theorem Dev.setHostQ_rowSums (d : Dev) (s : Nat) (x : HostQ) : (d.setHostQ s x).rowSums = d.rowSums := rfl
@[simp] theorem Dev.setHostQ_failed (d : Dev) (s : Nat) (x : HostQ) : (d.setHostQ s x).failed = d.failed := rfl
@[simp] theorem Dev.setHostQ_downLinks (d : Dev) (s : Nat) (x : HostQ) : (d.setHostQ s x).downLinks = d.downLinks := rfl
@[simp] theorem Dev.setHostQ_disclaims (d : Dev) (s : Nat) (x : HostQ) : (d.setHostQ s x).disclaims = d.disclaims := rfl
@[simp] theorem Dev.setHostQ_promoted (d : Dev) (s : Nat) (x : HostQ) : (d.setHostQ s x).promoted = d.promoted := rfl
@[simp] theorem Dev.setHostQ_zoneFails (d : Dev) (s : Nat) (x : HostQ) : (d.setHostQ s x).zoneFails = d.zoneFails := rfl
@[simp] theorem Dev.setHostQ_heatEpoch (d : Dev) (s : Nat) (x : HostQ) : (d.setHostQ s x).heatEpoch = d.heatEpoch := rfl
@[simp] theorem Dev.setHostQ_svcRes (d : Dev) (s : Nat) (x : HostQ) : (d.setHostQ s x).svcRes = d.svcRes := rfl

/-! ## setConn -/

@[simp] theorem Dev.setConn_freeCtr (d : Dev) (c : Nat) (x : Conn) : (d.setConn c x).freeCtr = d.freeCtr := rfl
@[simp] theorem Dev.setConn_up (d : Dev) (c : Nat) (x : Conn) : (d.setConn c x).up = d.up := rfl
@[simp] theorem Dev.setConn_fab (d : Dev) (c : Nat) (x : Conn) : (d.setConn c x).fab = d.fab := rfl
@[simp] theorem Dev.setConn_regs (d : Dev) (c : Nat) (x : Conn) : (d.setConn c x).regs = d.regs := rfl
@[simp] theorem Dev.setConn_out (d : Dev) (c : Nat) (x : Conn) : (d.setConn c x).out = d.out := rfl
@[simp] theorem Dev.setConn_stands (d : Dev) (c : Nat) (x : Conn) : (d.setConn c x).stands = d.stands := rfl
@[simp] theorem Dev.setConn_cfgA (d : Dev) (c : Nat) (x : Conn) : (d.setConn c x).cfgA = d.cfgA := rfl
@[simp] theorem Dev.setConn_cfgB (d : Dev) (c : Nat) (x : Conn) : (d.setConn c x).cfgB = d.cfgB := rfl
@[simp] theorem Dev.setConn_cfg (d : Dev) (c : Nat) (x : Conn) : (d.setConn c x).cfg = d.cfg := rfl
@[simp] theorem Dev.setConn_cfgIsB (d : Dev) (c : Nat) (x : Conn) : (d.setConn c x).cfgIsB = d.cfgIsB := rfl
@[simp] theorem Dev.setConn_fences (d : Dev) (c : Nat) (x : Conn) : (d.setConn c x).fences = d.fences := rfl
@[simp] theorem Dev.setConn_react (d : Dev) (c : Nat) (x : Conn) : (d.setConn c x).react = d.react := rfl
@[simp] theorem Dev.setConn_invCause (d : Dev) (c : Nat) (x : Conn) : (d.setConn c x).invCause = d.invCause := rfl
@[simp] theorem Dev.setConn_invTaken (d : Dev) (c : Nat) (x : Conn) : (d.setConn c x).invTaken = d.invTaken := rfl
@[simp] theorem Dev.setConn_halted (d : Dev) (c : Nat) (x : Conn) : (d.setConn c x).halted = d.halted := rfl
@[simp] theorem Dev.setConn_ptlQ (d : Dev) (c : Nat) (x : Conn) : (d.setConn c x).ptlQ = d.ptlQ := rfl
@[simp] theorem Dev.setConn_ptlRun (d : Dev) (c : Nat) (x : Conn) : (d.setConn c x).ptlRun = d.ptlRun := rfl
@[simp] theorem Dev.setConn_ptlHist (d : Dev) (c : Nat) (x : Conn) : (d.setConn c x).ptlHist = d.ptlHist := rfl
@[simp] theorem Dev.setConn_warn (d : Dev) (c : Nat) (x : Conn) : (d.setConn c x).warn = d.warn := rfl
@[simp] theorem Dev.setConn_goodRun (d : Dev) (c : Nat) (x : Conn) : (d.setConn c x).goodRun = d.goodRun := rfl
@[simp] theorem Dev.setConn_thermL (d : Dev) (c : Nat) (x : Conn) : (d.setConn c x).thermL = d.thermL := rfl
@[simp] theorem Dev.setConn_avsWait (d : Dev) (c : Nat) (x : Conn) : (d.setConn c x).avsWait = d.avsWait := rfl
@[simp] theorem Dev.setConn_avsPoint (d : Dev) (c : Nat) (x : Conn) : (d.setConn c x).avsPoint = d.avsPoint := rfl
@[simp] theorem Dev.setConn_avsLate (d : Dev) (c : Nat) (x : Conn) : (d.setConn c x).avsLate = d.avsLate := rfl
@[simp] theorem Dev.setConn_rails (d : Dev) (c : Nat) (x : Conn) : (d.setConn c x).rails = d.rails := rfl
@[simp] theorem Dev.setConn_lpEnter (d : Dev) (c : Nat) (x : Conn) : (d.setConn c x).lpEnter = d.lpEnter := rfl
@[simp] theorem Dev.setConn_off (d : Dev) (c : Nat) (x : Conn) : (d.setConn c x).off = d.off := rfl
@[simp] theorem Dev.setConn_inS4 (d : Dev) (c : Nat) (x : Conn) : (d.setConn c x).inS4 = d.inS4 := rfl
@[simp] theorem Dev.setConn_temps (d : Dev) (c : Nat) (x : Conn) : (d.setConn c x).temps = d.temps := rfl
@[simp] theorem Dev.setConn_cellRst (d : Dev) (c : Nat) (x : Conn) : (d.setConn c x).cellRst = d.cellRst := rfl
@[simp] theorem Dev.setConn_warm (d : Dev) (c : Nat) (x : Conn) : (d.setConn c x).warm = d.warm := rfl
@[simp] theorem Dev.setConn_resetQ (d : Dev) (c : Nat) (x : Conn) : (d.setConn c x).resetQ = d.resetQ := rfl
@[simp] theorem Dev.setConn_board (d : Dev) (c : Nat) (x : Conn) : (d.setConn c x).board = d.board := rfl
@[simp] theorem Dev.setConn_mgmt (d : Dev) (c : Nat) (x : Conn) : (d.setConn c x).mgmt = d.mgmt := rfl
@[simp] theorem Dev.setConn_doing (d : Dev) (c : Nat) (x : Conn) : (d.setConn c x).doing = d.doing := rfl
@[simp] theorem Dev.setConn_hq (d : Dev) (c : Nat) (x : Conn) : (d.setConn c x).hq = d.hq := rfl
@[simp] theorem Dev.setConn_msix (d : Dev) (c : Nat) (x : Conn) : (d.setConn c x).msix = d.msix := rfl
@[simp] theorem Dev.setConn_fns (d : Dev) (c : Nat) (x : Conn) : (d.setConn c x).fns = d.fns := rfl
@[simp] theorem Dev.setConn_dma (d : Dev) (c : Nat) (x : Conn) : (d.setConn c x).dma = d.dma := rfl
@[simp] theorem Dev.setConn_dmaNext (d : Dev) (c : Nat) (x : Conn) : (d.setConn c x).dmaNext = d.dmaNext := rfl
@[simp] theorem Dev.setConn_profiles (d : Dev) (c : Nat) (x : Conn) : (d.setConn c x).profiles = d.profiles := rfl
@[simp] theorem Dev.setConn_dir (d : Dev) (c : Nat) (x : Conn) : (d.setConn c x).dir = d.dir := rfl
@[simp] theorem Dev.setConn_shadow (d : Dev) (c : Nat) (x : Conn) : (d.setConn c x).shadow = d.shadow := rfl
@[simp] theorem Dev.setConn_dirOps (d : Dev) (c : Nat) (x : Conn) : (d.setConn c x).dirOps = d.dirOps := rfl
@[simp] theorem Dev.setConn_svc (d : Dev) (c : Nat) (x : Conn) : (d.setConn c x).svc = d.svc := rfl
@[simp] theorem Dev.setConn_svcUsed (d : Dev) (c : Nat) (x : Conn) : (d.setConn c x).svcUsed = d.svcUsed := rfl
@[simp] theorem Dev.setConn_pins (d : Dev) (c : Nat) (x : Conn) : (d.setConn c x).pins = d.pins := rfl
@[simp] theorem Dev.setConn_pinNext (d : Dev) (c : Nat) (x : Conn) : (d.setConn c x).pinNext = d.pinNext := rfl
@[simp] theorem Dev.setConn_oldGens (d : Dev) (c : Nat) (x : Conn) : (d.setConn c x).oldGens = d.oldGens := rfl
@[simp] theorem Dev.setConn_held (d : Dev) (c : Nat) (x : Conn) : (d.setConn c x).held = d.held := rfl
@[simp] theorem Dev.setConn_lateFree (d : Dev) (c : Nat) (x : Conn) : (d.setConn c x).lateFree = d.lateFree := rfl
@[simp] theorem Dev.setConn_pages (d : Dev) (c : Nat) (x : Conn) : (d.setConn c x).pages = d.pages := rfl
@[simp] theorem Dev.setConn_mem (d : Dev) (c : Nat) (x : Conn) : (d.setConn c x).mem = d.mem := rfl
@[simp] theorem Dev.setConn_runs (d : Dev) (c : Nat) (x : Conn) : (d.setConn c x).runs = d.runs := rfl
@[simp] theorem Dev.setConn_slots (d : Dev) (c : Nat) (x : Conn) : (d.setConn c x).slots = d.slots := rfl
@[simp] theorem Dev.setConn_moves (d : Dev) (c : Nat) (x : Conn) : (d.setConn c x).moves = d.moves := rfl
@[simp] theorem Dev.setConn_migrs (d : Dev) (c : Nat) (x : Conn) : (d.setConn c x).migrs = d.migrs := rfl
@[simp] theorem Dev.setConn_migNext (d : Dev) (c : Nat) (x : Conn) : (d.setConn c x).migNext = d.migNext := rfl
@[simp] theorem Dev.setConn_promos (d : Dev) (c : Nat) (x : Conn) : (d.setConn c x).promos = d.promos := rfl
@[simp] theorem Dev.setConn_recodes (d : Dev) (c : Nat) (x : Conn) : (d.setConn c x).recodes = d.recodes := rfl
@[simp] theorem Dev.setConn_images (d : Dev) (c : Nat) (x : Conn) : (d.setConn c x).images = d.images := rfl
@[simp] theorem Dev.setConn_imgNext (d : Dev) (c : Nat) (x : Conn) : (d.setConn c x).imgNext = d.imgNext := rfl
@[simp] theorem Dev.setConn_slotImg (d : Dev) (c : Nat) (x : Conn) : (d.setConn c x).slotImg = d.slotImg := rfl
@[simp] theorem Dev.setConn_cores (d : Dev) (c : Nat) (x : Conn) : (d.setConn c x).cores = d.cores := rfl
@[simp] theorem Dev.setConn_threads (d : Dev) (c : Nat) (x : Conn) : (d.setConn c x).threads = d.threads := rfl
@[simp] theorem Dev.setConn_blazes (d : Dev) (c : Nat) (x : Conn) : (d.setConn c x).blazes = d.blazes := rfl
@[simp] theorem Dev.setConn_stage (d : Dev) (c : Nat) (x : Conn) : (d.setConn c x).stage = d.stage := rfl
@[simp] theorem Dev.setConn_stageAreas (d : Dev) (c : Nat) (x : Conn) : (d.setConn c x).stageAreas = d.stageAreas := rfl
@[simp] theorem Dev.setConn_stageRegion (d : Dev) (c : Nat) (x : Conn) : (d.setConn c x).stageRegion = d.stageRegion := rfl
@[simp] theorem Dev.setConn_orders (d : Dev) (c : Nat) (x : Conn) : (d.setConn c x).orders = d.orders := rfl
@[simp] theorem Dev.setConn_orderNext (d : Dev) (c : Nat) (x : Conn) : (d.setConn c x).orderNext = d.orderNext := rfl
@[simp] theorem Dev.setConn_subs (d : Dev) (c : Nat) (x : Conn) : (d.setConn c x).subs = d.subs := rfl
@[simp] theorem Dev.setConn_subNext (d : Dev) (c : Nat) (x : Conn) : (d.setConn c x).subNext = d.subNext := rfl
@[simp] theorem Dev.setConn_rings (d : Dev) (c : Nat) (x : Conn) : (d.setConn c x).rings = d.rings := rfl
@[simp] theorem Dev.setConn_wqs (d : Dev) (c : Nat) (x : Conn) : (d.setConn c x).wqs = d.wqs := rfl
@[simp] theorem Dev.setConn_merges (d : Dev) (c : Nat) (x : Conn) : (d.setConn c x).merges = d.merges := rfl
@[simp] theorem Dev.setConn_parts (d : Dev) (c : Nat) (x : Conn) : (d.setConn c x).parts = d.parts := rfl
@[simp] theorem Dev.setConn_partNext (d : Dev) (c : Nat) (x : Conn) : (d.setConn c x).partNext = d.partNext := rfl
@[simp] theorem Dev.setConn_tel (d : Dev) (c : Nat) (x : Conn) : (d.setConn c x).tel = d.tel := rfl
@[simp] theorem Dev.setConn_weights (d : Dev) (c : Nat) (x : Conn) : (d.setConn c x).weights = d.weights := rfl
@[simp] theorem Dev.setConn_scratches (d : Dev) (c : Nat) (x : Conn) : (d.setConn c x).scratches = d.scratches := rfl
@[simp] theorem Dev.setConn_nbprogs (d : Dev) (c : Nat) (x : Conn) : (d.setConn c x).nbprogs = d.nbprogs := rfl
@[simp] theorem Dev.setConn_nbNext (d : Dev) (c : Nat) (x : Conn) : (d.setConn c x).nbNext = d.nbNext := rfl
@[simp] theorem Dev.setConn_locals (d : Dev) (c : Nat) (x : Conn) : (d.setConn c x).locals = d.locals := rfl
@[simp] theorem Dev.setConn_slot4 (d : Dev) (c : Nat) (x : Conn) : (d.setConn c x).slot4 = d.slot4 := rfl
@[simp] theorem Dev.setConn_regionCmds (d : Dev) (c : Nat) (x : Conn) : (d.setConn c x).regionCmds = d.regionCmds := rfl
@[simp] theorem Dev.setConn_unloads (d : Dev) (c : Nat) (x : Conn) : (d.setConn c x).unloads = d.unloads := rfl
@[simp] theorem Dev.setConn_slices (d : Dev) (c : Nat) (x : Conn) : (d.setConn c x).slices = d.slices := rfl
@[simp] theorem Dev.setConn_copies (d : Dev) (c : Nat) (x : Conn) : (d.setConn c x).copies = d.copies := rfl
@[simp] theorem Dev.setConn_mirSeqs (d : Dev) (c : Nat) (x : Conn) : (d.setConn c x).mirSeqs = d.mirSeqs := rfl
@[simp] theorem Dev.setConn_lendIn (d : Dev) (c : Nat) (x : Conn) : (d.setConn c x).lendIn = d.lendIn := rfl
@[simp] theorem Dev.setConn_lendOut (d : Dev) (c : Nat) (x : Conn) : (d.setConn c x).lendOut = d.lendOut := rfl
@[simp] theorem Dev.setConn_ports (d : Dev) (c : Nat) (x : Conn) : (d.setConn c x).ports = d.ports := rfl
@[simp] theorem Dev.setConn_egress (d : Dev) (c : Nat) (x : Conn) : (d.setConn c x).egress = d.egress := rfl
@[simp] theorem Dev.setConn_scheds (d : Dev) (c : Nat) (x : Conn) : (d.setConn c x).scheds = d.scheds := rfl
@[simp] theorem Dev.setConn_conns (d : Dev) (c : Nat) (x : Conn) : (d.setConn c x).conns = Tab.set d.conns c x := rfl
@[simp] theorem Dev.setConn_tracts (d : Dev) (c : Nat) (x : Conn) : (d.setConn c x).tracts = d.tracts := rfl
@[simp] theorem Dev.setConn_opNext (d : Dev) (c : Nat) (x : Conn) : (d.setConn c x).opNext = d.opNext := rfl
@[simp] theorem Dev.setConn_msgEnds (d : Dev) (c : Nat) (x : Conn) : (d.setConn c x).msgEnds = d.msgEnds := rfl
@[simp] theorem Dev.setConn_slew (d : Dev) (c : Nat) (x : Conn) : (d.setConn c x).slew = d.slew := rfl
@[simp] theorem Dev.setConn_slewAcc (d : Dev) (c : Nat) (x : Conn) : (d.setConn c x).slewAcc = d.slewAcc := rfl
@[simp] theorem Dev.setConn_lockRun (d : Dev) (c : Nat) (x : Conn) : (d.setConn c x).lockRun = d.lockRun := rfl
@[simp] theorem Dev.setConn_ppsRun (d : Dev) (c : Nat) (x : Conn) : (d.setConn c x).ppsRun = d.ppsRun := rfl
@[simp] theorem Dev.setConn_telInt (d : Dev) (c : Nat) (x : Conn) : (d.setConn c x).telInt = d.telInt := rfl
@[simp] theorem Dev.setConn_telOk (d : Dev) (c : Nat) (x : Conn) : (d.setConn c x).telOk = d.telOk := rfl
@[simp] theorem Dev.setConn_telHold (d : Dev) (c : Nat) (x : Conn) : (d.setConn c x).telHold = d.telHold := rfl
@[simp] theorem Dev.setConn_telStep (d : Dev) (c : Nat) (x : Conn) : (d.setConn c x).telStep = d.telStep := rfl
@[simp] theorem Dev.setConn_telOn (d : Dev) (c : Nat) (x : Conn) : (d.setConn c x).telOn = d.telOn := rfl
@[simp] theorem Dev.setConn_telQ (d : Dev) (c : Nat) (x : Conn) : (d.setConn c x).telQ = d.telQ := rfl
@[simp] theorem Dev.setConn_slotId (d : Dev) (c : Nat) (x : Conn) : (d.setConn c x).slotId = d.slotId := rfl
@[simp] theorem Dev.setConn_standbyEpoch (d : Dev) (c : Nat) (x : Conn) : (d.setConn c x).standbyEpoch = d.standbyEpoch := rfl
@[simp] theorem Dev.setConn_lastAdv (d : Dev) (c : Nat) (x : Conn) : (d.setConn c x).lastAdv = d.lastAdv := rfl
@[simp] theorem Dev.setConn_version (d : Dev) (c : Nat) (x : Conn) : (d.setConn c x).version = d.version := rfl
@[simp] theorem Dev.setConn_cruiseIn (d : Dev) (c : Nat) (x : Conn) : (d.setConn c x).cruiseIn = d.cruiseIn := rfl
@[simp] theorem Dev.setConn_lendAsk (d : Dev) (c : Nat) (x : Conn) : (d.setConn c x).lendAsk = d.lendAsk := rfl
@[simp] theorem Dev.setConn_seenMsgs (d : Dev) (c : Nat) (x : Conn) : (d.setConn c x).seenMsgs = d.seenMsgs := rfl
@[simp] theorem Dev.setConn_rowMap (d : Dev) (c : Nat) (x : Conn) : (d.setConn c x).rowMap = d.rowMap := rfl
@[simp] theorem Dev.setConn_rowSums (d : Dev) (c : Nat) (x : Conn) : (d.setConn c x).rowSums = d.rowSums := rfl
@[simp] theorem Dev.setConn_failed (d : Dev) (c : Nat) (x : Conn) : (d.setConn c x).failed = d.failed := rfl
@[simp] theorem Dev.setConn_downLinks (d : Dev) (c : Nat) (x : Conn) : (d.setConn c x).downLinks = d.downLinks := rfl
@[simp] theorem Dev.setConn_disclaims (d : Dev) (c : Nat) (x : Conn) : (d.setConn c x).disclaims = d.disclaims := rfl
@[simp] theorem Dev.setConn_promoted (d : Dev) (c : Nat) (x : Conn) : (d.setConn c x).promoted = d.promoted := rfl
@[simp] theorem Dev.setConn_zoneFails (d : Dev) (c : Nat) (x : Conn) : (d.setConn c x).zoneFails = d.zoneFails := rfl
@[simp] theorem Dev.setConn_heatEpoch (d : Dev) (c : Nat) (x : Conn) : (d.setConn c x).heatEpoch = d.heatEpoch := rfl
@[simp] theorem Dev.setConn_svcRes (d : Dev) (c : Nat) (x : Conn) : (d.setConn c x).svcRes = d.svcRes := rfl

/-! ## setTract -/

@[simp] theorem Dev.setTract_freeCtr (d : Dev) (i : Nat) (t : Tract) : (d.setTract i t).freeCtr = d.freeCtr := rfl
@[simp] theorem Dev.setTract_up (d : Dev) (i : Nat) (t : Tract) : (d.setTract i t).up = d.up := rfl
@[simp] theorem Dev.setTract_fab (d : Dev) (i : Nat) (t : Tract) : (d.setTract i t).fab = d.fab := rfl
@[simp] theorem Dev.setTract_regs (d : Dev) (i : Nat) (t : Tract) : (d.setTract i t).regs = d.regs := rfl
@[simp] theorem Dev.setTract_out (d : Dev) (i : Nat) (t : Tract) : (d.setTract i t).out = d.out := rfl
@[simp] theorem Dev.setTract_stands (d : Dev) (i : Nat) (t : Tract) : (d.setTract i t).stands = d.stands := rfl
@[simp] theorem Dev.setTract_cfgA (d : Dev) (i : Nat) (t : Tract) : (d.setTract i t).cfgA = d.cfgA := rfl
@[simp] theorem Dev.setTract_cfgB (d : Dev) (i : Nat) (t : Tract) : (d.setTract i t).cfgB = d.cfgB := rfl
@[simp] theorem Dev.setTract_cfg (d : Dev) (i : Nat) (t : Tract) : (d.setTract i t).cfg = d.cfg := rfl
@[simp] theorem Dev.setTract_cfgIsB (d : Dev) (i : Nat) (t : Tract) : (d.setTract i t).cfgIsB = d.cfgIsB := rfl
@[simp] theorem Dev.setTract_fences (d : Dev) (i : Nat) (t : Tract) : (d.setTract i t).fences = d.fences := rfl
@[simp] theorem Dev.setTract_react (d : Dev) (i : Nat) (t : Tract) : (d.setTract i t).react = d.react := rfl
@[simp] theorem Dev.setTract_invCause (d : Dev) (i : Nat) (t : Tract) : (d.setTract i t).invCause = d.invCause := rfl
@[simp] theorem Dev.setTract_invTaken (d : Dev) (i : Nat) (t : Tract) : (d.setTract i t).invTaken = d.invTaken := rfl
@[simp] theorem Dev.setTract_halted (d : Dev) (i : Nat) (t : Tract) : (d.setTract i t).halted = d.halted := rfl
@[simp] theorem Dev.setTract_ptlQ (d : Dev) (i : Nat) (t : Tract) : (d.setTract i t).ptlQ = d.ptlQ := rfl
@[simp] theorem Dev.setTract_ptlRun (d : Dev) (i : Nat) (t : Tract) : (d.setTract i t).ptlRun = d.ptlRun := rfl
@[simp] theorem Dev.setTract_ptlHist (d : Dev) (i : Nat) (t : Tract) : (d.setTract i t).ptlHist = d.ptlHist := rfl
@[simp] theorem Dev.setTract_warn (d : Dev) (i : Nat) (t : Tract) : (d.setTract i t).warn = d.warn := rfl
@[simp] theorem Dev.setTract_goodRun (d : Dev) (i : Nat) (t : Tract) : (d.setTract i t).goodRun = d.goodRun := rfl
@[simp] theorem Dev.setTract_thermL (d : Dev) (i : Nat) (t : Tract) : (d.setTract i t).thermL = d.thermL := rfl
@[simp] theorem Dev.setTract_avsWait (d : Dev) (i : Nat) (t : Tract) : (d.setTract i t).avsWait = d.avsWait := rfl
@[simp] theorem Dev.setTract_avsPoint (d : Dev) (i : Nat) (t : Tract) : (d.setTract i t).avsPoint = d.avsPoint := rfl
@[simp] theorem Dev.setTract_avsLate (d : Dev) (i : Nat) (t : Tract) : (d.setTract i t).avsLate = d.avsLate := rfl
@[simp] theorem Dev.setTract_rails (d : Dev) (i : Nat) (t : Tract) : (d.setTract i t).rails = d.rails := rfl
@[simp] theorem Dev.setTract_lpEnter (d : Dev) (i : Nat) (t : Tract) : (d.setTract i t).lpEnter = d.lpEnter := rfl
@[simp] theorem Dev.setTract_off (d : Dev) (i : Nat) (t : Tract) : (d.setTract i t).off = d.off := rfl
@[simp] theorem Dev.setTract_inS4 (d : Dev) (i : Nat) (t : Tract) : (d.setTract i t).inS4 = d.inS4 := rfl
@[simp] theorem Dev.setTract_temps (d : Dev) (i : Nat) (t : Tract) : (d.setTract i t).temps = d.temps := rfl
@[simp] theorem Dev.setTract_cellRst (d : Dev) (i : Nat) (t : Tract) : (d.setTract i t).cellRst = d.cellRst := rfl
@[simp] theorem Dev.setTract_warm (d : Dev) (i : Nat) (t : Tract) : (d.setTract i t).warm = d.warm := rfl
@[simp] theorem Dev.setTract_resetQ (d : Dev) (i : Nat) (t : Tract) : (d.setTract i t).resetQ = d.resetQ := rfl
@[simp] theorem Dev.setTract_board (d : Dev) (i : Nat) (t : Tract) : (d.setTract i t).board = d.board := rfl
@[simp] theorem Dev.setTract_mgmt (d : Dev) (i : Nat) (t : Tract) : (d.setTract i t).mgmt = d.mgmt := rfl
@[simp] theorem Dev.setTract_doing (d : Dev) (i : Nat) (t : Tract) : (d.setTract i t).doing = d.doing := rfl
@[simp] theorem Dev.setTract_hq (d : Dev) (i : Nat) (t : Tract) : (d.setTract i t).hq = d.hq := rfl
@[simp] theorem Dev.setTract_msix (d : Dev) (i : Nat) (t : Tract) : (d.setTract i t).msix = d.msix := rfl
@[simp] theorem Dev.setTract_fns (d : Dev) (i : Nat) (t : Tract) : (d.setTract i t).fns = d.fns := rfl
@[simp] theorem Dev.setTract_dma (d : Dev) (i : Nat) (t : Tract) : (d.setTract i t).dma = d.dma := rfl
@[simp] theorem Dev.setTract_dmaNext (d : Dev) (i : Nat) (t : Tract) : (d.setTract i t).dmaNext = d.dmaNext := rfl
@[simp] theorem Dev.setTract_profiles (d : Dev) (i : Nat) (t : Tract) : (d.setTract i t).profiles = d.profiles := rfl
@[simp] theorem Dev.setTract_dir (d : Dev) (i : Nat) (t : Tract) : (d.setTract i t).dir = d.dir := rfl
@[simp] theorem Dev.setTract_shadow (d : Dev) (i : Nat) (t : Tract) : (d.setTract i t).shadow = d.shadow := rfl
@[simp] theorem Dev.setTract_dirOps (d : Dev) (i : Nat) (t : Tract) : (d.setTract i t).dirOps = d.dirOps := rfl
@[simp] theorem Dev.setTract_svc (d : Dev) (i : Nat) (t : Tract) : (d.setTract i t).svc = d.svc := rfl
@[simp] theorem Dev.setTract_svcUsed (d : Dev) (i : Nat) (t : Tract) : (d.setTract i t).svcUsed = d.svcUsed := rfl
@[simp] theorem Dev.setTract_pins (d : Dev) (i : Nat) (t : Tract) : (d.setTract i t).pins = d.pins := rfl
@[simp] theorem Dev.setTract_pinNext (d : Dev) (i : Nat) (t : Tract) : (d.setTract i t).pinNext = d.pinNext := rfl
@[simp] theorem Dev.setTract_oldGens (d : Dev) (i : Nat) (t : Tract) : (d.setTract i t).oldGens = d.oldGens := rfl
@[simp] theorem Dev.setTract_held (d : Dev) (i : Nat) (t : Tract) : (d.setTract i t).held = d.held := rfl
@[simp] theorem Dev.setTract_lateFree (d : Dev) (i : Nat) (t : Tract) : (d.setTract i t).lateFree = d.lateFree := rfl
@[simp] theorem Dev.setTract_pages (d : Dev) (i : Nat) (t : Tract) : (d.setTract i t).pages = d.pages := rfl
@[simp] theorem Dev.setTract_mem (d : Dev) (i : Nat) (t : Tract) : (d.setTract i t).mem = d.mem := rfl
@[simp] theorem Dev.setTract_runs (d : Dev) (i : Nat) (t : Tract) : (d.setTract i t).runs = d.runs := rfl
@[simp] theorem Dev.setTract_slots (d : Dev) (i : Nat) (t : Tract) : (d.setTract i t).slots = d.slots := rfl
@[simp] theorem Dev.setTract_moves (d : Dev) (i : Nat) (t : Tract) : (d.setTract i t).moves = d.moves := rfl
@[simp] theorem Dev.setTract_migrs (d : Dev) (i : Nat) (t : Tract) : (d.setTract i t).migrs = d.migrs := rfl
@[simp] theorem Dev.setTract_migNext (d : Dev) (i : Nat) (t : Tract) : (d.setTract i t).migNext = d.migNext := rfl
@[simp] theorem Dev.setTract_promos (d : Dev) (i : Nat) (t : Tract) : (d.setTract i t).promos = d.promos := rfl
@[simp] theorem Dev.setTract_recodes (d : Dev) (i : Nat) (t : Tract) : (d.setTract i t).recodes = d.recodes := rfl
@[simp] theorem Dev.setTract_images (d : Dev) (i : Nat) (t : Tract) : (d.setTract i t).images = d.images := rfl
@[simp] theorem Dev.setTract_imgNext (d : Dev) (i : Nat) (t : Tract) : (d.setTract i t).imgNext = d.imgNext := rfl
@[simp] theorem Dev.setTract_slotImg (d : Dev) (i : Nat) (t : Tract) : (d.setTract i t).slotImg = d.slotImg := rfl
@[simp] theorem Dev.setTract_cores (d : Dev) (i : Nat) (t : Tract) : (d.setTract i t).cores = d.cores := rfl
@[simp] theorem Dev.setTract_threads (d : Dev) (i : Nat) (t : Tract) : (d.setTract i t).threads = d.threads := rfl
@[simp] theorem Dev.setTract_blazes (d : Dev) (i : Nat) (t : Tract) : (d.setTract i t).blazes = d.blazes := rfl
@[simp] theorem Dev.setTract_stage (d : Dev) (i : Nat) (t : Tract) : (d.setTract i t).stage = d.stage := rfl
@[simp] theorem Dev.setTract_stageAreas (d : Dev) (i : Nat) (t : Tract) : (d.setTract i t).stageAreas = d.stageAreas := rfl
@[simp] theorem Dev.setTract_stageRegion (d : Dev) (i : Nat) (t : Tract) : (d.setTract i t).stageRegion = d.stageRegion := rfl
@[simp] theorem Dev.setTract_orders (d : Dev) (i : Nat) (t : Tract) : (d.setTract i t).orders = d.orders := rfl
@[simp] theorem Dev.setTract_orderNext (d : Dev) (i : Nat) (t : Tract) : (d.setTract i t).orderNext = d.orderNext := rfl
@[simp] theorem Dev.setTract_subs (d : Dev) (i : Nat) (t : Tract) : (d.setTract i t).subs = d.subs := rfl
@[simp] theorem Dev.setTract_subNext (d : Dev) (i : Nat) (t : Tract) : (d.setTract i t).subNext = d.subNext := rfl
@[simp] theorem Dev.setTract_rings (d : Dev) (i : Nat) (t : Tract) : (d.setTract i t).rings = d.rings := rfl
@[simp] theorem Dev.setTract_wqs (d : Dev) (i : Nat) (t : Tract) : (d.setTract i t).wqs = d.wqs := rfl
@[simp] theorem Dev.setTract_merges (d : Dev) (i : Nat) (t : Tract) : (d.setTract i t).merges = d.merges := rfl
@[simp] theorem Dev.setTract_parts (d : Dev) (i : Nat) (t : Tract) : (d.setTract i t).parts = d.parts := rfl
@[simp] theorem Dev.setTract_partNext (d : Dev) (i : Nat) (t : Tract) : (d.setTract i t).partNext = d.partNext := rfl
@[simp] theorem Dev.setTract_tel (d : Dev) (i : Nat) (t : Tract) : (d.setTract i t).tel = d.tel := rfl
@[simp] theorem Dev.setTract_weights (d : Dev) (i : Nat) (t : Tract) : (d.setTract i t).weights = d.weights := rfl
@[simp] theorem Dev.setTract_scratches (d : Dev) (i : Nat) (t : Tract) : (d.setTract i t).scratches = d.scratches := rfl
@[simp] theorem Dev.setTract_nbprogs (d : Dev) (i : Nat) (t : Tract) : (d.setTract i t).nbprogs = d.nbprogs := rfl
@[simp] theorem Dev.setTract_nbNext (d : Dev) (i : Nat) (t : Tract) : (d.setTract i t).nbNext = d.nbNext := rfl
@[simp] theorem Dev.setTract_locals (d : Dev) (i : Nat) (t : Tract) : (d.setTract i t).locals = d.locals := rfl
@[simp] theorem Dev.setTract_slot4 (d : Dev) (i : Nat) (t : Tract) : (d.setTract i t).slot4 = d.slot4 := rfl
@[simp] theorem Dev.setTract_regionCmds (d : Dev) (i : Nat) (t : Tract) : (d.setTract i t).regionCmds = d.regionCmds := rfl
@[simp] theorem Dev.setTract_unloads (d : Dev) (i : Nat) (t : Tract) : (d.setTract i t).unloads = d.unloads := rfl
@[simp] theorem Dev.setTract_slices (d : Dev) (i : Nat) (t : Tract) : (d.setTract i t).slices = d.slices := rfl
@[simp] theorem Dev.setTract_copies (d : Dev) (i : Nat) (t : Tract) : (d.setTract i t).copies = d.copies := rfl
@[simp] theorem Dev.setTract_mirSeqs (d : Dev) (i : Nat) (t : Tract) : (d.setTract i t).mirSeqs = d.mirSeqs := rfl
@[simp] theorem Dev.setTract_lendIn (d : Dev) (i : Nat) (t : Tract) : (d.setTract i t).lendIn = d.lendIn := rfl
@[simp] theorem Dev.setTract_lendOut (d : Dev) (i : Nat) (t : Tract) : (d.setTract i t).lendOut = d.lendOut := rfl
@[simp] theorem Dev.setTract_ports (d : Dev) (i : Nat) (t : Tract) : (d.setTract i t).ports = d.ports := rfl
@[simp] theorem Dev.setTract_egress (d : Dev) (i : Nat) (t : Tract) : (d.setTract i t).egress = d.egress := rfl
@[simp] theorem Dev.setTract_scheds (d : Dev) (i : Nat) (t : Tract) : (d.setTract i t).scheds = d.scheds := rfl
@[simp] theorem Dev.setTract_conns (d : Dev) (i : Nat) (t : Tract) : (d.setTract i t).conns = d.conns := rfl
@[simp] theorem Dev.setTract_tracts (d : Dev) (i : Nat) (t : Tract) : (d.setTract i t).tracts = Tab.set d.tracts i t := rfl
@[simp] theorem Dev.setTract_opNext (d : Dev) (i : Nat) (t : Tract) : (d.setTract i t).opNext = d.opNext := rfl
@[simp] theorem Dev.setTract_msgEnds (d : Dev) (i : Nat) (t : Tract) : (d.setTract i t).msgEnds = d.msgEnds := rfl
@[simp] theorem Dev.setTract_slew (d : Dev) (i : Nat) (t : Tract) : (d.setTract i t).slew = d.slew := rfl
@[simp] theorem Dev.setTract_slewAcc (d : Dev) (i : Nat) (t : Tract) : (d.setTract i t).slewAcc = d.slewAcc := rfl
@[simp] theorem Dev.setTract_lockRun (d : Dev) (i : Nat) (t : Tract) : (d.setTract i t).lockRun = d.lockRun := rfl
@[simp] theorem Dev.setTract_ppsRun (d : Dev) (i : Nat) (t : Tract) : (d.setTract i t).ppsRun = d.ppsRun := rfl
@[simp] theorem Dev.setTract_telInt (d : Dev) (i : Nat) (t : Tract) : (d.setTract i t).telInt = d.telInt := rfl
@[simp] theorem Dev.setTract_telOk (d : Dev) (i : Nat) (t : Tract) : (d.setTract i t).telOk = d.telOk := rfl
@[simp] theorem Dev.setTract_telHold (d : Dev) (i : Nat) (t : Tract) : (d.setTract i t).telHold = d.telHold := rfl
@[simp] theorem Dev.setTract_telStep (d : Dev) (i : Nat) (t : Tract) : (d.setTract i t).telStep = d.telStep := rfl
@[simp] theorem Dev.setTract_telOn (d : Dev) (i : Nat) (t : Tract) : (d.setTract i t).telOn = d.telOn := rfl
@[simp] theorem Dev.setTract_telQ (d : Dev) (i : Nat) (t : Tract) : (d.setTract i t).telQ = d.telQ := rfl
@[simp] theorem Dev.setTract_slotId (d : Dev) (i : Nat) (t : Tract) : (d.setTract i t).slotId = d.slotId := rfl
@[simp] theorem Dev.setTract_standbyEpoch (d : Dev) (i : Nat) (t : Tract) : (d.setTract i t).standbyEpoch = d.standbyEpoch := rfl
@[simp] theorem Dev.setTract_lastAdv (d : Dev) (i : Nat) (t : Tract) : (d.setTract i t).lastAdv = d.lastAdv := rfl
@[simp] theorem Dev.setTract_version (d : Dev) (i : Nat) (t : Tract) : (d.setTract i t).version = d.version := rfl
@[simp] theorem Dev.setTract_cruiseIn (d : Dev) (i : Nat) (t : Tract) : (d.setTract i t).cruiseIn = d.cruiseIn := rfl
@[simp] theorem Dev.setTract_lendAsk (d : Dev) (i : Nat) (t : Tract) : (d.setTract i t).lendAsk = d.lendAsk := rfl
@[simp] theorem Dev.setTract_seenMsgs (d : Dev) (i : Nat) (t : Tract) : (d.setTract i t).seenMsgs = d.seenMsgs := rfl
@[simp] theorem Dev.setTract_rowMap (d : Dev) (i : Nat) (t : Tract) : (d.setTract i t).rowMap = d.rowMap := rfl
@[simp] theorem Dev.setTract_rowSums (d : Dev) (i : Nat) (t : Tract) : (d.setTract i t).rowSums = d.rowSums := rfl
@[simp] theorem Dev.setTract_failed (d : Dev) (i : Nat) (t : Tract) : (d.setTract i t).failed = d.failed := rfl
@[simp] theorem Dev.setTract_downLinks (d : Dev) (i : Nat) (t : Tract) : (d.setTract i t).downLinks = d.downLinks := rfl
@[simp] theorem Dev.setTract_disclaims (d : Dev) (i : Nat) (t : Tract) : (d.setTract i t).disclaims = d.disclaims := rfl
@[simp] theorem Dev.setTract_promoted (d : Dev) (i : Nat) (t : Tract) : (d.setTract i t).promoted = d.promoted := rfl
@[simp] theorem Dev.setTract_zoneFails (d : Dev) (i : Nat) (t : Tract) : (d.setTract i t).zoneFails = d.zoneFails := rfl
@[simp] theorem Dev.setTract_heatEpoch (d : Dev) (i : Nat) (t : Tract) : (d.setTract i t).heatEpoch = d.heatEpoch := rfl
@[simp] theorem Dev.setTract_svcRes (d : Dev) (i : Nat) (t : Tract) : (d.setTract i t).svcRes = d.svcRes := rfl

/-! ## emit -/

@[simp] theorem Dev.emit_freeCtr (d : Dev) (o : Out) : (d.emit o).freeCtr = d.freeCtr := rfl
@[simp] theorem Dev.emit_up (d : Dev) (o : Out) : (d.emit o).up = d.up := rfl
@[simp] theorem Dev.emit_fab (d : Dev) (o : Out) : (d.emit o).fab = d.fab := rfl
@[simp] theorem Dev.emit_regs (d : Dev) (o : Out) : (d.emit o).regs = d.regs := rfl
@[simp] theorem Dev.emit_out (d : Dev) (o : Out) : (d.emit o).out = d.out ++ [o] := rfl
@[simp] theorem Dev.emit_stands (d : Dev) (o : Out) : (d.emit o).stands = d.stands := rfl
@[simp] theorem Dev.emit_cfgA (d : Dev) (o : Out) : (d.emit o).cfgA = d.cfgA := rfl
@[simp] theorem Dev.emit_cfgB (d : Dev) (o : Out) : (d.emit o).cfgB = d.cfgB := rfl
@[simp] theorem Dev.emit_cfg (d : Dev) (o : Out) : (d.emit o).cfg = d.cfg := rfl
@[simp] theorem Dev.emit_cfgIsB (d : Dev) (o : Out) : (d.emit o).cfgIsB = d.cfgIsB := rfl
@[simp] theorem Dev.emit_fences (d : Dev) (o : Out) : (d.emit o).fences = d.fences := rfl
@[simp] theorem Dev.emit_react (d : Dev) (o : Out) : (d.emit o).react = d.react := rfl
@[simp] theorem Dev.emit_invCause (d : Dev) (o : Out) : (d.emit o).invCause = d.invCause := rfl
@[simp] theorem Dev.emit_invTaken (d : Dev) (o : Out) : (d.emit o).invTaken = d.invTaken := rfl
@[simp] theorem Dev.emit_halted (d : Dev) (o : Out) : (d.emit o).halted = d.halted := rfl
@[simp] theorem Dev.emit_ptlQ (d : Dev) (o : Out) : (d.emit o).ptlQ = d.ptlQ := rfl
@[simp] theorem Dev.emit_ptlRun (d : Dev) (o : Out) : (d.emit o).ptlRun = d.ptlRun := rfl
@[simp] theorem Dev.emit_ptlHist (d : Dev) (o : Out) : (d.emit o).ptlHist = d.ptlHist := rfl
@[simp] theorem Dev.emit_warn (d : Dev) (o : Out) : (d.emit o).warn = d.warn := rfl
@[simp] theorem Dev.emit_goodRun (d : Dev) (o : Out) : (d.emit o).goodRun = d.goodRun := rfl
@[simp] theorem Dev.emit_thermL (d : Dev) (o : Out) : (d.emit o).thermL = d.thermL := rfl
@[simp] theorem Dev.emit_avsWait (d : Dev) (o : Out) : (d.emit o).avsWait = d.avsWait := rfl
@[simp] theorem Dev.emit_avsPoint (d : Dev) (o : Out) : (d.emit o).avsPoint = d.avsPoint := rfl
@[simp] theorem Dev.emit_avsLate (d : Dev) (o : Out) : (d.emit o).avsLate = d.avsLate := rfl
@[simp] theorem Dev.emit_rails (d : Dev) (o : Out) : (d.emit o).rails = d.rails := rfl
@[simp] theorem Dev.emit_lpEnter (d : Dev) (o : Out) : (d.emit o).lpEnter = d.lpEnter := rfl
@[simp] theorem Dev.emit_off (d : Dev) (o : Out) : (d.emit o).off = d.off := rfl
@[simp] theorem Dev.emit_inS4 (d : Dev) (o : Out) : (d.emit o).inS4 = d.inS4 := rfl
@[simp] theorem Dev.emit_temps (d : Dev) (o : Out) : (d.emit o).temps = d.temps := rfl
@[simp] theorem Dev.emit_cellRst (d : Dev) (o : Out) : (d.emit o).cellRst = d.cellRst := rfl
@[simp] theorem Dev.emit_warm (d : Dev) (o : Out) : (d.emit o).warm = d.warm := rfl
@[simp] theorem Dev.emit_resetQ (d : Dev) (o : Out) : (d.emit o).resetQ = d.resetQ := rfl
@[simp] theorem Dev.emit_board (d : Dev) (o : Out) : (d.emit o).board = d.board := rfl
@[simp] theorem Dev.emit_mgmt (d : Dev) (o : Out) : (d.emit o).mgmt = d.mgmt := rfl
@[simp] theorem Dev.emit_doing (d : Dev) (o : Out) : (d.emit o).doing = d.doing := rfl
@[simp] theorem Dev.emit_hq (d : Dev) (o : Out) : (d.emit o).hq = d.hq := rfl
@[simp] theorem Dev.emit_msix (d : Dev) (o : Out) : (d.emit o).msix = d.msix := rfl
@[simp] theorem Dev.emit_fns (d : Dev) (o : Out) : (d.emit o).fns = d.fns := rfl
@[simp] theorem Dev.emit_dma (d : Dev) (o : Out) : (d.emit o).dma = d.dma := rfl
@[simp] theorem Dev.emit_dmaNext (d : Dev) (o : Out) : (d.emit o).dmaNext = d.dmaNext := rfl
@[simp] theorem Dev.emit_profiles (d : Dev) (o : Out) : (d.emit o).profiles = d.profiles := rfl
@[simp] theorem Dev.emit_dir (d : Dev) (o : Out) : (d.emit o).dir = d.dir := rfl
@[simp] theorem Dev.emit_shadow (d : Dev) (o : Out) : (d.emit o).shadow = d.shadow := rfl
@[simp] theorem Dev.emit_dirOps (d : Dev) (o : Out) : (d.emit o).dirOps = d.dirOps := rfl
@[simp] theorem Dev.emit_svc (d : Dev) (o : Out) : (d.emit o).svc = d.svc := rfl
@[simp] theorem Dev.emit_svcUsed (d : Dev) (o : Out) : (d.emit o).svcUsed = d.svcUsed := rfl
@[simp] theorem Dev.emit_pins (d : Dev) (o : Out) : (d.emit o).pins = d.pins := rfl
@[simp] theorem Dev.emit_pinNext (d : Dev) (o : Out) : (d.emit o).pinNext = d.pinNext := rfl
@[simp] theorem Dev.emit_oldGens (d : Dev) (o : Out) : (d.emit o).oldGens = d.oldGens := rfl
@[simp] theorem Dev.emit_held (d : Dev) (o : Out) : (d.emit o).held = d.held := rfl
@[simp] theorem Dev.emit_lateFree (d : Dev) (o : Out) : (d.emit o).lateFree = d.lateFree := rfl
@[simp] theorem Dev.emit_pages (d : Dev) (o : Out) : (d.emit o).pages = d.pages := rfl
@[simp] theorem Dev.emit_mem (d : Dev) (o : Out) : (d.emit o).mem = d.mem := rfl
@[simp] theorem Dev.emit_runs (d : Dev) (o : Out) : (d.emit o).runs = d.runs := rfl
@[simp] theorem Dev.emit_slots (d : Dev) (o : Out) : (d.emit o).slots = d.slots := rfl
@[simp] theorem Dev.emit_moves (d : Dev) (o : Out) : (d.emit o).moves = d.moves := rfl
@[simp] theorem Dev.emit_migrs (d : Dev) (o : Out) : (d.emit o).migrs = d.migrs := rfl
@[simp] theorem Dev.emit_migNext (d : Dev) (o : Out) : (d.emit o).migNext = d.migNext := rfl
@[simp] theorem Dev.emit_promos (d : Dev) (o : Out) : (d.emit o).promos = d.promos := rfl
@[simp] theorem Dev.emit_recodes (d : Dev) (o : Out) : (d.emit o).recodes = d.recodes := rfl
@[simp] theorem Dev.emit_images (d : Dev) (o : Out) : (d.emit o).images = d.images := rfl
@[simp] theorem Dev.emit_imgNext (d : Dev) (o : Out) : (d.emit o).imgNext = d.imgNext := rfl
@[simp] theorem Dev.emit_slotImg (d : Dev) (o : Out) : (d.emit o).slotImg = d.slotImg := rfl
@[simp] theorem Dev.emit_cores (d : Dev) (o : Out) : (d.emit o).cores = d.cores := rfl
@[simp] theorem Dev.emit_threads (d : Dev) (o : Out) : (d.emit o).threads = d.threads := rfl
@[simp] theorem Dev.emit_blazes (d : Dev) (o : Out) : (d.emit o).blazes = d.blazes := rfl
@[simp] theorem Dev.emit_stage (d : Dev) (o : Out) : (d.emit o).stage = d.stage := rfl
@[simp] theorem Dev.emit_stageAreas (d : Dev) (o : Out) : (d.emit o).stageAreas = d.stageAreas := rfl
@[simp] theorem Dev.emit_stageRegion (d : Dev) (o : Out) : (d.emit o).stageRegion = d.stageRegion := rfl
@[simp] theorem Dev.emit_orders (d : Dev) (o : Out) : (d.emit o).orders = d.orders := rfl
@[simp] theorem Dev.emit_orderNext (d : Dev) (o : Out) : (d.emit o).orderNext = d.orderNext := rfl
@[simp] theorem Dev.emit_subs (d : Dev) (o : Out) : (d.emit o).subs = d.subs := rfl
@[simp] theorem Dev.emit_subNext (d : Dev) (o : Out) : (d.emit o).subNext = d.subNext := rfl
@[simp] theorem Dev.emit_rings (d : Dev) (o : Out) : (d.emit o).rings = d.rings := rfl
@[simp] theorem Dev.emit_wqs (d : Dev) (o : Out) : (d.emit o).wqs = d.wqs := rfl
@[simp] theorem Dev.emit_merges (d : Dev) (o : Out) : (d.emit o).merges = d.merges := rfl
@[simp] theorem Dev.emit_parts (d : Dev) (o : Out) : (d.emit o).parts = d.parts := rfl
@[simp] theorem Dev.emit_partNext (d : Dev) (o : Out) : (d.emit o).partNext = d.partNext := rfl
@[simp] theorem Dev.emit_tel (d : Dev) (o : Out) : (d.emit o).tel = d.tel := rfl
@[simp] theorem Dev.emit_weights (d : Dev) (o : Out) : (d.emit o).weights = d.weights := rfl
@[simp] theorem Dev.emit_scratches (d : Dev) (o : Out) : (d.emit o).scratches = d.scratches := rfl
@[simp] theorem Dev.emit_nbprogs (d : Dev) (o : Out) : (d.emit o).nbprogs = d.nbprogs := rfl
@[simp] theorem Dev.emit_nbNext (d : Dev) (o : Out) : (d.emit o).nbNext = d.nbNext := rfl
@[simp] theorem Dev.emit_locals (d : Dev) (o : Out) : (d.emit o).locals = d.locals := rfl
@[simp] theorem Dev.emit_slot4 (d : Dev) (o : Out) : (d.emit o).slot4 = d.slot4 := rfl
@[simp] theorem Dev.emit_regionCmds (d : Dev) (o : Out) : (d.emit o).regionCmds = d.regionCmds := rfl
@[simp] theorem Dev.emit_unloads (d : Dev) (o : Out) : (d.emit o).unloads = d.unloads := rfl
@[simp] theorem Dev.emit_slices (d : Dev) (o : Out) : (d.emit o).slices = d.slices := rfl
@[simp] theorem Dev.emit_copies (d : Dev) (o : Out) : (d.emit o).copies = d.copies := rfl
@[simp] theorem Dev.emit_mirSeqs (d : Dev) (o : Out) : (d.emit o).mirSeqs = d.mirSeqs := rfl
@[simp] theorem Dev.emit_lendIn (d : Dev) (o : Out) : (d.emit o).lendIn = d.lendIn := rfl
@[simp] theorem Dev.emit_lendOut (d : Dev) (o : Out) : (d.emit o).lendOut = d.lendOut := rfl
@[simp] theorem Dev.emit_ports (d : Dev) (o : Out) : (d.emit o).ports = d.ports := rfl
@[simp] theorem Dev.emit_egress (d : Dev) (o : Out) : (d.emit o).egress = d.egress := rfl
@[simp] theorem Dev.emit_scheds (d : Dev) (o : Out) : (d.emit o).scheds = d.scheds := rfl
@[simp] theorem Dev.emit_conns (d : Dev) (o : Out) : (d.emit o).conns = d.conns := rfl
@[simp] theorem Dev.emit_tracts (d : Dev) (o : Out) : (d.emit o).tracts = d.tracts := rfl
@[simp] theorem Dev.emit_opNext (d : Dev) (o : Out) : (d.emit o).opNext = d.opNext := rfl
@[simp] theorem Dev.emit_msgEnds (d : Dev) (o : Out) : (d.emit o).msgEnds = d.msgEnds := rfl
@[simp] theorem Dev.emit_slew (d : Dev) (o : Out) : (d.emit o).slew = d.slew := rfl
@[simp] theorem Dev.emit_slewAcc (d : Dev) (o : Out) : (d.emit o).slewAcc = d.slewAcc := rfl
@[simp] theorem Dev.emit_lockRun (d : Dev) (o : Out) : (d.emit o).lockRun = d.lockRun := rfl
@[simp] theorem Dev.emit_ppsRun (d : Dev) (o : Out) : (d.emit o).ppsRun = d.ppsRun := rfl
@[simp] theorem Dev.emit_telInt (d : Dev) (o : Out) : (d.emit o).telInt = d.telInt := rfl
@[simp] theorem Dev.emit_telOk (d : Dev) (o : Out) : (d.emit o).telOk = d.telOk := rfl
@[simp] theorem Dev.emit_telHold (d : Dev) (o : Out) : (d.emit o).telHold = d.telHold := rfl
@[simp] theorem Dev.emit_telStep (d : Dev) (o : Out) : (d.emit o).telStep = d.telStep := rfl
@[simp] theorem Dev.emit_telOn (d : Dev) (o : Out) : (d.emit o).telOn = d.telOn := rfl
@[simp] theorem Dev.emit_telQ (d : Dev) (o : Out) : (d.emit o).telQ = d.telQ := rfl
@[simp] theorem Dev.emit_slotId (d : Dev) (o : Out) : (d.emit o).slotId = d.slotId := rfl
@[simp] theorem Dev.emit_standbyEpoch (d : Dev) (o : Out) : (d.emit o).standbyEpoch = d.standbyEpoch := rfl
@[simp] theorem Dev.emit_lastAdv (d : Dev) (o : Out) : (d.emit o).lastAdv = d.lastAdv := rfl
@[simp] theorem Dev.emit_version (d : Dev) (o : Out) : (d.emit o).version = d.version := rfl
@[simp] theorem Dev.emit_cruiseIn (d : Dev) (o : Out) : (d.emit o).cruiseIn = d.cruiseIn := rfl
@[simp] theorem Dev.emit_lendAsk (d : Dev) (o : Out) : (d.emit o).lendAsk = d.lendAsk := rfl
@[simp] theorem Dev.emit_seenMsgs (d : Dev) (o : Out) : (d.emit o).seenMsgs = d.seenMsgs := rfl
@[simp] theorem Dev.emit_rowMap (d : Dev) (o : Out) : (d.emit o).rowMap = d.rowMap := rfl
@[simp] theorem Dev.emit_rowSums (d : Dev) (o : Out) : (d.emit o).rowSums = d.rowSums := rfl
@[simp] theorem Dev.emit_failed (d : Dev) (o : Out) : (d.emit o).failed = d.failed := rfl
@[simp] theorem Dev.emit_downLinks (d : Dev) (o : Out) : (d.emit o).downLinks = d.downLinks := rfl
@[simp] theorem Dev.emit_disclaims (d : Dev) (o : Out) : (d.emit o).disclaims = d.disclaims := rfl
@[simp] theorem Dev.emit_promoted (d : Dev) (o : Out) : (d.emit o).promoted = d.promoted := rfl
@[simp] theorem Dev.emit_zoneFails (d : Dev) (o : Out) : (d.emit o).zoneFails = d.zoneFails := rfl
@[simp] theorem Dev.emit_heatEpoch (d : Dev) (o : Out) : (d.emit o).heatEpoch = d.heatEpoch := rfl
@[simp] theorem Dev.emit_svcRes (d : Dev) (o : Out) : (d.emit o).svcRes = d.svcRes := rfl

/-! ## took -/

@[simp] theorem Dev.took_freeCtr (d : Dev) : (d.took).freeCtr = d.freeCtr + 1 := rfl
@[simp] theorem Dev.took_up (d : Dev) : (d.took).up = d.up := rfl
@[simp] theorem Dev.took_fab (d : Dev) : (d.took).fab = d.fab := rfl
@[simp] theorem Dev.took_regs (d : Dev) : (d.took).regs = d.regs := rfl
@[simp] theorem Dev.took_out (d : Dev) : (d.took).out = d.out := rfl
@[simp] theorem Dev.took_stands (d : Dev) : (d.took).stands = d.stands := rfl
@[simp] theorem Dev.took_cfgA (d : Dev) : (d.took).cfgA = d.cfgA := rfl
@[simp] theorem Dev.took_cfgB (d : Dev) : (d.took).cfgB = d.cfgB := rfl
@[simp] theorem Dev.took_cfg (d : Dev) : (d.took).cfg = d.cfg := rfl
@[simp] theorem Dev.took_cfgIsB (d : Dev) : (d.took).cfgIsB = d.cfgIsB := rfl
@[simp] theorem Dev.took_fences (d : Dev) : (d.took).fences = d.fences := rfl
@[simp] theorem Dev.took_react (d : Dev) : (d.took).react = d.react := rfl
@[simp] theorem Dev.took_invCause (d : Dev) : (d.took).invCause = d.invCause := rfl
@[simp] theorem Dev.took_invTaken (d : Dev) : (d.took).invTaken = d.invTaken := rfl
@[simp] theorem Dev.took_halted (d : Dev) : (d.took).halted = d.halted := rfl
@[simp] theorem Dev.took_ptlQ (d : Dev) : (d.took).ptlQ = d.ptlQ := rfl
@[simp] theorem Dev.took_ptlRun (d : Dev) : (d.took).ptlRun = d.ptlRun := rfl
@[simp] theorem Dev.took_ptlHist (d : Dev) : (d.took).ptlHist = d.ptlHist := rfl
@[simp] theorem Dev.took_warn (d : Dev) : (d.took).warn = d.warn := rfl
@[simp] theorem Dev.took_goodRun (d : Dev) : (d.took).goodRun = d.goodRun := rfl
@[simp] theorem Dev.took_thermL (d : Dev) : (d.took).thermL = d.thermL := rfl
@[simp] theorem Dev.took_avsWait (d : Dev) : (d.took).avsWait = d.avsWait := rfl
@[simp] theorem Dev.took_avsPoint (d : Dev) : (d.took).avsPoint = d.avsPoint := rfl
@[simp] theorem Dev.took_avsLate (d : Dev) : (d.took).avsLate = d.avsLate := rfl
@[simp] theorem Dev.took_rails (d : Dev) : (d.took).rails = d.rails := rfl
@[simp] theorem Dev.took_lpEnter (d : Dev) : (d.took).lpEnter = d.lpEnter := rfl
@[simp] theorem Dev.took_off (d : Dev) : (d.took).off = d.off := rfl
@[simp] theorem Dev.took_inS4 (d : Dev) : (d.took).inS4 = d.inS4 := rfl
@[simp] theorem Dev.took_temps (d : Dev) : (d.took).temps = d.temps := rfl
@[simp] theorem Dev.took_cellRst (d : Dev) : (d.took).cellRst = d.cellRst := rfl
@[simp] theorem Dev.took_warm (d : Dev) : (d.took).warm = d.warm := rfl
@[simp] theorem Dev.took_resetQ (d : Dev) : (d.took).resetQ = d.resetQ := rfl
@[simp] theorem Dev.took_board (d : Dev) : (d.took).board = d.board := rfl
@[simp] theorem Dev.took_mgmt (d : Dev) : (d.took).mgmt = d.mgmt := rfl
@[simp] theorem Dev.took_doing (d : Dev) : (d.took).doing = d.doing := rfl
@[simp] theorem Dev.took_hq (d : Dev) : (d.took).hq = d.hq := rfl
@[simp] theorem Dev.took_msix (d : Dev) : (d.took).msix = d.msix := rfl
@[simp] theorem Dev.took_fns (d : Dev) : (d.took).fns = d.fns := rfl
@[simp] theorem Dev.took_dma (d : Dev) : (d.took).dma = d.dma := rfl
@[simp] theorem Dev.took_dmaNext (d : Dev) : (d.took).dmaNext = d.dmaNext := rfl
@[simp] theorem Dev.took_profiles (d : Dev) : (d.took).profiles = d.profiles := rfl
@[simp] theorem Dev.took_dir (d : Dev) : (d.took).dir = d.dir := rfl
@[simp] theorem Dev.took_shadow (d : Dev) : (d.took).shadow = d.shadow := rfl
@[simp] theorem Dev.took_dirOps (d : Dev) : (d.took).dirOps = d.dirOps := rfl
@[simp] theorem Dev.took_svc (d : Dev) : (d.took).svc = d.svc := rfl
@[simp] theorem Dev.took_svcUsed (d : Dev) : (d.took).svcUsed = d.svcUsed := rfl
@[simp] theorem Dev.took_pins (d : Dev) : (d.took).pins = d.pins := rfl
@[simp] theorem Dev.took_pinNext (d : Dev) : (d.took).pinNext = d.pinNext := rfl
@[simp] theorem Dev.took_oldGens (d : Dev) : (d.took).oldGens = d.oldGens := rfl
@[simp] theorem Dev.took_held (d : Dev) : (d.took).held = d.held := rfl
@[simp] theorem Dev.took_lateFree (d : Dev) : (d.took).lateFree = d.lateFree := rfl
@[simp] theorem Dev.took_pages (d : Dev) : (d.took).pages = d.pages := rfl
@[simp] theorem Dev.took_mem (d : Dev) : (d.took).mem = d.mem := rfl
@[simp] theorem Dev.took_runs (d : Dev) : (d.took).runs = d.runs := rfl
@[simp] theorem Dev.took_slots (d : Dev) : (d.took).slots = d.slots := rfl
@[simp] theorem Dev.took_moves (d : Dev) : (d.took).moves = d.moves := rfl
@[simp] theorem Dev.took_migrs (d : Dev) : (d.took).migrs = d.migrs := rfl
@[simp] theorem Dev.took_migNext (d : Dev) : (d.took).migNext = d.migNext := rfl
@[simp] theorem Dev.took_promos (d : Dev) : (d.took).promos = d.promos := rfl
@[simp] theorem Dev.took_recodes (d : Dev) : (d.took).recodes = d.recodes := rfl
@[simp] theorem Dev.took_images (d : Dev) : (d.took).images = d.images := rfl
@[simp] theorem Dev.took_imgNext (d : Dev) : (d.took).imgNext = d.imgNext := rfl
@[simp] theorem Dev.took_slotImg (d : Dev) : (d.took).slotImg = d.slotImg := rfl
@[simp] theorem Dev.took_cores (d : Dev) : (d.took).cores = d.cores := rfl
@[simp] theorem Dev.took_threads (d : Dev) : (d.took).threads = d.threads := rfl
@[simp] theorem Dev.took_blazes (d : Dev) : (d.took).blazes = d.blazes := rfl
@[simp] theorem Dev.took_stage (d : Dev) : (d.took).stage = d.stage := rfl
@[simp] theorem Dev.took_stageAreas (d : Dev) : (d.took).stageAreas = d.stageAreas := rfl
@[simp] theorem Dev.took_stageRegion (d : Dev) : (d.took).stageRegion = d.stageRegion := rfl
@[simp] theorem Dev.took_orders (d : Dev) : (d.took).orders = d.orders := rfl
@[simp] theorem Dev.took_orderNext (d : Dev) : (d.took).orderNext = d.orderNext := rfl
@[simp] theorem Dev.took_subs (d : Dev) : (d.took).subs = d.subs := rfl
@[simp] theorem Dev.took_subNext (d : Dev) : (d.took).subNext = d.subNext := rfl
@[simp] theorem Dev.took_rings (d : Dev) : (d.took).rings = d.rings := rfl
@[simp] theorem Dev.took_wqs (d : Dev) : (d.took).wqs = d.wqs := rfl
@[simp] theorem Dev.took_merges (d : Dev) : (d.took).merges = d.merges := rfl
@[simp] theorem Dev.took_parts (d : Dev) : (d.took).parts = d.parts := rfl
@[simp] theorem Dev.took_partNext (d : Dev) : (d.took).partNext = d.partNext := rfl
@[simp] theorem Dev.took_tel (d : Dev) : (d.took).tel = d.tel := rfl
@[simp] theorem Dev.took_weights (d : Dev) : (d.took).weights = d.weights := rfl
@[simp] theorem Dev.took_scratches (d : Dev) : (d.took).scratches = d.scratches := rfl
@[simp] theorem Dev.took_nbprogs (d : Dev) : (d.took).nbprogs = d.nbprogs := rfl
@[simp] theorem Dev.took_nbNext (d : Dev) : (d.took).nbNext = d.nbNext := rfl
@[simp] theorem Dev.took_locals (d : Dev) : (d.took).locals = d.locals := rfl
@[simp] theorem Dev.took_slot4 (d : Dev) : (d.took).slot4 = d.slot4 := rfl
@[simp] theorem Dev.took_regionCmds (d : Dev) : (d.took).regionCmds = d.regionCmds := rfl
@[simp] theorem Dev.took_unloads (d : Dev) : (d.took).unloads = d.unloads := rfl
@[simp] theorem Dev.took_slices (d : Dev) : (d.took).slices = d.slices := rfl
@[simp] theorem Dev.took_copies (d : Dev) : (d.took).copies = d.copies := rfl
@[simp] theorem Dev.took_mirSeqs (d : Dev) : (d.took).mirSeqs = d.mirSeqs := rfl
@[simp] theorem Dev.took_lendIn (d : Dev) : (d.took).lendIn = d.lendIn := rfl
@[simp] theorem Dev.took_lendOut (d : Dev) : (d.took).lendOut = d.lendOut := rfl
@[simp] theorem Dev.took_ports (d : Dev) : (d.took).ports = d.ports := rfl
@[simp] theorem Dev.took_egress (d : Dev) : (d.took).egress = d.egress := rfl
@[simp] theorem Dev.took_scheds (d : Dev) : (d.took).scheds = d.scheds := rfl
@[simp] theorem Dev.took_conns (d : Dev) : (d.took).conns = d.conns := rfl
@[simp] theorem Dev.took_tracts (d : Dev) : (d.took).tracts = d.tracts := rfl
@[simp] theorem Dev.took_opNext (d : Dev) : (d.took).opNext = d.opNext := rfl
@[simp] theorem Dev.took_msgEnds (d : Dev) : (d.took).msgEnds = d.msgEnds := rfl
@[simp] theorem Dev.took_slew (d : Dev) : (d.took).slew = d.slew := rfl
@[simp] theorem Dev.took_slewAcc (d : Dev) : (d.took).slewAcc = d.slewAcc := rfl
@[simp] theorem Dev.took_lockRun (d : Dev) : (d.took).lockRun = d.lockRun := rfl
@[simp] theorem Dev.took_ppsRun (d : Dev) : (d.took).ppsRun = d.ppsRun := rfl
@[simp] theorem Dev.took_telInt (d : Dev) : (d.took).telInt = d.telInt := rfl
@[simp] theorem Dev.took_telOk (d : Dev) : (d.took).telOk = d.telOk := rfl
@[simp] theorem Dev.took_telHold (d : Dev) : (d.took).telHold = d.telHold := rfl
@[simp] theorem Dev.took_telStep (d : Dev) : (d.took).telStep = d.telStep := rfl
@[simp] theorem Dev.took_telOn (d : Dev) : (d.took).telOn = d.telOn := rfl
@[simp] theorem Dev.took_telQ (d : Dev) : (d.took).telQ = d.telQ := rfl
@[simp] theorem Dev.took_slotId (d : Dev) : (d.took).slotId = d.slotId := rfl
@[simp] theorem Dev.took_standbyEpoch (d : Dev) : (d.took).standbyEpoch = d.standbyEpoch := rfl
@[simp] theorem Dev.took_lastAdv (d : Dev) : (d.took).lastAdv = d.lastAdv := rfl
@[simp] theorem Dev.took_version (d : Dev) : (d.took).version = d.version := rfl
@[simp] theorem Dev.took_cruiseIn (d : Dev) : (d.took).cruiseIn = d.cruiseIn := rfl
@[simp] theorem Dev.took_lendAsk (d : Dev) : (d.took).lendAsk = d.lendAsk := rfl
@[simp] theorem Dev.took_seenMsgs (d : Dev) : (d.took).seenMsgs = d.seenMsgs := rfl
@[simp] theorem Dev.took_rowMap (d : Dev) : (d.took).rowMap = d.rowMap := rfl
@[simp] theorem Dev.took_rowSums (d : Dev) : (d.took).rowSums = d.rowSums := rfl
@[simp] theorem Dev.took_failed (d : Dev) : (d.took).failed = d.failed := rfl
@[simp] theorem Dev.took_downLinks (d : Dev) : (d.took).downLinks = d.downLinks := rfl
@[simp] theorem Dev.took_disclaims (d : Dev) : (d.took).disclaims = d.disclaims := rfl
@[simp] theorem Dev.took_promoted (d : Dev) : (d.took).promoted = d.promoted := rfl
@[simp] theorem Dev.took_zoneFails (d : Dev) : (d.took).zoneFails = d.zoneFails := rfl
@[simp] theorem Dev.took_heatEpoch (d : Dev) : (d.took).heatEpoch = d.heatEpoch := rfl
@[simp] theorem Dev.took_svcRes (d : Dev) : (d.took).svcRes = d.svcRes := rfl

end Sys2Proof.Machine
end

