-- ==== Sys2Proof/Laws/Regs.lean ====
section
/-!
SUPPORT. Register words and fields: what a read gives after a write of the same place and of another, and what a field holds
after its own and another field's write.
-/
namespace Sys2Proof

theorem bits_eq (w : W64) (hi lo : Nat) : bits w hi lo = w.toNat / 2 ^ lo % 2 ^ (hi + 1 - lo) := by
  simp [bits, Nat.shiftRight_eq_div_pow]

theorem bits_lt (w : W64) (hi lo : Nat) : bits w hi lo < 2 ^ (hi + 1 - lo) := Nat.mod_lt _ (by positivity)

/-- The word with a field replaced, as a number: what lies above the field, the new value and what lies below it. -/
theorem putBits_toNat (w : W64) (hi lo v : Nat) (h : lo ≤ hi) (h64 : hi < 64) :
    (putBits w hi lo v).toNat =
      w.toNat / 2 ^ (hi + 1) * 2 ^ (hi + 1) + v % 2 ^ (hi + 1 - lo) * 2 ^ lo + w.toNat % 2 ^ lo := by
  have hw : w.toNat < 2 ^ 64 := w.isLt
  rw [putBits, Nat.shiftRight_eq_div_pow]
  simp only [BitVec.toNat_ofNat]
  generalize w.toNat = W at *
  have e1 : 2 ^ (hi + 1) = 2 ^ lo * 2 ^ (hi + 1 - lo) := by rw [← pow_add]; congr 1; omega
  have d1 : W = 2 ^ lo * (W / 2 ^ lo) + W % 2 ^ lo := (Nat.div_add_mod _ _).symm
  have d2 : W / 2 ^ lo = 2 ^ (hi + 1 - lo) * (W / 2 ^ lo / 2 ^ (hi + 1 - lo)) + W / 2 ^ lo % 2 ^ (hi + 1 - lo) :=
    (Nat.div_add_mod _ _).symm
  have d3 : W / 2 ^ lo / 2 ^ (hi + 1 - lo) = W / 2 ^ (hi + 1) := by rw [Nat.div_div_eq_div_mul, e1]
  have hy : v % 2 ^ (hi + 1 - lo) < 2 ^ (hi + 1 - lo) := Nat.mod_lt _ (by positivity)
  have hL : W % 2 ^ lo < 2 ^ lo := Nat.mod_lt _ (by positivity)
  have e2 : (2 : Nat) ^ 64 = 2 ^ (63 - hi) * 2 ^ (hi + 1) := by rw [← pow_add]; congr 1; omega
  have hA : W / 2 ^ (hi + 1) < 2 ^ (63 - hi) := by
    rw [Nat.div_lt_iff_lt_mul (by positivity), ← e2]
    exact hw
  have key : W - W / 2 ^ lo % 2 ^ (hi + 1 - lo) * 2 ^ lo + v % 2 ^ (hi + 1 - lo) * 2 ^ lo =
      W / 2 ^ (hi + 1) * 2 ^ (hi + 1) + v % 2 ^ (hi + 1 - lo) * 2 ^ lo + W % 2 ^ lo := by
    have : W = W / 2 ^ (hi + 1) * 2 ^ (hi + 1) + W / 2 ^ lo % 2 ^ (hi + 1 - lo) * 2 ^ lo + W % 2 ^ lo := by
      conv_lhs => rw [d1, d2, d3]
      rw [e1]; ring
    omega
  have small : W / 2 ^ (hi + 1) * 2 ^ (hi + 1) + v % 2 ^ (hi + 1 - lo) * 2 ^ lo + W % 2 ^ lo < 2 ^ 64 := by
    have h1 : v % 2 ^ (hi + 1 - lo) * 2 ^ lo + W % 2 ^ lo < 2 ^ (hi + 1) := by
      rw [e1]
      calc v % 2 ^ (hi + 1 - lo) * 2 ^ lo + W % 2 ^ lo < v % 2 ^ (hi + 1 - lo) * 2 ^ lo + 2 ^ lo := by omega
        _ = (v % 2 ^ (hi + 1 - lo) + 1) * 2 ^ lo := by ring
        _ ≤ 2 ^ (hi + 1 - lo) * 2 ^ lo := Nat.mul_le_mul_right _ hy
        _ = _ := by ring
    have h2 : (W / 2 ^ (hi + 1) + 1) * 2 ^ (hi + 1) ≤ 2 ^ 64 := by
      rw [e2]
      exact Nat.mul_le_mul_right _ hA
    have h3 : (W / 2 ^ (hi + 1) + 1) * 2 ^ (hi + 1) = W / 2 ^ (hi + 1) * 2 ^ (hi + 1) + 2 ^ (hi + 1) := by ring
    omega
  rw [key]
  exact Nat.mod_eq_of_lt small

/-- A field holds what was put into it, cut to its width. -/
theorem bits_putBits_self (w : W64) (hi lo v : Nat) (h : lo ≤ hi) (h64 : hi < 64) :
    bits (putBits w hi lo v) hi lo = v % 2 ^ (hi + 1 - lo) := by
  have e1 : 2 ^ (hi + 1) = 2 ^ lo * 2 ^ (hi + 1 - lo) := by rw [← pow_add]; congr 1; omega
  have hL : w.toNat % 2 ^ lo < 2 ^ lo := Nat.mod_lt _ (by positivity)
  rw [bits_eq, putBits_toNat w hi lo v h h64]
  have : w.toNat / 2 ^ (hi + 1) * 2 ^ (hi + 1) + v % 2 ^ (hi + 1 - lo) * 2 ^ lo + w.toNat % 2 ^ lo =
      w.toNat % 2 ^ lo + 2 ^ lo * (v % 2 ^ (hi + 1 - lo) + 2 ^ (hi + 1 - lo) * (w.toNat / 2 ^ (hi + 1))) := by
    rw [e1]; ring
  rw [this, Nat.add_mul_div_left _ _ (by positivity), Nat.div_eq_of_lt hL, Nat.zero_add, Nat.add_mul_mod_self_left,
    Nat.mod_mod]

/-- A field above or below the one that was written stays. -/
theorem bits_putBits_other (w : W64) (hi lo v h2 l2 : Nat) (h : lo ≤ hi) (h64 : hi < 64) (ho : h2 < lo ∨ hi < l2)
    (h2l : l2 ≤ h2) : bits (putBits w hi lo v) h2 l2 = bits w h2 l2 := by
  have e1 : 2 ^ (hi + 1) = 2 ^ lo * 2 ^ (hi + 1 - lo) := by rw [← pow_add]; congr 1; omega
  have hL : w.toNat % 2 ^ lo < 2 ^ lo := Nat.mod_lt _ (by positivity)
  have hy : v % 2 ^ (hi + 1 - lo) < 2 ^ (hi + 1 - lo) := Nat.mod_lt _ (by positivity)
  rw [bits_eq, bits_eq, putBits_toNat w hi lo v h h64]
  rcases ho with ho | ho
  · have p1 : 2 ^ lo = 2 ^ l2 * (2 ^ (h2 + 1 - l2) * 2 ^ (lo - (h2 + 1))) := by
      rw [← pow_add, ← pow_add]; congr 1; omega
    have hd : ∀ x : Nat, x / 2 ^ l2 % 2 ^ (h2 + 1 - l2) = x % 2 ^ lo / 2 ^ l2 % 2 ^ (h2 + 1 - l2) := by
      intro x
      conv_lhs => rw [← Nat.div_add_mod x (2 ^ lo)]
      rw [show 2 ^ lo * (x / 2 ^ lo) + x % 2 ^ lo =
        x % 2 ^ lo + 2 ^ l2 * (2 ^ (h2 + 1 - l2) * (2 ^ (lo - (h2 + 1)) * (x / 2 ^ lo))) by rw [p1]; ring]
      rw [Nat.add_mul_div_left _ _ (by positivity), Nat.add_mul_mod_self_left]
    rw [hd, hd w.toNat]
    congr 2
    rw [show w.toNat / 2 ^ (hi + 1) * 2 ^ (hi + 1) + v % 2 ^ (hi + 1 - lo) * 2 ^ lo + w.toNat % 2 ^ lo =
      w.toNat % 2 ^ lo + 2 ^ lo * (v % 2 ^ (hi + 1 - lo) + 2 ^ (hi + 1 - lo) * (w.toNat / 2 ^ (hi + 1))) by rw [e1]; ring]
    rw [Nat.add_mul_mod_self_left, Nat.mod_mod]
  · have p1 : 2 ^ l2 = 2 ^ (hi + 1) * 2 ^ (l2 - (hi + 1)) := by rw [← pow_add]; congr 1; omega
    congr 1
    rw [p1, ← Nat.div_div_eq_div_mul, ← Nat.div_div_eq_div_mul]
    congr 1
    have small : v % 2 ^ (hi + 1 - lo) * 2 ^ lo + w.toNat % 2 ^ lo < 2 ^ (hi + 1) := by
      rw [e1]
      calc v % 2 ^ (hi + 1 - lo) * 2 ^ lo + w.toNat % 2 ^ lo < v % 2 ^ (hi + 1 - lo) * 2 ^ lo + 2 ^ lo := by omega
        _ = (v % 2 ^ (hi + 1 - lo) + 1) * 2 ^ lo := by ring
        _ ≤ 2 ^ (hi + 1 - lo) * 2 ^ lo := Nat.mul_le_mul_right _ hy
        _ = _ := by ring
    rw [show w.toNat / 2 ^ (hi + 1) * 2 ^ (hi + 1) + v % 2 ^ (hi + 1 - lo) * 2 ^ lo + w.toNat % 2 ^ lo =
      (v % 2 ^ (hi + 1 - lo) * 2 ^ lo + w.toNat % 2 ^ lo) + 2 ^ (hi + 1) * (w.toNat / 2 ^ (hi + 1)) by ring]
    rw [Nat.add_mul_div_left _ _ (by positivity), Nat.div_eq_of_lt small, Nat.zero_add]

namespace Machine

@[simp] theorem Dev.rd_wr_self (d : Dev) (b : Blk) (i off : Nat) (v : W64) : (d.wr b i off v).rd b i off = v := by
  simp [Dev.rd]

theorem Dev.rd_wr_ne (d : Dev) (b b2 : Blk) (i i2 off off2 : Nat) (v : W64)
    (h : Loc.addr ⟨b2, i2, off2⟩ ≠ Loc.addr ⟨b, i, off⟩) : (d.wr b i off v).rd b2 i2 off2 = d.rd b2 i2 off2 := by
  simp [Dev.rd, Tab.getD_set_ne _ _ _ h]

theorem Dev.fld_setFld_self (d : Dev) (b : Blk) (i off hi lo v : Nat) (h : lo ≤ hi) (h64 : hi < 64) :
    (d.setFld b i off hi lo v).fld b i off hi lo = v % 2 ^ (hi + 1 - lo) := by
  simp [Dev.fld, Dev.setFld, bits_putBits_self _ _ _ _ h h64]

theorem Dev.fld_setFld_other (d : Dev) (b : Blk) (i off hi lo v h2 l2 : Nat) (h : lo ≤ hi) (h64 : hi < 64)
    (ho : h2 < lo ∨ hi < l2) (h2l : l2 ≤ h2) : (d.setFld b i off hi lo v).fld b i off h2 l2 = d.fld b i off h2 l2 := by
  simp [Dev.fld, Dev.setFld, bits_putBits_other _ _ _ _ _ _ h h64 ho h2l]

theorem Dev.rd_setFld_ne (d : Dev) (b b2 : Blk) (i i2 off off2 hi lo v : Nat)
    (h : Loc.addr ⟨b2, i2, off2⟩ ≠ Loc.addr ⟨b, i, off⟩) : (d.setFld b i off hi lo v).rd b2 i2 off2 = d.rd b2 i2 off2 :=
  Dev.rd_wr_ne _ _ _ _ _ _ _ _ h

theorem Dev.fld_setFld_ne (d : Dev) (b b2 : Blk) (i i2 off off2 hi lo v h2 l2 : Nat)
    (h : Loc.addr ⟨b2, i2, off2⟩ ≠ Loc.addr ⟨b, i, off⟩) :
    (d.setFld b i off hi lo v).fld b2 i2 off2 h2 l2 = d.fld b2 i2 off2 h2 l2 := by
  simp [Dev.fld, Dev.rd_setFld_ne _ _ _ _ _ _ _ _ _ _ h]

/-- A counting field that saturates never falls. -/
theorem satAt_le (n v : Nat) : satAt n v < 2 ^ n := by
  unfold satAt
  split
  · assumption
  · have : 0 < 2 ^ n := by positivity
    omega

end Machine
end Sys2Proof
end

