-- ==== Sys2Proof/Laws/Thread.lean ====
section
/-!
SUPPORT. Threads: registers after a write, the frame of one instruction, and the command that runs one.
-/
namespace Sys2Proof.Machine

@[simp] theorem Thread.rg_zero (x : Thread) : x.rg 0 = 0#64 := rfl
@[simp] theorem Thread.wg_zero (x : Thread) (v : W64) : x.wg 0 v = x := rfl
@[simp] theorem Thread.rp_zero (x : Thread) : x.rp 0 = true := rfl
@[simp] theorem Thread.wp_zero (x : Thread) (v : Bool) : x.wp 0 v = x := rfl

/-- A register other than g0 holds what was written to it. -/
theorem Thread.rg_wg_self (x : Thread) (n : Nat) (v : W64) (h : n ≠ 0) : (x.wg n v).rg n = v := by
  simp [Thread.rg, Thread.wg, h]

/-- A register that was not written stays. -/
theorem Thread.rg_wg_ne (x : Thread) (n m : Nat) (v : W64) (h : m ≠ n) : (x.wg n v).rg m = x.rg m := by
  unfold Thread.rg Thread.wg
  split
  · rfl
  · split
    · rfl
    · exact Tab.getD_set_ne _ _ _ h

@[simp] theorem Thread.wg_wait (x : Thread) (n : Nat) (v : W64) : (x.wg n v).wait = x.wait := by unfold Thread.wg; split <;> rfl
@[simp] theorem Thread.wg_pc (x : Thread) (n : Nat) (v : W64) : (x.wg n v).pc = x.pc := by unfold Thread.wg; split <;> rfl
@[simp] theorem Thread.wg_p (x : Thread) (n : Nat) (v : W64) : (x.wg n v).p = x.p := by unfold Thread.wg; split <;> rfl
@[simp] theorem Thread.wg_v (x : Thread) (n : Nat) (v : W64) : (x.wg n v).v = x.v := by unfold Thread.wg; split <;> rfl
@[simp] theorem Thread.wg_stack (x : Thread) (n : Nat) (v : W64) : (x.wg n v).stack = x.stack := by unfold Thread.wg; split <;> rfl
@[simp] theorem Thread.wp_wait (x : Thread) (n : Nat) (v : Bool) : (x.wp n v).wait = x.wait := by unfold Thread.wp; split <;> rfl
@[simp] theorem Thread.wp_pc (x : Thread) (n : Nat) (v : Bool) : (x.wp n v).pc = x.pc := by unfold Thread.wp; split <;> rfl
@[simp] theorem Thread.wp_g (x : Thread) (n : Nat) (v : Bool) : (x.wp n v).g = x.g := by unfold Thread.wp; split <;> rfl
@[simp] theorem Thread.wv_wait (x : Thread) (n : Nat) (v : BitVec 512) : (x.wv n v).wait = x.wait := rfl
@[simp] theorem Thread.wv_pc (x : Thread) (n : Nat) (v : BitVec 512) : (x.wv n v).pc = x.pc := rfl

@[simp] theorem Dev.thr_setThr (d : Dev) (t : Nat) (x : Thread) : (d.setThr t x).thr t = x := by simp [Dev.thr]

theorem Dev.thr_setThr_ne (d : Dev) (t u : Nat) (x : Thread) (h : u ≠ t) : (d.setThr t x).thr u = d.thr u := by
  simp [Dev.thr, Tab.getD_set_ne _ _ _ h]

@[simp] theorem Dev.setThr_setThr (d : Dev) (t : Nat) (x y : Thread) : (d.setThr t x).setThr t y = d.setThr t y := by
  simp [Dev.setThr]

@[simp] theorem Dev.setThr_thrImage (d : Dev) (t u : Nat) (x : Thread) : (d.setThr t x).thrImage u = d.thrImage u := rfl

theorem Dev.modThr_eq (d : Dev) (t : Nat) (f : Thread → Thread) : d.modThr t f = d.setThr t (f (d.thr t)) := rfl

theorem Dev.setG_eq (d : Dev) (t n : Nat) (v : W64) : d.setG t n v = d.setThr t ((d.thr t).wg n v) := rfl

theorem Dev.advance_eq (d : Dev) (t len : Nat) :
    d.advance t len = d.setThr t { d.thr t with pc := ((d.thr t).pc + len) % 65536 } := rfl

/-- A thread that may issue waits for nothing. -/
theorem Dev.runnable_wait {d : Dev} {t : Nat} (h : d.runnable t = true) : (d.thr t).wait = .run := by
  simp only [Dev.runnable, Bool.and_eq_true, beq_iff_eq] at h
  exact h.1.1.2

theorem Dev.issues_runnable {d : Dev} {t : Nat} (h : d.issues t = true) : d.runnable t = true := by
  simp only [Dev.issues, Bool.and_eq_true] at h
  exact h.2

/-- True when an instruction of 4 or 8 bytes at the thread's program counter lies in its text (07 R309). -/
abbrev Dev.fits (d : Dev) (t len : Nat) : Prop := ¬ (len = 8 ∧ ((d.thrImage t).map (·.textLen)).getD 0 ≤ (d.thr t).pc + 4)

theorem Dev.fits_four (d : Dev) (t : Nat) : d.fits t 4 := fun h => absurd h.1 (by decide)

/-- An instruction that completes moves the program counter past itself. -/
theorem Dev.instr_ok {d d' : Dev} {t len : Nat} {f : Dev → Thread → InstrRes} (h : d.runnable t = true) (hl : d.fits t len)
    (hf : f d (d.thr t) = .ok d') : d.instr t len f = d'.advance t len := by
  rw [Dev.instr, if_pos h, if_neg hl, hf]

/-- An instruction that jumps sets the program counter. -/
theorem Dev.instr_jump {d d' : Dev} {t len pc : Nat} {f : Dev → Thread → InstrRes} (h : d.runnable t = true)
    (hl : d.fits t len) (hf : f d (d.thr t) = .jump d' pc) : d.instr t len f = d'.setThr t { d'.thr t with pc := pc } := by
  rw [Dev.instr, if_pos h, if_neg hl, hf]
  rfl

/-- An instruction that waits at its place leaves the program counter. -/
theorem Dev.instr_hold {d d' : Dev} {t len : Nat} {f : Dev → Thread → InstrRes} (h : d.runnable t = true)
    (hl : d.fits t len) (hf : f d (d.thr t) = .hold d') : d.instr t len f = d' := by
  rw [Dev.instr, if_pos h, if_neg hl, hf]

/-- An instruction that raises an exception has no other effect. -/
theorem Dev.instr_exc {d : Dev} {t len c : Nat} {a : W64} {f : Dev → Thread → InstrRes} (h : d.runnable t = true)
    (hl : d.fits t len) (hf : f d (d.thr t) = .exc c a) : d.instr t len f = d.except t c a := by
  rw [Dev.instr, if_pos h, if_neg hl, hf]

/-- A thread's command whose instruction leaves the thread running leaves the device as the instruction made it. -/
theorem State.thread_run {s : State} {t : Nat} {f : Dev → Dev} (h : s.d.issues t = true) (hw : ((f s.d).thr t).wait = .run) :
    s.thread t f = .next (s.put (f s.d)) := by
  simp [State.thread, h, hw]

/-- A command of normal operation, while the device serves. -/
theorem State.served_eq {s : State} (f : Dev → Dev) (h : s.d.serving = true) : s.served f = .next (s.put (f s.d).settle) := by
  simp [State.served, h]

/-- An event of a powered device, while it is up. -/
theorem State.alive_eq {s : State} (f : Dev → Dev) (h : s.d.up? = true) : s.alive f = .next (s.put (f s.d).settle) := by
  simp [State.alive, h]

end Sys2Proof.Machine
end

