-- ==== Sys2Proof/Tests/Slice0.lean ====
section
/-!
SUPPORT. Tests: for every statement with hypotheses a theorem wit_<its name> that shows states and operands meeting them
(several theorems where a statement has several parts), single steps of some commands against values of the spec, and a
well-formed and an ill-formed term for every check of WellFormed. A statement is never proved here.
-/
namespace Sys2Proof.Tests
open Sys2Proof Sys2Proof.Machine

-- One theorem after the other: many kernel evaluations at once would each hold a thread.
set_option Elab.async false

/-! ## Small devices -/

/-- The command answers this device, at once or after the device's own work. -/
def does (s : State) (c : Instr) (d : Dev) : Bool :=
  match exec c s with
  | .next t => decide (t = s.put d)
  | _ => false

/-- A state of a device, with nothing waiting. -/
def st (d : Dev) : State := { State.reset with d := d }

/-- A booted device. -/
def on : Dev := Dev.setFld {} .boot 0 0 3 0 3

/-- A kernel image of stand w: 256 bytes of text, its handler at 128. -/
def img (w : Nat) : Image := ⟨w, 0, 256, 256, 64, 0, 128, 31, 2, 4, 64, w == 0, [], 0, [], true⟩

/-- A thread that runs. -/
def th : Thread := { Thread.reset with wait := .run }

/-- A booted device with an image of stand w on core 0, and thread 0 in state x. -/
def kern (w : Nat) (x : Thread) : Dev := { on with images := [(0, img w)], cores := [(0, ⟨some 0, false, []⟩)], threads := [(0, x)] }

/-- Thread 0 with general registers 1 and 2. -/
def th2 (a b : W64) : Thread := { th with g := [(1, a), (2, b)] }

/-! ## Kernel threads: witnesses of the statements' hypotheses, and one step of some instructions -/

theorem wit_IntegerInstructionResults : (st (kern 0 th)).d.issues 0 = true ∧ (63#15).toNat < 64 := by decide +kernel

/-- 07 R322: the sum wraps. -/
theorem test_add_wraps : does (st (kern 0 (th2 (-1) 2))) (.add 0 (.reg 3 1 2 false 0)) ((kern 0 (th2 (-1) 2)).withG 0 3 1) = true := by
  decide +kernel

/-- 07 Table 5: the high half of a signed product of -1 and 1 is -1, of an unsigned one 0. -/
theorem test_mulh_signs : does (st (kern 0 (th2 (-1) 1))) (.mulh 0 (.reg 3 1 2 false 0)) ((kern 0 (th2 (-1) 1)).withG 0 3 (-1)) = true ∧
    does (st (kern 0 (th2 (-1) 1))) (.mulh 0 (.reg 3 1 2 true 0)) ((kern 0 (th2 (-1) 1)).withG 0 3 0) = true := by decide +kernel

/-- 07 R318: g0 reads as zero and discards writes. -/
theorem test_g0 : ((kern 0 (th2 5 0)).withG 0 0 7).g 0 0 = 0 := by decide +kernel

theorem wit_CompareAndConstantResults : (st (kern 0 th)).d.issues 0 = true ∧ (7#5).toNat < 8 ∧ (5#10).toNat < 6 := by decide +kernel

/-- 07 Table 5: LT is signed, LTU is not. -/
theorem test_cmp_signs :
    does (st (kern 0 (th2 (-1) 1))) (.cmp 0 ⟨2, 1, 2, 2⟩) ((kern 0 (th2 (-1) 1)).setThr 0 (((th2 (-1) 1).wp 2 true).next 4)) = true ∧
    does (st (kern 0 (th2 (-1) 1))) (.cmp 0 ⟨2, 1, 2, 4⟩) ((kern 0 (th2 (-1) 1)).setThr 0 (((th2 (-1) 1).wp 2 false).next 4)) = true := by
  decide +kernel

/-- A thread at address 8 with one predicate set, an address on its stack and g1 at 2. -/
def thB : Thread := { th2 2 1 with pc := 8, p := 0x80, stack := [252] }

theorem wit_BranchResults : let d := kern 0 thB
    d.issues 0 = true ∧ d.inText 0 (Machine.target thB (-2)) = true ∧ d.inText 0 (Machine.target thB 61) = true ∧ thB.rp 7 = true ∧
    thB.rp 6 = false ∧ thB.stack.length < 16 ∧ thB.rg 1 - 1 ≠ 0 ∧ thB.rg 2 - 1 = 0 ∧ d.inText 0 252 = true := by decide +kernel

theorem test_loop : does (st (kern 0 thB)) (.loop 0 ⟨1, -2⟩) ((kern 0 thB).setThr 0 { thB.wg 1 1 with pc := 0 }) = true ∧
    does (st (kern 0 thB)) (.loop 0 ⟨2, -2⟩) ((kern 0 thB).setThr 0 ((thB.wg 2 0).next 4)) = true := by decide +kernel

theorem wit_BranchOutOfTextRaisesLocalRange : let d := kern 0 thB
    d.issues 0 = true ∧ d.inText 0 (Machine.target thB (-3)) = false ∧ d.inText 0 (Machine.target thB 62) = false ∧ thB.rp 7 = true ∧
    (kern 0 { thB with stack := [256] }).inText 0 256 = false := by decide +kernel

theorem test_branch_out_of_text : does (st (kern 0 thB)) (.br 0 ⟨0, 62⟩) ((kern 0 thB).except 0 3 256) = true ∧
    (((kern 0 thB).except 0 3 256).thr 0).pc = 128 ∧ (((kern 0 thB).except 0 3 256).thr 0).excPc = 8 := by decide +kernel

theorem wit_ExceptionAtHandler : let d := kern 0 th
    d.thrImage 0 = some (img 0) ∧ (img 0).excEntry ≠ 0 ∧ (d.thr 0).inExc = false ∧ (13 : Nat) ≠ 14 := by decide +kernel

theorem wit_ThreadsHaltAndWake : let d := kern 0 th
    let z := { kern 0 { th with wait := .tsleep 7 } with fab := 7 }
    d.issues 0 = true ∧ (d.thr 0).sub = none ∧ (d.core 0).closing = false ∧ d.thrImage 0 = some (img 0) ∧ (img 0).live = true ∧
    z.serving = true ∧ (z.thr 0).wait = .tsleep 7 ∧ 7 ≤ z.fab ∧ ({ z with fab := 6 } : Dev).fab < 7 := by decide +kernel

theorem test_tsleepWake : does (st { kern 0 { th with wait := .tsleep 7 } with fab := 7 }) (.tsleepWake 0)
    (Dev.settle { kern 0 (th.next 4) with fab := 7 }) = true := by decide +kernel

/-- A device of a service kernel whose thread has addresses of the local memory, of stage memory and of service memory. -/
def memK (w : Nat) (a : W64) : Dev := { kern w (th2 a 0x1122334455667788) with
  stage := Memory.write [] 64 [1, 2, 3, 4, 5, 6, 7, 8], svcRes := 16, stageRegion := [(w, (0, 4096))] }

/-- 06 Table 3: an address whose bits 63 to 60 select the memory. -/
def tagged (tag off : Nat) : W64 := BitVec.ofNat 64 (tag * 2 ^ 60 + off)

theorem wit_LoadResults : let a := tagged 0 262136
    let b := tagged 1 4032
    let c := tagged 3 (16 * 2 ^ 30 - 64)
    (memK 0 a).issues 0 = true ∧ memExc a 8 = none ∧ adTag a = 0 ∧ memExc b 64 = none ∧ adTag b = 1 ∧ memExc c 64 = none ∧ adTag c = 3 ∧
    (memK 1 b).ownsStage 0 (adOff b) 64 false = true ∧ (memK 0 c).thrStand 0 = 0 ∧ adOff c + 64 ≤ (memK 0 c).svcPages * 4096 := by
  decide +kernel

/-- 07 R328: a load of 2 bytes is zero-extended and lowest byte first. -/
theorem test_ld : does (st (memK 1 (tagged 1 64))) (.ld 0 ⟨3, 1, 1, 2⟩ false)
    (Dev.settle ((memK 1 (tagged 1 64)).withG 0 3 0x0403)) = true := by decide +kernel

theorem wit_StoreResults : let a := tagged 0 262080
    let b := tagged 1 4032
    let c := tagged 3 (16 * 2 ^ 30 - 64)
    (memK 0 a).issues 0 = true ∧ memExc a 64 = none ∧ adTag a = 0 ∧ memExc b 64 = none ∧ adTag b = 1 ∧ memExc c 64 = none ∧ adTag c = 3 ∧
    (memK 1 b).ownsStage 0 (adOff b) 64 true = true ∧ (memK 0 c).thrStand 0 = 0 ∧ adOff c + 64 ≤ (memK 0 c).svcPages * 4096 ∧
    memExc (addOff a 1) 1 = none := by decide +kernel

/-- 07 R331: a store of 4 bytes puts the low half of gd. -/
theorem test_st : does (st (memK 0 (tagged 0 16))) (.st 0 ⟨2, 1, 2, -4⟩)
    (((memK 0 (tagged 0 16)).localWrite 0 12 [0x88, 0x77, 0x66, 0x55]).past 0 4) = true := by decide +kernel

theorem wit_StoreFrame : let s := st (memK 0 (tagged 0 262136))
    s.d.issues 0 = true ∧ memExc (tagged 0 262136) 8 = none ∧ s.d.doing.burn = none ∧
    (match exec (.st 0 ⟨2, 1, 3, 0⟩) s with
      | .next _ => true
      | _ => false) = true := by decide +kernel

/-- A thread with 1.0 in every 32-bit lane of v1, and bytes 1 in v2. -/
def thV : Thread := { th with v := [(1, 0x3F800000 * 0x00000001000000010000000100000001000000010000000100000001000000010000000100000001000000010000000100000001000000010000000100000001), (2, 1)], p := 2 }

theorem wit_VectorInstructionResults : (st (kern 0 thV)).d.issues 0 = true ∧ (2#2) ≠ 3 ∧ ((0#2) = 0 ∨ (0#2) = 1) ∧ (1#2 = 0 ∨ 1#2 = 1) ∧
    (15#5).toNat < 16 := by decide +kernel

/-- 07 Table 7: 1.0 + 1.0 is 2.0 in each lane, and a sum of integers wraps in its lane. -/
theorem test_vadd : lane ((vadd 0 0 ((kern 0 thV).vreg 0 1) ((kern 0 thV).vreg 0 1))) 32 15 = 0x40000000 ∧
    lane (vadd 2 0 (-1) 1) 64 0 = 0 ∧ lane (vadd 2 0 (-1) 1) 64 1 = 2 ^ 64 - 1 := by decide +kernel

theorem wit_VectorLanesAreIndependent : (7 : Nat) < 512 / 64 ∧ (31 : Nat) < 512 / 16 ∧ (63 : Nat) < 64 := by decide +kernel

theorem wit_ReservedFieldsRaiseIllegal : (st (kern 0 th)).d.issues 0 = true ∧ (1#9) ≠ 0 ∧ 64 ≤ (64#15).toNat ∧ 8 ≤ (8#5).toNat ∧
    6 ≤ (6#10).toNat ∧ (2#2 = 2) := by decide +kernel

theorem test_illegal : does (st (kern 0 (th2 1 1))) (.shl 0 (.imm 3 1 64)) ((kern 0 (th2 1 1)).except 0 1 0) = true := by decide +kernel

/-! ## Sequences, tiles and handles -/

/-- Profile of two layers, one head of 64 elements, BF16 keys and values (04 Table 3). -/
def prof : List Byte := [2, 0, 1, 2, 5, 5, 0, 0, 0, 0, 0, 0, 0, 0, 0, 0]

/-- A directory entry in a state, with profile 0 and page table set 1. -/
def dval (state : Nat) : W64 := BitVec.ofNat 64 (state * 2 ^ 61 + 1)

/-- Bytes of a word, the lowest first. -/
def le8 (n : Nat) : List Byte := natLe 8 n

/-- Sequence h of stand w resident in set 1: layer 0 has one page, sealed, in frame f; layer 1 has none. The root node is
page 2 of service memory, its leaf page 3. -/
def seqDev (d : Dev) (w h state f : Nat) : Dev :=
  let key := seqKey w h
  let pte := 2 ^ 63 + f
  let tile := padTo 128 (le8 key ++ natLe 2 0 ++ natLe 2 0 ++ natLe 2 16 ++ natLe 2 0 ++ natLe 4 0)
  { d with
    profiles := [(w * 8, prof)], dir := [(key, dval state)], shadow := [(key, dval state)], svcRes := 16
    svc := Memory.write (Memory.write (Memory.write (Memory.write [] (4096 + 64) (le8 2)) (2 * 4096) (le8 (2 ^ 63 + 3))) (3 * 4096) (le8 pte)) 4096 (le8 key)
    mem := Memory.write [] (f * 256) tile, runs := [(f, ⟨1, true⟩)], pages := [(pageKey 1 0 0, ⟨w, some 0, none, false, 0⟩)] }

/-- Thread 0 of a kernel of stand w at work on a record whose query is in stage memory, on sequence 5. -/
def subK (w : Nat) (x : Thread) : Dev :=
  { kern w { x with sub := some 0, seqKey := seqKey w 5 } with
    stageRegion := [(w, (0, 65536))]
    orders := [(1, ⟨w, 0, padTo 128 (List.replicate 52 0 ++ [1, 0, 0, 1]), 0, 0, seqKey w 5, true, false, 0, false, 0, 0, true, 0, false, 0, []⟩)]
    subs := [(0, ⟨1, w, 0, 0, 0, 0, 0, 0, false, 0, 1, 0, .running 0, 0, 0, 0, 0, 0, [0], 63, false, 0, 0⟩)] }

/-- Thread 0 of a record's sub-order with an address in g1, an argument in g2, handles, and the sequence's page in frame 16. -/
def tileK (ga gb : W64) (hs : Tab Handle) : Dev := seqDev (subK 1 { th2 ga gb with t := hs }) 1 5 stRunning 16

/-- A row set of one row at engine 0 for heads of 64 elements, with a score. -/
def rows1 : RowSet := ⟨0, 0, 0, 64, 5, 5, false, 0, 0, 0, 0, 0, [⟨0, 0, List.replicate 64 (.fin false 0 0), emptyRow 64, 0, 0, 1⟩], [[some 0]], [], [], false,
  some (1, 1), 5⟩

/-- An operand without tokens for every engine. -/
def kv0 : KvOperand := ⟨63, [], 1⟩

theorem wit_FetchBindsAHandle :
    let q := tileK (tagged 1 0) (1 * 2 ^ 24) []
    let n := tileK 0 0 [(0, .kv kv0)]
    let g := tileK (BitVec.ofNat 64 (2 ^ 63 + 16)) 1 [(0, .kv kv0)]
    let w := tileK (tagged 1 0) 1 [(0, .kv kv0)]
    let m := tileK (tagged 1 0) (128 + 256 * 2 ^ 8 + 2 * 2 ^ 17) []
    let v : Dev := { tileK 0 (1 + 5 * 2 ^ 8 + 256 * 2 ^ 16 + 256 * 2 ^ 25) [] with weights := [(1, ([20, 21], false))] }
    LongReady (st q) 0 ∧ (q.thr 0).tokFree ≠ 0 ∧ Tab.has (q.thr 0).toks 0 = false ∧ (q.thr 0).handleOf 0 = some 0 ∧
    stageExc (q.g 0 1) 32 = none ∧ (q.thr 0).isOperand 0 = false ∧ (q.nextSlot 0 0).isSome = true ∧
    (q.memRead 0 (q.g 0 1) 128).2 = q ∧ (q.recCtx 0 (q.memRead 0 (q.g 0 1) 128).1).isSome = true ∧
    (q.memRead 0 (q.g 0 1 + 128) 128).2 = q ∧ bits (q.g 0 2) 7 0 < 1 ∧ bits (q.g 0 2) 23 8 + bits (q.g 0 2) 39 24 ≤ 1 ∧
    n.g 0 1 = 0 ∧ (Tab.has (n.thr 0).t 0 = true → (n.thr 0).isOperand 0 = true) ∧
    (g.tileNamed 1 (g.g 0 1)).isSome = true ∧ g.bindExc 0 (g.thr 0) 0 1 = none ∧ g.appendTo 0 (g.thr 0) 0 1 = .inr kv0 ∧
    pteTier (g.g 0 1) < 2 ∧ g.g 0 1 ≠ 0 ∧
    ((g.tileNamed 1 (g.g 0 1)).any fun x => !tileFlag x.2.1 flQuar && recNum x.2.1 12 2 == 16) = true ∧
    stageExc (w.g 0 1) 32 = none ∧ ((w.windowPart 0 (w.g 0 1)).map (·.2)) = some w ∧ w.appendTo 0 (w.thr 0) 0 1 = .inr kv0 ∧
    (m.nextSlot 0 0).isSome = true ∧ (m.memRead 0 (m.g 0 1) (querySize (actFmt 2) 128 256)).2 = m ∧ bits (m.g 0 2) 7 0 = 128 ∧
    bits (m.g 0 2) 16 8 = 256 ∧ bits (m.g 0 2) 18 17 = 2 ∧
    v.bindExc 0 (v.thr 0) 0 1 = none ∧ bits (v.g 0 2) 24 16 = 256 ∧ bits (v.g 0 2) 33 25 = 256 ∧ bits (v.g 0 2) 63 34 = 0 := by
  decide +kernel

theorem wit_AttentionSteps :
    let d := tileK (tagged 1 0) 0 [(0, .rows rows1), (1, .kv kv0)]
    let z := tileK 0 0 [(0, .rows { rows1 with skip := true })]
    LongReady (st d) 0 ∧ (d.thr 0).tokFree ≠ 0 ∧ Tab.has (d.thr 0).toks 0 = false ∧ (d.thr 0).handleOf 0 = some 0 ∧ d.handle 0 0 = some (.rows rows1) ∧ (2#10).toNat ≤ 2 ∧
    (d.thr 0).handleOf 1 = some 1 ∧ pairOf (d.thr 0) 0 1 = .inr (rows1, kv0) ∧ quantBad 2 kv0 = false ∧ rows1.skip = false ∧
    z.handle 0 0 = some (.rows { rows1 with skip := true }) ∧ LongReady (st z) 0 ∧ rows1.last = some (1, kv0.version) ∧
    (kv0.toks d.slots d.freeCtr true rows1.kvHead rows1.dim).2 = none ∧ stageExc (d.g 0 1) 8 = none ∧
    (d.memRead 0 (d.g 0 1) (264 * rows1.rows.length)).2 = d ∧ rows1.check = false := by decide +kernel

theorem wit_RowsAndScoresStored :
    let m : MatRows := ⟨0, 0, 1, 32, 0, [List.replicate 32 (.fin false 0 0)], [List.replicate 256 0], 0⟩
    let w : WeightOp := ⟨1, 0, 1, 32, [List.replicate 32 (.fin false 0 0)], false, 1⟩
    let d := tileK (tagged 1 0) 0 [(0, .rows rows1)]
    let e := tileK (tagged 1 0) 0 [(0, .mat m), (1, .weight w)]
    LongReady (st d) 0 ∧ (d.thr 0).tokFree ≠ 0 ∧ Tab.has (d.thr 0).toks 0 = false ∧ (d.thr 0).handleOf 0 = some 0 ∧ d.handle 0 0 = some (.rows rows1) ∧ stageExc (d.g 0 1) 8 = none ∧
    LongReady (st e) 0 ∧ (e.thr 0).tokFree ≠ 0 ∧ Tab.has (e.thr 0).toks 0 = false ∧ (1#10).toNat ≤ 1 ∧ e.handle 0 0 = some (.mat m) ∧ e.handle 0 1 = some (.weight w) ∧
    w.engines.testBit m.engine = true ∧ m.k = w.k ∧ w.lost = false ∧ stageExc (e.g 0 1) 8 = none := by decide +kernel

/-- A thread with a token in each of some states. -/
def thTok (ts : Tab Tok) : Thread := { th2 5 0 with toks := ts }

theorem wit_TokensCompleteAndAreAwaited :
    let d := kern 1 (thTok [(5, ⟨.tile none, false, some 0, none⟩)])
    let e := kern 1 (thTok [(5, ⟨.tile none, false, some 3, some 3⟩)])
    let n := kern 1 (thTok [(5, ⟨.nbx 2, false, none, some 0⟩)])
    let r := kern 1 (thTok [(5, ⟨.remote 2, true, none, none⟩)])
    d.serving = true ∧ (d.thr 0).wait = .run ∧ Tab.get? (d.thr 0).toks 5 = some ⟨.tile none, false, some 0, none⟩ ∧
    LongReady (st d) 0 ∧ (d.g 0 1).toNat = 5 ∧ (d.thr 0).allDone = false ∧ LongReady (st e) 0 ∧ (e.thr 0).allDone = true ∧
    Tab.get? (e.thr 0).toks 5 = some ⟨.tile none, false, some 3, some 3⟩ ∧ n.issues 0 = true ∧
    Tab.get? (n.thr 0).toks 5 = some ⟨.nbx 2, false, none, some 0⟩ ∧ Tab.has n.nbprogs 2 = false ∧ LongReady (st r) 0 := by decide +kernel

/-- 06 R283: TWAIT of a completed token gives its status and frees it. -/
theorem test_twait : let x := thTok [(5, ⟨.tile none, false, some 3, some 3⟩)]
    does (st (kern 1 x)) (.twait 0 ⟨7, 1, 0, 0, 0, 0⟩ 0)
      (Dev.settle ((kern 1 x).setThr 0 { (x.wg 7 3).next 8 with toks := [] })) = true := by decide +kernel

/-! ## Tables, sequences, near-bank programs, remote operations, queues -/

/-- Thread 0 working on the resident sequence 5, with g1 and g2. -/
def seqK (state : Nat) (ga gb : W64) : Dev := seqDev (subK 1 (th2 ga gb)) 1 5 state 16

/-- A pin of layer 0 by thread 0. -/
def pin0 : Pin := ⟨7, 1, 0, 0, 0⟩

theorem wit_PageWalkAndDirectoryInstructions :
    let d := seqK stRunning 0 3
    let e := seqK stResident 1 0
    let p : Dev := { d with pins := [pin0] }
    let n := seqK stResident 9 0
    d.issues 0 = true ∧ (d.thr 0).tokFree ≠ 0 ∧ d.look (d.thr 0).seqKey = some (dval stRunning) ∧
    (d.seqProfile? (d.thr 0).seqKey).any (fun pr => decide (1 < pr.layers)) = true ∧ bits (dval stRunning) 63 61 = stRunning ∧
    p.pinOf 0 1 0 = some pin0 ∧ d.pinOf 0 (dvSet (dval stRunning)) 0 = none ∧ d.root 1 0 ≠ 0 ∧ d.pins.length < 16 ∧
    e.issues 0 = true ∧ (e.g 0 1).toNat = 1 ∧ e.root 1 1 = 0 ∧ bits (dval stResident) 63 61 = stResident ∧
    p.entry (p.thr 0).seqKey = some (dval stRunning) ∧ p.pinOf 0 (dvSet (dval stRunning)) (p.g 0 1).toNat = some pin0 ∧
    (seqK stResident 5 0).look (seqKey 1 5) = some (dval stResident) ∧ n.look (seqKey 1 9) = none ∧
    (n.insert (seqKey 1 9) 1 (.thread 0 3)).1 = dsBadProfile ∧ dsBadProfile ≠ dsOk ∧
    (seqK stResident 5 0).entry (seqKey (d.thrStand 0) 5) = some (dval stResident) ∧ bits (dval stResident) 63 61 ≠ stRunning ∧
    bits (dval stResident) 63 61 ≠ stRestoring := by decide +kernel

theorem wit_dins : ∃ d1, (seqK stResident 9 0).insert (seqKey 1 9) 0 (.thread 0 3) = (dsOk, d1) :=
  insert_ok _ _ _ _ (by decide +kernel) (by decide +kernel) (by decide +kernel) (by decide +kernel)
    (by decide +kernel) (by decide +kernel)

theorem wit_DirectoryUpdateEnds :
    let o : DirOp := ⟨seqKey 1 5, none, .thread 0 3⟩
    let q : DirOp := ⟨seqKey 1 5, some (dval stResident), .host 1 9 0x11⟩
    let d : Dev := { seqDev (subK 1 { th2 5 0 with wait := .table 3 }) 1 5 stResident 16 with dirOps := [o] }
    d.serving = true ∧ d.dirOps = [o] ∧ o.who = .thread 0 3 ∧ (d.thr 0).wait = .table 3 ∧ ({ d with dirOps := [q] } : Dev).dirOps = [q] ∧
    q.who = .host 1 9 0x11 := by decide +kernel

/-- 04 R142: the update of an insertion shows the entry to lookups and lets the thread go on with status 0. -/
theorem test_dirUpdateDone : let v := dval stResident
    let d : Dev := { seqDev (subK 1 { th2 5 0 with wait := .table 3 }) 1 5 stResident 16 with dir := [], dirOps := [⟨seqKey 1 5, some v, .thread 0 3⟩] }
    (match exec .dirUpdateDone (st d) with
      | .next s => decide (s.d.dir = [(seqKey 1 5, v)]) && decide (s.d.dirOps = []) && decide ((s.d.thr 0).wait = .run) && decide ((s.d.thr 0).pc = 4)
      | _ => false) = true := by decide +kernel

theorem wit_SequenceInstructions :
    let d := seqK stRunning (2 ^ 63) 5
    let y := seqK stResident 5 0
    let r : Dev := { seqK stYarded 5 0 with pages := [] }
    let g := seqK stRunning (BitVec.ofNat 64 (2 ^ 63 + 16)) 0
    d.issues 0 = true ∧ d.look (d.thr 0).seqKey = some (dval stRunning) ∧ bits (d.g 0 2) 2 0 = 5 ∧
    y.issues 0 = true ∧ y.look (seqKey 1 5) = some (dval stResident) ∧ bits (dval stResident) 63 61 = stResident ∧
    r.issues 0 = true ∧ (r.restore (seqKey 1 5)).1 = dsOk ∧ (g.tileNamed 1 (g.g 0 1)).isSome = true ∧ pteTier (g.g 0 1) < 2 ∧
    ((g.tileNamed 1 (g.g 0 1)).any fun x => !tileFlag x.2.1 flQuar && !tileFlag x.2.1 flOpen) = true := by decide +kernel

/-- A tile of a sealed page of sequence 5, every block raw. -/
def rawTile : List Byte := padTo 128 (le8 (seqKey 1 5) ++ natLe 4 0 ++ natLe 2 16 ++ natLe 2 0 ++ natLe 4 0 ++ [255, 255] ++ List.replicate 10 0 ++
  ((List.range 16).flatMap fun b => natLe 2 (128 * b)) ++ List.replicate 16 0 ++ natLe 2 2048)

/-- The same device with that tile in frame 16. -/
def rawK : Dev := { seqK stRunning (BitVec.ofNat 64 (2 ^ 63 + 16)) 0 with mem := Memory.write [] (16 * 256) rawTile }

theorem wit_digest : ∃ fr tile x page, rawK.tileNamed 1 (rawK.g 0 1) = some (fr, tile, x) ∧ tileFlag tile flQuar = false ∧
    tileFlag tile flOpen = false ∧ pteTier (rawK.g 0 1) < 2 ∧ expandTile rawK.slots tile = (page, false) := by
  have h : (rawK.tileNamed 1 (rawK.g 0 1)).any (fun y => y.1 == 16 && !tileFlag y.2.1 flQuar && !tileFlag y.2.1 flOpen &&
      (List.range 16).all fun b => blockRaw y.2.1 b && blockUnits y.2.1 b == 128) = true := by decide +kernel
  obtain ⟨⟨fr, tile, x⟩, he, hp⟩ := (Option.any_eq_true _ _).1 h
  simp only [Bool.and_eq_true, Bool.not_eq_true'] at hp
  exact ⟨fr, tile, x, _, he, hp.1.1.2, hp.1.2, by decide +kernel, Prod.ext rfl (expand_raw _ _ hp.2)⟩

/-- A near-bank program on scratch page 32 of cell 0: one operation of code 1 on a row of 32 elements. -/
def nbDesc : List Byte := padTo 72 ([1, 0, 2, 0, 32, 0, 0, 0, 2, 0, 1, 0, 0, 0, 0, 0] ++ List.replicate 48 0 ++ le8 (2 ^ 56))

/-- Thread 0 with that program at address 0 of its local memory and the page's entry in g2. -/
def nbK : Dev := { kern 1 (th2 0 (BitVec.ofNat 64 (2 ^ 63 + 32))) with cores := [(0, ⟨some 0, false, Memory.write [] 0 nbDesc⟩)], scratches := [(1, [32])] }

/-- The page that its second operand names. -/
def nbPg : NbPage := ⟨BitVec.ofNat 64 (2 ^ 63 + 32), true, 0, 0, 0, 0, ⟨0, 1, 1, 5, 5, 1, 0⟩⟩

/-- The same program queued, or in another state. -/
def nbG : NbProg := nbK.nbProgOf 0 0 nbPg

theorem wit_NearBankProgramIssuedAndRun :
    let d : Dev := { nbK with nbprogs := [(0, nbG)] }
    let r : Dev := { nbK with nbprogs := [(0, { nbG with running := true, tokens := 16 })] }
    nbK.issues 0 = true ∧ (nbK.thr 0).tokFree ≠ 0 ∧ Tab.has (nbK.thr 0).toks 0 = false ∧ (nbK.g 0 1).toNat % 64 = 0 ∧
    nbK.nbPage (nbK.thrStand 0) (nbK.g 0 2) = some nbPg ∧
    (nbK.nbprogs.filter fun e => e.2.cell == nbK.nbCell (nbK.thrStand 0) nbPg && !e.2.ended).length < 256 ∧ nbG.bad = false ∧
    nbG.usesAux = false ∧ nbG.stageRanges = [] ∧
    d.serving = true ∧ Tab.get? d.nbprogs 0 = some nbG ∧ nbG.running = false ∧ nbG.ended = false ∧ d.halted = false ∧ nbG.target.scratch = true ∧
    tileFlag (d.tileRead (pteTier (d.nbEntry nbG.target)) nbG.stand (pteFrame (d.nbEntry nbG.target)) descLen) flYarded = false ∧
    tileFlag (d.tileRead (pteTier (d.nbEntry nbG.target)) nbG.stand (pteFrame (d.nbEntry nbG.target)) descLen) flQuar = false ∧
    pteTier (d.nbEntry nbG.target) = 0 ∧ pteMig (d.nbEntry nbG.target) = 0 ∧ (d.nbRaw nbG (d.nbEntry nbG.target)).isSome = true ∧
    ({ nbG with paused := true } : NbProg).paused = true ∧ ({ nbG with ended := true } : NbProg).waits = [] ∧
    r.serving = true ∧ (r.nbUnits { nbG with running := true, tokens := 16 } 0 1).any (fun u => r.underPatrol ⟨.nbu, 64 * nbG.cell + u⟩) = false ∧
    0 + 1 < nbG.rowCnt := by decide +kernel

/-- A connection of stand w to node n that is open. -/
def open_ (w n : Nat) : Conn := { Conn.opening w n 0 65536 with st := 2, peerConn := 3 }

/-- A remote descriptor for node 2 over connection 1: tract key 4, 64 bytes at offset 0, class 2. -/
def remDesc (len : Nat) : List Byte := padTo 32 ([2, 0, 1, 0, 4, 0, 0, 0] ++ le8 0 ++ natLe 4 len ++ [2])

/-- Thread 0 with that descriptor at address 0 of its local memory, its data at the start of stage memory. -/
def remK (len : Nat) : Dev := { kern 1 (th2 0 (tagged 1 0)) with
  cores := [(0, ⟨some 0, false, Memory.write [] 0 (remDesc len)⟩)], stageRegion := [(1, (0, 4096))], conns := [(1, open_ 1 2)] }

theorem wit_RemoteOperationsStart :
    let d := remK 64
    let e := remK 8
    LongReady (st d) 0 ∧ (d.thr 0).tokFree ≠ 0 ∧ Tab.has (d.thr 0).toks 0 = false ∧ adTag (d.g 0 1) = 0 ∧ (d.g 0 1).toNat % 32 = 0 ∧
    recNum (remDesc 64) 0 2 ≠ d.node ∧ d.conn? 1 = some (open_ 1 2) ∧ (open_ 1 2).st = 2 ∧ (open_ 1 2).stand = d.thrStand 0 ∧
    (open_ 1 2).peer = recNum (remDesc 64) 0 2 ∧ d.remoteDesc 0 (d.g 0 1) false = some (remDesc 64) ∧ adTag (d.g 0 2) = 1 ∧
    d.ownsStage 0 0 64 false = true ∧ d.ownsStage 0 0 64 true = true ∧ LongReady (st e) 0 ∧
    e.remoteDesc 0 (e.g 0 1) true = some (remDesc 8) ∧ (5#10).toNat < 6 ∧ (e.g 0 2).toNat % 16 = 0 ∧ e.ownsStage 0 0 16 true = true := by
  decide +kernel

/-- Tract 1 of stand w: local memory of kind k and 4096 bytes, fully accessible. -/
def tr (w k : Nat) : Tract := { Tract.none_ with kind := k, rights := 15, stand := w, len := 4096, st := .active, base := 0 }

theorem wit_QueueTimeAndSystemInstructions :
    let d := kern 1 (th2 11 0)
    let q := subK 1 (th2 11 0)
    let w : Dev := { kern 1 (thTok [(5, ⟨.tile none, false, none, none⟩)]) with fab := 5 * 65536 }
    let z := kern 0 (th2 31 0)
    let b : Dev := { kern 1 (th2 0 0) with tracts := [(1, tr 1 0)], blazes := [(1, ⟨(tr 1 0).key 1, 0, 64, 0, 0⟩)] }
    d.issues 0 = true ∧ (d.thr 0).sub = none ∧ (d.core 0).closing = false ∧ d.thrImage 0 = some (img 1) ∧ (img 1).live = true ∧
    q.issues 0 = true ∧ (q.thr 0).sub = some 0 ∧ (q.g 0 1).toNat ≤ 11 ∧ (q.thr 0).allDone = true ∧ (w.thr 0).allDone = false ∧ w.issues 0 = true ∧
    d.fab / 65536 < (d.g 0 1).toNat ∧ (w.g 0 1).toNat ≤ w.fab / 65536 ∧ (w.g 0 1).toNat ≠ 0 ∧ (6#10) ≠ 0x3FF ∧ (5#10) ≠ 6 ∧
    (((d.kernelWrite 1 0x108 0).thr 0).wait = .run) ∧ ((d.kernelWrite 1 0x108 0).thrImage 0).isSome = true ∧ z.thrStand 0 = 0 ∧ z.issues 0 = true ∧
    b.issues 0 = true ∧ (b.blaze 1).len ≠ 0 ∧ b.blazeTract 1 (b.blaze 1) = some (1, tr 1 0) ∧ (tr 1 0).mode = 0 ∧ (tr 1 0).kind = 0 ∧
    (d.blaze 1).len = 0 := by decide +kernel

/-! ## Records, orders and sub-orders -/

/-- A query record on sequence 5: layer 0, kind 1, one head of one KV head, one query token. -/
def qRec : List Byte := padTo 128 (le8 5 ++ List.replicate 42 0 ++ [1, 0, 1, 0, 0, 1, 1, 0] ++ List.replicate 28 0 ++ [255, 0])

/-- A work record of kind 4 for slot 0. -/
def wRec (kind : Byte) (cells : Nat) : List Byte := padTo 128 (le8 0x77 ++ List.replicate 48 0 ++ natLe 2 cells ++ [kind, 0])

/-- A device with sequence 5 of stand 1 resident, and stand 1's image in slot 0 for query records and for work. -/
def ordK : Dev := { seqDev (kern 1 { Thread.reset with wait := .qpop 3 64 0 }) 1 5 stResident 16 with
  slotImg := [(8, 0)], slot4 := [(8, ())], stageRegion := [(1, (0, 4096))] }

/-- The same, with records waiting. -/
def ordQ (rings works : List QItem) : Dev := (({ ordK with rings := Tab.set [] 1 rings, wqs := Tab.set [] 1 works }).wr .stand 1 0x410 0x88)

/-- The admission scheduler chooses an item of the device's and it satisfies p. -/
def admits (d : Dev) (p : Dev → AdmItem → Bool) : Bool :=
  let xs := d.admItems
  let r := d.choose 0 (xs.zipIdx.map fun (x, i) => d.admSItem x i)
      (fun x => match xs[x.ref]? with
        | some a => (a.work && recNum a.item.bytes 58 1 == 3) || !(d.stripe a.stand).isEmpty
        | none => false)
  r.1.any fun y => xs[y.ref]?.any fun a => p r.2 a

/-- The order of stand 1 on sequence 5, and a sub-order of it in cell 0 in state x. -/
def subQ (x : SubState) : Dev := { ordQ [] [] with
  orders := [(1, ⟨1, 1, qRec, 0, 0, seqKey 1 5, true, false, 0, false, 0, 0, false, 0, false, 0, []⟩)],
  subs := [(0, ⟨1, 1, 0, 0, 0, 0, 0, 0, false, 0, 1, 0, x, 0, 0, 0, 0, 0, [0], 63, false, 0, 0⟩)] }

theorem wit_RecordsAdmittedIntoBucking :
    let w := ordQ [] [⟨wRec 4 1, 1, 0⟩]
    let b := ordQ [] [⟨wRec 9 1, 1, 0⟩]
    let q := ordQ [⟨qRec, 1, 0⟩] []
    let n := ordQ [⟨recPut qRec 52 (natLe 2 0), 1, 0⟩] []
    let without (d1 : Dev) (a : AdmItem) : Dev := { d1 with rings := Tab.set d1.rings a.stand ((d1.ring a.stand).eraseIdx a.pos) }
    w.serving = true ∧ w.halted = false ∧
    (admits w fun d1 a => a.work && ({ d1 with wqs := Tab.set d1.wqs a.stand ((d1.workq a.stand).eraseIdx a.pos) } : Dev).wCheck a.stand a.item.bytes == 0 &&
      !(d1.stripe a.stand).isEmpty) = true ∧
    (admits b fun d1 a => a.work && ({ d1 with wqs := Tab.set d1.wqs a.stand ((d1.workq a.stand).eraseIdx a.pos) } : Dev).wCheck a.stand a.item.bytes == 5) = true ∧
    (admits q fun d1 a => !a.work && (without d1 a).qCheck a.stand a.item.bytes == 0 &&
      ((without d1 a).took.seqProfile? (seqKey a.stand (qHandle a.item.bytes))).isSome &&
      ((without d1 a).took.entry (seqKey a.stand (qHandle a.item.bytes))).isSome && recNum a.item.bytes 58 1 == 0) = true ∧
    (admits n fun d1 a => !a.work && (without d1 a).qCheck a.stand a.item.bytes == 5 &&
      ((without d1 a).took.seqProfile? (seqKey a.stand (qHandle a.item.bytes))).isSome &&
      ((without d1 a).took.entry (seqKey a.stand (qHandle a.item.bytes))).isSome) = true ∧
    (subQ .held).subs.find? (fun e => e.2.cell == 0 && e.2.st == .held) = some (0, ⟨1, 1, 0, 0, 0, 0, 0, 0, false, 0, 1, 0, .held, 0, 0, 0, 0, 0, [0], 63, false, 0, 0⟩) ∧
    (subQ .held).inFlight 0 < 384 ∧ (Tab.count (subQ .held).subs fun _ u => u.st != .held) < 6144 := by decide +kernel

/-- A device whose one queued sub-order's image has a thread in QPOP. -/
def runK : Dev := subQ .queued

/-- Its sub-order. -/
def runU : Sub := ⟨1, 1, 0, 0, 0, 0, 0, 0, false, 0, 1, 0, .queued, 0, 0, 0, 0, 0, [0], 63, false, 0, 0⟩

/-- Its order. -/
def runO : Order := ⟨1, 1, qRec, 0, 0, seqKey 1 5, true, false, 0, false, 0, 0, false, 0, false, 0, []⟩

theorem runK_room : (runK.stageRoom 0 (roundUp (runK.inputArea runO runU).length 64 + runK.outputLen runO runU)).isSome = true :=
  stageRoom_some _ _ _ 4096 (by decide +kernel) (by decide +kernel)

theorem runK_dispAct : runK.dispAct runU = .run 0 0 := by
  have ho : Tab.get? runK.orders runU.order = some runO := by decide +kernel
  have hw : runK.waiters runU.cell 0 = [0] := by decide +kernel
  have hb : ((runK.subSlot runO).bind fun slot => if runK.slotLive runO.stand slot then runK.slotImage runO.stand slot else none) = some 0 := by
    decide +kernel
  have hi : Tab.get? runK.images 0 = some (img 1) := by decide +kernel
  have he : runK.engRoom runU.cell (img 1) = true := by decide +kernel
  have hd : runK.dropLate runO.stand (recNum runO.bytes (if runO.kind = 4 then 8 else 40) 8) = false := by decide +kernel
  have hn : ¬ (runO.seq = true ∧ (!runO.started) = true ∧ runK.seqStop runO.key ≠ 0) := by decide +kernel
  unfold Dev.dispAct
  rw [ho]
  dsimp only
  rw [if_neg hn, hb]
  dsimp only
  rw [hi]
  dsimp only
  rw [hw, hint_one]
  dsimp only
  rw [if_pos ⟨he, runK_room⟩, hd]
  rfl

/-- The sub-orders that the scheduler of runK's cell 0 may take. -/
def runOk (x : SItem) : Bool := (match Tab.get? runK.subs x.ref with
  | some u => runK.dispAct u
  | none => .wait) != .wait

theorem runK_ok : runOk = fun x => x.ref == 0 := by
  funext x
  unfold runOk
  by_cases h : x.ref = 0
  · have hs : Tab.get? runK.subs 0 = some runU := by decide +kernel
    rw [h, hs]
    dsimp only
    rw [runK_dispAct]
    rfl
  · have hs : runK.subs = [(0, runU)] := by decide +kernel
    have hn : Tab.get? runK.subs x.ref = none := by rw [hs]; simp [Tab.get?]; omega
    rw [hn]; simp [h]

/-- What the scheduler of runK's cell 0 leaves. -/
def runD : Dev := (runK.choose 1 (runK.cellItems 0) (fun x => x.ref == 0)).2

theorem wit_SubordersDispatched : runK.serving = true ∧ runK.halted = false ∧
    (∃ y, runK.choose 1 (runK.cellItems 0) runOk = (some y, runD) ∧ Tab.get? runK.subs y.ref = some runU ∧ runK.dispAct runU = .run 0 0 ∧
      Tab.get? runD.subs y.ref = some runU) ∧ Tab.get? runD.orders runU.order = some runO ∧ Tab.get? runD.images 0 = some (img 1) ∧
    (runD.thr 0).wait = .qpop 3 64 0 ∧
    (runD.took.took.stageRoom 0 (roundUp (runD.took.inputArea runO runU).length 64 + runD.took.took.outputLen runO runU)).isSome = true := by
  have h : ((runK.choose 1 (runK.cellItems 0) (fun x => x.ref == 0)).1.map (·.ref)) = some 0 ∧ Tab.get? runK.subs 0 = some runU ∧
      Tab.get? runD.subs 0 = some runU := by decide +kernel
  obtain ⟨h1, h2, h3⟩ := h
  obtain ⟨y, hy, h0⟩ := Option.map_eq_some_iff.1 h1
  refine ⟨by decide +kernel, by decide +kernel, ⟨y, ?_, ?_, runK_dispAct, ?_⟩, by decide +kernel, by decide +kernel, by decide +kernel,
    stageRoom_some _ _ _ 4096 (by decide +kernel) (by decide +kernel)⟩
  · rw [runK_ok, ← hy, runD]
  · rw [h0]; exact h2
  · rw [h0]; exact h3

theorem wit_SubordersBoundAndWatched :
    let b : Dev := { runK with threads := [], cores := ([0, 2, 3, 4, 5, 6, 7] : List Nat).map fun k => (k, ⟨some 0, false, []⟩) }
    let w : Dev := { kern 1 { th with sub := some 0 } with up := 10 ^ 9, subs := [(0, { runU with st := .running 0 })] }
    b.serving = true ∧ b.halted = false ∧ b.dispAct runU = .bind 1 0 ∧
    ((b.choose 1 (b.cellItems 0) (fun x => (match Tab.get? b.subs x.ref with
        | some u => b.dispAct u
        | none => .wait) != .wait)).1.any fun y => Tab.get? b.subs y.ref == some runU) = true ∧ (Tab.get? b.images 0).isSome = true ∧
    w.serving = true ∧ (w.thr 0).sub = some 0 ∧ (Tab.get? w.subs 0).isSome = true ∧ (w.thr 0).dogged = false ∧ 0 + w.sfld 1 0x400 47 32 * 1000 ≤ w.up ∧
    (w.setThr 0 { w.thr 0 with dogged := true, wait := .run }).thrImage 0 = some (img 1) ∧ (img 1).excEntry ≠ 0 ∧ (w.thr 0).inExc = false := by
  decide +kernel

/-- A record's merge slot under tag 9 of stand 1, armed by r or not. -/
def slot (r : Option (List Byte)) : MergeSlot := ⟨1, 9, r, none, 0, 3, 0, 0, false, 0, 64, [], 0, false⟩

/-- An arming record: TAG 9, DEADLINE 1, node 2. -/
def armRec : List Byte := padTo 64 (le8 9 ++ le8 1 ++ List.replicate 36 0 ++ [2, 0])

theorem wit_RecordsCompletedAndMerged :
    let q : Dev := { subQ .held with subs := [] }
    let w : Dev := { q with orders := [(0xFFFFFFFF, { runO with kind := 4, stop := 5 })] }
    let p : Dev := { on with parts := [(0, ⟨1, 2, 7, 0, List.replicate 96 0, 0, false, none⟩)], conns := [(1, open_ 1 2)] }
    let m : Dev := { on with merges := [slot (some armRec)], fab := 2 ^ 60 }
    let e : Dev := { on with merges := [slot none] }
    q.serving = true ∧ Tab.get? q.orders 1 = some runO ∧ q.subs = [] ∧ runO.kind ≠ 4 ∧ w.serving = true ∧
    Tab.get? w.orders 0xFFFFFFFF = some { runO with kind := 4, stop := 5 } ∧ w.subs = [] ∧
    p.serving = true ∧ Tab.get? p.parts 0 = some ⟨1, 2, 7, 0, List.replicate 96 0, 0, false, none⟩ ∧ p.connTo 1 2 = some 1 ∧
    p.conn? 1 = some (open_ 1 2) ∧ (open_ 1 2).st = 2 ∧
    m.serving = true ∧ m.mergeSlot? 1 9 = some (slot (some armRec)) ∧ (slot (some armRec)).sent = false ∧
    recNum armRec 8 8 + m.sfld 1 0x300 47 32 * 1000 ≤ m.now ∧ recNum armRec 52 2 ≠ m.node ∧
    e.serving = true ∧ e.mergeSlot? 1 9 = some (slot none) ∧ (slot none).arm = none := by decide +kernel

/-! ## Pages, the directory, migration and lending -/

/-- Sequence 5 with a full open page of 256 tokens at frame 16. -/
def openPg : Dev := { seqDev on 1 5 stResident 16 with
  mem := Memory.write [] (16 * 256) (padTo 128 (le8 (seqKey 1 5) ++ natLe 2 0 ++ natLe 2 0 ++ natLe 2 256 ++ natLe 2 16 ++ natLe 4 0)) }

/-- Its entry. -/
def openV : W64 := BitVec.ofNat 64 (2 ^ 63 + 16)

/-- Whatever tile replaces it finds frames. -/
theorem openPg_replace (t : List Byte) : (openPg.replaceTile 1 0 0 openV t).isSome = true := by
  have hr : openPg.runsIn (openPg.dieFrames 0) = [(16, ⟨1, true⟩)] := by decide +kernel
  have hd : openPg.dieFrames 0 = (0, 2 ^ 27) := by decide +kernel
  have hl : (([frameDie (pteFrame openV)].filter fun x => 16 ≤ x || !openPg.t0Out x) ++
      openPg.openDies (keyStand (openPg.setKey 1)) (((openPg.pageInfo? 1 0 0).bind (·.charge)).getD 0) 0 0).head? = some 0 := by decide +kernel
  have ht : pteTier openV ≤ 1 := by decide +kernel
  obtain ⟨r, hl⟩ := List.head?_eq_some_iff.1 hl
  have hc : tileFrames (tileClen t) ≤ 8193 := by
    have := recNum_lt t 80 2
    simp only [tileFrames, tileLen, descLen, tileClen, ceilDiv]
    omega
  have h := allocFrom_some openPg (tileFrames (tileClen t)) 0 r (by
    rw [hr, hd]
    simp only [firstGap]
    split
    · rfl
    · rw [if_pos (by omega)]; rfl)
  unfold Dev.replaceTile
  dsimp only
  rw [if_pos ht, hl]
  obtain ⟨⟨f, d⟩, hf⟩ := Option.isSome_iff_exists.1 h
  rw [hf]
  rfl

/-- A held edit of page 1 of layer 0 of sequence 5, and three old generations. -/
def heldK : Dev := { seqDev on 1 5 stResident 16 with
  held := [⟨1, 0, 1, openV⟩], oldGens := [⟨1, 0, 0, 0⟩, ⟨1, 0, 7, 9⟩, ⟨1, 1, 0, 3⟩], lateFree := [⟨0, 1, 40, []⟩, ⟨0, 1, 41, [0]⟩] }

theorem wit_PagesSealedAndTablesPublished : openPg.serving = true ∧ openPg.pte 1 0 0 = some openV ∧ (openPg.seqProfile? (openPg.setKey 1)).isSome = true ∧
    tileFlag (openPg.tileOf (keyStand (openPg.setKey 1)) openV) flOpen = true ∧
    ((openPg.seqProfile? (openPg.setKey 1)).any fun pr => (tileHead (openPg.tileOf (keyStand (openPg.setKey 1)) openV)).tokens == pr.tpp) = true ∧
    pteMig openV = 0 ∧ (openPg.pageInfo? 1 0 0).bind (·.hold) = none ∧ (∀ t, (openPg.replaceTile 1 0 0 openV t).isSome = true) ∧
    heldK.serving = true ∧ heldK.mustHold 1 0 = false ∧ (heldK.held.filter fun h => h.set == 1 && h.layer == 0) = [⟨1, 0, 1, openV⟩] ∧
    (heldK.publish 1 0 1 openV).isSome = true := by
  refine ⟨?_, ?_, ?_, ?_, ?_, ?_, ?_, openPg_replace, ?_, ?_, ?_,
    publish_some _ 4 5 _ _ _ _ (by decide) (by decide +kernel) (by decide +kernel) (by decide) (by decide +kernel) (by decide +kernel) (by decide)⟩ <;>
    decide +kernel

/-- A resident sequence whose page is charged to T1 but lies in T0, with a heat epoch due, a migration under way, and windows lent and
borrowed that are closing. -/
def moveK : Dev := { seqDev on 1 5 stResident 16 with fab := 2 ^ 40 * 65536, pages := [(pageKey 1 0 0, ⟨1, some 1, none, false, 0⟩)] }

def migK : Dev := { moveK with migrs := [⟨3, 1, 0, 0, 1, 16 * 2 ^ 27, 2, 0, [], 0⟩], migNext := 4 }

theorem evict_some : ∃ tier f d1, moveK.evictTo 1 openV = some (tier, f, d1) ∧ tier < 2 := by
  have hg : ∀ x ∈ [16, 17, 18, 19], (firstGap 1 ((moveK.dieFrames x).1 + (moveK.dieFrames x).2) (moveK.dieFrames x).1
      (moveK.runsIn (moveK.dieFrames x))).isSome = true := by decide +kernel
  have h0 : pteTier openV = 0 := by decide +kernel
  have ht : moveK.t0Out (frameDie (pteFrame openV)) = false := by decide +kernel
  have hn : tileFrames (pteClen openV) = 1 := by decide +kernel
  have h := allocFrom_turned moveK 1 3 [16, 17, 18, 19] (by simp) hg
  obtain ⟨⟨f, d⟩, hf⟩ := Option.isSome_iff_exists.1 h
  have he : moveK.tierDies (keyStand (moveK.setKey 1)) 1 = [16, 17, 18, 19] := rfl
  refine ⟨frameTier f, f, d, ?_, ?_⟩
  · unfold Dev.evictTo
    dsimp only
    rw [if_neg (fun c => by rw [ht] at c; exact absurd c.2 (by decide)), if_pos h0, he, hn, List.nil_append, hf]
  · unfold frameTier; split <;> decide

theorem wit_DirectoryScrubbedAndPlacementMaintained :
    let g : Dev := { (on.wr .pwr 0 0x8008 (2 ^ 18)).wr .dir 0 0x8 (2 ^ 32) with dir := [(seqKey 1 5, dval stYarded)], shadow := [(seqKey 1 5, dval stResident)] }
    let a : LendOut := ⟨9, ((tr 0 2).key 1).toNat, [2 ^ 31], true⟩
    let b : LendIn := ⟨9, 4, 0, 1048576, true⟩
    let o : Dev := { on with lendOut := [a], tracts := [(1, tr 0 2)] }
    let i : Dev := { on with lendIn := [b] }
    g.serving = true ∧ g.gateOn 18 = true ∧ bitAt (g.rd .dir 0 0x8) 32 = true ∧ g.dir[(0#24).toNat]? = some (seqKey 1 5, dval stYarded) ∧
    g.dirOps = [] ∧ g.entry (seqKey 1 5) = some (dval stResident) ∧
    moveK.serving = true ∧ moveK.heatEpoch < moveK.now / 1048576 ∧ moveK.pte 1 0 0 = some openV ∧ moveK.promos = [] ∧ moveK.migrs = [] ∧
    pteTier openV < 2 ∧ pteMig openV = 0 ∧ (moveK.pageInfo? 1 0 0).bind (·.hold) = none ∧
    moveK.migCount (moveK.stripeCell (keyStand (moveK.setKey 1)) 0 0) < moveK.fld .cell (moveK.stripeCell (keyStand (moveK.setKey 1)) 0 0) 0x60000 21 16 ∧
    moveK.displaceable 1 0 0 = true ∧ (∃ tier f d1, moveK.evictTo 1 openV = some (tier, f, d1) ∧ tier < 2) ∧
    migK.serving = true ∧ (migK.migrs.find? fun m => m.id == 3 && m.mig != 5 && m.leg == 0).isSome = true ∧ migK.pte 1 0 0 = some openV ∧
    o.serving = true ∧ (o.lendOut.filter fun w => w.borrower == 9 && w.reclaimed) = [a] ∧ o.lendIn = [] ∧
    (o.tract? (keyIndex (BitVec.ofNat 32 a.tract))).isSome = true ∧
    i.serving = true ∧ (i.lendIn.filter fun w => w.lender == 9 && w.closing) = [b] ∧ i.lendOut = [] ∧ i.windowPages b = [] ∧ i.migrs = [] := by
  dsimp only
  refine ⟨?_, ?_, ?_, ?_, ?_, ?_, ?_, ?_, ?_, ?_, ?_, ?_, ?_, ?_, ?_, ?_, evict_some, ?_, ?_, ?_, ?_, ?_, ?_, ?_, ?_, ?_, ?_, ?_, ?_⟩ <;> decide +kernel

/-! ## Register accesses, keys, sessions and quotas -/

/-- Stand w with its function enabled, a key, an open session, and the state x. -/
def keyed (x : Stand) : Stand := { x with funcEn := true, key := some 5, ses := .opened }

/-- A booted device whose stand 31 is x. -/
def stdK (x : Stand) : Dev := { on with stands := [(31, x)] }

theorem wit_RegisterWriteByAccessCodes :
    on.hostVerdict 0 0x18 4 true = .ok ∧ on.target (pfOff 0 0x18) = .one ⟨.glb, 0, 0x18⟩ ∧ (findRow .glb 0x18).isSome = true ∧
    on.hostVerdict 0 0x60014 4 true = .ok ∧ on.target (pfOff 0 0x60014) = .one ⟨.dir, 0, 0x10⟩ ∧ (findRow .dir 0x10).isSome = true ∧
    on.hostVerdict 0 0x1C 8 true = .viol 5 ∧ (stdK (keyed Stand.reset)).hostVerdict 31 0x70 8 true = .viol 2 ∧
    (stdK { Stand.reset with funcEn := true, key := some 5 }).hostVerdict 31 0x2000 8 true = .viol 1 ∧ on.hostVerdict 31 0x70 8 true = .zero := by
  decide +kernel

/-- 04 Table 10: the scrub period is at least 10 ms; a write of the register's low half leaves EN. -/
theorem test_registerWrite : does (st on) (.registerWrite 0 0x60008 4 5) (Dev.settle (on.wr .dir 0 8 (2 ^ 32 + 10))) = true := by decide +kernel

theorem wit_LockedFieldsIgnoreWrites : let d := on.wr .glb 0 0x18 1
    d.lock = true ∧ ((findRow .cell 0x60800).any fun r => r.fields.any fun f => f.acc == .rwl) = true ∧
    d.target (pfOff 0 0x1F60800) = .one ⟨.cell, 0, 0x60800⟩ := by
  decide +kernel

theorem wit_LockAndAliasWrites : let d := on.wr .glb 0 0x18 1
    on.hostVerdict 0 0x18 8 true = .ok ∧ d.hostVerdict 0 0x18 8 false = .ok ∧ d.lock = true ∧
    on.hostVerdict 0 0x2040000 8 true = .ok ∧ on.target (pfOff 0 0x2040000) = .spread none (List.range 16) 0x40000 ∧ isSpread 0x40000 = false ∧
    (findRow .cell 0x40000).isSome = true ∧ on.aliasReaches 15 0x40000 = true ∧ ({ on with fences := [(FUnit.key ⟨.cell, 0⟩, ⟨6, none⟩)] } : Dev).aliasReaches 0 0x40000 = false := by
  decide +kernel

theorem wit_AccessKeysAndSessions :
    let k := stdK (keyed Stand.reset)
    let c := stdK { keyed Stand.reset with ses := .challenged }
    let o (x : SesOp) := stdK { keyed Stand.reset with op := some x }
    let p := (stdK { keyed Stand.reset with op := some .submit, key := none, fails := 1 })
    let q := (stdK { keyed Stand.reset with op := some .submit, key := none, fails := 2 })
    WindowOpen (st k) 0 31 0x70 ∧ (k.std 31).op = none ∧ WindowOpen (st on) 0 0 0x70 ∧ (on.std 0).op = none ∧ WindowOpen (st k) 31 0 0x1010 ∧
    WindowOpen (st c) 31 0 0x1010 ∧ (c.std 31).op = none ∧ c.sesState 31 ≠ 2 ∧ c.sesState 31 ≠ 4 ∧ (c.std 31).ses ≠ .locked ∧ (c.std 31).key ≠ none ∧
    (c.std 31).ses = .challenged ∧ (k.std 31).ses = .opened ∧ WindowOpen (st (o .challenge)) 31 0 0x1010 ∧ ((o .challenge).std 31).op ≠ none ∧
    (o .challenge).serving = true ∧ ((o .challenge).std 31).op = some .challenge ∧ ((o .submit).std 31).op = some .submit ∧ p.serving = true ∧
    (p.std 31).op = some .submit ∧ (p.std 31).proofOk 31 = false ∧ (p.std 31).fails + 1 < 3 ∧ (q.std 31).proofOk 31 = false ∧ 3 ≤ (q.std 31).fails + 1 ∧
    (stdK { keyed Stand.reset with ses := .locked }).serving = true ∧ k.serving = true := by decide +kernel

/-- The proof that stand w accepts from a stand's state. -/
def goodProof (x : Stand) (w : Nat) : Stand :=
  { x with key := some 5, given := BitVec.ofNat 384 (leNat (hmac384 (bytes384 5) (x.proofMsg w))) }

theorem wit_submitDone (x : Stand) (w : Nat) : (goodProof x w).proofOk w = true := by
  have h := bytes384_of (hmac384 (bytes384 5) (x.proofMsg w)) (sha384_length _)
  have hm : (goodProof x w).proofMsg w = x.proofMsg w := rfl
  unfold Stand.proofOk
  rw [hm]
  simp only [goodProof, h, beq_self_eq_true]

theorem wit_StandResetAndQuotas :
    let k := stdK (keyed Stand.reset)
    let r := stdK { keyed Stand.reset with rst := true }
    let ask (o : Nat) (v : W64) : Dev := on.wr .stand 31 o v
    let total (d : Dev) (f : Quota → Nat) : Nat := ((List.range 32).map fun x => if x = 31 then f (d.stagedQuota 31) else f (d.std x).quota).sum
    WindowOpen (st k) 0 31 0x8 ∧ (k.std 31).rst = false ∧ (k.std 31).op = none ∧ WindowOpen (st r) 0 31 0x8 ∧ (r.std 31).rst = true ∧ r.serving = true ∧
    WindowOpen (st on) 0 31 0x128 ∧ total on (·.t0) ≤ on.t0Cap ∧ (on.stagedQuota 31).t1 ≤ 1572864 ∧ total on (·.t1) ≤ on.t1Cap ∧
    total on (·.pool) ≤ 65536 ∧ total on (·.conn) ≤ 65536 ∧
    WindowOpen (st (ask 0x100 0xFFFFFFFF)) 0 31 0x128 ∧ (ask 0x100 0xFFFFFFFF).t0Cap < total (ask 0x100 0xFFFFFFFF) (·.t0) ∧
    1572864 < ((ask 0x108 1572865).stagedQuota 31).t1 ∧ total (ask 0x108 1572865) (·.t0) ≤ (ask 0x108 1572865).t0Cap ∧
    65536 < total (ask 0x118 65537) (·.pool) ∧ total (ask 0x118 65537) (·.t1) ≤ (ask 0x118 65537).t1Cap ∧
    65536 < total (ask 0x120 65537) (·.conn) ∧ total (ask 0x120 65537) (·.pool) ≤ 65536 := by decide +kernel

/-! ## Signed images: key pair with private key 1, so that the public key is the curve's base point -/

/-- The public key: X then Y. -/
def keyG : List Byte := natBe 48 gx384 ++ natBe 48 gy384

/-- A kernel image of one instruction word, signed (06 Table 11). -/
def kimg : List Byte :=
  padTo 260 ([0x47, 0x4B, 0x49, 0x4D, 1, 0, 0, 1] ++ natLe 4 356 ++ natLe 4 256 ++ natLe 4 4 ++ List.replicate 20 0 ++ [255, 255, 255, 255, 4]) ++
  natBe 48 0x112cac1415065907ac0e46551e2b4134c85ecaa502d4e678bfbaa98a3c571685cd46e5c988d755aaef2c41f9f1ff2ee1 ++
  natBe 48 0xa2f5f7d92f3d913c69cfcb882aed0cf6ba7de5b4295ed0fc4d888eab1e71cd1daaa3ad34b7a10c4b70deb4d92b366d4a

/-- A firmware image of one instruction word, signed (16 Table 4). -/
def fwimg : List Byte :=
  padTo 4100 ([0x44, 0x57, 0x46, 0x52, 1, 0, 0, 2] ++ natLe 4 4196 ++ natLe 4 0 ++ natLe 4 4096 ++ natLe 4 4 ++ List.replicate 24 0 ++ keyG) ++
  natBe 48 0xdceeff0090e435e906216392b65fe5ca4049864b7b4307c5002d583a4a580f59592ba398d36f1634071942a66429f952 ++
  natBe 48 0x27bc6baab8de0f4396858ee88e4cd7fe1c44353c3c88542fb6c9974f79c8129fb9568971bcdd079cd265e50f6e1b050

/-- A device whose root key 0 and kernel key 0 are that key. -/
def trust (d : Dev) : Dev := { d with board := { d.board with roots := [sha384 keyG] }, cfg := { d.cfg with kkeys := [(0, keyG)] } }

/-- The kernel image's signature verifies. -/
theorem kimg_signed : ecdsaVerify keyG (kimg.take 260) (kimg.drop 260) = true := by decide +kernel

/-- The firmware image's signature verifies. -/
theorem fwimg_signed : ecdsaVerify keyG (fwSigned fwimg) (recBytes fwimg 4100 96) = true := by decide +kernel

theorem kimg_check (d : Dev) (s : Nat) (h : imageOk kimg = true) (hs : (recNum kimg 40 4).testBit s = true) (hl : kimg.length - 96 = 260)
    (hk : Tab.get? d.cfg.kkeys (recNum kimg 45 1) = some keyG) (hv : ¬ (recNum kimg 52 1 = 1 ∧ s ≠ 0))
    (hr : ¬ d.sfld s 0x400 15 0 * 1024 < recNum kimg 48 4) : d.imageCheck s kimg = 0 := by
  unfold Dev.imageCheck
  rw [h, hk, hl]
  dsimp only
  rw [kimg_signed, hs]
  simp only [Bool.not_true, Bool.false_eq_true, if_false, if_neg hv, if_neg hr]

theorem fwimg_check (d : Dev) (hf : fwFormat fwimg = true) (hk : recBytes fwimg 48 96 = keyG) (hl : recNum fwimg 8 4 - 96 = 4100)
    (hr : d.board.roots.getD (recNum fwimg 36 1) [] = sha384 keyG) (hb : (d.rd .boot 0 0x18).getLsbD (8 + recNum fwimg 36 1) = false)
    (hv : ¬ recNum fwimg 12 4 < d.fld .boot 0 0 55 48) : d.fwCheck (some fwimg) = 0 := by
  unfold Dev.fwCheck
  dsimp only
  rw [hf, hk, hl, hr, fwimg_signed, hb]
  simp [hv]

/-! ## Host commands -/

/-- A fetched command entry: data length, ARG, its first inline bytes and its payload. -/
def ent (n arg inl : Nat) (data : List Byte) : CmdEntry := ⟨0, 0, BitVec.ofNat 32 n, 0x77, 0, BitVec.ofNat 64 arg, BitVec.ofNat 256 inl, data⟩

/-- A profile record of 256 layers and 64 heads (04 Table 3). -/
def profE : CmdEntry := ent 16 7 (256 + 64 * 2 ^ 16 + 2 * 2 ^ 24 + 5 * 2 ^ 32 + 5 * 2 ^ 40) []

/-- The device in an active node, with quotas for stand 1. -/
def quo (d : Dev) : Dev := { d.setFld .cmp 0 8 2 0 2 with stands := [(1, { Stand.reset with quota := ⟨9, 9, 9, 9, 9⟩ })] }

/-- Stand 1 with sequence 5 in a state. -/
def hostK (state : Nat) : Dev := seqDev on 1 5 state 16

theorem wit_HostCommandsOnSequences :
    let i := ent 8 9 (2 ^ 8) []
    let k := ent 0 5 0 []
    let y : Dev := { quo (hostK stYarded) with pages := [(pageKey 1 0 0, ⟨1, none, none, false, 0⟩)] }
    HostTakes (st on) 1 profE 16 16 1 ∧ (parseProfile profE.payload).isSome = true ∧ (on.popFetched 1 1 profE).profileBusy 1 7 = false ∧
    HostTakes (st (hostK stResident)) 1 i 8 8 1 ∧ ((hostK stResident).popFetched 1 2 i).entry (seqKey 1 9) = none ∧
    (((hostK stResident).popFetched 1 2 i).profile? (keyStand (seqKey 1 9)) 0).isSome = true ∧ nbits (i.inl 0 8) 9 8 < 2 ∧
    ((hostK stResident).popFetched 1 2 i).dirCount 1 < ((hostK stResident).popFetched 1 2 i).fld .dir 0 (0x200 + 8 * 1) 18 0 ∧
    HostTakes (st (hostK stResident)) 1 k 0 0 1 ∧ ((hostK stResident).popFetched 1 3 k).entry (seqKey 1 5) = some (dval stResident) ∧
    bits (dval stResident) 63 61 ≠ stRunning ∧ bits (dval stResident) 63 61 ≠ stRestoring ∧ bits (dval stResident) 63 61 = stResident ∧
    ((hostK stResident).popFetched 1 4 k).look (seqKey 1 5) = some (dval stResident) ∧
    (on.popFetched 1 4 k).look (seqKey 1 5) = none ∧ HostTakes (st on) 1 k 0 0 1 ∧
    HostTakes (st y) 1 k 0 0 1 ∧ (y.popFetched 1 6 k).look (seqKey 1 5) = some (dval stYarded) ∧ (y.popFetched 1 6 k).moves = [] ∧
    ((y.popFetched 1 6 k).useOf 1 (dvTier (dval stYarded)) + ((y.popFetched 1 6 k).yardedPages 1).length ≤ (y.popFetched 1 6 k).quotaOf 1 (dvTier (dval stYarded))) := by
  decide +kernel

theorem wit_newSet : ∃ set e, ((hostK stResident).popFetched 1 2 (ent 8 9 (2 ^ 8) [])).newSet (seqKey 1 9) 0 0 = some (set, e) :=
  newSet_some _ _ _ _ 1 (by decide +kernel) (by decide) (by decide +kernel)

theorem wit_HostCommandsRefused : on.serving = true ∧ ((stdK { Stand.reset with rst := true }).std 31).rst = true ∧ (stdK { Stand.reset with rst := true }).serving = true ∧
    (on.std 1).rst = false ∧ ({ ent 0 0 0 [] with rsv := 1 } : CmdEntry).rsv ≠ 0#8 ∧ bits ((0x0020 : BitVec 16).setWidth 64) 14 5 ≠ 0 ∧
    (0x8000 : BitVec 16).getLsbD 15 = true ∧ (ent 15 0 0 []).dataLen.toNat < 16 ∧ 16 < (ent 17 0 0 []).dataLen.toNat ∧
    4194304 < (ent 4194305 0 0 []).dataLen.toNat := by decide +kernel

/-- A tract record: OP, KIND, RIGHTS, key, LEN (11 Table 4). -/
def tractRec (op kind rights key len : Nat) : List Byte := padTo 64 (natLe 1 op ++ natLe 1 kind ++ natLe 1 rights ++ natLe 5 0 ++ natLe 8 key ++ natLe 8 0 ++ natLe 8 len)

theorem wit_RecordsTractsAndConnections :
    let q := ent 256 0 0 (recPut (padTo 256 []) 86 (natLe 2 1))
    let w := ent 64 0 0 (List.replicate 64 0)
    let t := ent 64 0 0 (tractRec 1 4 2 0 0)
    let u := ent 64 0 0 (tractRec 1 0 15 0 65536)
    HostTakes (st on) 1 q 256 1048576 1 ∧ q.payload.length % 256 = 0 ∧ recNum q.payload 86 2 * 256 = q.payload.length ∧
    (on.popFetched 1 8 q).ringUsed 1 + q.payload.length ≤ 1048576 ∧ (on.popFetched 1 8 q).replyOk 1 q.payload = true ∧
    HostTakes (st on) 1 w 64 64 1 ∧ (on.popFetched 1 9 w).wqUsed 1 < 4096 ∧ (on.popFetched 1 9 w).wreplyOk 1 w.payload = true ∧
    HostTakes (st (quo on)) 1 t 64 64 1 ∧ ((quo on).popFetched 1 16 t).tractRecOk 1 t.payload = true ∧ ((quo on).popFetched 1 16 t).cmpState ≠ 1 ∧
    recNum t.payload 3 1 = 0 ∧ (((quo on).popFetched 1 16 t).allocUnits 1 0 []).isSome = true ∧
    ((quo on).popFetched 1 16 u).tractRecOk 1 u.payload = true ∧ ceilDiv (recNum u.payload 24 8) 65536 = 1 ∧
    ((quo on).popFetched 1 16 u).useOf 1 1 + 1 ≤ (((quo on).popFetched 1 16 u).std 1).quota.t1 := by decide +kernel

theorem wit_RecordsTractsAndConnections2 :
    let v := ent 64 0 0 (tractRec 2 0 0 ((tr 1 0).key 1).toNat 0)
    let o := ent 10 0 (1 + 2 * 2 ^ 16) []
    let c := ent 10 0 (2 + 65535 * 2 ^ 64) []
    let g : Dev := { on with tracts := [(1, tr 1 0)], conns := [(65535, open_ 1 2)] }
    let r (x : Tract) : Dev := { on with tracts := [(65535, x)] }
    let z (x : Conn) : Dev := { on with conns := [(65535, x)] }
    HostTakes (st g) 1 v 64 64 1 ∧ recNum v.payload 0 1 = 2 ∧ recNum v.payload 1 7 = 0 ∧ recNum v.payload 12 4 = 0 ∧ (∀ b ∈ recBytes v.payload 16 48, b = 0#8) ∧
    (g.popFetched 1 16 v).tractOf 1 (BitVec.ofNat 32 (recNum v.payload 8 4)) = some (1, tr 1 0) ∧ (tr 1 0).kind ≠ 7 ∧ (tr 1 0).mode = 0 ∧
    HostTakes (st (quo on)) 1 o 10 10 1 ∧ recNum o.payload 0 1 = 1 ∧ recNum o.payload 1 1 = 0 ∧ recNum o.payload 8 2 = 0 ∧
    recNum o.payload 2 2 ≠ ((quo on).popFetched 1 17 o).node ∧ ((quo on).popFetched 1 17 o).useConn 1 < (((quo on).popFetched 1 17 o).std 1).quota.conn ∧
    HostTakes (st g) 1 c 10 10 1 ∧ recNum c.payload 0 1 = 2 ∧ recNum c.payload 1 7 = 0 ∧ (g.popFetched 1 17 c).conn? (recNum c.payload 8 2) = some (open_ 1 2) ∧
    (open_ 1 2).stand = 1 ∧ (open_ 1 2).st = 2 ∧
    (r { tr 1 0 with st := .revoking }).serving = true ∧ ((r { tr 1 0 with st := .revoking }).tract? 65535).isSome = true ∧ (tr 1 0).inflight = 0 ∧
    (tr 1 0).cmd = none ∧ ({ tr 1 0 with cmd := some (1, 9) } : Tract).cmd = some (1, 9) ∧
    ((r { tr 1 0 with st := .hold }).tract? 65535).isSome = true ∧ (z { open_ 1 2 with st := 3 }).serving = true ∧
    ((z { open_ 1 2 with st := 3 }).conn? 65535).isSome = true ∧ (open_ 1 2).tx = [] ∧ (open_ 1 2).rx = [] ∧ (open_ 1 2).closeSent = false := by
  decide +kernel

/-- A unit of an edge's memory is found. -/
theorem wit_allocUnits (w : Nat) : ((quo on).allocUnits w 1 []).isSome = true := by
  have h := allocFrom_turned (quo on) 256 3 [16, 17, 18, 19] (by simp) (by decide +kernel)
  obtain ⟨⟨f, d⟩, hf⟩ := Option.isSome_iff_exists.1 h
  have hd : (quo on).tierDies w 1 = [16, 17, 18, 19] := rfl
  unfold Dev.allocUnits
  rw [hd, hf]
  rfl

/-- A codec record: OP, SLOT, MODE and lengths of 8 for the first 128 symbols... (08 Table 6). -/
def cdcE (op slot mode : Nat) (lens : List Byte) : CmdEntry := ent 144 0 0 (padTo 144 (natLe 1 op ++ natLe 1 slot ++ natLe 1 mode ++ natLe 5 0 ++ lens))

theorem wit_RegionsKernelsAndTables :
    let z := ent 0 0 0 []
    let r := ent 0 9 0 []
    let ld := cdcE 1 15 2 (List.replicate 128 0x88)
    let md := cdcE 2 15 1 []
    let em := cdcE 2 15 0 []
    let rc := cdcE 3 15 0 []
    let k : Dev := { on with slotImg := [(8, 0)] }
    let x : Dev := { on with slots := [(15, ⟨2, [], 0⟩)] }
    let m : Dev := { on with migrs := [⟨3, 1, 0, 0, 1, 16 * 2 ^ 27, 5, 0, [], 0⟩], recodes := [⟨1, 0, 9⟩] }
    let kd := ent 0 256 0 []
    let ks := ent 96 3 0 (List.replicate 96 1)
    HostTakes (st on) 1 z 0 0 1 ∧ z.arg.toNat % 65536 = 0 ∧ HostTakes (st on) 1 r 0 0 1 ∧ HostTakes (st k) 1 z 0 0 1 ∧
    (k.popFetched 1 0x15 z).slotImage 1 (nbits z.arg.toNat 2 0) = some 0 ∧
    HostTakes (st on) 0 ld 144 144 0 ∧ cdcRecOk ld.payload 1 = true ∧ recNum ld.payload 2 1 ≠ 0 ∧ ((on.popFetched 0 0x18 ld).slot 15).count = 0 ∧
    tableOk (recBytes ld.payload 8 136) = true ∧ HostTakes (st x) 0 md 144 144 0 ∧ cdcRecOk md.payload 2 = true ∧ recNum md.payload 2 1 ≠ 0 ∧
    ((x.popFetched 0 0x18 md).slot 15).mode ≠ 0 ∧ HostTakes (st x) 0 em 144 144 0 ∧ cdcRecOk em.payload 2 = true ∧ recNum em.payload 2 1 = 0 ∧
    ((x.popFetched 0 0x18 em).slot 15).count = 0 ∧ HostTakes (st x) 0 rc 144 144 0 ∧ cdcRecOk rc.payload 3 = true ∧
    ((x.popFetched 0 0x18 rc).slot 15).mode = 2 ∧ m.serving = true ∧ (m.migrs.find? fun m => m.id == 3 && m.mig == 5).isSome = true ∧
    ({ m with migrs := [] } : Dev).recodes = [⟨1, 0, 9⟩] ∧ ({ m with migrs := [] } : Dev).recodeLeft 1 = [] ∧
    HostTakes (st on) 0 kd 0 96 0 ∧ kd.arg.getLsbD 8 = true ∧ HostTakes (st on) 0 ks 0 96 0 ∧ ks.arg.getLsbD 8 = false ∧ ks.dataLen.toNat = 96 := by
  decide +kernel

theorem wit_kload : let e := ent 356 1025 0 kimg
    HostTakes (st (trust on)) 1 e 352 1048576 1 ∧ ((trust on).popFetched 1 0x14 e).imageCheck 1 e.payload = 0 ∧
    (((trust on).popFetched 1 0x14 e).svcPagesFor (ceilDiv e.payload.length 4096) []).isSome = true ∧ (trust on).unloads = [] := by
  have hp : (ent 356 1025 0 kimg).payload = kimg := by decide +kernel
  refine ⟨by decide +kernel, ?_, ?_, rfl⟩
  · rw [hp]
    exact kimg_check _ _ (by decide +kernel) (by decide +kernel) (by decide +kernel) (by decide +kernel) (by decide +kernel) (by decide +kernel)
  · have hc : ceilDiv (ent 356 1025 0 kimg).payload.length 4096 = 1 := by decide +kernel
    rw [hc]
    obtain ⟨n, e, he, -, -⟩ := svcAlloc_some ((trust on).popFetched 1 0x14 (ent 356 1025 0 kimg)) 1 (by decide) (by decide +kernel) (by decide +kernel)
    unfold Dev.svcPagesFor
    rw [he]
    rfl

theorem wit_fwUpdate : let e := ent 4196 0 0 fwimg
    HostTakes (st (trust on)) 0 e 0 4194304 0 ∧ ((trust on).popFetched 0 0x1A e).fwCheck (some e.payload) = 0 := by
  have hl : fwimg.length = 4196 := by decide +kernel
  have hp : (ent 4196 0 0 fwimg).payload = fwimg := by
    have hn : (ent 4196 0 0 fwimg).dataLen.toNat = 4196 := by decide +kernel
    unfold CmdEntry.payload
    dsimp only
    rw [hn, if_neg (by decide)]
    show recBytes fwimg 0 4196 = fwimg
    rw [← hl]
    simp [recBytes]
  refine ⟨by decide +kernel, ?_⟩
  rw [hp]
  exact fwimg_check _ (by decide +kernel) (by decide +kernel) (by decide +kernel) rfl (by decide +kernel) (by decide +kernel)

/-! ## Queues, interrupts and DMA -/

/-- Stand 0's command queue of 2^16 entries is enabled at HEAD 65535. -/
def cmdQ : Dev := { (on.wr .stand 0 0x2008 (2 ^ 31 + 16)).wr .stand 0 0x2018 65535 with fns := [(0, ⟨true, false⟩)] }

theorem wit_QueuesDoorbellsAndInterrupts :
    let d := cmdQ
    let q := (on.wr .stand 0 0x2048 (2 ^ 31 + 4)).wr .stand 0 0x2060 (2 ^ 31)
    let u : Dev := { q with hq := [(0, ⟨[], 1, []⟩)] }
    WindowOpen (st d) 0 0 0x2010 ∧ bits (65534 : W64) 15 0 < 2 ^ d.sfld 0 0x2008 4 0 ∧ (d.setSfld 0 0x2010 15 0 0).mayFetch 0 = true ∧
    (d.setSfld 0 0x2010 15 0 0).sfld 0 0x2018 15 0 ≠ 0 ∧ (on.setSfld 0 0x2010 15 0 0).mayFetch 0 = false ∧
    WindowOpen (st q) 0 0 0x2050 ∧ bits (15 : W64) 15 0 < 2 ^ q.sfld 0 0x2048 4 0 ∧ WindowOpen (st (on.wr .stand 0 0x2008 4)) 0 0 0x2010 ∧
    2 ^ (on.wr .stand 0 0x2008 4).sfld 0 0x2008 4 0 ≤ bits (16 : W64) 15 0 ∧
    WindowOpen (st on) 0 0 0x2008 ∧ bitAt (on.rd .stand 0 0x2008) 31 = false ∧ WindowOpen (st on) 0 0 0x2048 ∧ bitAt (on.rd .stand 0 0x2048) 31 = false ∧
    bitAt (2 ^ 31 + 16 : W64) 31 = true ∧ bits (2 ^ 31 + 16 : W64) 4 0 = 16 ∧
    u.serving = true ∧ (u.hostQ 0).unsignalled ≠ 0 ∧ bitAt (u.rd .stand 0 0x2060) 31 = true ∧ bitAt (on.rd .stand 0 0x2060) 31 = false ∧
    on.fnLive 31 = false ∧ d.fnLive 0 = true ∧ d.msix = [] := by decide +kernel

/-- 17 R811: a doorbell that wraps fetches only to the end of the queue. -/
theorem test_cmdDoorbell : (match exec (.cmdDoorbell 0 0 5) (st cmdQ) with
    | .next s => decide (s.d.dma = [⟨cmdQ.dmaNext, 0, .cmdFetch 0 1, 0⟩])
    | _ => false) = true := by decide +kernel

theorem wit_DmaAndAperture :
    let r : DmaReq := ⟨0, 0, .cmdFetch 0 1, 0⟩
    let d (r : DmaReq) : Dev := { cmdQ with dma := [r] }
    let key := ((tr 0 0).key 1).setWidth 64 + 3 * 2 ^ 61
    let a : Dev := { ((on.wr .stand 0 0x3008 1).wr .stand 0 0x3010 key) with tracts := [(1, tr 0 0)] }
    let z := on.wr .stand 31 0x610 1
    (d r).up? = true ∧ (d r).dma.find? (fun r => r.id == 0) = some r ∧ ({ r with use := .payload 0 9 (ent 64 0 0 []) } : DmaReq).use = .payload 0 9 (ent 64 0 0 []) ∧
    a.off = false ∧ a.board.mrst = false ∧ a.board.perst = false ∧ (a.fnCtl 0).d3 = false ∧ a.stageOf = 3 ∧ a.cfgBad = false ∧ a.sesOpen 0 = true ∧
    a.modPower < 2 ∧ (4095 : BitVec 36).toNat % 4096 + (1 : BitVec 13).toNat ≤ 4096 ∧ a.apWindow 0 4095 = some (0, 4095) ∧ a.apWindow 0 65536 = none ∧
    (a.windowAccess 0 0 4095 false 1 [] false).isSome = true ∧ a.sfld 0 0x3010 63 62 = 1 ∧
    a.tractOf 0 (BitVec.ofNat 32 (a.sfld 0 0x3010 31 0)) = some (1, tr 0 0) ∧ (tr 0 0).kind = 0 ∧ (tr 0 0).mode = 0 ∧ 4095 + [1#8].length ≤ (tr 0 0).len ∧
    WindowOpen (st on) 0 31 0x610 ∧ bitAt (on.rd .stand 31 0x610) 0 = false ∧ WindowOpen (st z) 0 31 0x610 ∧ bitAt (z.rd .stand 31 0x610) 0 = true ∧
    z.usedIn (z.zoneFrames 31) = 0 ∧ ({ z.wr .stand 31 0x608 1 with runs := [(tileFrame 3 31 4095, ⟨1, true⟩)] } : Dev).usedIn
      (({ z.wr .stand 31 0x608 1 with runs := [(tileFrame 3 31 4095, ⟨1, true⟩)] } : Dev).zoneFrames 31) ≠ 0 ∧
    on.hostVerdict 0 (0x1000000 + 15 * 0x100000 + 0x60800) 8 true = .ok ∧ Tab.get? on.lpEnter 15 = none ∧ on.cellPower 15 = 0 := by decide +kernel

/-! ## Ports, links, packets and connections -/

/-- Port 0 is ACTIVE after its HELLO, with an open connection 1 to node 2, a tract and buffers of stand 1, in an active node. -/
def portUp : Dev := { ((on.wr .port 0 8 6).wr .port 0 0 1).setFld .cmp 0 8 2 0 2 with
  ports := [(0, { PortLink.reset with helloIn := true, helloOut := true, credits := (List.range 16).map fun i => (i, 4) })], conns := [(1, open_ 1 2)], tracts := [(1, tr 1 0)],
  stands := [(1, { Stand.reset with quota := ⟨9, 9, 9, 9, 9⟩ })] }

/-- Port 15 in a training state, enabled. -/
def training (state : Nat) : Dev := (on.wr .port 15 8 (BitVec.ofNat 64 state)).wr .port 15 0 1

theorem wit_PortsTrainAndRetrain :
    let en (x : Dev) := x.hostVerdict 0 (0x400000 + 15 * 0x10000) 8 true = .ok
    en on ∧ bitAt 0 0 = on.portEn 15 ∧ bitAt 1 0 = true ∧ on.portEn 15 = false ∧ on.portState 15 = 0 ∧ on.portFenced 15 = false ∧ on.halted = false ∧
    on.fld .pwr 0 0 35 32 = 0 ∧ en (training 5) ∧ (training 5).portEn 15 = true ∧ (training 5).portState 15 ≠ 6 ∧ (training 6).portState 15 = 6 ∧ en (training 6) ∧
    (training 5).serving = true ∧ (training 5).portState 15 ≤ 5 ∧ (training 5).mayTrain 15 = true ∧ (training 1).portState 15 = 1 ∧
    (training 3).portState 15 ≤ 3 ∧ (((training 3).link 15).lost ||| 0x0F) / 16 = 0 ∧ 3 < (training 4).portState 15 ∧
    (let d : Dev := { training 0 with ports := [(15, { PortLink.reset with retry := true })] }
     d.serving = true ∧ (d.link 15).retry = true ∧ d.portState 15 = 0 ∧ d.mayTrain 15 = true) := by decide +kernel

theorem wit_LinkFramesAndEgress :
    let f (k : FrameKind) (n : BitVec 12) : LinkFrame := ⟨n, k, true, 0, 0⟩
    let k : Pkt := rspPkt tyAck ⟨1, 2, false, false, false, false, false, 0, 0, 2, 0, 3, 1, 0⟩ ⟨0, 0, 0, 0, 0⟩ 0
    let d : Dev := { portUp with egress := [(0, [⟨k, 1, 1, false⟩])] }
    let w : Dev := portUp.setUpq 32 32 { UpperQ.reset with wheel := some 0 }
    portUp.serving = true ∧ portUp.portState 0 = 6 ∧ portUp.halted = false ∧ (f .idle 0).uncorrectable = 0 ∧ (f .idle 0).crcOk = true ∧ ({ f .idle 0 with crcOk := false } : LinkFrame).crcOk = false ∧
    ((f .idle 0).seq.toNat + 4096 - (portUp.link 0).rxSeq) % 4096 = 0 ∧ ((f .idle 2047).seq.toNat + 4096 - (portUp.link 0).rxSeq) % 4096 < 2048 ∧
    2048 ≤ ((f .idle 2048).seq.toNat + 4096 - (portUp.link 0).rxSeq) % 4096 ∧ (f (.data 7 true) 0).seq.toNat = (portUp.link 0).rxSeq ∧
    portUp.egq 0 = [] ∧ (portUp.link 0).replay.length < 64 ∧
    ((d.choose 17 (egItems (d.egq 0)) (fun x => match (d.egq 0)[x.ref]? with
        | some e => 0 < Tab.getD (d.link 0).credits (d.creditIdx 0 e.pkt) 0
        | none => false)).1.any fun x => (d.egq 0)[x.ref]?.isSome) = true ∧
    w.serving = true ∧ (w.upq 32 32).wheel = some 0 ∧ 0 ≤ w.now := by decide +kernel

/-- A routing header to connection 1 of this node from connection 3 of node 2. -/
def rt (tc : BitVec 3) (notice : Bool) : Route := ⟨1, tc, false, false, notice, false, false, 0, 0, 0, 2, 1, 3, 1⟩

/-- A request of one packet on a tract's key. -/
def rq (key : BitVec 32) (plen off len : Nat) (arg : W64) : ReqHdr := ⟨key, 0, BitVec.ofNat 16 plen, BitVec.ofNat 64 off, BitVec.ofNat 32 len, 0, arg⟩

/-- What the check of a packet's message leaves to show of a served request: p of its message, the device and its check of the key. -/
def servedOk (d : Dev) (ty : Nat) (r : Route) (h : ReqHdr) (data : List Byte) (p : InMsg → Dev → Refused ⊕ (Nat × Tract) → Bool) : Bool :=
  let c := r.dstConn.toNat
  let e := d.touchConn c
  (e.conn? c).any fun x =>
    match e.checkHead x ty r h data with
    | .inr n => decide (x.rxBase ≤ n) && !Tab.has x.fin n && x.st == 2 &&
      (let o := e.openRx c n ty r h
       p o.1 o.2 (o.2.checkKey x.stand h.key ty r.notice (some r.epoch.toNat)))
    | .inl _ => false

/-- A request with its right ICRC is taken over an open connection. -/
def takenOk (d : Dev) (ty : Nat) (r : Route) (h : ReqHdr) (data : List Byte) : Prop :=
  Taken (st d) 0 (reqPkt ty r h data (pktIcrc ty r (.req h data))) (open_ 1 2)

/-- The same of one that passes every check on a tract of kind 0 or 1. -/
def passOk (d : Dev) (ty : Nat) (r : Route) (h : ReqHdr) (data : List Byte) : Bool :=
  servedOk d ty r h data fun m e1 k => !m.got.contains ((d.touchConn r.dstConn.toNat).pktIndex 1 ty h) && match k with
    | .inr (_, t) => decide (t.kind ≤ 1) && t.mode == 0 && !e1.outOfBounds t ty r.notice h.offset.toNat h.plen.toNat m.base.toNat m.len
    | .inl _ => false

/-- Sequence 5 with a sealed page, and a landing tract, reached through port 0. -/
def landK : Dev := { seqDev portUp 1 5 stResident 16 with tracts := [(1, tr 1 4)] }

/-- LAND of one token at position 1 of layer 0 of sequence 5. -/
def landH : ReqHdr := rq ((tr 1 4).key 1) 256 5 256 (BitVec.ofNat 64 (1 * 2 ^ 32 + 1 * 2 ^ 16 + 1 * 2 ^ 8))

/-- Whatever the data, when the rest of Taken holds. -/
theorem taken_of (d : Dev) (ty : Nat) (r : Route) (h : ReqHdr) (data : List Byte) (ht : ty < 16)
    (hp : d.serving = true ∧ d.portActive 0 = true ∧ d.halted = false ∧ d.portCarries 0 r.tc.toNat = true ∧ r.dstNode.toNat = d.node)
    (hv : (d.verified r).isSome = true ∧ (d.touchConn r.dstConn.toNat).conn? r.dstConn.toNat = some (open_ 1 2) ∧
      (d.touchConn r.dstConn.toNat).bufOk 1 = true) : takenOk d ty r h data := by
  exact ⟨⟨hp.1, hp.2.1, hp.2.2.1, hp.2.2.2.1, hp.2.2.2.2, icrcOk_reqPkt ty r h data ht⟩, hv.1, hv.2.1, rfl, hv.2.2⟩

theorem wit_RequestPacketsServed :
    let key := (tr 1 0).key 1
    let dup : Dev := { portUp with
      conns := [(1, { open_ 1 2 with rxTop := 1, rx := [⟨0, tyPut, 4096, false, key, 0, [0], 8, [], false, 2, [], 0, []⟩] })] }
    takenOk portUp tyPut (rt 2 false) (rq key 8 4088 8 0) (List.replicate 8 1) ∧ takenOk portUp tyPut (rt 7 true) (rq key 8 0 8 0) (List.replicate 8 1) ∧
    takenOk portUp tyNote (rt 2 true) (rq key 8 0 8 0) (List.replicate 8 1) ∧ takenOk portUp tyGet (rt 2 false) (rq key 4096 0 4096 0) [] ∧
    takenOk portUp tyAtom (rt 2 false) (rq key 16 4080 16 5) (List.replicate 16 1) ∧ takenOk landK tyLand (rt 4 false) landH (List.replicate 256 1) ∧
    takenOk portUp tyPut (rt 1 false) (rq key 8 0 8 0) (List.replicate 8 1) ∧
    passOk portUp tyPut (rt 2 false) (rq key 8 4088 8 0) (List.replicate 8 1) = true ∧
    passOk portUp tyPut (rt 7 true) (rq key 8 0 8 0) (List.replicate 8 1) = true ∧
    passOk portUp tyNote (rt 2 true) (rq key 8 0 8 0) (List.replicate 8 1) = true ∧
    passOk portUp tyGet (rt 2 false) (rq key 4096 0 4096 0) [] = true ∧ passOk portUp tyGet (rt 2 false) (rq key 8 0 16 0) [] = true ∧
    portUp.doing.badRead = false ∧ passOk portUp tyAtom (rt 2 false) (rq key 16 4080 16 5) (List.replicate 16 1) = true ∧
    (servedOk dup tyPut (rt 2 false) (rq key 8 0 4096 0) (List.replicate 8 1) fun m _ _ => m.got.contains 0) = true ∧
    (servedOk portUp tyPut (rt 2 false) (rq 0 8 0 8 0) (List.replicate 8 1) fun _ _ k => k.isLeft) = true ∧
    ((portUp.touchConn 1).checkHead (open_ 1 2) tyPut (rt 1 false) (rq key 8 0 8 0) (List.replicate 8 1)).isLeft = true ∧
    (servedOk landK tyLand (rt 4 false) landH (List.replicate 256 1) fun m e1 k => !m.got.contains 0 && match k with
      | .inr (i, t) => t.kind == 4 && t.mode == 0 && (e1.landSeq 1 landH.offset).all (fun y => bits landH.arg 7 0 < y.2.layers) &&
        (e1.placeLand i t landH (List.replicate 256 1)).isRight
      | .inl _ => false) = true := by
  refine ⟨?_, ?_, ?_, ?_, ?_, ?_, ?_, ?_⟩
  · exact taken_of _ _ _ _ _ (by decide) (by decide +kernel) (by decide +kernel)
  · exact taken_of _ _ _ _ _ (by decide) (by decide +kernel) (by decide +kernel)
  · exact taken_of _ _ _ _ _ (by decide) (by decide +kernel) (by decide +kernel)
  · exact taken_of _ _ _ _ _ (by decide) (by decide +kernel) (by decide +kernel)
  · exact taken_of _ _ _ _ _ (by decide) (by decide +kernel) (by decide +kernel)
  · exact taken_of _ _ _ _ _ (by decide) (by decide +kernel) (by decide +kernel)
  · exact taken_of _ _ _ _ _ (by decide) (by decide +kernel) (by decide +kernel)
  · decide +kernel

/-! ## Responses, message timers and connections -/

/-- An outgoing message 7 of one packet of n bytes in a state. -/
def outM (ty n : Nat) (who : MsgWho) (q : PktState) : OutMsg :=
  ⟨7, ty, 2, false, 4, 0, false, List.replicate n 1, n, [⟨0, n, 0, q, 0, 0, false, false⟩], false, 0, who, false⟩

/-- An incoming message 0 of 4096 bytes of which 8 came. -/
def inM : InMsg := ⟨0, tyPut, 4096, false, 4, 0, [0], 8, [0], false, 2, [], 0, []⟩

/-- The device with connection 1 in a state. -/
def connD (x : Conn) : Dev := { portUp with conns := [(1, x)] }

/-- An open connection that sends m. -/
def txC (m : OutMsg) : Conn := { open_ 1 2 with txNext := 8, tx := [m] }

/-- A response to message 7. -/
def rsp (code : Nat) (base info : Nat) : RspHdr := ⟨7, BitVec.ofNat 8 code, 0, BitVec.ofNat 32 base, BitVec.ofNat 64 info⟩

/-- A response that connection x takes. -/
abbrev rspTaken (x : Conn) (ty : Nat) (h : RspHdr) : Prop :=
  Taken (st (connD x)) 0 (rspPkt ty (rt 2 false) h (pktIcrc ty (rt 2 false) (.rsp h))) x

theorem wit_ResponsesAndMessageTimers :
    let w : MsgWho := .thread 0 5 2 0
    let f := txC (outM tyPut 8 .cruise .flight)
    let l := txC (outM tyPut 8 .cruise .later)
    let a := txC (outM tyAtom 16 w .flight)
    let th5 : Thread := thTok [(5, ⟨.remote 2, false, none, none⟩)]
    f.msg? 7 = some (outM tyPut 8 .cruise .flight) ∧ rspTaken f tyAck (rsp 1 0 1) ∧ rspTaken f tyNak (rsp 3 0 0) ∧ nakRetries 3 = false ∧
    rspTaken l tyNak (rsp 12 0 0) ∧ nakRetries 12 = true ∧ 0 < (connD l).fld .port 0 0x9010 31 16 ∧
    ((outM tyPut 8 .cruise .later).pkts[0]?.all fun q => q.st != .flight) = true ∧
    rspTaken a tyArsp (rsp 0 0 9) ∧ a.msg? 7 = some (outM tyAtom 16 w .flight) ∧ (outM tyAtom 16 w .flight).ty = tyAtom ∧
    Tab.get? th5.toks 5 = some ⟨.remote 2, false, none, none⟩ := by decide +kernel

theorem wit_GetResponse :
    let w : MsgWho := .thread 0 5 2 0
    let g := txC (outM tyGet 8 w .flight)
    let gh := rq 0 8 0 8 0
    let ga : Dev := { connD g with threads := [(0, thTok [(5, ⟨.remote 2, false, none, none⟩)])] }
    Taken (st ga) 0 (reqPkt tyGrsp (rt 2 false) { gh with msgId := 7 } (List.replicate 8 1) (pktIcrc tyGrsp (rt 2 false) (.req { gh with msgId := 7 } (List.replicate 8 1)))) g ∧
    g.msg? 7 = some (outM tyGet 8 w .flight) ∧ (outM tyGet 8 w .flight).pkts[0]? = some ⟨0, 8, 0, .flight, 0, 0, false, false⟩ ∧
    Tab.get? (ga.thr 0).toks 5 = some ⟨.remote 2, false, none, none⟩ := by decide +kernel

theorem wit_MessageTimers :
    let f := txC (outM tyPut 8 .cruise .flight)
    let r := { open_ 1 2 with rxTop := 1, rx := [inM] }
    let z (x : Conn) (t : Nat) : Bool := (Tab.get? (connD x).conns 1).any fun y => y.tx.any fun m => m.pkts.any fun q => q.tries == t
    (connD r).serving = true ∧ r.rx.find? (fun m => m.n == 0) = some inM ∧ inM.unacked ≠ [] ∧ r.rxBase ≤ 0 ∧ 0 < r.rxTop ∧ Tab.has r.fin 0 = false ∧
    inM.count < inM.len ∧ z f 0 = true ∧ 0 < (connD f).fld .port 0 0x9010 15 0 ∧ ((connD f).setFld .port 0 0x9010 15 0 0).fld .port 0 0x9010 15 0 ≤ 0 := by
  decide +kernel

/-- A handshake packet from node 2's connection 3. -/
def hs : ConnHdr := ⟨0, 0, 0, 0, 0⟩

/-- Handshake packet op reaches a device. -/
abbrev hsReaches (d : Dev) (op : Nat) : Prop := Reaches (st d) 0 ⟨BitVec.ofNat 4 tyConn, rt 0 false, .conn op hs, pktIcrc tyConn (rt 0 false) (.conn op hs)⟩

theorem wit_ConnectionsOpenedAndContextsMoved :
    let n : Conn := { open_ 1 2 with st := 1, peerConn := 0 }
    let c : Conn := { open_ 1 2 with st := 3 }
    hsReaches (connD n) 1 ∧ (connD n).conns.filter (fun e => e.2.peer == 2 && e.2.join == hs.join) = [(1, n)] ∧ n.st = 1 ∧
    hsReaches portUp 1 ∧ portUp.conns.filter (fun e => e.2.peer == 2 && e.2.join == hs.join) = [(1, open_ 1 2)] ∧ (open_ 1 2).st = 2 ∧ (open_ 1 2).peerConn = 3 ∧
    hsReaches { portUp with conns := [] } 1 ∧ hsReaches (connD n) 2 ∧ (connD n).conn? 1 = some n ∧ n.peer = 2 ∧ n.join = hs.join ∧
    hsReaches portUp 3 ∧ portUp.verified (rt 0 false) = some (open_ 1 2) ∧ hsReaches (connD c) 4 ∧ (connD c).verified (rt 0 false) = some c ∧ c.st = 3 := by decide +kernel

theorem wit_ContextsMoved :
    let n : Conn := { open_ 1 2 with st := 1, peerConn := 0 }
    let e : Dev := (connD (open_ 1 2)).wr .port 0 0x9000 (2 ^ 15) |>.wr .port 0 0x9020 1
    (connD n).serving = true ∧ (connD n).node < n.peer ∧ n.openCmd = none ∧ ({ n with openCmd := some (1, 9) } : Conn).openCmd = some (1, 9) ∧
    e.serving = true ∧ bitAt (e.rd .port 0 0x9000) 15 = true ∧ (open_ 1 2).res < 2 ∧ (open_ 1 2).evict = none ∧ (open_ 1 2).rx = [] ∧ (open_ 1 2).tx = [] ∧
    256 * (1 + 1) ≤ e.fld .port 0 0x9020 24 0 * 1024 ∧ ({ open_ 1 2 with res := 3 } : Conn).res = 3 := by
  decide +kernel

/-! ## Fabric time, timed actions and rotations -/

/-- A TIME packet from node 2's port partner reaches a device. -/
abbrev timeReaches (d : Dev) (op : Nat) (h : TimeHdr) : Prop :=
  d.serving = true ∧ d.portActive 0 = true ∧ d.halted = false ∧ (rt 0 false).dstNode.toNat = d.node ∧
  (⟨BitVec.ofNat 4 tyTime, rt 0 false, .time op h, pktIcrc tyTime (rt 0 false) (.time op h)⟩ : Pkt).icrcOk = true ∧ (rt 0 false).srcNode.toNat = d.peerNode 0

/-- Answer 5 of a partner one hop from the reference. -/
def timeH : TimeHdr := ⟨1, 0, 5, 0, 0, 0, 0, 0, 0⟩

/-- Port 0's partner is node 2, to which request 5 went at time 0. -/
def timeK : Dev := { portUp.wr .port 0 8 (BitVec.ofNat 64 (2 * 2 ^ 48 + 6)) with ports := [(0, { PortLink.reset with req := some ⟨5, 0⟩ })] }

theorem wit_FabricTimeKept :
    let e := (timeK.modLink 0 fun l => { l with dist := 1, refNode := 0 }).refreshParent
    let r := on.setFld .ftm 0 0x10 3 3 1
    let q := (timeK.setFld .ftm 0 0x10 27 20 2).setFld .ftm 0 0x10 2 0 2
    timeReaches timeK 1 timeH ∧ timeReaches timeK 2 timeH ∧ (e.link 0).req = some ⟨5, 0⟩ ∧ timeH.seq.toNat = 5 ∧ timeK.fab ≤ 0 + 100000 * 65536 ∧
    e.isParent 0 = true ∧ e.ftmState = 0 ∧ q.isParent 0 = true ∧ q.ftmState ≠ 0 ∧
    ((q.modLink 0 fun l => { l with dist := 255 }).refreshParent).fld .ftm 0 0x10 27 20 = 255 ∧
    on.serving = true ∧ on.isRef = false ∧ r.serving = true ∧ r.isRef = true ∧ 2 ≤ ({ r with ppsRun := 2 } : Dev).ppsRun ∧
    on.hostVerdict 0 0x40000 8 false = .ok ∧ r.hostVerdict 0 0x40028 8 true = .ok ∧ bitAt (r.rd .ftm 0 0x10) 5 = false ∧ r.now ≤ (1 : W64).toNat := by
  decide +kernel

theorem wit_TimedActionsRotationsAndTelemetry :
    let a := 0x2000 + 32 * 31
    let d := (((on.wr .ftm 0 (a + 8) 0x60008).wr .ftm 0 (a + 16) (2 ^ 32 + 5)).wr .ftm 0 (a + 24) 1)
    let r := on.setFld .sch 32 0x828 0 0 1
    let t : Dev := { on with fab := 1000000 * 65536 }
    on.hostVerdict 0 (0x42018 + 32 * 31) 8 true = .ok ∧ bitAt (on.rd .ftm 0 (0x2018 + 32 * 31)) 0 = false ∧
    d.serving = true ∧ d.dueSlots = [31] ∧ d.fld .ftm 0 (a + 24) 63 32 = 0 ∧ d.verdict 0 true (d.fld .ftm 0 (a + 8) 25 0) 8 true = .ok ∧
    d.target (d.fld .ftm 0 (a + 8) 25 0) = .one ⟨.dir, 0, 8⟩ ∧ (findRow .dir 8).isSome = true ∧
    on.hostVerdict 0 (0x800800 + 32 * 0x10000) 8 true = .ok ∧ bitAt (on.rd .sch 32 0x828) 0 = false ∧ bitAt (r.rd .sch 32 0x828) 0 = true ∧
    on.hostVerdict 0 (0x800108 + 32 * 0x10000 + 32 * 31) 8 true = .ok ∧ r.serving = true ∧ (r.rd .sch 32 0x830).toNat ≤ r.now ∧
    r.hostVerdict 0 (0x800800 + 32 * 0x10000) 8 true = .ok ∧
    t.serving = true ∧ (t.telInt + 1) * 1000000 ≤ t.now := by decide +kernel

/-! ## Cruise messages -/

/-- Connection 1 is the cruise connection to the partner on port 0. -/
def cruiseC : Conn := { open_ 0 2 with cruise := some 0 }

/-- The device whose port 0's partner is node 2, over that connection. -/
def cruiseK : Dev := { portUp.wr .port 0 8 (BitVec.ofNat 64 (2 * 2 ^ 48 + 6)) with conns := [(1, cruiseC)] }

/-- A cruise header from node 2. -/
def cruiseH : CruiseHdr := ⟨0, 2, 1, 1, 0⟩

/-- The request header of a cruise message of n bytes. -/
def ctrlH (n : Nat) : ReqHdr := rq 0 n 0 n 0

/-- The route of a cruise message: epoch 0. -/
def ctrlR : Route := { rt 0 false with epoch := 0 }

theorem wit_CruiseMessagesReachTheEngine :
    let bs := cruiseH.bytes 2 ++ [1, 2, 3, 4]
    let e := cruiseK.touchConn 1
    Taken (st cruiseK) 0 (reqPkt tyCtrl ctrlR (ctrlH 20) bs (pktIcrc tyCtrl ctrlR (.req (ctrlH 20) bs))) cruiseC ∧
    (match e.checkHead cruiseC tyCtrl ctrlR (ctrlH 20) bs with
      | .inr n => n == 0
      | .inl _ => false) = true ∧ cruiseC.rxBase ≤ 0 ∧ Tab.has cruiseC.fin 0 = false ∧ cruiseC.st = 2 ∧ cruiseC.stand = 0 ∧ (ctrlH 20).key = 0 ∧
    (ctrlH 20).plen.setWidth 32 = (ctrlH 20).msgLen ∧ 16 ≤ bs.length ∧ on.react = [] ∧ on.msgEnds = [] ∧ on.cruiseIn = [] ∧ on.warm = false ∧
    cruiseH.flags.getLsbD 0 = false ∧ ({ cruiseH with flags := 1 } : CruiseHdr).flags.getLsbD 0 = true ∧
    cruiseH.version.toNat ∉ Tab.getD on.seenMsgs cruiseH.origin.toNat [] ∧
    cruiseH.version.toNat ∈ Tab.getD ({ on with seenMsgs := [(2, [1])] } : Dev).seenMsgs cruiseH.origin.toNat [] := by decide +kernel

/-- A slice of this node on offer to node 2 or not. -/
def slc (owner : Nat) (offer : Option (Nat × Nat)) : Dev := { on with slices := [(1, { stands := 0, cells := 1, ports := 0, owner := owner, epoch := 7, offer := offer })] }

theorem wit_CruiseMessagesActedOn :
    let b (home k e n : Nat) : List Byte := natLe 2 home ++ natLe 2 k ++ natLe 4 e ++ natLe 2 n
    let h : Dev := { on with ports := [(0, { PortLink.reset with helloIn := true })] }
    let w := on.setFld .cmp 0 8 2 0 2
    (on.link 0).helloIn = false ∧ (h.link 0).helloIn = true ∧ Nat.testBit 2 1 = true ∧
    recNum (b 1 3 0 0) 2 1 ≠ 4 ∧ recNum (b 1 3 0 0) 0 2 ≠ on.node ∧ nodeRow (recNum (b 1 3 0 0) 0 2) = nodeRow on.node ∧
    on.downLinks.contains (recNum (b 1 3 0 0) 0 2, recNum (b 1 3 0 0) 2 1) = false ∧
    ({ on.adoptEpoch 9 with failed := [] } : Dev).cmpState = 1 ∧ ({ on.adoptEpoch 9 with failed := [] } : Dev).standbyEpoch < 9 ∧ ({ w.adoptEpoch 9 with failed := [] } : Dev).cmpState ≠ 1 ∧
    recNum (b 0 1 7 2) 0 2 = (slc 3 none).node ∧ ((slc 3 none).slice? (recNum (b 0 1 7 2) 2 1)).any (fun sl => sl.offer == none && sl.owner == 3 && sl.epoch == 7) = true ∧
    recNum (b 0 1 7 2) 8 2 ≠ on.node ∧ recNum (b 5 1 7 0) 0 2 ≠ on.node ∧ recNum (b 5 1 7 0) 8 2 = on.node ∧ bitAt ((on.wr .cmp 0 0x10 0).rd .cmp 0 0x10) 0 = false ∧
    bitAt ((on.wr .cmp 0 0x10 1).rd .cmp 0 0x10) 0 = true ∧
    ((slc 3 (some (2, 0))).slice? 1).any (fun sl => sl.offer == some (2, 0) && sl.epoch == 7 && sl.owner != 0) = true ∧
    ((slc 2 none).slice? 1).any (fun sl => sl.owner == 2 && sl.epoch == 7) = true := by decide +kernel

/-! ## Mirrors, lending, cruise timers and slices -/

/-- A MIRROR_OPEN body of a tract of kind k and 65,536 bytes for stand 1, from key 9. -/
def mirB (k : Nat) (len : Nat) : List Byte := padTo 152 ([1, BitVec.ofNat 8 k, 1, 0] ++ natLe 4 9 ++ natLe 8 len)

/-- A mirrored tract with its partner at node 2 that opens for command 9 of stand 1. -/
def opening : Tract := { tr 1 0 with st := .opening, partner := 2, cmd := some (1, 9) }

/-- A copy at this node of node 2's tract 9, in a mode. -/
def copyT (m : Nat) : Tract := { tr 1 7 with src := some (2, 9), srcKind := 0, srcLen := 65536, mode := m, partner := 2, frames := [2 ^ 31], len := 65536 }

theorem wit_MirrorsOpenedClosedAndPromoted :
    let q := quo on
    let o : Dev := { on with tracts := [(1, opening)] }
    let c : Dev := { on with tracts := [(1, copyT 1)] }
    let key := (opening.key 1).toNat
    let bad : List Byte := mirB 4 0 ++ [1]
    let w : LendOut := ⟨2, 7, [2 ^ 31], false⟩
    let z : Dev := { q.wr .cell 0 0x60810 0x701 with stands := [(1, { Stand.reset with quota := ⟨0, 7 * 4096, 0, 0, 0⟩ })] }
    on.cmpState = 1 ∧ (on.setFld .cmp 0 8 2 0 2).cmpState ≠ 1 ∧ ((on.setFld .cmp 0 8 2 0 2).std 1).quota.t1 < (on.setFld .cmp 0 8 2 0 2).useOf 1 1 + 1 ∧
    q.cmpState ≠ 1 ∧ ceilDiv (recNum (mirB 0 65536) 8 8) 65536 = 1 ∧ q.useOf 1 1 + 1 ≤ (q.std 1).quota.t1 ∧ recNum (mirB 0 65536) 1 1 ≠ 4 ∧
    recNum bad 1 1 = 4 ∧ recBytes (Tab.getD (hostK stResident).profiles (1 * 8 + 0) []) 0 16 ≠ recBytes bad (24 + 16 * 0) 16 ∧
    o.tract? (keyIndex (BitVec.ofNat 32 key)) = some opening ∧ opening.st = .opening ∧ opening.key (keyIndex (BitVec.ofNat 32 key)) = BitVec.ofNat 32 key ∧
    opening.partner = 2 ∧ opening.cmd = some (1, 9) ∧ ({ opening with cmd := none } : Tract).cmd = none ∧ o.serving = true ∧ o.tract? 1 = some opening ∧
    c.tracts.find? (fun e => e.2.kind == 7 && e.2.st == .active && e.2.src == some (2, 9)) = some (1, copyT 1) ∧
    (∀ e ∈ o.tracts, ¬ (e.2.kind = 7 ∧ e.2.src = some (2, BitVec.ofNat 32 key))) ∧
    min 7 (min z.lendOffer (min 7 (z.fld .cell 0 0x60810 10 8 - 0))) = 7 ∧
    sameSled 2 on.node = true ∧ 2 ≠ on.node ∧ on.lendOut = [] ∧
    ({ on with lendOut := [w] } : Dev).lendOut.find? (fun x => x.borrower == 2 && x.tract == 7) = some w := by decide +kernel

/-- A tract index and a lent granule are found. -/
theorem wit_freeIndex (d : Dev) (h : Tab.has (d.tracts.filter fun e => e.2.inUse || e.2.st == .hold) 65535 = false) : d.freeIndex.isSome = true := by
  unfold Dev.freeIndex
  exact freeAt_some _ _ 65535 _ _ (by decide) h rfl

/-- A mirror header of interval 0. -/
def mirH : MirHdr := ⟨0, 0, 0, 5, 0, 0, 4⟩

/-- A mirror connection from node 2 to a copy, which holds sequence 5's copy. -/
def copyK (m : Nat) : Dev := { seqDev portUp 1 5 stResident 16 with
  dir := [], shadow := [], copies := [(seqKey 1 5, ⟨1, 0, 0, 1⟩)], tracts := [(1, copyT m)], runs := [(16, ⟨1, true⟩), (2 ^ 31, ⟨256, false⟩)] }

/-- A mirror write of operation op to the copy. -/
def mirReq (op : Nat) : ReqHdr × List Byte :=
  let bs := mirH.bytes op ++ [1, 2, 3, 4]
  (rq ((copyT 1).key 1) bs.length 0 bs.length 0, bs)

theorem wit_MirrorWritesPlaced :
    let ok (m op : Nat) (p : InMsg → Dev → Refused ⊕ (Nat × Tract) → Bool) : Bool := servedOk (copyK m) tyPut (rt 5 false) (mirReq op).1 (mirReq op).2 p
    let fits (m op : Nat) : Bool := ok m op fun msg e1 k => !msg.got.contains 0 && match k with
      | .inr (i, t) => t.kind == 7 && t.mode == m && e1.tract? i == some t && !e1.outOfBounds t tyPut false 0 (mirReq op).1.plen.toNat msg.base.toNat msg.len &&
        (m == 2 || (e1.mirApply i t (mirReq op).2).1 == 0)
      | .inl _ => false
    let a : Tract := { tr 1 0 with mode := 2, mkey := some 9, partner := 2, nextInt := 0 }
    let s : Dev := { on with tracts := [(1, a)], conns := [(1, { open_ 1 2 with mirror := true })], fab := 2 ^ 40 * 65536 }
    let b : Tract := { copyT 2 with ints := [(0, ⟨[(mirReq 5).2], some 1⟩)] }
    (∀ op ∈ [1, 2, 3, 4, 5, 6], takenOk (copyK 1) tyPut (rt 5 false) (mirReq op).1 (mirReq op).2) ∧
    (∀ op ∈ [1, 2, 3, 4, 5, 6], fits 1 op = true) ∧ fits 2 2 = true ∧ fits 2 3 = true ∧ fits 2 4 = true ∧ fits 2 5 = true ∧ fits 2 6 = true ∧
    s.serving = true ∧ s.tract? 1 = some a ∧ a.mode = 2 ∧ a.st = .active ∧ a.mkey ≠ none ∧ a.nextInt < s.mirNow ∧ s.mirConn a.stand a.partner = some 1 ∧
    ((s.conn? 1).any fun x => x.tx.isEmpty) = true ∧ (b.ints.find? fun e => e.1 ≤ b.nextInt && e.2.whole).isSome = true := by
  refine ⟨fun op _ => taken_of _ _ _ _ _ (by decide) (by decide +kernel) (by decide +kernel), ?_⟩
  decide +kernel

theorem wit_CruiseTimersRun :
    let a : Dev := { portUp.wr .port 0 8 (BitVec.ofNat 64 (2 * 2 ^ 48 + 6)) with ports := [(0, { PortLink.reset with hb := true })] }
    let f : Dev := { on with fab := 2 ^ 40 * 65536 }
    let sl (own : Nat) : Dev := { slc own (some (2, 0)) with fab := 2 ^ 40 * 65536 }
    let x : Disclaim := ⟨2, 15, 7, false, 0⟩
    let row : Dev := { on with rowMap := [(on.node, natLe 2 on.node)] }
    on.serving = true ∧ portUp.portActive 0 = true ∧ portUp.downLinks.contains (portUp.node, 0) = false ∧
    ({ portUp with downLinks := [(portUp.node, 0)] } : Dev).downLinks.contains (portUp.node, 0) = true ∧
    (on.rowNodes.filter fun e => nodeRow e.1 == nodeRow on.node && on.nodeLive e.1).head?.map (·.1) = some on.node ∧
    (a.portActive 0 = true ∧ (a.link 0).hb = true ∧ a.peerNode 0 = 2) ∧ (∀ p, p < 16 → ¬ (on.portActive p = true ∧ (on.link p).hb = true)) ∧
    9 ∉ on.failed ∧ on.lookoutOf 9 = on.node ∧ 9 ≠ on.node ∧ 9 ∈ ({ on with failed := [9] } : Dev).failed ∧
    ((sl 3).slice? 1).any (fun s => s.offer == some (2, 0) && s.owner != 2) = true ∧ 0 + (sl 3).fld .cmp 0 0x10 63 48 * 1000000 ≤ (sl 3).now ∧
    (slc 3 (some (2, 0))).now < 0 + (slc 3 (some (2, 0))).fld .cmp 0 0x10 63 48 * 1000000 ∧
    ((sl 2).slice? 1).any (fun s => s.offer == some (2, 0) && s.owner == 2) = true ∧
    ({ f with disclaims := [x] } : Dev).disclaims = [] ++ x :: [] ∧ x.since + f.fld .cmp 0 0x10 63 48 * 1000000 ≤ f.now ∧ row.serving = true := by
  decide +kernel

/-- Slices 0 and 1 of this node, with a definition of slice 15 staged. -/
def slK : Dev := { ((on.wr .cmp 0 (0x100 + 32 * 15) (BitVec.ofNat 64 (2 * 2 ^ 32 + 2 * 2 ^ 16))).wr .cmp 0 (0x108 + 32 * 15) 2) with
  slices := [(0, ⟨0xFFFD, 0xFFFF, 0, on.node, 1, none⟩), (1, ⟨1, 1, 1, on.node, 7, none⟩)] }

theorem wit_SlicesDefinedOfferedAndTaken :
    let w := BitVec.ofNat 64 (2 * 2 ^ 48 + 3 * 2 ^ 32 + 16 + 15)
    let o := on.wr .cmp 0 0x400 w
    on.hostVerdict 0 0x50018 8 true = .ok ∧ slK.hostVerdict 0 (0x50118 + 32 * 15) 8 true = .ok ∧ slK.fld .cmp 0 (0x100 + 32 * 15) 47 32 = 2 ∧
    slK.fld .cmp 0 (0x100 + 32 * 15) 31 16 = 2 ∧ slK.fld .cmp 0 (0x108 + 32 * 15) 31 0 = 2 ∧ 
    (∀ x ∈ slK.slices, x.1 ≠ 0 → x.1 ≠ 15 → x.2.cells &&& 2 = 0 ∧ x.2.ports &&& 2 = 0 ∧ x.2.stands &&& 2 = 0) ∧ slK.owns 0 = true ∧ Tab.has slK.slices 15 = false ∧
    (on.fld .cmp 0 (0x100 + 32 * 15) 47 32 = 0) ∧ on.hostVerdict 0 (0x50118 + 32 * 15) 8 true = .ok ∧
    (slK.slice? 1).any (fun s => s.owner == slK.node && s.offer.isNone) = true ∧ 2 ≠ slK.node ∧ slK.owns 15 = false ∧ slK.owns 1 = true ∧
    (slK.slice? 0).isSome = true ∧ slK.slice? 15 = none ∧
    o.hostVerdict 0 0x50410 8 true = .ok ∧ bitAt w 4 = true ∧ bits w 63 48 ≠ o.node ∧ bitAt (on.rd .cmp 0 0x400) 4 = false := by decide +kernel

/-! ## Faults, patrol, power and voltage -/

/-- A fence request for near-bank unit u of cell c. -/
def fenceV (c u : Nat) : W64 := BitVec.ofNat 64 (3 * 2 ^ 44 + (c * 64 + u) * 2 ^ 32 + 1)

theorem wit_FaultsForcedLatchedFencedAndCleared :
    let u : FUnit := ⟨.nbu, 1023⟩
    let f : Dev := { on with fences := [(u.key, ⟨6, none⟩)] }
    let k : FUnit := ⟨.cell, 15⟩
    let g : Dev := { on with fences := [(k.key, ⟨6, none⟩)], cellRst := [15, 3] }
    let lock := on.setFld .ftm 0 0x10 2 0 2
    on.hostVerdict 0 (0x21200 + 8 * 31) 8 true = .ok ∧ on.hostVerdict 0 (0x21100 + 8 * 31) 8 true = .ok ∧ on.hostVerdict 0 0x20020 8 true = .ok ∧
    WindowOpen (st { on with stands := [(31, { Stand.reset with funcEn := true, key := some 5, ses := .opened })] }) 31 0 0x4020 ∧ on.hostVerdict 0 0x20110 8 true = .ok ∧ fenceTarget (-1) = none ∧ (fenceTarget (fenceV 15 63)).isSome = true ∧
    on.unitFenced u = false ∧ f.unitFenced u = true ∧ on.programsOn 15 (fun x => x == 63) = [] ∧ on.hostVerdict 0 0x20118 8 true = .ok ∧
    Tab.get? on.fences u.key = none ∧ Tab.get? f.fences u.key = some ⟨6, none⟩ ∧ Tab.get? g.fences k.key = some ⟨6, none⟩ ∧ k.idx ∈ g.cellRst ∧
    k.idx ∉ ({ g with cellRst := [] } : Dev).cellRst ∧ g.serving = true ∧ 15 ∈ g.cellRst ∧ 15 ∉ on.cellRst ∧ on.up? = true ∧ on.ftmState = 0 ∧ lock.ftmState = 2 := by
  decide +kernel

/-- A patrol run of kind k, unit u and pattern p on cell 15. -/
def ptl (k u p : Nat) : PtlRun := ⟨15, k, u, p, 0, 0⟩

theorem wit_PatrolRunsAndWatchdogs :
    let q : Dev := { on with ptlQ := [⟨3, 0, 0, 0, 0, 0⟩, ptl 0 0 0] }
    let r : Dev := { on with ptlRun := [(15, ptl 0 0 0)] }
    let b : Dev := { q with ptlRun := [(15, ptl 1 0 0)] }
    let m : Dev := { r with ptlHist := [((ptl 0 0 0).key, [false])] }
    let w : Dev := { on with subs := [(0, { runU with cell := 15 })] }
    on.hostVerdict 0 (0x1080000 + 15 * 0x100000) 8 true = .ok ∧ on.cellPower 15 = 0 ∧ Tab.has on.lpEnter 15 = false ∧
    ptlPatterns 0 ≤ 7 ∧ 0 < ptlPatterns 0 ∧ ptlUnits 0 ≤ 63 ∧ 0 < ptlUnits 0 ∧ bitAt (2 ^ 31 : W64) 31 = true ∧
    q.ptlQ = [⟨3, 0, 0, 0, 0, 0⟩] ++ ptl 0 0 0 :: [] ∧ q.serving = true ∧ Tab.has q.ptlRun 15 = false ∧ q.ptlIdle (ptl 0 0 0) = true ∧ q.halted = false ∧
    Tab.has b.ptlRun 15 = true ∧ Tab.get? r.ptlRun 15 = some (ptl 0 0 0) ∧
    ((false :: Tab.getD r.ptlHist (ptl 0 0 0).key []).take 3).countP (fun x => !x) < 2 ∧
    2 ≤ ((false :: Tab.getD m.ptlHist (ptl 0 0 0).key []).take 3).countP (fun x => !x) ∧ m.unitFenced (ptl 0 0 0).tested = false ∧
    w.subs = [(0, { runU with cell := 15 })] ∧ ({ runU with cell := 15 } : Sub).st = .queued ∧ w.serving = true ∧ on.subs = [] := by decide +kernel

theorem wit_SupplyTemperatureAndVoltage :
    let h : Dev := { on with warn := true, goodRun := 9 }
    let s := on.setOpSt 25 25 1
    let t (x : Nat) : Dev := { on with temps := List.replicate 40 x }
    on.off = false ∧ ({ on with off := true } : Dev).off = true ∧ (37999#32).toNat < 38000 ∧ 38000 ≤ (38000#32).toNat ∧ (41999#32).toNat < 42000 ∧
    42000 ≤ (42500#32).toNat ∧ (42500#32).toNat ≤ 42500 ∧ 42500 < (42501#32).toNat ∧ on.warn = false ∧ h.warn = true ∧ 9 ≤ h.goodRun ∧
    on.thermL = false ∧ ({ on with thermL := true } : Dev).thermL = true ∧ on.up? = true ∧ s.opSt 25 25 = 1 ∧ on.opSt 25 25 ≠ 1 ∧
    (List.replicate 40 (105 : BitVec 8)).length = 40 ∧ on.temps.getD 39 0 < on.warnC ∧ on.warnC ≤ 105 ∧ on.temps.getD 39 0 < 105 ∧
    (t 105).warnC ≤ 105 ∧ (t 5).warnC ≤ 100 ∧ 5 + 5 < (t 5).warnC ∧ on.warnC - 5 < on.warnC ∧ on.warnC ≤ (on.warnC - 5) + 5 := by decide +kernel

theorem wit_Voltage :
    let a (ls : List Nat) (p : Nat) : Dev := { on.setOpSt 1 0 3 with avsWait := ls, avsPoint := p }
    let held := (on.setOpSt 1 0 1).wr .flt 0 0x1090 (2 ^ 22)
    5 ∉ on.avsWait ∧ (a [0, 5] 0).avsWait.erase 5 ≠ [] ∧ 5 ∈ (a [5] 0).avsWait ∧ (a [5] 0).avsWait.erase 5 = [] ∧ (a [5] 0).up? = true ∧
    (a [5] 0).avsPoint < (a [5] 0).curOp ∧ (a [5] 0).avsLate = false ∧ (a [5] 3).curOp ≤ (a [5] 3).avsPoint ∧
    on.avsWait = [] ∧ (on.setOpSt 1 0 1).goalOp < (on.setOpSt 1 0 1).curOp ∧ ¬ bitAt ((on.setOpSt 1 0 1).rd .flt 0 0x1090) 22 = true ∧
    (on.setOpSt 9 8 3).curOp < (on.setOpSt 9 8 3).goalOp ∧ held.goalOp < held.curOp ∧ bitAt (held.rd .flt 0 0x1090) 22 = true ∧ on.goalOp = on.curOp := by
  decide +kernel

/-! ## Low-power states, clocks, boot, resets and management -/

/-- Cell 15 in power state p with every policy on. -/
def cellK (p : Nat) : Dev := (on.wr .pwr 0 0x10 (2 ^ 16 + 2 ^ 32)).setFld .pwr 0 0 31 30 p

/-- A keep-awake vote of stand 31. -/
def kept (d : Dev) : Dev := d.wr .stand 31 0x2078 1

theorem wit_LowPowerStatesAndClocks :
    let off (p : Nat) : Dev := (cellK p).wr .pwr 0 0x10 0
    let ent (n st : Nat) (d : Dev) : Dev := { d with lpEnter := [(n, st)] }
    let m (p : Nat) : Dev := on.setFld .pwr 0 0 35 32 p
    (cellK 0).serving = true ∧ bitAt ((cellK 0).rd .pwr 0 0x10) 16 = true ∧ (cellK 0).cellPower 15 = 0 ∧ (cellK 0).cellBusy 15 = false ∧ (cellK 0).modPower = 0 ∧
    bitAt ((off 0).rd .pwr 0 0x10) 16 = false ∧ bitAt ((cellK 1).rd .pwr 0 0x10) 32 = true ∧ (cellK 1).cellPower 15 = 1 ∧ (cellK 1).cellBusy 15 = false ∧
    (cellK 1).cellRefuser 15 = none ∧ ((kept (cellK 1)).cellRefuser 15).isSome = true ∧ bitAt ((off 1).rd .pwr 0 0x10) 32 = false ∧
    (cellK 1).up? = true ∧ Tab.get? (ent 15 2 (cellK 1)).lpEnter 15 = some 2 ∧ ({ ent 15 2 (cellK 1) with lpEnter := Tab.del [(15, 2)] 15 } : Dev).cellRefuser 15 = none ∧
    (({ ent 15 2 (kept (cellK 1)) with lpEnter := Tab.del [(15, 2)] 15 } : Dev).cellRefuser 15).isSome = true ∧ Tab.get? (cellK 2).lpEnter 15 = none ∧
    (cellK 2).cellPower 15 = 2 ∧ (cellK 3).cellPower 15 = 3 ∧ Tab.get? (ent 16 4 on).lpEnter 16 = some 4 ∧ ((ent 16 4 (kept on)).moduleRefuser 4).isSome = true ∧
    (ent 16 4 on).moduleRefuser 4 = none ∧ (ent 16 3 on).moduleRefuser 3 = none ∧ (m 2).modPower = 2 ∧ (m 3).modPower = 3 ∧ (m 2).up? = true := by
  decide +kernel

theorem wit_Clocks :
    let r := on.setFld .pwr 0 0x8000 3 2 3
    let x : Dev := { on with off := true }
    let s4 : Dev := { x with inS4 := true }
    r.clkReady 3 = true ∧ r.clkReady 2 = true ∧ on.hostVerdict 0 0x30008 8 true = .ok ∧ on.modPower = 0 ∧ on.moduleRefuser 3 = none ∧ on.moduleRefuser 4 = none ∧
    ((kept on).moduleRefuser 3).isSome = true ∧ (on.setFld .pwr 0 0 35 32 3).hostVerdict 0 0x30008 8 true = .ok ∧ (on.setFld .pwr 0 0 35 32 3).modPower = 3 ∧
    x.inS4 = false ∧ x.off = true ∧ s4.inS4 = true ∧ s4.board.mrst = false ∧ on.inS4 = false ∧ on.off = false ∧
    on.hostVerdict 0 (0x38100 + 8 * 18) 8 true = .ok ∧ on.clkAllowed 18 0 = true ∧ on.clkAllowed 18 7 = false ∧ on.hostVerdict 0 0x38008 8 true = .ok := by
  decide +kernel

theorem wit_BootAndModuleResets :
    let boot : Dev := Dev.setFld {} .boot 0 0 3 0 2
    let held (d : Dev) : Dev := { d with board := { d.board with mrst := true } }
    let x : Dev := { on with off := true }
    let w : Dev := { on.setFld .boot 0 0 3 0 2 with warm := true }
    let bad := on.setFld .boot 0 0 8 8 1
    let rk : Dev := { on.setFld .boot 0 0 3 0 4 with fns := [(0, ⟨true, false⟩)] }
    boot.stageOf = 2 ∧ boot.warm = false ∧ boot.off = false ∧ boot.thermL = false ∧ ({ boot with thermL := true } : Dev).thermL = true ∧ on.stageOf ≠ 2 ∧
    on.off = false ∧ x.off = true ∧ x.inS4 = false ∧ on.hostVerdict 0 0x10008 8 true = .ok ∧ on.invHalts = false ∧ on.board.mrst = false ∧ (held on).board.mrst = true ∧
    (held x).off = true ∧ on.stageOf = 3 ∧ on.halted = false ∧ rk.hostVerdict 0 0x10008 8 true = .ok ∧ rk.stageOf ≠ 3 ∧ bad.hostVerdict 0 0x10008 8 true = .ok ∧
    bad.cfgBad = true ∧ on.cfgBad = false ∧ w.up? = true ∧ w.warm = true ∧ on.up? = true ∧ on.warm = false := by decide +kernel

theorem wit_FusesAndRecovery :
    let rk : Dev := { on.setFld .boot 0 0 3 0 4 with fns := [(0, ⟨true, false⟩)] }
    let last := on.setFld .boot 0 0x18 11 8 14
    let burn (b : Burn) : Dev := { on with doing := { on.doing with burn := some b } }
    on.hostVerdict 0 0x10010 8 true = .ok ∧ (3#2).toNat ≠ on.fld .boot 0 0x18 1 0 ∧ (∃ i, i < 4 ∧ i ≠ 3 ∧ bitAt (on.rd .boot 0 0x18) (8 + i) = false) ∧
    (∀ i, i < 4 → i ≠ 0 → ¬ bitAt (last.rd .boot 0 0x18) (8 + i) = false) ∧ on.doing.burn = none ∧ (burn (.svn 64)).doing.burn = some (.svn 64) ∧
    (burn (.revoke 3)).doing.burn = some (.revoke 3) ∧ (∃ i, i < 4 ∧ i ≠ 3 ∧ State.reset.otp.revoked.getLsbD i = false) ∧
    rk.hostVerdict 0 0x10090 8 true = .ok ∧ rk.stageOf = 4 ∧ rk.fnLive 0 = true ∧ rk.fld .boot 0 0x88 22 0 ≤ 4194304 ∧ rk.dma = [] ∧
    on.hostVerdict 0 0x10090 8 true = .ok ∧ on.stageOf ≠ 4 := by decide +kernel

/-- POWER_ON's stops: no image stops the boot at R427's first cause, and dies that answer nothing stop it at discovery. -/
theorem wit_powerOnStops : (∀ d : Dev, d.fwCheck none = 1) ∧ dieCauses [] = List.replicate 40 1 :=
  ⟨fun d => by simp [Dev.fwCheck], by decide +kernel⟩

theorem wit_EndpointResetsAndManagement :
    let x : Dev := { on with off := true }
    let r : Dev := { on with warm := true }
    let p : Dev := { on with board := { on.board with perst := true } }
    let v : Dev := { on with stands := [(31, { Stand.reset with funcEn := true })] }
    let g := on.wr .pwr 0 0x8008 (2 ^ 17)
    let i : Dev := { g with mgmt := { g.mgmt with i3c := some 9 } }
    let s (c : Nat) (y : SpdmState) : Dev := { on with mgmt := { on.mgmt with spdm := [(c, y)] } }
    let e (y : SpdmSes) : Dev := { s 0 .algorithms with mgmt := { (s 0 .algorithms).mgmt with ses := y } }
    x.off = true ∧ ¬ (on.off = true ∨ on.board.mrst = true) ∧ r.resetRuns = true ∧ on.resetRuns = false ∧ 2 ≤ on.stageOf ∧ p.board.perst = true ∧
    on.board.perst = false ∧ (v.std 31).funcEn = true ∧ (on.std 31).funcEn = false ∧ g.i3cUp = true ∧ g.mgmt.i3c = none ∧ (on.wr .pwr 0 0x8008 0).i3cUp = false ∧
    i.mctpUp = true ∧ g.mctpUp = false ∧ i.target 0x3FFF8 = .one ⟨.pwr, 0, 0xFFF8⟩ ∧ on.spdmUp 31 = false ∧ on.spdmUp 0 = true ∧ i.spdmUp 32 = true ∧ v.spdmUp 31 = true ∧
    (s 0 .version).spdmOf 0 = .version ∧ (s 0 .capabilities).spdmOf 0 = .capabilities ∧ (s 0 .algorithms).spdmOf 0 = .algorithms ∧ on.spdmOf 0 ≠ .version ∧
    (e .handshake).mgmt.ses = .handshake ∧ (e .established).mgmt.ses = .established ∧ on.mgmt.ses = .none := by decide +kernel

/-! ## The whole machine -/

theorem wit_StepRunsTheFrontCommand : State.reset.pending = [] ∧ State.reset.d.slew = 0 ∧ State.reset.otp.svn ≤ 64 ∧ State.reset.otp.revoked.getLsbD 0 = false := by
  decide +kernel

/-- The front command runs with the rest of the queue. -/
theorem test_front : (match step { State.reset with pending := [.thermLRelease, .ppsTimeout] } with
    | .next s => decide (s.pending = [.ppsTimeout])
    | _ => false) = true := by decide +kernel

/-- A flash part that holds the signed image, before power-on. -/
def flashed : Dev := { (trust {}) with board := { (trust {}).board with flash := some fwimg } }

theorem wit_BootImageRuns : ∃ b, flashed.board.flash = some b ∧ flashed.fwCheck (some b) = 0 :=
  ⟨fwimg, rfl, fwimg_check _ (by decide +kernel) (by decide +kernel) (by decide +kernel) rfl (by decide +kernel) (by decide +kernel)⟩

/-! ## Well-formed and ill-formed commands: for each check a term that it admits and one that it refuses -/

theorem test_wf_size : (Instr.registerWrite 0 0 8 5).wellFormed = true ∧ (Instr.registerWrite 0 0 3 5).wellFormed = true ∧
    (Instr.registerWrite 0 0 0 5).wellFormed = false ∧ (Instr.registerWrite 0 0 9 5).wellFormed = false := by decide +kernel

theorem test_wf_alias : (Instr.aliasWrite 0 0x2000000 4 1).wellFormed = true ∧ (Instr.aliasWrite 0 0x1F90008 8 1).wellFormed = true ∧
    (Instr.aliasWrite 0 0x1F90400 8 1).wellFormed = false ∧ (Instr.aliasWrite 0 0x2500000 8 1).wellFormed = false ∧
    (Instr.aliasWrite 0 0x2000000 9 1).wellFormed = false := by decide +kernel

theorem test_wf_entry : (Instr.profile 1 (ent 16 7 9 [])).wellFormed = true ∧ (Instr.profile 1 (ent 16 7 9 [1])).wellFormed = false ∧
    (Instr.qrec 1 (ent 33 0 0 (List.replicate 33 0))).wellFormed = true ∧ (Instr.qrec 1 (ent 33 0 0 (List.replicate 32 0))).wellFormed = false := by
  decide +kernel

theorem test_wf_aperture : (Instr.kvApertureAccess 1 false 0xFF0 16 [] false).wellFormed = true ∧
    (Instr.kvApertureAccess 1 true 0xFFF 1 [7] false).wellFormed = true ∧ (Instr.kvApertureAccess 1 false 0 0 [] false).wellFormed = false ∧
    (Instr.kvApertureAccess 1 false 0xFF1 16 [] false).wellFormed = false ∧ (Instr.kvApertureAccess 1 false 0 1 [7] false).wellFormed = false ∧
    (Instr.kvApertureAccess 1 true 0 2 [7] false).wellFormed = false := by decide +kernel

theorem test_wf_payload (p : Fin 16) (r : Route) (h : ReqHdr) (c : CruiseHdr) (m : MirHdr) (x : BitVec 32) :
    (Instr.put p r h (List.replicate 4096 0) x).wellFormed = true ∧ (Instr.put p r h (List.replicate 4097 0) x).wellFormed = false ∧
    (Instr.hello p r h c (List.replicate 4080 0) x).wellFormed = true ∧ (Instr.hello p r h c (List.replicate 4081 0) x).wellFormed = false ∧
    (Instr.tokens p r h m (List.replicate 4064 0) x).wellFormed = true ∧ (Instr.tokens p r h m (List.replicate 4065 0) x).wellFormed = false := by
  simp only [Instr.wellFormed, wfPayload, maxPayload, List.length_replicate]
  decide

theorem test_wf_lengths : (Instr.portTrained 3 9 1 (List.replicate 16 0)).wellFormed = true ∧ (Instr.portTrained 3 9 1 [0]).wellFormed = false ∧
    (Instr.tempSample (List.replicate 40 60)).wellFormed = true ∧ (Instr.tempSample (List.replicate 41 60)).wellFormed = false ∧
    (Instr.powerOn 0 (List.replicate 40 none)).wellFormed = true ∧ (Instr.powerOn 0 []).wellFormed = false := by decide +kernel

theorem test_wf_link : (Instr.perstLRelease 6 16 true).wellFormed = true ∧ (Instr.perstLRelease 0 16 true).wellFormed = false ∧
    (Instr.perstLRelease 7 16 true).wellFormed = false ∧ (Instr.pcieHotReset 5 0 false).wellFormed = false ∧ (Instr.pcieHotReset 5 17 false).wellFormed = false := by
  decide +kernel

theorem test_wf_scrub : (Instr.dirScrubPass [3, 4]).wellFormed = true ∧ (Instr.dirScrubPass [3, 4, 3]).wellFormed = false := by decide +kernel

end Sys2Proof.Tests
end

/-!
PROOFS. Register writes of the host (00 R6 to R15; 03 R101 to R108): what a written value makes of a field, a register and the
device, and the statements O28 to O30.
-/
namespace Sys2Proof

/-! ## Words and masks -/

/-- A field of one bit is that bit. -/
theorem bits_single (w : W64) (k : Nat) : bits w k k = (w.getLsbD k).toNat := by
  rw [bits_eq, show k + 1 - k = 1 by omega, pow_one, BitVec.getLsbD, Nat.toNat_testBit]

/-- A bit outside a field that is put into a word stays. -/
theorem getLsbD_putBits_outside (w : W64) {hi lo k : Nat} (v : Nat) (h : lo ≤ hi) (h64 : hi < 64) (hk : k < lo ∨ hi < k) :
    (putBits w hi lo v).getLsbD k = w.getLsbD k := by
  have e := bits_putBits_other w hi lo v k k h h64 hk le_rfl
  rw [bits_single, bits_single] at e
  exact (by decide : ∀ a b : Bool, a.toNat = b.toNat → a = b) _ _ e

namespace Machine

theorem testBit_bitsMask (l : List Nat) (i : Nat) : (bitsMask l).testBit i = decide (i ∈ l) := by
  induction l with
  | nil => simp [bitsMask]
  | cons a r ih => simp [bitsMask, ih, Nat.testBit_two_pow, eq_comm]

/-- The mask of all bits of a field. -/
theorem bitsMask_range (n : Nat) : bitsMask (List.range n) = 2 ^ n - 1 :=
  Nat.eq_of_testBit_eq fun i => by rw [testBit_bitsMask, Nat.testBit_two_pow_sub_one]; simp

/-- The mask of all bits of a field takes nothing from the field. -/
theorem bits_and_bitsMask_range (w : W64) (hi lo : Nat) :
    bits w hi lo &&& bitsMask (List.range (hi + 1 - lo)) = bits w hi lo := by
  rw [bitsMask_range, Nat.and_two_pow_sub_one_eq_mod, Nat.mod_eq_of_lt (bits_lt w hi lo)]

/-! ## One field written (00 R6, R7, R15) -/

/-- The field lies in a 64-bit register. -/
abbrev RegField.InWord (f : RegField) : Prop := f.lo ≤ f.hi ∧ f.hi < 64

/-- The field's bits are none of another's. -/
abbrev RegField.Apart (f g : RegField) : Prop := f.hi < g.lo ∨ g.hi < f.lo

/-- The access carries every bit of the field. -/
abbrev RegField.Carried (f : RegField) (lane : Nat × Nat) : Prop := lane.1 ≤ f.lo ∧ f.hi < lane.1 + lane.2

/-- A write keeps the word or puts a value into the field. -/
theorem RegField.write_cases (f : RegField) (lockOpen : Bool) (lane : Nat × Nat) (v w : W64) :
    f.write lockOpen lane v w = w ∨ ∃ x, f.write lockOpen lane v w = putBits w f.hi f.lo x := by
  unfold RegField.write
  dsimp only
  split
  · exact .inl rfl
  · cases f.acc with
    | ro => exact .inl rfl
    | wo => exact .inl rfl
    | w1c => exact .inr ⟨_, rfl⟩
    | rw => exact .inr ⟨_, rfl⟩
    | rwl =>
      cases lockOpen with
      | true => exact .inr ⟨_, rfl⟩
      | false => exact .inl rfl

/-- A write of one field leaves every field apart from it. -/
theorem RegField.bits_write_apart {f g : RegField} (hf : f.InWord) (hg : g.InWord) (h : f.Apart g) (lockOpen : Bool)
    (lane : Nat × Nat) (v w : W64) : bits (f.write lockOpen lane v w) g.hi g.lo = bits w g.hi g.lo := by
  rcases f.write_cases lockOpen lane v w with e | ⟨x, e⟩ <;> rw [e]
  exact bits_putBits_other w _ _ x _ _ hf.1 hf.2 h.symm hg.1

/-- A write of one field leaves every bit outside it. -/
theorem RegField.getLsbD_write_outside {f : RegField} (hf : f.InWord) {k : Nat} (hk : k < f.lo ∨ f.hi < k) (lockOpen : Bool)
    (lane : Nat × Nat) (v w : W64) : (f.write lockOpen lane v w).getLsbD k = w.getLsbD k := by
  rcases f.write_cases lockOpen lane v w with e | ⟨x, e⟩ <;> rw [e]
  exact getLsbD_putBits_outside w x hf.1 hf.2 hk

/-- What a write makes of a field follows from the field alone. -/
theorem RegField.bits_write_congr {f : RegField} (hf : f.InWord) (lockOpen : Bool) (lane : Nat × Nat) (v : W64) {w w' : W64}
    (h : bits w' f.hi f.lo = bits w f.hi f.lo) :
    bits (f.write lockOpen lane v w') f.hi f.lo = bits (f.write lockOpen lane v w) f.hi f.lo := by
  have put (x : Nat) : bits (putBits w' f.hi f.lo x) f.hi f.lo = bits (putBits w f.hi f.lo x) f.hi f.lo := by
    rw [bits_putBits_self _ _ _ _ hf.1 hf.2, bits_putBits_self _ _ _ _ hf.1 hf.2]
  unfold RegField.write
  dsimp only
  rw [h]
  split
  · exact h
  · cases f.acc with
    | ro => exact h
    | wo => exact h
    | w1c => exact put _
    | rw => exact put _
    | rwl =>
      cases lockOpen with
      | true => exact put _
      | false => exact h

theorem RegField.write_ro {f : RegField} (h : f.acc = .ro) (lockOpen : Bool) (lane : Nat × Nat) (v w : W64) :
    f.write lockOpen lane v w = w := by
  simp [RegField.write, h]

theorem RegField.write_locked {f : RegField} (h : f.acc = .rwl) (lane : Nat × Nat) (v w : W64) :
    f.write false lane v w = w := by
  simp [RegField.write, h]

/-- A field that the access does not carry stays (00 R15). -/
theorem RegField.write_not_carried {f : RegField} {lane : Nat × Nat} (h : f.hi < lane.1 ∨ lane.1 + lane.2 ≤ f.lo) (lockOpen : Bool)
    (v w : W64) : f.write lockOpen lane v w = w := by
  have e : ((List.range (f.hi + 1 - f.lo)).filter fun i => lane.1 ≤ f.lo + i && f.lo + i < lane.1 + lane.2) = [] := by
    simp only [List.filter_eq_nil_iff, List.mem_range, Bool.and_eq_true, decide_eq_true_eq]
    omega
  simp [RegField.write, e]

/-- The bits of a field that an access carries wholly are all its bits. -/
theorem RegField.carried_bits {f : RegField} {lane : Nat × Nat} (h : f.Carried lane) :
    ((List.range (f.hi + 1 - f.lo)).filter fun i => lane.1 ≤ f.lo + i && f.lo + i < lane.1 + lane.2) =
      List.range (f.hi + 1 - f.lo) := by
  simp only [List.filter_eq_self, List.mem_range, Bool.and_eq_true, decide_eq_true_eq]
  omega

section
variable {f : RegField} {lane : Nat × Nat} (hf : f.InWord) (hc : f.Carried lane)
include hf hc

theorem RegField.write_w1c_carried (h : f.acc = .w1c) (lockOpen : Bool) (v w : W64) :
    f.write lockOpen lane v w = putBits w f.hi f.lo (bits w f.hi f.lo - (bits w f.hi f.lo &&& bits v f.hi f.lo)) := by
  have hn : f.hi + 1 - f.lo ≠ 0 := by omega
  simp [RegField.write, carried_bits hc, hn, h, bits_and_bitsMask_range]

theorem RegField.write_rw_carried {lockOpen : Bool} (h : f.acc = .rw ∨ f.acc = .rwl ∧ lockOpen = true) (v w : W64) :
    f.write lockOpen lane v w = putBits w f.hi f.lo (f.fix.apply (bits w f.hi f.lo) (bits v f.hi f.lo)) := by
  have hn : f.hi + 1 - f.lo ≠ 0 := by omega
  rcases h with h | ⟨h, rfl⟩ <;> simp [RegField.write, carried_bits hc, hn, h, bits_and_bitsMask_range]

end

/-! ## A register written: all its fields -/

/-- The fields of a row lie in the word, each apart from the others. -/
abbrev RegRow.FieldsApart (r : RegRow) : Prop := (∀ f ∈ r.fields, f.InWord) ∧ r.fields.Pairwise RegField.Apart

theorem rowsOf_fieldsApart (b : Blk) : ∀ r ∈ rowsOf b, r.FieldsApart := by
  cases b <;> decide +kernel

theorem findRow_fieldsApart {b : Blk} {o : Nat} {r : RegRow} (h : findRow b o = some r) : r.FieldsApart :=
  rowsOf_fieldsApart b r (List.mem_of_find?_eq_some h)

/-- Fields written one after the other leave a field apart from them all. -/
theorem bits_foldl_write_apart {fs : List RegField} {g : RegField} (hg : g.InWord) (h : ∀ f ∈ fs, f.InWord ∧ f.Apart g)
    (lockOpen : Bool) (lane : Nat × Nat) (v w : W64) :
    bits (fs.foldl (fun w f => f.write lockOpen lane v w) w) g.hi g.lo = bits w g.hi g.lo :=
  List.foldlRecOn (motive := fun x => bits x g.hi g.lo = bits w g.hi g.lo) fs _ rfl fun x hx f hf =>
    (RegField.bits_write_apart (h f hf).1 hg (h f hf).2 lockOpen lane v x).trans hx

/-- A write of a register makes of each field what the field's own write makes of it. -/
theorem RegRow.bits_write {r : RegRow} (hr : r.FieldsApart) {f : RegField} (hf : f ∈ r.fields) (lockOpen : Bool)
    (lane : Nat × Nat) (v w : W64) :
    bits (r.write lockOpen lane v w) f.hi f.lo = bits (f.write lockOpen lane v w) f.hi f.lo := by
  obtain ⟨hw, hp⟩ := hr
  obtain ⟨before, after, e⟩ := List.append_of_mem hf
  rw [e] at hw hp
  obtain ⟨-, hafter, hbefore⟩ := List.pairwise_append.1 hp
  have hfw : f.InWord := hw f (by simp)
  have h1 : bits (before.foldl (fun w f => f.write lockOpen lane v w) w) f.hi f.lo = bits w f.hi f.lo :=
    bits_foldl_write_apart hfw (fun g hg => ⟨hw g (by simp [hg]), hbefore g hg f (by simp)⟩) lockOpen lane v w
  rw [RegRow.write, e, List.foldl_append, List.foldl_cons,
    bits_foldl_write_apart hfw (fun g hg => ⟨hw g (by simp [hg]), ((List.pairwise_cons.1 hafter).1 g hg).symm⟩)]
  exact RegField.bits_write_congr hfw lockOpen lane v h1

/-- A write of a register leaves its reserved bits (00 R12). -/
theorem RegRow.getLsbD_write_reserved {r : RegRow} (hr : r.FieldsApart) {k : Nat} (hk : ∀ f ∈ r.fields, k < f.lo ∨ f.hi < k)
    (lockOpen : Bool) (lane : Nat × Nat) (v w : W64) : (r.write lockOpen lane v w).getLsbD k = w.getLsbD k :=
  List.foldlRecOn (motive := fun x => x.getLsbD k = w.getLsbD k) r.fields _ rfl fun x hx f hf =>
    (RegField.getLsbD_write_outside (hr.1 f hf) (hk f hf) lockOpen lane v x).trans hx

/-- With the lock closed a write of a register leaves its RWL fields (00 R7). -/
theorem RegRow.bits_write_locked {r : RegRow} (hr : r.FieldsApart) {f : RegField} (hf : f ∈ r.fields) (ha : f.acc = .rwl)
    (lane : Nat × Nat) (v w : W64) : bits (r.write false lane v w) f.hi f.lo = bits w f.hi f.lo := by
  rw [RegRow.bits_write hr hf, RegField.write_locked ha]

theorem rowsOf_rwl (b : Blk) : ∀ r ∈ rowsOf b, ∀ f ∈ r.fields, f.acc = .rwl →
    r.count = 1 ∧ (b = .glb ∧ r.off = 0x18 ∨ b = .cell ∧ r.off = 0x60800) := by
  cases b <;> decide +kernel

/-- A row of one register lies at one offset. -/
theorem RegRow.covers_one {r : RegRow} {o : Nat} (h1 : r.count = 1) (h : r.covers o = true) : o = r.off := by
  simp only [RegRow.covers, Bool.and_eq_true, decide_eq_true_eq, beq_iff_eq, h1, Nat.lt_one_iff] at h
  obtain ⟨⟨hle, hmod⟩, hdiv⟩ := h
  have := Nat.div_add_mod (o - r.off) r.stride
  rw [hdiv, hmod] at this
  omega

/-- The registers with an RWL field are GLB_LOCK and TIE_SVC_RES. -/
theorem rwl_places {b : Blk} {o : Nat} {r : RegRow} {f : RegField} (h : findRow b o = some r) (hf : f ∈ r.fields)
    (ha : f.acc = .rwl) : b = .glb ∧ o = 0x18 ∨ b = .cell ∧ o = 0x60800 := by
  obtain ⟨h1, hp⟩ := rowsOf_rwl b r (List.mem_of_find?_eq_some h) f hf ha
  rwa [RegRow.covers_one h1 (List.find?_some (p := fun r : RegRow => r.covers o) h)]

/-! ## Places of the map (17 Table 8; 03 Table 10) -/

/-- Where the target of an offset can lie: a single register in a block that stands once, in the window of a stand, a port or a
scheduler, or in a cell's; a broadcast to cells, at a place of their windows. -/
def BusTarget.InMap (off : Nat) : BusTarget → Prop
  | .one l => (off < 0x80000 ∧ l.inst = 0) ∨ l.blk = .stand ∨ l.blk = .port ∨ l.blk = .sch ∨ ∃ c o, c < 16 ∧ l = cellLoc c o
  | .spread .none _ o => o < 0x100000
  | .spread (.some _) _ _ => True
  | .none => True

theorem Dev.target_inMap (d : Dev) (off : Nat) : (d.target off).InMap off := by
  unfold Dev.target
  dsimp only
  rcases Nat.lt_or_ge (off / 8 * 8) 0x80000 with h | h
  · rw [if_pos h]
    split
    · exact Or.inl ⟨by omega, rfl⟩
    · exact True.intro
  rw [if_neg (Nat.not_lt.2 h)]
  split
  · exact True.intro
  split
  · exact Or.inr (.inl rfl)
  split
  · exact True.intro
  split
  · refine Or.inr (.inr (.inl ?_))
    split <;> rfl
  split
  · exact True.intro
  split
  · exact Or.inr (.inr (.inr (.inl rfl)))
  split
  · exact True.intro
  split
  · split
    · exact True.intro
    · exact Or.inr (.inr (.inr (.inr ⟨_, _, by omega, rfl⟩)))
  split
  · exact Nat.mod_lt _ (by decide)
  split
  · exact Nat.mod_lt _ (by decide)
  · exact True.intro

/-- A unicast window is one of 16 cells'. -/
theorem uniCell_lt {off c : Nat} (h : uniCell off = some c) : c < 16 := by
  unfold uniCell at h
  split at h
  · cases h
    omega
  · cases h

/-! ## Accepted accesses (03 Table 8) -/

/-- An access of a stand that is accepted gets the verdict on what it reaches, and so does the other kind of access where the
stand owns the place for both. -/
theorem Dev.verdict_of_ok {d : Dev} {s off size : Nat} {o w : Bool} (w' : Bool) (h : d.verdict s o off size w = .ok)
    (ho : notOwner s off w' = notOwner s off w) : d.verdict s o off size w' = d.reachVerdict s off size w' := by
  unfold Dev.verdict at h ⊢
  rw [ho]
  split_ifs at h ⊢
  rfl

theorem Dev.verdict_ok_owner {d : Dev} {s off size : Nat} {o w : Bool} (h : d.verdict s o off size w = .ok) :
    notOwner s off w = false := by
  unfold Dev.verdict at h
  split_ifs at h with h1 h2 h3
  simpa using h2

/-- Where an access of the host is accepted, function 0 reaches a page that needs no session, or Table 8 has the say. -/
theorem Dev.hostVerdict_ok_cases {d : Dev} {fn off size : Nat} {w : Bool} (h : d.hostVerdict fn off size w = .ok) :
    (fn = 0 ∧ ∀ w', d.hostVerdict fn off size w' = d.reachVerdict 0 (pfOff fn off) size w') ∨
    ∀ w', d.hostVerdict fn off size w' = d.verdict fn (d.sesOpen fn) (pfOff fn off) size w' := by
  unfold Dev.hostVerdict at h ⊢
  dsimp only at h ⊢
  split_ifs at h ⊢ with _ _ _ halted boot _ cfgBad free
  · obtain ⟨-, -, -, h0, -⟩ := halted
    exact .inl ⟨h0, fun _ => rfl⟩
  · exact .inl ⟨boot.1, fun _ => rfl⟩
  · exact .inl ⟨free.1, fun _ => rfl⟩
  · exact .inr fun _ => rfl

theorem Dev.hostVerdict_of_ok {d : Dev} {fn off size : Nat} {w : Bool} (w' : Bool) (h : d.hostVerdict fn off size w = .ok)
    (ho : notOwner fn (pfOff fn off) w' = notOwner fn (pfOff fn off) w) :
    d.hostVerdict fn off size w' = d.reachVerdict fn (pfOff fn off) size w' := by
  rcases Dev.hostVerdict_ok_cases h with ⟨rfl, e⟩ | e
  · exact e w'
  · exact (e w').trans (Dev.verdict_of_ok w' ((e w).symm.trans h) ho)

/-- A virtual function whose access is accepted owns the place. -/
theorem Dev.hostVerdict_ok_owner {d : Dev} {fn off size : Nat} {w : Bool} (h : d.hostVerdict fn off size w = .ok) (h0 : fn ≠ 0) :
    notOwner fn (pfOff fn off) w = false := by
  rcases Dev.hostVerdict_ok_cases h with ⟨h0', -⟩ | e
  · exact absurd h0' h0
  · exact Dev.verdict_ok_owner ((e w).symm.trans h)

/-- A write that is accepted finds the lock open, and is stand 0's, when it carries a bit of an RWL field (00 R7). -/
theorem Dev.lockOpen_of_reach {d : Dev} {s off size : Nat} {l : Loc} {r : RegRow} {f : RegField}
    (h : d.reachVerdict s off size true = .ok) (ht : d.target off = .one l) (hr : findRow l.blk l.off = some r)
    (hf : f ∈ r.fields) (ha : f.acc = .rwl) (hin : f.lo < (laneOf off size).1 + (laneOf off size).2 ∧ (laneOf off size).1 ≤ f.hi) :
    (!d.lock && s == 0) = true := by
  have hl : r.lockedIn (laneOf off size) = true := List.any_eq_true.2 ⟨f, hf, by simp [ha, hin]⟩
  simp only [Dev.reachVerdict, ht, hr, hl] at h
  split_ifs at h with _ closed
  simpa using closed

/-- A write of a GLB, DIR or HIF register has no step but its access codes. -/
theorem Dev.regWrite_codes {d : Dev} {s : Nat} {l : Loc} {lane : Nat × Nat} {v : W64} {r : RegRow}
    (hb : l.blk = .glb ∨ l.blk = .dir ∨ l.blk = .hif) (hr : findRow l.blk l.off = some r) :
    d.regWrite s l lane v = d.store s l r lane v := by
  rcases hb with hb | hb | hb <;> rw [hb] at hr <;> simp only [Dev.regWrite, hb, hr]

/-- An ordinary register of a cell window has no step but its access codes. -/
theorem Dev.regWrite_cell {d : Dev} {s c o : Nat} {lane : Nat × Nat} {v : W64} {r : RegRow} (hr : findRow .cell o = some r)
    (ho : o < 0x60800 ∨ 0x61000 ≤ o) (hp : o ≠ 0x80000) :
    d.regWrite s ⟨.cell, c, o⟩ lane v = d.store s ⟨.cell, c, o⟩ r lane v := by
  simp only [Dev.regWrite, hr, Dev.writeCell]
  rw [if_neg (by omega), if_neg (by omega), if_neg hp]

/-- With the lock closed a write of a register leaves its RWL fields, whatever else it does (00 R7). -/
theorem Dev.bits_regWrite_locked {d : Dev} (s : Nat) {l : Loc} (lane : Nat × Nat) (v : W64) {r : RegRow} {f : RegField}
    (hl : d.lock = true) (hr : findRow l.blk l.off = some r) (hf : f ∈ r.fields) (ha : f.acc = .rwl) :
    bits ((d.regWrite s l lane v).rd l.blk l.inst l.off) f.hi f.lo = bits (d.rd l.blk l.inst l.off) f.hi f.lo := by
  rcases rwl_places hr hf ha with ⟨hb, -⟩ | ⟨hb, ho⟩
  · rw [Dev.regWrite_codes (.inl hb) hr, Dev.store, Dev.rd_wr_self, hl]
    exact RegRow.bits_write_locked (findRow_fieldsApart hr) hf ha lane v _
  · have keep : d.regWrite s l lane v = d := by
      rw [hb, ho] at hr
      simp [Dev.regWrite, hb, hr, Dev.writeCell, ho, Dev.writeSvcRes, hl]
    rw [keep]

/-! ## What a demand and a violation leave (15 R754; 03 R102) -/

/-- A demand on a cell changes registers of the PWR block alone. -/
theorem Dev.rd_demand (d : Dev) {c : Nat} (hc : c < 16) {b : Blk} {i o : Nat}
    (h : Loc.addr ⟨b, i, o⟩ < 0x30000 ∨ 0x40000 ≤ Loc.addr ⟨b, i, o⟩) : (d.demand c).rd b i o = d.rd b i o := by
  have pwr (e : Dev) {n : Nat} (v : W64) (hn : n < 0x10000) : (e.wr .pwr 0 n v).rd b i o = e.rd b i o :=
    Dev.rd_wr_ne e _ _ _ _ _ _ v (by simp only [Loc.addr, Blk.base, Blk.size] at h ⊢; omega)
  unfold Dev.demand
  split
  · simp [Dev.setCellPower, Dev.refuseLp, Dev.setFld, Dev.incSat, pwr]
    rfl
  · split
    · rfl
    · simp only [Dev.setCellPower, Dev.domains, Dev.setFld, List.range_succ, List.range_zero, List.nil_append, List.cons_append,
        List.foldl_cons, List.foldl_nil]
      rw [pwr _ _ (by omega), pwr _ _ (by omega), pwr _ _ (by omega)]

/-- A violation changes registers of its stand's window alone. -/
theorem Dev.rd_violate (d : Dev) (s kind space : Nat) (write : Bool) (off : Nat) {b : Blk} {i o : Nat}
    (h : Loc.addr ⟨b, i, o⟩ < 0x100000 + s * 0x10000 ∨ 0x110000 + s * 0x10000 ≤ Loc.addr ⟨b, i, o⟩) :
    (d.violate s kind space write off).rd b i o = d.rd b i o := by
  have std (e : Dev) {n : Nat} (v : W64) (hn : n < 0x10000) : (e.wr .stand s n v).rd b i o = e.rd b i o :=
    Dev.rd_wr_ne e _ _ _ _ _ _ v (by simp only [Loc.addr, Blk.base, Blk.size] at h ⊢; omega)
  simp [Dev.violate, Dev.incSat, Dev.setFld, std]

/-! ## What the commands of register writes give -/

theorem GivesLater.of_eq {s : State} {c : Instr} {d d' : Dev} (h : GivesLater s c d) (e : d = d') : GivesLater s c d' := e ▸ h

theorem registerWrite_gives (s : State) (fn : Fin 32) (off : BitVec 26) (size : BitVec 4) (v : W64) :
    GivesLater s (.registerWrite fn off size v) (s.d.busWrite fn off.toNat size.toNat v) := rfl

theorem glbLockWrite_gives (s : State) (fn : Fin 32) (v : W64) :
    GivesLater s (.glbLockWrite fn v) (s.d.busWrite fn 0x18 8 v) := rfl

theorem aliasWrite_gives (s : State) (fn : Fin 32) (off : BitVec 26) (size : BitVec 4) (v : W64) :
    GivesLater s (.aliasWrite fn off size v) (s.d.busWrite fn off.toNat size.toNat v) := rfl

/-- What a refused write of the host changes: the count and the log of the stand (03 R102). -/
theorem Dev.violate_bar0 (d : Dev) (s k : Nat) {off : Nat} (h : off < 2 ^ 48) :
    d.violate s k spBar0 true off =
      (d.incSat .stand s 0x200 31 0 1).wr .stand s 0x208 (BitVec.ofNat 64 (k * 2 ^ 52 + 2 ^ 48 + off)) := by
  simp only [Dev.violate, spBar0, Nat.zero_mul, Nat.add_zero, if_true, Nat.mod_eq_of_lt h]

/-- An accepted write of a register of the GLB, DIR or HIF block. -/
theorem Dev.busWrite_codes {d : Dev} {fn off size : Nat} (v : W64) {l : Loc} {r : RegRow}
    (h : d.hostVerdict fn off size true = .ok) (ht : d.target (pfOff fn off) = .one l)
    (hb : l.blk = .glb ∨ l.blk = .dir ∨ l.blk = .hif) (hr : findRow l.blk l.off = some r) :
    d.busWrite fn off size v =
      d.store fn l r (laneOf (pfOff fn off) size) (busWord (pfOff fn off) size v) := by
  have hlow : pfOff fn off < 0x80000 := by
    have := d.target_inMap (pfOff fn off)
    rw [ht] at this
    rcases this with ⟨h, -⟩ | h | h | h | ⟨c, o, -, h⟩
    · exact h
    · simp [h] at hb
    · simp [h] at hb
    · simp [h] at hb
    · rw [h, cellLoc] at hb
      split at hb <;> simp at hb
  have hu : uniCell (pfOff fn off) = none := if_neg (by omega)
  rw [Dev.busWrite_ok v h]
  simp only [Dev.doWrite, ht, hu]
  exact Dev.regWrite_codes hb hr

/-- Settles O28: the new word is the row's write of the old one, so each field is what its own write makes of it. -/
theorem registerWriteByAccessCodes : Obligations.RegisterWriteByAccessCodes := by
  intro s fn off size v
  refine ⟨fun b i o r hok ht hb hr => ?_, fun k hv => ?_, fun hz => ?_⟩
  · have hr' := findRow_fieldsApart hr
    have reach := Dev.hostVerdict_of_ok true hok rfl
    rw [hok] at reach
    refine ⟨_, (registerWrite_gives s fn off size v).of_eq (Dev.busWrite_codes v hok ht hb hr),
      fun f hf => ?_, fun k hk => RegRow.getLsbD_write_reserved hr' hk _ _ _ _⟩
    have hw := hr'.1 f hf
    rw [RegRow.bits_write hr' hf]
    refine ⟨fun ha => ?_, fun hn => ?_, fun ha hc => ?_, fun ha hc => ?_, fun ha hc => ?_⟩
    · rw [RegField.write_ro ha]
    · rw [RegField.write_not_carried hn]
    · rw [RegField.write_rw_carried hw hc (.inl ha), bits_putBits_self _ _ _ _ hw.1 hw.2]
    · have hl := Dev.lockOpen_of_reach reach.symm ht hr hf ha ⟨by omega, by omega⟩
      rw [RegField.write_rw_carried hw hc (.inr ⟨ha, hl⟩), bits_putBits_self _ _ _ _ hw.1 hw.2]
    · rw [RegField.write_w1c_carried hw hc ha, bits_putBits_self _ _ _ _ hw.1 hw.2,
        Nat.mod_eq_of_lt (lt_of_le_of_lt (Nat.sub_le _ _) (bits_lt _ _ _))]
  · exact (registerWrite_gives s fn off size v).of_eq
      ((Dev.busWrite_viol v hv).trans (Dev.violate_bar0 s.d fn k (by omega)))
  · exact (registerWrite_gives s fn off size v).of_eq (Dev.busWrite_zero v hz)

/-! ## Writes with the lock closed (00 R7) -/

/-- The registers with an RWL field that an offset reaches lie at two addresses of the map. -/
theorem Dev.rwl_addr {d : Dev} {off : Nat} {l : Loc} {r : RegRow} {f : RegField} (ht : d.target off = .one l)
    (hr : findRow l.blk l.off = some r) (hf : f ∈ r.fields) (ha : f.acc = .rwl) : l.addr = 0x18 ∨ l.addr = 0x1060800 := by
  have hm := d.target_inMap off
  rw [ht] at hm
  obtain ⟨b, i, o⟩ := l
  rcases rwl_places hr hf ha with ⟨hb, ho⟩ | ⟨hb, ho⟩ <;> dsimp only at hb ho <;> subst hb ho
  · rcases hm with ⟨-, rfl⟩ | h | h | h | ⟨c, o, -, h⟩
    · exact .inl rfl
    · cases h
    · cases h
    · cases h
    · rw [cellLoc] at h
      split at h <;> cases h
  · rcases hm with ⟨-, rfl⟩ | h | h | h | ⟨c, o, -, h⟩
    · exact .inr rfl
    · cases h
    · cases h
    · cases h
    · rw [cellLoc] at h
      split at h
      · cases h
        exact .inr rfl
      · cases h
        omega

theorem Dev.lock_demand (d : Dev) {c : Nat} (hc : c < 16) : (d.demand c).lock = d.lock := by
  rw [Dev.lock, Dev.lock, d.rd_demand hc (.inl (by decide))]

/-- With the lock closed a write of the host leaves the RWL fields of the register that its offset reaches. -/
theorem Dev.bits_busWrite_locked {d : Dev} {fn : Nat} (hfn : fn < 32) {off : Nat} (size : Nat) (v : W64) {l : Loc} {r : RegRow}
    {f : RegField} (hl : d.lock = true) (ht : d.target (pfOff fn off) = .one l) (hr : findRow l.blk l.off = some r)
    (hf : f ∈ r.fields) (ha : f.acc = .rwl) :
    bits ((d.busWrite fn off size v).rd l.blk l.inst l.off) f.hi f.lo = bits (d.rd l.blk l.inst l.off) f.hi f.lo := by
  have haddr : Loc.addr ⟨l.blk, l.inst, l.off⟩ = 0x18 ∨ Loc.addr ⟨l.blk, l.inst, l.off⟩ = 0x1060800 := Dev.rwl_addr ht hr hf ha
  cases hv : d.hostVerdict fn off size true with
  | ok =>
    rw [Dev.busWrite_ok v hv]
    simp only [Dev.doWrite, ht]
    split
    · next c hc =>
      have hc16 := uniCell_lt hc
      rw [Dev.bits_regWrite_locked fn _ _ ((d.lock_demand hc16).trans hl) hr hf ha, d.rd_demand hc16 (by omega)]
    · exact Dev.bits_regWrite_locked fn _ _ hl hr hf ha
  | zero => rw [Dev.busWrite_zero v hv]
  | viol k => rw [Dev.busWrite_viol v hv, d.rd_violate fn k spBar0 true off (by omega)]

/-- Settles O29: two registers have an RWL field; the first ignores it by its access code, the second has a step that does. -/
theorem lockedFieldsIgnoreWrites : Obligations.LockedFieldsIgnoreWrites :=
  ⟨fun _ st _ lane v _ _ hl hr hf ha => Dev.bits_regWrite_locked st lane v hl hr hf ha,
    fun s fn off size v _ _ _ hl ht hr hf ha =>
      ⟨_, registerWrite_gives s fn off size v, Dev.bits_busWrite_locked fn.isLt size.toNat v hl ht hr hf ha⟩⟩

/-! ## GLB_LOCK (00 R7) -/

theorem target_lock (d : Dev) : d.target 0x18 = .one ⟨.glb, 0, 0x18⟩ := rfl

/-- The row of GLB_LOCK. -/
def lockRow : RegRow := ⟨0x18, 1, 0x8, [⟨0, 0, .rwl, 0, .id⟩]⟩

theorem findRow_lock : findRow .glb 0x18 = some lockRow := by decide +kernel

/-- With the lock open a write of GLB_LOCK makes of LOCK the value's lowest bit. -/
theorem lockRow_write (v w : W64) : lockRow.write true (0, 64) v w = putBits w 0 0 (bits v 0 0) :=
  RegField.write_rw_carried (f := ⟨0, 0, .rwl, 0, .id⟩) (lane := (0, 64)) (by decide) (by decide) (.inr ⟨rfl, rfl⟩) v w

/-- A virtual function does not reach GLB_LOCK: the offset is one of its provisioning page. -/
theorem notOwner_lock {fn : Nat} (h0 : fn ≠ 0) (h : fn < 32) (w : Bool) : notOwner fn (pfOff fn 0x18) w = true := by
  have e : pfOff fn 0x18 = 0x100000 + fn * 0x10000 + 0x18 := by simp [pfOff, h0]
  have h1 : 0x100000 ≤ pfOff fn 0x18 ∧ pfOff fn 0x18 < 0x300000 := by omega
  have h2 : pfOff fn 0x18 % 65536 < 0x1000 := by omega
  simp [notOwner, h1, h0, h2]

theorem Dev.reachVerdict_lock (d : Dev) (s : Nat) :
    d.reachVerdict s 0x18 8 true = if d.lock || s != 0 then .viol 6 else .ok := by
  have hl : lockRow.lockedIn (laneOf 0x18 8) = true := by decide
  simp [Dev.reachVerdict, target_lock, findRow_lock, hl]

/-- A write of GLB_LOCK is accepted only with the lock open. -/
theorem Dev.lock_of_ok {d : Dev} (h : d.hostVerdict 0 0x18 8 true = .ok) : d.lock = false := by
  have reach : d.reachVerdict 0 0x18 8 true = .ok := (Dev.hostVerdict_of_ok true h rfl).symm.trans h
  rw [Dev.reachVerdict_lock] at reach
  split_ifs at reach with hl
  simpa using hl

/-- With LOCK at 1 a write of GLB_LOCK by a function that may read it is a violation of kind 6. -/
theorem Dev.hostVerdict_locked {d : Dev} (h : d.hostVerdict 0 0x18 8 false = .ok) (hl : d.lock = true) :
    d.hostVerdict 0 0x18 8 true = .viol 6 :=
  (Dev.hostVerdict_of_ok true h rfl).trans ((d.reachVerdict_lock 0).trans (by rw [hl]; rfl))

/-- An accepted write of GLB_LOCK puts the value's lowest bit into LOCK. -/
theorem Dev.busWrite_lock {d : Dev} (v : W64) (h : d.hostVerdict 0 0x18 8 true = .ok) :
    d.busWrite 0 0x18 8 v = d.setFld .glb 0 0x18 0 0 (bits v 0 0) := by
  rw [Dev.busWrite_codes v h (target_lock d) (.inl rfl) findRow_lock, Dev.store, Dev.lock_of_ok h]
  exact congrArg (d.wr .glb 0 0x18) (lockRow_write v _)

/-! ## Broadcasts to cells (03 R105 to R108) -/

/-- One place kept in a list of places, once. -/
def keepOnce (ls : List Loc) (l : Loc) : List Loc := if ls.contains l then ls else ls ++ [l]

theorem mem_foldl_keepOnce (ls acc : List Loc) (x : Loc) : x ∈ ls.foldl keepOnce acc ↔ x ∈ acc ∨ x ∈ ls := by
  induction ls generalizing acc with
  | nil => simp
  | cons l ls ih =>
    rw [List.foldl_cons, ih, keepOnce]
    split
    · next h =>
      have : l ∈ acc := by simpa using h
      grind
    · simp [or_assoc]

theorem nodup_foldl_keepOnce (ls : List Loc) {acc : List Loc} (h : acc.Nodup) : (ls.foldl keepOnce acc).Nodup :=
  List.foldlRecOn ls _ h fun acc hacc l _ => by
    rw [keepOnce]
    split
    · exact hacc
    · next hl => exact List.Nodup.append hacc (List.nodup_singleton l) (by simpa using hl)

theorem Dev.nodup_aliasLocs (d : Dev) (cells : List Nat) (o : Nat) : (d.aliasLocs cells o).Nodup :=
  nodup_foldl_keepOnce _ List.nodup_nil

/-- Stores of one written value to several places, with the row r. -/
def Dev.storeAll (d : Dev) (s : Nat) (r : RegRow) (lane : Nat × Nat) (v : W64) (ls : List Loc) : Dev :=
  ls.foldl (fun d l => d.store s l r lane v) d

section
variable {o : Nat} {r : RegRow} (hs : isSpread o = false) (hr : findRow .cell o = some r) (ho : o < 0x60800 ∨ 0x61000 ≤ o)
include hs hr ho

/-- A broadcast write through an ordinary offset reaches that offset of the selected cells that it can reach. -/
theorem Dev.mem_aliasLocs (d : Dev) (cells : List Nat) (l : Loc) :
    l ∈ d.aliasLocs cells o ↔ ∃ c ∈ cells, d.aliasReaches c o = true ∧ l = ⟨.cell, c, o⟩ := by
  have hp : cellPlaces o = [o] := by
    simp only [isSpread, Bool.or_eq_false_iff, Bool.and_eq_false_iff, decide_eq_false_iff_not] at hs
    rw [cellPlaces, if_neg (by omega), if_neg (by omega)]
  have hc (c : Nat) : cellLoc c o = ⟨.cell, c, o⟩ := if_neg (by omega)
  refine (mem_foldl_keepOnce _ [] l).trans ?_
  simp only [List.not_mem_nil, false_or, List.mem_filter, List.mem_flatMap, List.mem_map, hp, List.mem_singleton]
  constructor
  · rintro ⟨⟨c, hcm, _, ⟨rfl, hreach⟩, e⟩, -⟩
    exact ⟨c, hcm, hreach, e.symm.trans (hc c)⟩
  · rintro ⟨c, hcm, hreach, rfl⟩
    exact ⟨⟨c, hcm, o, ⟨rfl, hreach⟩, hc c⟩, by simp [hr]⟩

/-- A write broadcast to cells at an ordinary offset stores at each place that it reaches. -/
theorem Dev.doWrite_alias {d : Dev} {off : Nat} {cells : List Nat} (hp : o ≠ 0x80000)
    (ht : d.target off = .spread none cells o) (s size : Nat) (v : W64) :
    d.doWrite s off size v = d.storeAll s r (laneOf off size) (busWord off size v) (d.aliasLocs cells o) := by
  simp only [Dev.doWrite, ht, Dev.storeAll]
  refine List.foldl_ext _ _ _ fun e l hl => ?_
  obtain ⟨c, -, -, rfl⟩ := (Dev.mem_aliasLocs hs hr ho d cells l).1 hl
  exact Dev.regWrite_cell hr ho hp

end

/-- Stores change registers only. -/
theorem Dev.storeAll_onlyRegs (d : Dev) (s : Nat) (r : RegRow) (lane : Nat × Nat) (v : W64) (ls : List Loc) :
    d.storeAll s r lane v ls = { d with regs := (d.storeAll s r lane v ls).regs } :=
  List.foldlRecOn (motive := fun e : Dev => e = { d with regs := e.regs }) ls _ rfl fun e he l _ => by
    rw [Dev.store, he]
    rfl

/-- Stores leave every register at an address that none of them names. -/
theorem Dev.rd_storeAll_other (d : Dev) (s : Nat) (r : RegRow) (lane : Nat × Nat) (v : W64) {ls : List Loc} {b : Blk} {i o : Nat}
    (h : ∀ l ∈ ls, Loc.addr ⟨b, i, o⟩ ≠ l.addr) : (d.storeAll s r lane v ls).rd b i o = d.rd b i o :=
  List.foldlRecOn (motive := fun e => e.rd b i o = d.rd b i o) ls _ rfl fun e he l hl =>
    (Dev.rd_wr_ne e _ _ _ _ _ _ _ (h l hl)).trans he

/-- Different places of cell windows have different addresses. -/
theorem cell_addr_inj {c c2 o o2 : Nat} (ho : o < 0x100000) (ho2 : o2 < 0x100000)
    (h : Loc.addr ⟨.cell, c, o⟩ = Loc.addr ⟨.cell, c2, o2⟩) : c = c2 ∧ o = o2 := by
  simp only [Loc.addr, Blk.base, Blk.size] at h
  omega

/-- Stores to cells leave the lock. -/
theorem Dev.lock_storeAll (d : Dev) (s : Nat) (r : RegRow) (lane : Nat × Nat) (v : W64) {ls : List Loc}
    (h : ∀ l ∈ ls, l.blk = .cell) : (d.storeAll s r lane v ls).lock = d.lock := by
  rw [Dev.lock, Dev.lock, Dev.rd_storeAll_other]
  intro l hl
  simp only [Loc.addr, h l hl, Blk.base, Blk.size]
  omega

/-- Stores at an offset of different cells make of each cell's register what the row makes of its word before them. -/
theorem Dev.rd_storeAll_mem (d : Dev) (s : Nat) (r : RegRow) (lane : Nat × Nat) (v : W64) {ls : List Loc} {c o : Nat}
    (ho : o < 0x100000) (hls : ∀ l ∈ ls, ∃ c, l = ⟨.cell, c, o⟩) (hn : ls.Nodup) (hc : ⟨.cell, c, o⟩ ∈ ls) :
    (d.storeAll s r lane v ls).rd .cell c o = r.write (!d.lock && s == 0) lane v (d.rd .cell c o) := by
  obtain ⟨before, after, rfl⟩ := List.append_of_mem hc
  have apart : ∀ l ∈ before ++ after, Loc.addr ⟨.cell, c, o⟩ ≠ l.addr := by
    intro l hl h
    obtain ⟨c2, rfl⟩ := hls l (by grind)
    obtain ⟨rfl, -⟩ := cell_addr_inj ho ho h
    grind
  have hb : ∀ l ∈ before, l.blk = .cell := by
    intro l hl
    obtain ⟨c2, rfl⟩ := hls l (by simp [hl])
    rfl
  have cut : d.storeAll s r lane v (before ++ ⟨.cell, c, o⟩ :: after) =
      ((d.storeAll s r lane v before).store s ⟨.cell, c, o⟩ r lane v).storeAll s r lane v after := by
    simp [Dev.storeAll]
  rw [cut, Dev.rd_storeAll_other _ _ _ _ _ (fun l hl => apart l (by simp [hl])), Dev.store, Dev.rd_wr_self,
    Dev.lock_storeAll _ _ _ _ _ hb, Dev.rd_storeAll_other _ _ _ _ _ (fun l hl => apart l (by simp [hl]))]

/-- Settles O30: GLB_LOCK is one RWL field, and a broadcast write is one store at each place that it reaches. -/
theorem lockAndAliasWrites : Obligations.LockAndAliasWrites := by
  intro s fn v
  refine ⟨fun hok => ?_, fun hok hl => ?_, fun off size cells o r hok ht hs hr ho hp => ?_⟩
  · have h0 : fn = 0 := by
      by_contra h
      have hn := Dev.hostVerdict_ok_owner hok (by omega)
      rw [notOwner_lock (by omega) fn.isLt] at hn
      cases hn
    subst h0
    exact ⟨rfl, Dev.lock_of_ok hok, (glbLockWrite_gives s 0 v).of_eq (Dev.busWrite_lock v hok)⟩
  · have viol := Dev.hostVerdict_locked hok hl
    exact ⟨viol, (glbLockWrite_gives s 0 v).of_eq
      ((Dev.busWrite_viol v viol).trans (Dev.violate_bar0 s.d 0 6 (by decide)))⟩
  · have h20 : o < 0x100000 := by
      have := s.d.target_inMap (pfOff fn off.toNat)
      rwa [ht] at this
    have hw : s.d.busWrite fn off.toNat size.toNat v = s.d.storeAll fn r _ _ (s.d.aliasLocs cells o) :=
      (Dev.busWrite_ok v hok).trans (Dev.doWrite_alias hs hr ho hp ht fn size.toNat v)
    have mem := Dev.mem_aliasLocs hs hr ho s.d cells
    refine ⟨_, (aliasWrite_gives s fn off size v).of_eq hw, Dev.storeAll_onlyRegs _ _ _ _ _ _,
      fun c hc hreach => ?_, fun c _ hno => ?_, fun c o2 _ ho2 hne => ?_⟩
    · refine Dev.rd_storeAll_mem _ _ _ _ _ h20 (fun l hl => ?_) (s.d.nodup_aliasLocs cells o) ((mem _).2 ⟨c, hc, hreach, rfl⟩)
      obtain ⟨c2, -, -, rfl⟩ := (mem l).1 hl
      exact ⟨c2, rfl⟩
    · refine Dev.rd_storeAll_other _ _ _ _ _ fun l hl h => ?_
      obtain ⟨c2, hc2, hreach, rfl⟩ := (mem l).1 hl
      obtain ⟨rfl, -⟩ := cell_addr_inj h20 h20 h
      rcases hno with hno | hno
      · exact hno hc2
      · exact absurd hreach (by simp [hno])
    · refine Dev.rd_storeAll_other _ _ _ _ _ fun l hl h => ?_
      obtain ⟨c2, -, -, rfl⟩ := (mem l).1 hl
      exact hne (cell_addr_inj ho2 h20 h).2

end Machine
end Sys2Proof

/-!
PROOFS. Boot and the resets of the module (16 R772 to R792): what the steps of a boot change and what a reset keeps, writes of
the BOOT block, and the statement O56.
-/
namespace Sys2Proof

/-- The bits of a field's value are the word's. -/
theorem testBit_bits (w : W64) (hi lo i : Nat) :
    (bits w hi lo).testBit i = (decide (i < hi + 1 - lo) && w.getLsbD (lo + i)) := by
  rw [bits, Nat.testBit_mod_two_pow, Nat.testBit_shiftRight]
  rfl

namespace Machine

/-! ## Updates of registers alone -/

/-- A register's word follows from the table of registers. -/
theorem Dev.rd_congr {d e : Dev} (h : e.regs = d.regs) (b : Blk) (i o : Nat) : e.rd b i o = d.rd b i o := by
  rw [Dev.rd, Dev.rd, h]

theorem Dev.fld_congr {d e : Dev} (h : e.regs = d.regs) (b : Blk) (i o hi lo : Nat) :
    e.fld b i o hi lo = d.fld b i o hi lo := by
  rw [Dev.fld, Dev.fld, Dev.rd_congr h]

/-- e is d with other registers. -/
def Dev.OnlyRegs (d e : Dev) : Prop := ∃ regs, e = { d with regs := regs }

theorem Dev.OnlyRegs.refl (d : Dev) : d.OnlyRegs d := ⟨d.regs, rfl⟩

theorem Dev.OnlyRegs.wr {d e : Dev} (h : d.OnlyRegs e) (b : Blk) (i o : Nat) (v : W64) : d.OnlyRegs (e.wr b i o v) := by
  obtain ⟨regs, rfl⟩ := h
  exact ⟨_, rfl⟩

theorem Dev.OnlyRegs.foldl {α : Type} {d e : Dev} (h : d.OnlyRegs e) {f : Dev → α → Dev}
    (hf : ∀ x a, d.OnlyRegs x → d.OnlyRegs (f x a)) (l : List α) : d.OnlyRegs (l.foldl f e) :=
  List.foldlRecOn (motive := d.OnlyRegs) l f h fun x hx a _ => hf x a hx

/-- Updates that each leave a register leave it one after the other. -/
theorem Dev.rd_foldl {α : Type} {f : Dev → α → Dev} {b : Blk} {i o : Nat} (d : Dev) (l : List α)
    (h : ∀ e, ∀ a ∈ l, (f e a).rd b i o = e.rd b i o) : (l.foldl f d).rd b i o = d.rd b i o :=
  List.foldlRecOn (motive := fun e => e.rd b i o = d.rd b i o) l f rfl fun e he a ha => (h e a ha).trans he

/-- A write of a block that stands once leaves every register outside the block. -/
theorem Dev.rd_wr_outside (d : Dev) {k b : Blk} {n i o : Nat} (v : W64) (hn : n < 0x10000)
    (h : Loc.addr ⟨b, i, o⟩ < k.base ∨ k.base + 0x10000 ≤ Loc.addr ⟨b, i, o⟩) : (d.wr k 0 n v).rd b i o = d.rd b i o :=
  Dev.rd_wr_ne (h := by simp only [Loc.addr] at h ⊢; omega) ..

/-! ## Clocks and inventory (15 R767; 02 R52 to R60) -/

theorem Dev.clocksUp_onlyRegs (d : Dev) : d.OnlyRegs d.clocksUp :=
  (((((Dev.OnlyRegs.refl d).foldl (fun _ _ h => h.wr ..) _).wr ..).wr ..).wr ..).foldl (fun _ _ h => h.wr ..) _

/-- The clocks that a boot starts lie in the PWR block. -/
theorem Dev.rd_clocksUp (d : Dev) {b : Blk} {i o : Nat} (h : Loc.addr ⟨b, i, o⟩ < 0x30000 ∨ 0x40000 ≤ Loc.addr ⟨b, i, o⟩) :
    d.clocksUp.rd b i o = d.rd b i o := by
  have pwr (e : Dev) {n : Nat} (v : W64) (hn : n < 0x10000) : (e.wr .pwr 0 n v).rd b i o = e.rd b i o :=
    Dev.rd_wr_outside e v hn h
  rw [Dev.clocksUp, Dev.rd_foldl _ _ fun e c hc => pwr e _ (by have := List.mem_range.1 hc; omega),
    pwr _ _ (by omega), pwr _ _ (by omega), pwr _ _ (by omega)]
  exact Dev.rd_foldl _ _ fun e c _ => pwr e _ (by omega)

/-- The inventory sets the causes of the dies and registers. -/
theorem Dev.inventory_onlyRegs (d : Dev) :
    Dev.OnlyRegs { d with invCause := dieCauses d.board.dieRec, invTaken := true } d.inventory := by
  unfold Dev.inventory
  dsimp only
  exact (((Dev.OnlyRegs.refl _).wr ..).wr ..).foldl (fun _ _ h => ((h.wr ..).wr ..).wr ..) _

/-- The registers of the inventory lie in the GLB block. -/
theorem Dev.rd_inventory (d : Dev) {b : Blk} {i o : Nat} (h : 0x10000 ≤ Loc.addr ⟨b, i, o⟩) :
    d.inventory.rd b i o = d.rd b i o := by
  have glb (e : Dev) {n : Nat} (v : W64) (hn : n < 0x10000) : (e.wr .glb 0 n v).rd b i o = e.rd b i o :=
    Dev.rd_wr_outside e v hn (.inr h)
  rw [Dev.inventory]
  dsimp only
  rw [Dev.rd_foldl]
  · rw [glb _ _ (by omega), glb _ _ (by omega)]
    exact Dev.rd_congr rfl ..
  · intro e c hc
    have := List.mem_range.1 hc
    rw [glb _ _ (by omega), glb _ _ (by omega), glb _ _ (by omega)]

theorem Dev.invHalts_congr {d e : Dev} (h : e.invCause = d.invCause) : e.invHalts = d.invHalts := by
  simp only [Dev.invHalts, Dev.pairFailed, Dev.dieCause, h]

/-! ## STAGE and CAUSE -/

theorem Dev.stageOf_setStage (d : Dev) {st : Nat} (c : Nat) (h : st < 16) : (d.setStage st c).stageOf = st := by
  rw [Dev.stageOf, Dev.setStage, Dev.fld_setFld_other (h := by decide) (h64 := by decide) (ho := by decide) (h2l := by decide),
    Dev.fld_setFld_self (h := by decide) (h64 := by decide)]
  exact Nat.mod_eq_of_lt h

theorem Dev.cause_setStage (d : Dev) (st : Nat) {c : Nat} (h : c < 256) : (d.setStage st c).fld .boot 0 0 23 16 = c := by
  rw [Dev.setStage, Dev.fld_setFld_self (h := by decide) (h64 := by decide)]
  exact Nat.mod_eq_of_lt h

/-- The fields of BOOT_STATUS above CAUSE stay. -/
theorem Dev.status_setStage (d : Dev) (st c : Nat) {hi lo : Nat} (h : 23 < lo) (hl : lo ≤ hi) :
    (d.setStage st c).fld .boot 0 0 hi lo = d.fld .boot 0 0 hi lo := by
  rw [Dev.setStage, Dev.fld_setFld_other (h := by decide) (h64 := by decide) (ho := .inr h) (h2l := hl),
    Dev.fld_setFld_other (h := by decide) (h64 := by decide) (ho := .inr (by omega)) (h2l := hl)]

theorem Dev.rd_setStage (d : Dev) (st c : Nat) {b : Blk} {i o : Nat} (h : Loc.addr ⟨b, i, o⟩ ≠ 0x10000) :
    (d.setStage st c).rd b i o = d.rd b i o := by
  rw [Dev.setStage, Dev.rd_setFld_ne (h := h), Dev.rd_setFld_ne (h := h)]

/-! ## The firmware image (16 R784, R785) -/

/-- An image that passes the format check names one of the four root-key slots. -/
theorem fwFormat_slot {b : List Byte} (h : fwFormat b = true) : recNum b 36 1 ≤ 3 := by
  simp only [fwFormat, Bool.and_eq_true, decide_eq_true_eq] at h
  omega

theorem fwFormat_svn {b : List Byte} (h : fwFormat b = true) : recNum b 12 4 ≤ 64 := by
  simp only [fwFormat, Bool.and_eq_true, decide_eq_true_eq] at h
  omega

/-- What the check of an image reads of the device: the root-key hashes, the revoked slots and the fused version. -/
theorem Dev.fwCheck_congr {d e : Dev} (hr : e.board.roots = d.board.roots)
    (hk : e.fld .boot 0 0x18 11 8 = d.fld .boot 0 0x18 11 8) (hs : e.fld .boot 0 0 55 48 = d.fld .boot 0 0 55 48)
    (img : Option (List Byte)) : e.fwCheck img = d.fwCheck img := by
  cases img with
  | none => rfl
  | some b =>
    cases hf : fwFormat b with
    | false => simp [Dev.fwCheck, hf]
    | true =>
      have hb : (e.rd .boot 0 0x18).getLsbD (8 + recNum b 36 1) = (d.rd .boot 0 0x18).getLsbD (8 + recNum b 36 1) := by
        have := congrArg (Nat.testBit · (recNum b 36 1)) hk
        simpa [Dev.fld, testBit_bits, Nat.lt_succ_of_le (fwFormat_slot hf)] using this
      simp only [Dev.fwCheck, hb, hr, hs]

theorem Dev.fwCheck_le (d : Dev) (img : Option (List Byte)) : d.fwCheck img ≤ 5 := by
  unfold Dev.fwCheck
  dsimp only
  split
  · decide
  · split_ifs <;> decide

theorem Dev.fwFormat_of_fwCheck {d : Dev} {b : List Byte} (h : d.fwCheck (some b) = 0) : fwFormat b = true := by
  cases hf : fwFormat b with
  | true => rfl
  | false => simp [Dev.fwCheck, hf] at h

theorem Dev.runImage_onlyRegs (d : Dev) (b : List Byte) : d.OnlyRegs (d.runImage b) :=
  (((Dev.OnlyRegs.refl d).wr ..).wr ..).foldl (fun _ _ h => h.wr ..) _

/-- The registers of a running image: SVN, slot and digest. -/
theorem Dev.rd_runImage (d : Dev) (b : List Byte) {k : Blk} {i o : Nat}
    (h : Loc.addr ⟨k, i, o⟩ < 0x10040 ∨ 0x10070 ≤ Loc.addr ⟨k, i, o⟩) :
    (d.runImage b).rd k i o =
      ((d.setFld .boot 0 0 47 40 (recNum b 12 4)).setFld .boot 0 0x18 1 0 (recNum b 36 1)).rd k i o :=
  Dev.rd_foldl _ _ fun _ _ hc => Dev.rd_wr_ne (h := by
    have := List.mem_range.1 hc
    simp only [Loc.addr, Blk.base, Blk.size] at h ⊢
    omega) ..

theorem Dev.svn_runImage (d : Dev) {b : List Byte} (h : recNum b 12 4 < 256) :
    (d.runImage b).fld .boot 0 0 47 40 = recNum b 12 4 := by
  rw [Dev.fld, Dev.rd_runImage _ _ (.inl (by decide)), Dev.rd_setFld_ne (h := by decide), ← Dev.fld,
    Dev.fld_setFld_self (h := by decide) (h64 := by decide)]
  exact Nat.mod_eq_of_lt h

/-- The fields of BOOT_STATUS other than SVN stay. -/
theorem Dev.status_runImage (d : Dev) (b : List Byte) {hi lo : Nat} (h : hi < 40 ∨ 47 < lo) (hl : lo ≤ hi) :
    (d.runImage b).fld .boot 0 0 hi lo = d.fld .boot 0 0 hi lo := by
  rw [Dev.fld, Dev.rd_runImage _ _ (.inl (by decide)), Dev.rd_setFld_ne (h := by decide), ← Dev.fld,
    Dev.fld_setFld_other (h := by decide) (h64 := by decide) (ho := h) (h2l := hl)]

theorem Dev.revoked_runImage (d : Dev) (b : List Byte) : (d.runImage b).fld .boot 0 0x18 11 8 = d.fld .boot 0 0x18 11 8 := by
  rw [Dev.fld, Dev.rd_runImage _ _ (.inl (by decide)), ← Dev.fld,
    Dev.fld_setFld_other (h := by decide) (h64 := by decide) (ho := by decide) (h2l := by decide),
    Dev.fld_setFld_ne (h := by decide)]

/-! ## The configuration block (16 R791, R792) -/

/-- A configuration block in use, with CFG_BAD set or not, makes its marks. -/
theorem Dev.cfgApply_cases (d : Dev) : ∃ (c : CfgBlock) (isB : Bool) (e : Dev),
    (e = { d with cfg := c, cfgIsB := isB } ∨ e = Dev.setFld { d with cfg := c, cfgIsB := isB } .boot 0 0 8 8 1) ∧
    d.cfgApply = { ((e.modStd 0 fun x => { x with key := if c.claimed then some c.key else none }).setFld .cell 0 0x60800 6 0
      c.svcRes).setFld .pwr 0 0x18 1 0 c.opTarget with svcRes := c.svcRes } := by
  unfold Dev.cfgApply
  dsimp only
  split
  · split
    · exact ⟨_, _, _, .inl rfl, rfl⟩
    · exact ⟨_, _, _, .inl rfl, rfl⟩
  · exact ⟨_, _, _, .inl rfl, rfl⟩
  · exact ⟨_, _, _, .inl rfl, rfl⟩
  · exact ⟨_, _, _, .inl rfl, rfl⟩
  · exact ⟨_, _, _, .inr rfl, rfl⟩

theorem Dev.cfgApply_eq (d : Dev) : ∃ cfg isB stands svc regs,
    d.cfgApply = { d with cfg := cfg, cfgIsB := isB, stands := stands, svcRes := svc, regs := regs } := by
  obtain ⟨c, isB, e, rfl | rfl, h⟩ := d.cfgApply_cases <;> exact ⟨_, _, _, _, _, h⟩

/-- The configuration reaches CFG_BAD, the service reservation and the target point. -/
theorem Dev.rd_cfgApply (d : Dev) {b : Blk} {i o : Nat}
    (h : Loc.addr ⟨b, i, o⟩ ≠ 0x10000 ∧ Loc.addr ⟨b, i, o⟩ ≠ 0x1060800 ∧ Loc.addr ⟨b, i, o⟩ ≠ 0x30018) :
    d.cfgApply.rd b i o = d.rd b i o := by
  obtain ⟨c, isB, e, he, hd⟩ := d.cfgApply_cases
  obtain ⟨hs, hc, hp⟩ := h
  have key : d.cfgApply.rd b i o = e.rd b i o := by
    rw [hd]
    exact (Dev.rd_setFld_ne (h := hp) ..).trans (Dev.rd_setFld_ne (h := hc) ..)
  rcases he with rfl | rfl
  · exact key
  · exact key.trans (Dev.rd_setFld_ne (h := hs) ..)

/-- The fields of BOOT_STATUS other than CFG_BAD stay. -/
theorem Dev.status_cfgApply (d : Dev) {hi lo : Nat} (h : hi < 8 ∨ 8 < lo) (hl : lo ≤ hi) :
    d.cfgApply.fld .boot 0 0 hi lo = d.fld .boot 0 0 hi lo := by
  obtain ⟨c, isB, e, he, hd⟩ := d.cfgApply_cases
  have key : d.cfgApply.fld .boot 0 0 hi lo = e.fld .boot 0 0 hi lo := by
    rw [hd]
    exact (Dev.fld_setFld_ne (h := by decide) ..).trans
      (Dev.fld_setFld_ne (h := by decide) ..)
  rcases he with rfl | rfl
  · exact key
  · exact key.trans (Dev.fld_setFld_other (h := by decide) (h64 := by decide) (ho := h) (h2l := hl) ..)

/-! ## Boot (16 R781) -/

/-- The device with its clocks up, at OP3 and the voltages of OP3, as a boot begins. -/
def Dev.bootClocks (d : Dev) : Dev :=
  { Dev.setOpSt (Dev.clocksUp { d with slotId := d.board.straps.toNat }) 1 0 3 with rails := [(0, 3), (1, 3), (2, 3), (3, 3)] }

theorem Dev.bootClocks_eq (d : Dev) : ∃ regs, d.bootClocks = { d with
    slotId := d.board.straps.toNat, rails := [(0, 3), (1, 3), (2, 3), (3, 3)], regs := regs } := by
  obtain ⟨regs, hc⟩ := Dev.clocksUp_onlyRegs { d with slotId := d.board.straps.toNat }
  exact ⟨_, by rw [Dev.bootClocks, hc]; rfl⟩

theorem Dev.regs_bootClocks (d : Dev) :
    d.bootClocks.regs = (Dev.setOpSt (Dev.clocksUp { d with slotId := d.board.straps.toNat }) 1 0 3).regs := by
  unfold Dev.bootClocks
  generalize Dev.setOpSt (Dev.clocksUp { d with slotId := d.board.straps.toNat }) 1 0 3 = e
  rfl

theorem Dev.rd_bootClocks (d : Dev) {b : Blk} {i o : Nat} (h : Loc.addr ⟨b, i, o⟩ < 0x30000) :
    d.bootClocks.rd b i o = d.rd b i o := by
  have hop : Loc.addr ⟨.pwr, 0, 0x20⟩ = 0x30020 := rfl
  rw [Dev.rd_congr d.regs_bootClocks, Dev.setOpSt, Dev.rd_setFld_ne (h := by omega),
    Dev.rd_clocksUp _ (.inl h)]
  exact Dev.rd_congr rfl ..

theorem Dev.curOp_bootClocks (d : Dev) : d.bootClocks.curOp = 3 := by
  rw [Dev.curOp, Dev.opSt, Dev.fld_congr d.regs_bootClocks]
  exact Dev.fld_setFld_self (h := by decide) (h64 := by decide) ..

/-- The device as a boot leaves it before the firmware image is checked. -/
def Dev.bootPrep (d : Dev) (power : Bool) : Dev := if power then d.bootClocks.inventory else d.bootClocks

theorem Dev.bootPrep_false (d : Dev) : d.bootPrep false = d.bootClocks := if_neg (by decide)

theorem Dev.bootPrep_true (d : Dev) : d.bootPrep true = d.bootClocks.inventory := if_pos rfl

theorem Dev.bootPrep_eq (d : Dev) (power : Bool) : ∃ taken regs, d.bootPrep power = { d with
    slotId := d.board.straps.toNat, rails := [(0, 3), (1, 3), (2, 3), (3, 3)],
    invCause := if power then dieCauses d.board.dieRec else d.invCause, invTaken := taken, regs := regs } := by
  obtain ⟨regs, hc⟩ := d.bootClocks_eq
  cases power with
  | false => exact ⟨d.invTaken, regs, by rw [Dev.bootPrep_false, hc, if_neg (by decide)]⟩
  | true =>
    obtain ⟨regs2, hi⟩ := d.bootClocks.inventory_onlyRegs
    exact ⟨true, regs2, by rw [Dev.bootPrep_true, hi, hc, if_pos rfl]⟩

/-- A boot has set nothing in the BOOT and FLT blocks when it comes to the image. -/
theorem Dev.rd_bootPrep (d : Dev) (power : Bool) {b : Blk} {i o : Nat}
    (h : 0x10000 ≤ Loc.addr ⟨b, i, o⟩ ∧ Loc.addr ⟨b, i, o⟩ < 0x30000) : (d.bootPrep power).rd b i o = d.rd b i o := by
  cases power with
  | false => rw [Dev.bootPrep_false, d.rd_bootClocks h.2]
  | true => rw [Dev.bootPrep_true, Dev.rd_inventory _ h.1, d.rd_bootClocks h.2]

theorem Dev.curOp_bootPrep (d : Dev) (power : Bool) : (d.bootPrep power).curOp = 3 := by
  cases power with
  | false => rw [Dev.bootPrep_false, d.curOp_bootClocks]
  | true =>
    rw [Dev.curOp, Dev.opSt, Dev.fld, Dev.bootPrep_true, Dev.rd_inventory _ (by decide)]
    exact d.curOp_bootClocks

theorem Dev.board_bootPrep (d : Dev) (power : Bool) : (d.bootPrep power).board = d.board := by
  obtain ⟨_, _, h⟩ := d.bootPrep_eq power
  rw [h]

theorem Dev.invCause_bootPrep (d : Dev) (power : Bool) :
    (d.bootPrep power).invCause = if power then dieCauses d.board.dieRec else d.invCause := by
  obtain ⟨_, _, h⟩ := d.bootPrep_eq power
  rw [h]

/-- How a boot ends: halted by the inventory, in RECOVERY with the first check that the image fails, or running the image. -/
theorem Dev.boot_cases (d : Dev) (power : Bool) :
    ((d.bootPrep power).invHalts = true ∧
      d.boot power = Dev.setStage { d.bootPrep power with halted := true } 5 0x10) ∨
    ((d.bootPrep power).invHalts = false ∧ (d.bootPrep power).fwCheck d.board.flash ≠ 0 ∧
      d.boot power = (d.bootPrep power).setStage 4 ((d.bootPrep power).fwCheck d.board.flash)) ∨
    ∃ b, (d.bootPrep power).invHalts = false ∧ d.board.flash = some b ∧ (d.bootPrep power).fwCheck (some b) = 0 ∧
      d.boot power = (((d.bootPrep power).runImage b).setStage 2 0).cfgApply := by
  have hb := d.board_bootPrep power
  have e : d.boot power = if (d.bootPrep power).invHalts then Dev.setStage { d.bootPrep power with halted := true } 5 0x10
      else (d.bootPrep power).bootImage (d.bootPrep power).board.flash := rfl
  rw [e, hb, Dev.bootImage]
  generalize d.bootPrep power = p
  cases p.invHalts with
  | true => exact .inl ⟨rfl, rfl⟩
  | false =>
    refine .inr ?_
    cases hf : d.board.flash with
    | none => exact .inl ⟨rfl, by simp [Dev.fwCheck], rfl⟩
    | some b =>
      by_cases hc : p.fwCheck (some b) = 0
      · exact .inr ⟨b, rfl, rfl, hc, by simp [hc]⟩
      · exact .inl ⟨rfl, hc, by simp [hc]⟩

/-- What a boot may change. -/
theorem Dev.boot_eq (d : Dev) (power : Bool) : ∃ taken halted cfg isB stands svc regs, d.boot power = { d with
    slotId := d.board.straps.toNat, rails := [(0, 3), (1, 3), (2, 3), (3, 3)],
    invCause := if power then dieCauses d.board.dieRec else d.invCause, invTaken := taken, halted := halted, cfg := cfg,
    cfgIsB := isB, stands := stands, svcRes := svc, regs := regs } := by
  obtain ⟨taken, regs, hp⟩ := d.bootPrep_eq power
  rcases d.boot_cases power with ⟨-, e⟩ | ⟨-, -, e⟩ | ⟨b, -, -, -, e⟩
  · exact ⟨_, _, _, _, _, _, _, by rw [e, hp]; rfl⟩
  · exact ⟨_, _, _, _, _, _, _, by rw [e, hp]; rfl⟩
  · obtain ⟨regs2, hi⟩ := (d.bootPrep power).runImage_onlyRegs b
    obtain ⟨cfg, isB, stands, svc, regs3, hc⟩ := (((d.bootPrep power).runImage b).setStage 2 0).cfgApply_eq
    exact ⟨_, _, _, _, _, _, _, by rw [e, hc, hi, hp]; rfl⟩

theorem Dev.invCause_boot (d : Dev) (power : Bool) :
    (d.boot power).invCause = if power then dieCauses d.board.dieRec else d.invCause := by
  obtain ⟨_, _, _, _, _, _, _, h⟩ := d.boot_eq power
  rw [h]

/-- A register that no step of a boot sets stays. -/
theorem Dev.rd_boot (d : Dev) (power : Bool) {b : Blk} {i o : Nat}
    (h : 0x10070 ≤ Loc.addr ⟨b, i, o⟩ ∧ Loc.addr ⟨b, i, o⟩ < 0x30000) : (d.boot power).rd b i o = d.rd b i o := by
  have hp := d.rd_bootPrep power (b := b) (i := i) (o := o) ⟨by omega, h.2⟩
  have h0 : Loc.addr ⟨.boot, 0, 0⟩ = 0x10000 := rfl
  have h18 : Loc.addr ⟨.boot, 0, 0x18⟩ = 0x10018 := rfl
  rcases d.boot_cases power with ⟨-, e⟩ | ⟨-, -, e⟩ | ⟨f, -, -, -, e⟩ <;> rw [e]
  · exact (Dev.rd_setStage _ _ _ (by omega)).trans hp
  · exact (Dev.rd_setStage _ _ _ (by omega)).trans hp
  · rw [Dev.rd_cfgApply _ (by omega), Dev.rd_setStage _ _ _ (by omega), Dev.rd_runImage _ _ (.inr h.1),
      Dev.rd_setFld_ne (h := by omega), Dev.rd_setFld_ne (h := by omega), hp]

/-- LAST_RESET and SVN_OTP, and what else no step of a boot sets in BOOT_STATUS, stay. -/
theorem Dev.status_boot (d : Dev) (power : Bool) {hi lo : Nat} (h : 23 < lo ∧ hi < 40 ∨ 47 < lo) (hl : lo ≤ hi) :
    (d.boot power).fld .boot 0 0 hi lo = d.fld .boot 0 0 hi lo := by
  have hp : (d.bootPrep power).fld .boot 0 0 hi lo = d.fld .boot 0 0 hi lo := by
    rw [Dev.fld, Dev.rd_bootPrep _ _ (by decide), Dev.fld]
  rcases d.boot_cases power with ⟨-, e⟩ | ⟨-, -, e⟩ | ⟨f, -, -, -, e⟩ <;> rw [e]
  · exact (Dev.status_setStage _ _ _ (by omega) hl).trans hp
  · exact (Dev.status_setStage _ _ _ (by omega) hl).trans hp
  · rw [Dev.status_cfgApply _ (by omega) hl, Dev.status_setStage _ _ _ (by omega) hl, Dev.status_runImage _ _ (by omega) hl, hp]

theorem Dev.revoked_boot (d : Dev) (power : Bool) : (d.boot power).fld .boot 0 0x18 11 8 = d.fld .boot 0 0x18 11 8 := by
  have hp : (d.bootPrep power).fld .boot 0 0x18 11 8 = d.fld .boot 0 0x18 11 8 := by
    rw [Dev.fld, Dev.rd_bootPrep _ _ (by decide), Dev.fld]
  rcases d.boot_cases power with ⟨-, e⟩ | ⟨-, -, e⟩ | ⟨f, -, -, -, e⟩ <;> rw [e]
  · rw [Dev.fld, Dev.rd_setStage _ _ _ (by decide)]
    exact hp
  · rw [Dev.fld, Dev.rd_setStage _ _ _ (by decide)]
    exact hp
  · rw [Dev.fld, Dev.rd_cfgApply _ (by decide), Dev.rd_setStage _ _ _ (by decide), ← Dev.fld, Dev.revoked_runImage, hp]

theorem Dev.curOp_boot (d : Dev) (power : Bool) : (d.boot power).curOp = 3 := by
  have hp := d.curOp_bootPrep power
  simp only [Dev.curOp, Dev.opSt, Dev.fld] at hp ⊢
  rcases d.boot_cases power with ⟨-, e⟩ | ⟨-, -, e⟩ | ⟨f, -, -, -, e⟩ <;> rw [e]
  · rw [Dev.rd_setStage _ _ _ (by decide)]
    exact hp
  · rw [Dev.rd_setStage _ _ _ (by decide)]
    exact hp
  · rw [Dev.rd_cfgApply _ (by decide), Dev.rd_setStage _ _ _ (by decide), Dev.rd_runImage _ _ (.inr (by decide)),
      Dev.rd_setFld_ne (h := by decide), Dev.rd_setFld_ne (h := by decide)]
    exact hp

theorem Dev.invHalts_boot (d : Dev) (power : Bool) : (d.boot power).invHalts = (d.bootPrep power).invHalts :=
  Dev.invHalts_congr ((d.invCause_boot power).trans (d.invCause_bootPrep power).symm)

/-- The check of the image finds what it would have found before the boot. -/
theorem Dev.fwCheck_bootPrep (d : Dev) (power : Bool) (img : Option (List Byte)) :
    (d.bootPrep power).fwCheck img = d.fwCheck img := by
  refine Dev.fwCheck_congr (by rw [d.board_bootPrep power]) ?_ ?_ img <;>
    rw [Dev.fld, Dev.rd_bootPrep _ _ (by decide), Dev.fld]

/-- A boot that the inventory halts. -/
theorem Dev.boot_halts {d : Dev} {power : Bool} (h : (d.boot power).invHalts = true) :
    (d.boot power).stageOf = 5 ∧ (d.boot power).fld .boot 0 0 23 16 = 0x10 ∧ (d.boot power).halted = true := by
  rw [Dev.invHalts_boot] at h
  rcases d.boot_cases power with ⟨-, e⟩ | ⟨hn, -, e⟩ | ⟨b, hn, -, -, e⟩
  · rw [e]
    exact ⟨Dev.stageOf_setStage _ _ (by decide), Dev.cause_setStage _ _ (by decide), rfl⟩
  · simp [h] at hn
  · simp [h] at hn

/-- A boot whose image fails a check. -/
theorem Dev.boot_recovers {d : Dev} {power : Bool} (h : (d.boot power).invHalts = false) (hf : d.fwCheck d.board.flash ≠ 0) :
    (d.boot power).stageOf = 4 ∧ (d.boot power).fld .boot 0 0 23 16 = d.fwCheck d.board.flash := by
  rw [Dev.invHalts_boot] at h
  rcases d.boot_cases power with ⟨hn, e⟩ | ⟨-, -, e⟩ | ⟨b, -, hb, hc, e⟩
  · simp [h] at hn
  · rw [e, Dev.fwCheck_bootPrep]
    exact ⟨Dev.stageOf_setStage _ _ (by decide), Dev.cause_setStage _ _ (by have := d.fwCheck_le d.board.flash; omega)⟩
  · rw [Dev.fwCheck_bootPrep, ← hb] at hc
    exact absurd hc hf

/-- A boot whose image passes. -/
theorem Dev.boot_runs {d : Dev} {power : Bool} {b : List Byte} (h : (d.boot power).invHalts = false) (hb : d.board.flash = some b)
    (hf : d.fwCheck (some b) = 0) : (d.boot power).stageOf = 2 ∧ (d.boot power).fld .boot 0 0 23 16 = 0 ∧
      (d.boot power).fld .boot 0 0 47 40 = recNum b 12 4 := by
  rw [Dev.invHalts_boot] at h
  rcases d.boot_cases power with ⟨hn, e⟩ | ⟨-, hc, e⟩ | ⟨b2, -, hb2, -, e⟩
  · simp [h] at hn
  · rw [Dev.fwCheck_bootPrep, hb] at hc
    exact absurd hf hc
  · have hv : recNum b 12 4 < 256 := by have := fwFormat_svn (Dev.fwFormat_of_fwCheck hf); omega
    obtain rfl : b = b2 := by simpa [hb] using hb2
    rw [e, Dev.stageOf, Dev.status_cfgApply _ (by decide) (by decide), Dev.status_cfgApply _ (by decide) (by decide),
      Dev.status_cfgApply _ (by decide) (by decide), Dev.status_setStage _ _ _ (hi := 47) (by decide) (by decide)]
    exact ⟨Dev.stageOf_setStage _ _ (by decide), Dev.cause_setStage _ _ (by decide), Dev.svn_runImage _ hv⟩

/-! ## What the resets of the module keep (16 R775) -/

theorem Dev.board_powerClear (d : Dev) : d.powerClear.board = d.board := rfl

theorem Dev.svnOtp_powerClear (d : Dev) : d.powerClear.fld .boot 0 0 55 48 = d.fld .boot 0 0 55 48 := by
  rw [Dev.powerClear, Dev.fld_setFld_ne (h := by decide), Dev.fld_setFld_self (h := by decide) (h64 := by decide)]
  exact Nat.mod_eq_of_lt (bits_lt ..)

theorem Dev.revoked_powerClear (d : Dev) : d.powerClear.fld .boot 0 0x18 11 8 = d.fld .boot 0 0x18 11 8 := by
  rw [Dev.powerClear, Dev.fld_setFld_self (h := by decide) (h64 := by decide)]
  exact Nat.mod_eq_of_lt (bits_lt ..)

/-- Every other register is back at its reset word. -/
theorem Dev.rd_powerClear (d : Dev) {b : Blk} {i o : Nat} (h0 : Loc.addr ⟨b, i, o⟩ ≠ 0x10000)
    (h18 : Loc.addr ⟨b, i, o⟩ ≠ 0x10018) : d.powerClear.rd b i o = resetWord ⟨b, i, o⟩ :=
  (Dev.rd_setFld_ne (h := h18) ..).trans (Dev.rd_setFld_ne (h := h0) ..)

theorem Dev.moduleClear_onlyRegs (d : Dev) : Dev.OnlyRegs { d.powerClear with
    invCause := d.invCause, invTaken := d.invTaken, mgmt := { d.powerClear.mgmt with i3c := d.mgmt.i3c } } d.moduleClear := by
  unfold Dev.moduleClear
  dsimp only
  exact ((((((Dev.OnlyRegs.refl _).wr ..).wr ..).foldl (fun _ _ h => h.wr ..) _).wr ..).wr ..).wr ..

theorem Dev.rd_kept (d : Dev) (inv : List Nat) (taken : Bool) (mgmt : Mgmt) (b : Blk) (i o : Nat) :
    ({ d with invCause := inv, invTaken := taken, mgmt := mgmt } : Dev).rd b i o = d.rd b i o := rfl

/-- What a module reset keeps of registers lies in the GLB and FLT blocks. -/
theorem Dev.rd_moduleClear (d : Dev) {b : Blk} {i o : Nat}
    (h : 0x10000 ≤ Loc.addr ⟨b, i, o⟩ ∧ (Loc.addr ⟨b, i, o⟩ < 0x20000 ∨ 0x30000 ≤ Loc.addr ⟨b, i, o⟩)) :
    d.moduleClear.rd b i o = d.powerClear.rd b i o := by
  obtain ⟨hg, hf⟩ := h
  have glb (e : Dev) {n : Nat} (v : W64) (hn : n < 0x10000) : (e.wr .glb 0 n v).rd b i o = e.rd b i o :=
    Dev.rd_wr_outside e v hn (.inr hg)
  have flt (e : Dev) {n : Nat} (v : W64) (hn : n < 0x10000) : (e.wr .flt 0 n v).rd b i o = e.rd b i o :=
    Dev.rd_wr_outside e v hn hf
  rw [Dev.moduleClear]
  dsimp only
  rw [flt _ _ (by omega), flt _ _ (by omega), flt _ _ (by omega), Dev.rd_foldl, glb _ _ (by omega), glb _ _ (by omega)]
  · exact Dev.rd_kept ..
  · intro e c hc
    have := List.mem_range.1 hc
    exact glb e _ (by omega)

/-- The first-fault latch is kept. -/
theorem Dev.first_moduleClear (d : Dev) : d.moduleClear.rd .flt 0 8 = d.rd .flt 0 8 := by
  rw [Dev.moduleClear]
  dsimp only
  rw [Dev.rd_wr_ne (h := by decide), Dev.rd_wr_ne (h := by decide), Dev.rd_wr_self]

/-- The image in flash is checked after a module reset as before it. -/
theorem Dev.fwCheck_moduleClear (d : Dev) (code : Nat) (img : Option (List Byte)) :
    (d.moduleClear.lastReset code).fwCheck img = d.fwCheck img := by
  obtain ⟨_, h⟩ := d.moduleClear_onlyRegs
  refine Dev.fwCheck_congr (by rw [h]; rfl) ?_ ?_ img
  · rw [Dev.lastReset, Dev.fld_setFld_ne (h := by decide), Dev.fld, Dev.rd_moduleClear _ (by decide),
      ← Dev.fld, Dev.revoked_powerClear]
  · rw [Dev.lastReset, Dev.fld_setFld_other (h := by decide) (h64 := by decide) (ho := by decide) (h2l := by decide), Dev.fld,
      Dev.rd_moduleClear _ (by decide), ← Dev.fld, Dev.svnOtp_powerClear]

/-! ## BOOT_READY (16 R781; 15 R750) -/

/-- With THERM_L's cap at OP3 the goal is OP3, the slowest point. -/
theorem Dev.goalOp_of_thermCap {d : Dev} (h : d.opSt 17 16 = 3) : d.goalOp = 3 := by
  have h1 : d.fld .pwr 0 0x18 1 0 < 4 := bits_lt _ 1 0
  have h2 : d.opSt 9 8 < 4 := bits_lt _ 9 8
  have h3 : d.opSt 13 12 < 4 := bits_lt _ 13 12
  rw [Dev.goalOp, h]
  omega

theorem Dev.regs_avsRequest (d : Dev) (p : Nat) : (d.avsRequest p).regs = (d.setOpSt 24 24 1).regs := by
  unfold Dev.avsRequest
  generalize d.setOpSt 24 24 1 = e
  rfl

/-- The supply path leaves THERM_L's cap. -/
theorem Dev.thermCap_supplyPath (d : Dev) : d.supplyPath.opSt 17 16 = d.opSt 17 16 := by
  unfold Dev.supplyPath
  split
  · rfl
  · rw [Dev.opSt, Dev.fld_congr (Dev.regs_avsRequest ..), Dev.setOpSt,
      Dev.fld_setFld_other (h := by decide) (h64 := by decide) (ho := by decide) (h2l := by decide), Dev.setOpSt,
      Dev.fld_setFld_other (h := by decide) (h64 := by decide) (ho := by decide) (h2l := by decide), Dev.opSt]

theorem Dev.rd_signalFault (d : Dev) (s : Nat) (b : Blk) (i o : Nat) : (d.signalFault s).rd b i o = d.rd b i o := by
  unfold Dev.signalFault Dev.signal
  dsimp only
  split
  · split <;> rfl
  · rfl

/-- An occurrence that concerns no stand changes registers of the FLT block alone. -/
theorem Dev.rd_raise_nil (d : Dev) {src : Nat} (u : FUnit) (w : W64) (hs : src < 1024) {b : Blk} {i o : Nat}
    (h : Loc.addr ⟨b, i, o⟩ < 0x20000 ∨ 0x30000 ≤ Loc.addr ⟨b, i, o⟩) : (d.raise src u [] w).rd b i o = d.rd b i o := by
  have flt (e : Dev) {n : Nat} (v : W64) (hn : n < 0x10000) : (e.wr .flt 0 n v).rd b i o = e.rd b i o :=
    Dev.rd_wr_outside e v hn h
  have counted : ((d.incSat .flt 0 (0x2000 + 8 * src) 63 32 1).setFld .flt 0 (0x1000 + 8 * (src / 32)) (src % 32) (src % 32) 1).rd
      b i o = d.rd b i o := by
    rw [Dev.setFld, flt _ _ (by omega), Dev.incSat, Dev.setFld, flt _ _ (by omega)]
  have latched (e : Dev) (x : W64) : (e.latch .flt 0 8 x w).rd b i o = e.rd b i o := by
    unfold Dev.latch
    dsimp only
    split
    · exact flt _ _ (by omega)
    · rw [flt _ _ (by omega), flt _ _ (by omega), flt _ _ (by omega)]
  unfold Dev.raise
  dsimp only
  split
  · rfl
  · split
    · split
      · exact (Dev.rd_signalFault _ _ _ _ _).trans ((latched _ _).trans counted)
      · exact (latched _ _).trans counted
    · exact counted

/-- READY and STANDBY, as BOOT_READY makes them before it looks at THERM_L. -/
def Dev.readyStandby (d : Dev) (us : Nat) : Dev := ((d.setStage 3 0).setFld .boot 0 0xA0 31 0 us).setFld .cmp 0 8 2 0 1

/-- The goal point hangs on the PWR block. -/
theorem Dev.goalOp_readyStandby (d : Dev) (us : Nat) : (d.readyStandby us).goalOp = d.goalOp := by
  have pwr {o : Nat} (h : o < 0x10000) : (d.readyStandby us).rd .pwr 0 o = d.rd .pwr 0 o := by
    have ha : Loc.addr ⟨.pwr, 0, o⟩ = 0x30000 + o := by simp [Loc.addr, Blk.base]
    have hc : Loc.addr ⟨.cmp, 0, 8⟩ = 0x50008 := rfl
    have hb : Loc.addr ⟨.boot, 0, 0xA0⟩ = 0x100A0 := rfl
    rw [Dev.readyStandby, Dev.rd_setFld_ne (h := by omega), Dev.rd_setFld_ne (h := by omega),
      Dev.rd_setStage _ _ _ (by omega)]
  simp only [Dev.goalOp, Dev.opSt, Dev.fld, pwr (o := 0x18) (by decide), pwr (o := 0x20) (by decide)]

/-- A boot that becomes READY while THERM_L is asserted goes to OP3. -/
theorem Dev.goalOp_therm (d : Dev) (u : FUnit) (w : W64) : (((d.setOpSt 17 16 3).supplyPath).raise 0x259 u [] w).goalOp = 3 := by
  refine Dev.goalOp_of_thermCap ?_
  rw [Dev.opSt, Dev.fld, Dev.rd_raise_nil _ _ _ (by decide) (.inr (by decide))]
  exact (Dev.thermCap_supplyPath _).trans (Dev.fld_setFld_self (h := by decide) (h64 := by decide) ..)

/-! ## Writes of the BOOT block -/

/-- A device whose host access is accepted has power. -/
theorem Dev.off_of_ok {d : Dev} {fn off size : Nat} {w : Bool} (h : d.hostVerdict fn off size w = .ok) : d.off = false := by
  cases ho : d.off with
  | false => rfl
  | true => simp [Dev.hostVerdict, ho] at h

/-- An accepted write of function 0 to a register of the BOOT block. -/
theorem Dev.busWrite_boot {d : Dev} {o : Nat} {r : RegRow} (v : W64) (h8 : o % 8 = 0) (ho : o < 0x10000)
    (hr : findRow .boot o = some r) (h : d.hostVerdict 0 (0x10000 + o) 8 true = .ok) :
    d.busWrite 0 (0x10000 + o) 8 v = d.writeBoot 0 ⟨.boot, 0, o⟩ r (0, 64) v := by
  have ht : d.target (0x10000 + o) = .one ⟨.boot, 0, o⟩ := by
    have e : (0x10000 + o) / 8 * 8 = 0x10000 + o := by omega
    have hq : (0x10000 + o) / 65536 = 1 := by omega
    have hm : (0x10000 + o) % 65536 = o := by omega
    simp only [Dev.target, e, hq, hm]
    rw [if_pos (by omega)]
    rfl
  have hu : uniCell (0x10000 + o) = none := if_neg (by omega)
  rw [Dev.busWrite_ok v h]
  simp only [Dev.doWrite, pfOff, if_true, ht, hu, Dev.regWrite, hr]
  rfl

/-- An accepted write of BOOT_CTL. -/
theorem Dev.busWrite_bootCtl {d : Dev} (v : W64) (h : d.hostVerdict 0 0x10008 8 true = .ok) :
    d.busWrite 0 0x10008 8 v = d.bootCtl v := by
  obtain ⟨r, hr⟩ := Option.isSome_iff_exists.1 (by decide +kernel : (findRow .boot 8).isSome = true)
  exact Dev.busWrite_boot v rfl (by decide) hr h

/-- An accepted write of BOOT_OTP_CTL. -/
theorem Dev.busWrite_otpCtl {d : Dev} (v : W64) (h : d.hostVerdict 0 0x10010 8 true = .ok) :
    d.busWrite 0 0x10010 8 v = d.otpCtl v := by
  obtain ⟨r, hr⟩ := Option.isSome_iff_exists.1 (by decide +kernel : (findRow .boot 0x10).isSome = true)
  exact Dev.busWrite_boot v rfl (by decide) hr h

/-- An accepted write of BOOT_RCV_CTL.GO. -/
theorem Dev.busWrite_rcvGo {d : Dev} (h : d.hostVerdict 0 0x10090 8 true = .ok) : d.busWrite 0 0x10090 8 1 = d.recoveryGo := by
  obtain ⟨r, hr⟩ := Option.isSome_iff_exists.1 (by decide +kernel : (findRow .boot 0x90).isSome = true)
  exact Dev.busWrite_boot 1 rfl (by decide) hr h

/-! ## Power-on (16 R772) -/

/-- The device that POWER_ON boots: cleared, with the straps and identity records that it finds. -/
def Dev.cleared (d : Dev) (straps : BitVec 6) (dies : List (Option (BitVec 128))) : Dev :=
  (Dev.powerClear { d with board := { d.board with straps := straps, dieRec := dies, mrst := false } }).lastReset 1

theorem Dev.powerOn_eq (d : Dev) (straps : BitVec 6) (dies : List (Option (BitVec 128))) :
    d.powerOn straps dies = (d.cleared straps dies).boot true := rfl

/-- What POWER_ON leaves of the memories, tables and flash. -/
theorem Dev.powerOn_keeps (d : Dev) (straps : BitVec 6) (dies : List (Option (BitVec 128))) :
    let d' := d.powerOn straps dies
    d'.invCause = dieCauses dies ∧ d'.slotId = straps.toNat ∧ d'.threads = [] ∧ d'.images = [] ∧ d'.tracts = [] ∧
    d'.conns = [] ∧ d'.shadow = [] ∧ d'.mem = [] ∧ d'.fences = [] ∧ d'.cfgA = d.cfgA ∧ d'.cfgB = d.cfgB ∧
    d'.board = { d.board with straps := straps, dieRec := dies, mrst := false } := by
  obtain ⟨taken, halted, cfg, isB, stands, svc, regs, h⟩ := (d.cleared straps dies).boot_eq true
  rw [Dev.powerOn_eq, h]
  exact ⟨rfl, rfl, rfl, rfl, rfl, rfl, rfl, rfl, rfl, rfl, rfl, rfl⟩

theorem Dev.svnOtp_cleared (d : Dev) (straps : BitVec 6) (dies : List (Option (BitVec 128))) :
    (d.cleared straps dies).fld .boot 0 0 55 48 = d.fld .boot 0 0 55 48 := by
  rw [Dev.cleared, Dev.lastReset, Dev.fld_setFld_other (h := by decide) (h64 := by decide) (ho := by decide) (h2l := by decide),
    Dev.svnOtp_powerClear]
  exact Dev.fld_congr rfl ..

theorem Dev.revoked_cleared (d : Dev) (straps : BitVec 6) (dies : List (Option (BitVec 128))) :
    (d.cleared straps dies).fld .boot 0 0x18 11 8 = d.fld .boot 0 0x18 11 8 := by
  rw [Dev.cleared, Dev.lastReset, Dev.fld_setFld_ne (h := by decide), Dev.revoked_powerClear]
  exact Dev.fld_congr rfl ..

theorem Dev.roots_cleared (d : Dev) (straps : BitVec 6) (dies : List (Option (BitVec 128))) :
    (d.cleared straps dies).board.roots = d.board.roots := by
  rw [Dev.cleared, Dev.lastReset, Dev.setFld_board, Dev.board_powerClear]

theorem Dev.fwCheck_cleared (d : Dev) (straps : BitVec 6) (dies : List (Option (BitVec 128))) (img : Option (List Byte)) :
    (d.cleared straps dies).fwCheck img = d.fwCheck img :=
  Dev.fwCheck_congr (d.roots_cleared straps dies) (d.revoked_cleared straps dies) (d.svnOtp_cleared straps dies) img

/-- What POWER_ON leaves in registers: the first-fault latch clear, LAST_RESET of a power-on, and the fuses as they were. -/
theorem Dev.powerOn_regs (d : Dev) (straps : BitVec 6) (dies : List (Option (BitVec 128))) :
    let d' := d.powerOn straps dies
    d'.curOp = 3 ∧ d'.fld .boot 0 0 35 32 = 1 ∧ d'.rd .flt 0 8 = 0 ∧ d'.fld .boot 0 0 55 48 = d.fld .boot 0 0 55 48 ∧
    d'.fld .boot 0 0x18 11 8 = d.fld .boot 0 0x18 11 8 := by
  dsimp only
  rw [Dev.powerOn_eq]
  refine ⟨Dev.curOp_boot _ _, ?_, ?_, ?_, ?_⟩
  · rw [Dev.status_boot _ _ (.inl (by decide)) (by decide)]
    exact Dev.fld_setFld_self (h := by decide) (h64 := by decide) ..
  · rw [Dev.rd_boot _ _ (by decide), Dev.cleared, Dev.lastReset, Dev.rd_setFld_ne (h := by decide),
      Dev.rd_powerClear _ (by decide) (by decide)]
    decide +kernel
  · rw [Dev.status_boot _ _ (.inr (by decide)) (by decide), Dev.svnOtp_cleared]
  · rw [Dev.revoked_boot, Dev.revoked_cleared]

theorem Dev.powerOn_halts {d : Dev} {straps : BitVec 6} {dies : List (Option (BitVec 128))}
    (h : (d.powerOn straps dies).invHalts = true) :
    (d.powerOn straps dies).stageOf = 5 ∧ (d.powerOn straps dies).fld .boot 0 0 23 16 = 0x10 ∧
      (d.powerOn straps dies).halted = true :=
  Dev.boot_halts h

theorem Dev.powerOn_recovers {d : Dev} {straps : BitVec 6} {dies : List (Option (BitVec 128))}
    (h : (d.powerOn straps dies).invHalts = false) (hf : d.fwCheck d.board.flash ≠ 0) :
    (d.powerOn straps dies).stageOf = 4 ∧ (d.powerOn straps dies).fld .boot 0 0 23 16 = d.fwCheck d.board.flash := by
  rw [← d.fwCheck_cleared straps dies] at hf ⊢
  exact Dev.boot_recovers h hf

theorem Dev.powerOn_runs {d : Dev} {straps : BitVec 6} {dies : List (Option (BitVec 128))} {b : List Byte}
    (h : (d.powerOn straps dies).invHalts = false) (hb : d.board.flash = some b) (hf : d.fwCheck (some b) = 0) :
    (d.powerOn straps dies).stageOf = 2 ∧ (d.powerOn straps dies).fld .boot 0 0 23 16 = 0 ∧
      (d.powerOn straps dies).fld .boot 0 0 47 40 = recNum b 12 4 :=
  Dev.boot_runs h hb ((d.fwCheck_cleared straps dies _).trans hf)

/-! ## BOOT_READY -/

/-- BOOT_READY before the boot has come so far, after it or without power. -/
theorem Dev.bootReady_early {d : Dev} (us : Nat) (h : d.stageOf ≠ 2 ∨ d.warm = true ∨ d.off = true) : d.bootReady us = d :=
  if_pos h

/-- BOOT_READY of a device that boots. -/
theorem Dev.bootReady_eq {d : Dev} (us : Nat) (h2 : d.stageOf = 2) (hw : d.warm = false) (ho : d.off = false) {e : Dev} {g : Nat}
    (he : (if (d.readyStandby us).thermL then Dev.thermAssert { d.readyStandby us with thermL := false } else d.readyStandby us) = e)
    (hg : e.goalOp = g) :
    d.bootReady us = { e.setFld .pwr 0 0x20 1 0 g with rails := [(0, g), (1, g), (2, g), (3, g)] } := by
  subst hg he
  exact if_neg (by simp [h2, hw, ho])

/-- THERM_L found asserted is taken as an assertion. -/
theorem Dev.thermAssert_found {d : Dev} (ht : d.thermL = true) (ho : d.off = false) :
    Dev.thermAssert { d with thermL := false } = ((d.setOpSt 17 16 3).supplyPath).raise 0x259 ⟨.edge, 2⟩ [] 0 := by
  obtain ⟨⟩ := d
  subst ht ho
  rfl

/-! ## Resets of the module -/

/-- The device that a reset of the module leaves, before it boots. -/
def Dev.moduleHeld (d : Dev) : Dev := d.lastWords.moduleClear.lastReset 2

theorem Dev.moduleHeld_boot_keeps (d : Dev) :
    let d' := d.moduleHeld.boot false
    d'.invCause = d.lastWords.invCause ∧ d'.rd .flt 0 8 = d.lastWords.rd .flt 0 8 ∧ d'.threads = [] ∧ d'.tracts = [] ∧ d'.mem = [] := by
  obtain ⟨regs, hm⟩ := d.lastWords.moduleClear_onlyRegs
  obtain ⟨taken, halted, cfg, isB, stands, svc, regs2, h⟩ := d.moduleHeld.boot_eq false
  refine ⟨?_, ?_, ?_, ?_, ?_⟩
  · rw [Dev.invCause_boot, if_neg (by decide), Dev.moduleHeld, Dev.lastReset, Dev.setFld_invCause, hm]
  · rw [Dev.rd_boot _ _ (by decide), Dev.moduleHeld, Dev.lastReset, Dev.rd_setFld_ne (h := by decide),
      Dev.first_moduleClear]
  · rw [h, Dev.moduleHeld, Dev.lastReset, hm]
    rfl
  · rw [h, Dev.moduleHeld, Dev.lastReset, hm]
    rfl
  · rw [h, Dev.moduleHeld, Dev.lastReset, hm]
    rfl

/-- A module reset whose image fails a check ends in RECOVERY. -/
theorem Dev.moduleHeld_boot_recovers {d : Dev} (h : d.lastWords.invHalts = false)
    (hf : d.lastWords.fwCheck d.lastWords.board.flash ≠ 0) : (d.moduleHeld.boot false).stageOf = 4 := by
  have hb : d.moduleHeld.board = d.lastWords.board := by
    obtain ⟨regs, hm⟩ := d.lastWords.moduleClear_onlyRegs
    rw [Dev.moduleHeld, Dev.lastReset, Dev.setFld_board, hm]
    rfl
  refine (Dev.boot_recovers ?_ ?_).1
  · rwa [Dev.invHalts_congr d.moduleHeld_boot_keeps.1]
  · rwa [Dev.moduleHeld, Dev.fwCheck_moduleClear, ← Dev.moduleHeld, hb]

theorem Dev.moduleReset_powered {d : Dev} (h : d.off = false) : d.moduleReset = d.moduleHeld.boot false :=
  if_neg (by simp [h])

theorem Dev.mrstAssert_powered {d : Dev} (h : d.off = false) :
    d.mrstAssert = { d.moduleHeld with board := { d.moduleHeld.board with mrst := true } } := by
  rw [Dev.mrstAssert, if_neg (by simp [h]), if_neg (by simp [h])]
  rfl

theorem Dev.mrstAssert_inS4 {d : Dev} (h : d.off = true) (h4 : d.inS4 = true) :
    d.mrstAssert = { d with board := { d.board with mrst := true } } := by
  rw [Dev.mrstAssert, if_neg (by simp [h4]), if_pos h]

theorem Dev.mrstAssert_off {d : Dev} (h : d.off = true) (h4 : d.inS4 = false) : d.mrstAssert = d :=
  if_pos ⟨h, by simp [h4]⟩

/-- MRST_L released while the module has no power: the boot out of S4. -/
theorem Dev.mrstRelease_off {d : Dev} (straps : BitVec 6) (hm : d.board.mrst = true) (h : d.off = true) :
    d.mrstRelease straps = ({ d with board := { d.board with mrst := false, straps := straps } } : Dev).leaveS4 := by
  rw [Dev.mrstRelease, if_neg (by simp [hm])]
  exact if_pos h

theorem Dev.mrstRelease_powered {d : Dev} (straps : BitVec 6) (hm : d.board.mrst = true) (h : d.off = false) :
    d.mrstRelease straps =
      (({ d with board := { d.board with mrst := false, straps := straps } } : Dev).lastReset 2).boot false := by
  rw [Dev.mrstRelease, if_neg (by simp [hm])]
  exact if_neg (by simp [h])

/-! ## What the commands of boot and reset give -/

theorem powerOn_gives (s : State) (straps : BitVec 6) (dies : List (Option (BitVec 128))) :
    GivesLater s (.powerOn straps dies) (s.d.powerOn straps dies) := rfl

theorem bootReady_gives (s : State) (us : BitVec 32) : GivesLater s (.bootReady us) (s.d.bootReady us.toNat) := rfl

theorem mrstLAssert_gives (s : State) : GivesLater s .mrstLAssert s.d.mrstAssert := rfl

theorem mrstLRelease_gives (s : State) (straps : BitVec 6) : GivesLater s (.mrstLRelease straps) (s.d.mrstRelease straps) := rfl

theorem warmResetDone_gives (s : State) (h : s.d.up? = true) : GivesLater s .warmResetDone s.d.warmDone :=
  State.alive_eq _ h

/-- The writes of BOOT_CTL that the host may make. -/
theorem bootCtl_gives {s : State} (h : s.d.hostVerdict 0 0x10008 8 true = .ok) :
    GivesLater s (.bootCtlModule 0) s.d.moduleReset ∧ GivesLater s (.bootCtlWarm 0) s.d.warmReset ∧
      GivesLater s (.commitSvn 0) s.d.commitSvn ∧ GivesLater s (.cfgErase 0) s.d.cfgErase := by
  have gives {c : Instr} (v : W64) (hc : GivesLater s c (s.d.busWrite 0 0x10008 8 v)) : GivesLater s c (s.d.bootCtl v) :=
    hc.of_eq (Dev.busWrite_bootCtl v h)
  exact ⟨gives 2 rfl, gives 1 rfl, gives 4 rfl, gives 8 rfl⟩

/-- The word that asks for the revocation of a slot (16 R787). -/
def revokeWord (slot : BitVec 2) : W64 := BitVec.ofNat 64 (slot.toNat * 256 + 1)

theorem slot_revokeWord : ∀ slot, bits (revokeWord slot) 9 8 = slot.toNat := by decide

theorem go_revokeWord : ∀ slot, bitAt (revokeWord slot) 0 = true := by decide

theorem rootKeyRevoke_gives {s : State} (slot : BitVec 2) (h : s.d.hostVerdict 0 0x10010 8 true = .ok) :
    GivesLater s (.rootKeyRevoke 0 slot) (s.d.otpCtl (revokeWord slot)) :=
  GivesLater.of_eq (d := s.d.busWrite 0 0x10010 8 (revokeWord slot)) rfl (Dev.busWrite_otpCtl _ h)

theorem recoveryGo_gives {s : State} (h : s.d.hostVerdict 0 0x10090 8 true = .ok) : GivesLater s (.recoveryGo 0) s.d.recoveryGo :=
  GivesLater.of_eq (d := s.d.busWrite 0 0x10090 8 1) rfl (Dev.busWrite_rcvGo h)

/-! ## Fuses and the recovery image (16 R786, R787, R790) -/

/-- Slot k may be revoked: no image that runs was signed with it, and another slot stays (16 R787). -/
abbrev Dev.MayRevoke (d : Dev) (k : Nat) : Prop :=
  (d.imageRuns = false ∨ k ≠ d.fld .boot 0 0x18 1 0) ∧ ∃ i, i < 4 ∧ i ≠ k ∧ bitAt (d.rd .boot 0 0x18) (8 + i) = false

theorem Dev.mayRevoke_iff (d : Dev) (k : Nat) :
    (((!d.imageRuns) = true ∨ k ≠ d.fld .boot 0 0x18 1 0) ∧
      ((List.range 4).any fun i => i != k && !(d.rd .boot 0 0x18).getLsbD (8 + i)) = true) ↔ d.MayRevoke k := by
  simp only [Dev.MayRevoke, bitAt, List.any_eq_true, List.mem_range, Bool.and_eq_true, bne_iff_ne, Bool.not_eq_true']

theorem Dev.otpCtl_revokes {d : Dev} {slot : BitVec 2} (h : d.MayRevoke slot.toNat) :
    d.otpCtl (revokeWord slot) = { d with doing := { d.doing with burn := some (.revoke slot.toNat) } } := by
  unfold Dev.otpCtl
  dsimp only
  rw [slot_revokeWord, if_pos ⟨go_revokeWord slot, (d.mayRevoke_iff _).2 h⟩]

theorem Dev.otpCtl_refuses {d : Dev} {slot : BitVec 2} (h : ¬ d.MayRevoke slot.toNat) : d.otpCtl (revokeWord slot) = d := by
  unfold Dev.otpCtl
  dsimp only
  rw [slot_revokeWord, if_neg (fun hc => h ((d.mayRevoke_iff _).1 hc.2))]

/-- A revocation fuse that is burnt adds its slot to the revoked ones. -/
theorem Otp.burn_revoke {o : Otp} {k : Nat} (h : ∃ i, i < 4 ∧ i ≠ k ∧ o.revoked.getLsbD i = false) :
    o.burn (.revoke k) = { o with revoked := o.revoked ||| BitVec.ofNat 4 (2 ^ k) } := by
  obtain ⟨i, hi, hk, hr⟩ := h
  exact if_pos (List.any_eq_true.2 ⟨i, List.mem_range.2 hi, by simp [hk, hr]⟩)

theorem Otp.getLsbD_revoke (o : Otp) (k : Nat) {i : Nat} (h : i < 4) :
    (o.revoked ||| BitVec.ofNat 4 (2 ^ k)).getLsbD i = (o.revoked.getLsbD i || decide (i = k)) := by
  rw [BitVec.getLsbD_or, BitVec.getLsbD_ofNat, Nat.testBit_two_pow]
  simp [h, eq_comm]

theorem State.put_otp_burns (s : State) {e : Dev} {b : Burn} (h : e.doing.burn = some b) : (s.put e).otp = s.otp.burn b := by
  rw [State.put_burns s e b h]

/-- BOOT_RCV_CTL.GO is taken: in RECOVERY, with function 0 live, a length of at most 4 MiB and no image under way (16 R790). -/
abbrev Dev.MayRecover (d : Dev) : Prop :=
  d.stageOf = 4 ∧ d.fnLive 0 = true ∧ d.fld .boot 0 0x88 22 0 ≤ 4194304 ∧ ∀ r ∈ d.dma, r.use ≠ .recovery

theorem Dev.mayRecover_iff (d : Dev) : ¬ (d.stageOf ≠ 4 ∨ (!d.fnLive 0) = true ∨ 4194304 < d.fld .boot 0 0x88 22 0 ∨
    (d.dma.any fun r => r.use == .recovery) = true) ↔ d.MayRecover := by
  simp only [Dev.MayRecover, not_or, not_not, Bool.not_eq_true', Bool.not_eq_false, Bool.not_eq_true, not_lt, List.any_eq_false,
    beq_iff_eq, ne_eq]

theorem Dev.recoveryGo_reads {d : Dev} (h : d.MayRecover) : d.recoveryGo = { d with
    dma := d.dma ++ [⟨d.dmaNext, 0, .recovery, 0⟩], dmaNext := d.dmaNext + 1,
    out := d.out ++ [.dmaRead 0 d.dmaNext (d.fld .boot 0 0x80 63 12 * 4096) (d.fld .boot 0 0x88 22 0)] } :=
  if_neg (d.mayRecover_iff.2 h)

theorem Dev.recoveryGo_refuses {d : Dev} (h : ¬ d.MayRecover) : d.recoveryGo = d :=
  if_pos (not_not.1 (mt d.mayRecover_iff.1 h))

/-! ## Warm reset (16 R777) -/

theorem Dev.warmReset_eq {d : Dev} (h3 : d.stageOf = 3) (hh : d.halted = false) (ho : d.off = false) :
    let d1 : Dev := { (d.setFld .boot 0 0 35 32 3).setFld .boot 0 0 3 0 2 with warm := true, cellRst := [] }
    let d2 := (List.range 32).foldl (fun (x : Dev) w => x.standReset w) d1
    d.warmReset = (d2.moves.foldl (fun (x : Dev) m => x.interrupt m.key) d2).dmaAbandon fun _ => true :=
  if_neg (by simp [h3, hh, ho])

theorem Dev.warmReset_idle {d : Dev} (h : d.stageOf ≠ 3) : d.warmReset = d := if_pos (.inl h)

theorem Dev.warmDone_eq {d : Dev} (h : d.warm = true) :
    let c := (List.range 16).foldl (fun (x : Dev) i => x.cellClear i) d
    d.warmDone = ((List.range 32).foldl (fun (x : Dev) w => x.standResetDone w)
      ({ c with dir := c.shadow, warm := false } : Dev)).setFld .boot 0 0 3 0 3 :=
  if_neg (by simp [h])

theorem Dev.warmDone_idle {d : Dev} (h : d.warm = false) : d.warmDone = d := if_pos (by simp [h])

/-- Settles O56: the steps of a boot set neither the fuses that BOOT shows nor the latch, and each accepted write of the BOOT
block is its own step. -/
theorem bootAndModuleResets : Obligations.BootAndModuleResets := by
  intro s
  refine ⟨fun straps dies => ?_, fun us => ⟨fun h2 hw ho ht => ?_, fun h2 hw ho ht => ?_, fun h => ?_⟩,
    ⟨fun ho => ?_, fun ho h4 => ?_, fun ho h4 => ?_, fun hok => ?_, fun straps => ⟨fun hm => ?_, fun hm ho => ?_, fun hm ho => ?_⟩⟩,
    fun hok => ?_, fun hup => ⟨fun hw => ?_, fun hw => ?_⟩, fun slot hok => ⟨fun h => ?_, fun h => ?_⟩,
    fun e => ⟨fun h => ?_, fun n h => ?_, fun k hk h hi => ?_⟩, fun hok => ⟨fun h => ?_, fun h => ?_⟩⟩
  · obtain ⟨hinv, hslot, hthr, himg, htr, hcon, hsh, hmem, hfen, hA, hB, hboard⟩ := s.d.powerOn_keeps straps dies
    obtain ⟨hop, hlast, hflt, hsvn, hrev⟩ := s.d.powerOn_regs straps dies
    exact ⟨_, powerOn_gives s straps dies, hinv, hslot, hop, hlast, Dev.powerOn_halts, Dev.powerOn_recovers,
      fun b hn hb hf => Dev.powerOn_runs hn hb hf, hthr, himg, htr, hcon, hsh, hmem, hfen, hflt, hA, hB, hboard, hsvn, hrev⟩
  · have hd : (s.d.readyStandby us.toNat).thermL = false := ht
    exact (bootReady_gives s us).of_eq (Dev.bootReady_eq _ h2 hw ho (if_neg (by simp [hd])) (s.d.goalOp_readyStandby us.toNat))
  · have hd : (s.d.readyStandby us.toNat).thermL = true := ht
    exact (bootReady_gives s us).of_eq (Dev.bootReady_eq _ h2 hw ho ((if_pos hd).trans (Dev.thermAssert_found hd ho))
      (Dev.goalOp_therm _ _ _))
  · exact (bootReady_gives s us).of_eq (Dev.bootReady_early _ h)
  · exact (mrstLAssert_gives s).of_eq (Dev.mrstAssert_powered ho)
  · exact (mrstLAssert_gives s).of_eq (Dev.mrstAssert_inS4 ho h4)
  · exact (mrstLAssert_gives s).of_eq (Dev.mrstAssert_off ho h4)
  · obtain ⟨hmod, -, -, -⟩ := bootCtl_gives hok
    obtain ⟨hinv, hflt, hthr, htr, hmem⟩ := s.d.moduleHeld_boot_keeps
    exact ⟨_, hmod.of_eq (Dev.moduleReset_powered (Dev.off_of_ok hok)), rfl, hinv, hflt, hthr, htr, hmem,
      Dev.moduleHeld_boot_recovers⟩
  · exact (mrstLRelease_gives s straps).of_eq (if_pos (by simp [hm]))
  · exact (mrstLRelease_gives s straps).of_eq (Dev.mrstRelease_off straps hm ho)
  · exact (mrstLRelease_gives s straps).of_eq (Dev.mrstRelease_powered straps hm ho)
  · obtain ⟨-, hwarm, hsvn, hcfg⟩ := bootCtl_gives hok
    exact ⟨fun h3 hh => hwarm.of_eq (Dev.warmReset_eq h3 hh (Dev.off_of_ok hok)),
      fun h3 => ⟨hwarm.of_eq (Dev.warmReset_idle h3), hsvn.of_eq (if_neg h3)⟩,
      fun h3 => hsvn.of_eq (if_pos h3), fun hb => hcfg.of_eq (if_pos hb), fun hb => hcfg.of_eq (if_neg (by simp [hb]))⟩
  · exact (warmResetDone_gives s hup).of_eq (Dev.warmDone_eq hw)
  · exact (warmResetDone_gives s hup).of_eq (Dev.warmDone_idle hw)
  · exact (rootKeyRevoke_gives slot hok).of_eq (Dev.otpCtl_revokes h)
  · exact (rootKeyRevoke_gives slot hok).of_eq (Dev.otpCtl_refuses h)
  · exact State.put_otp s e h
  · exact State.put_otp_burns s h
  · rw [State.put_otp_burns s h, Otp.burn_revoke hi]
    exact ⟨rfl, fun i h4 => Otp.getLsbD_revoke s.otp k h4⟩
  · exact (recoveryGo_gives hok).of_eq (Dev.recoveryGo_reads h)
  · exact (recoveryGo_gives hok).of_eq (Dev.recoveryGo_refuses h)

end Machine
end Sys2Proof

/-!
PROOFS. Stands (03 R66 to R100): an accepted write of a register in a stand's window, access keys and sessions, stand reset and
quotas, and the statements O31 and O32.
-/
namespace Sys2Proof
namespace Machine

/-! ## A stand's slot -/

@[simp] theorem Dev.std_setStd (d : Dev) (w : Nat) (x : Stand) : (d.setStd w x).std w = x := Tab.getD_set_self ..

@[simp] theorem Dev.setStd_setStd (d : Dev) (w : Nat) (x y : Stand) : (d.setStd w x).setStd w y = d.setStd w y := by
  simp [Dev.setStd]

theorem Dev.modStd_setStd (d : Dev) (w : Nat) (x : Stand) (f : Stand → Stand) :
    (d.setStd w x).modStd w f = d.setStd w (f x) := by
  simp [Dev.modStd]

/-! ## Writes of a stand's window (03 R66, R67; 17 Table 8) -/

theorem standOf_lt (fn st : Fin 32) : standOf fn st < 32 := by
  unfold standOf
  split <;> omega

/-- Either way of naming a stand's window comes to the same place of the map. -/
theorem pfOff_winOff (fn st : Fin 32) {o : Nat} (ho : o < 0x10000) :
    pfOff fn (winOff fn st o) = 0x100000 + standOf fn st * 0x10000 + o := by
  by_cases h : fn = 0
  · simp [pfOff, winOff, standOf, h]
  · have hn : (fn : Nat) ≠ 0 := fun e => h (Fin.ext e)
    simp only [pfOff, winOff, standOf, hn, h, if_false]
    omega

theorem Dev.target_stand (d : Dev) {w o : Nat} (hw : w < 32) (h8 : o % 8 = 0) (ho : o < 0x10000) :
    d.target (0x100000 + w * 0x10000 + o) = .one ⟨.stand, w, o⟩ := by
  have ha : (0x100000 + w * 0x10000 + o) / 8 * 8 = 0x100000 + w * 0x10000 + o := by omega
  have hi : (0x100000 + w * 0x10000 + o - 0x100000) / 65536 = w := by omega
  have hm : (0x100000 + w * 0x10000 + o) % 65536 = o := by omega
  simp only [Dev.target, ha, hi, hm]
  rw [if_neg (by omega), if_neg (by omega), if_pos (by omega)]

/-- An accepted write of 8 bytes of a register in a stand's window has the effect of that register. -/
theorem Dev.busWrite_stand {d e : Dev} {fn st : Fin 32} {o : Nat} {v : W64} (h : d.hostVerdict fn (winOff fn st o) 8 true = .ok)
    (h8 : o % 8 = 0) (ho : o < 0x10000) (hr : (findRow .stand o).isSome = true)
    (he : ∀ r, d.writeStand fn ⟨.stand, standOf fn st, o⟩ r (0, 64) v = e) : d.busWrite fn (winOff fn st o) 8 v = e := by
  obtain ⟨r, hr⟩ := Option.isSome_iff_exists.1 hr
  have ht := d.target_stand (standOf_lt fn st) h8 ho
  have hu : uniCell (0x100000 + standOf fn st * 0x10000 + o) = none := by
    have := standOf_lt fn st
    exact if_neg (by omega)
  rw [Dev.busWrite_ok v h]
  simp only [Dev.doWrite, pfOff_winOff fn st ho, ht, hu, Dev.regWrite, hr]
  exact he r

theorem standReset_gives {s : State} {fn st : Fin 32} (h : WindowOpen s fn st 0x8) :
    GivesLater s (.standReset fn st) (s.d.standReset (standOf fn st)) :=
  GivesLater.of_eq (d := s.d.busWrite fn (winOff fn st 0x8) 8 1) rfl
    (Dev.busWrite_stand h rfl (by decide) (by decide +kernel) fun _ => by simp [Dev.writeStand, bitAt])

theorem quotaCommit_gives {s : State} {fn st : Fin 32} (h : WindowOpen s fn st 0x128) :
    GivesLater s (.quotaCommit fn st) (s.d.quotaCommit (standOf fn st)) :=
  GivesLater.of_eq (d := s.d.busWrite fn (winOff fn st 0x128) 8 1) rfl
    (Dev.busWrite_stand h rfl (by decide) (by decide +kernel) fun _ => by simp [Dev.writeStand, bitAt])

/-- The writes of STD_KEY_CTL. -/
theorem keyCtl_gives {s : State} {fn st : Fin 32} (h : WindowOpen s fn st 0x70) :
    GivesLater s (.stdKeyCommit fn st) (s.d.keyCtl (standOf fn st) 1) ∧
      GivesLater s (.stdKeyErase fn st) (s.d.keyCtl (standOf fn st) 2) := by
  have hw (v : W64) : s.d.busWrite fn (winOff fn st 0x70) 8 v = s.d.keyCtl (standOf fn st) v :=
    Dev.busWrite_stand h rfl (by decide) (by decide +kernel) fun _ => by simp [Dev.writeStand]
  exact ⟨GivesLater.of_eq rfl (hw 1), GivesLater.of_eq rfl (hw 2)⟩

/-- The writes of SES_CTL. -/
theorem sesCtl_gives {s : State} {fn st : Fin 32} (h : WindowOpen s fn st 0x1010) :
    GivesLater s (.sesChallenge fn st) (s.d.sesBegin (standOf fn st) .challenge) ∧
      GivesLater s (.sesSubmit fn st) (s.d.sesBegin (standOf fn st) .submit) ∧
      GivesLater s (.sesClose fn st) (s.d.sesClose (standOf fn st)) := by
  have hw (v : W64) : s.d.busWrite fn (winOff fn st 0x1010) 8 v = s.d.sesCtl (standOf fn st) v :=
    Dev.busWrite_stand h rfl (by decide) (by decide +kernel) fun _ => by simp [Dev.writeStand]
  exact ⟨GivesLater.of_eq rfl (hw 1), GivesLater.of_eq rfl (hw 2), GivesLater.of_eq rfl (hw 4)⟩

/-! ## Sessions (03 R75 to R87, R851) -/

theorem Dev.sesAbandon_idle {d : Dev} {w : Nat} (h : (d.std w).op = none) : d.sesAbandon w = d.setStd w (d.std w) := by
  simp [Dev.sesAbandon, Dev.modStd, h]

/-- A close without a pending operation closes the session that is open. -/
theorem Dev.sesClose_idle {d : Dev} {w : Nat} (h : (d.std w).op = none) :
    d.sesClose w = d.setStd w { d.std w with ses := if (d.std w).ses = .opened then .closed else (d.std w).ses } := by
  rw [Dev.sesClose, Dev.sesAbandon_idle h, Dev.modStd_setStd]
  split <;> rfl

theorem Dev.sesAbandon_pending {d : Dev} {w : Nat} (h : (d.std w).op ≠ none) :
    d.sesAbandon w = d.setStd w { d.std w with op := none, result := .none, ses := .closed, nonce := 0 } :=
  congrArg (d.setStd w) (if_pos (Option.isSome_iff_ne_none.2 h))

/-- A close abandons the operation that is pending (R851). -/
theorem Dev.sesClose_pending {d : Dev} {w : Nat} (h : (d.std w).op ≠ none) :
    d.sesClose w = d.setStd w { d.std w with op := none, result := .none, ses := .closed, nonce := 0 } := by
  rw [Dev.sesClose, Dev.sesAbandon_pending h, Dev.modStd_setStd]
  exact congrArg _ (if_neg nofun)

theorem Dev.sesClose_opened {d : Dev} {w : Nat} (h : (d.std w).op = none) (ho : (d.std w).ses = .opened) :
    d.sesClose w = d.setStd w { d.std w with ses := .closed } := by
  rw [Dev.sesClose_idle h, if_pos ho]

/-- The checks of R82 that a CHALLENGE or SUBMIT of stand w passes, with no operation pending. -/
structure Dev.MayBegin (d : Dev) (w : Nat) : Prop where
  idle : (d.std w).op = none
  notOpen : d.sesState w ≠ 2
  notBusy : d.sesState w ≠ 4
  notLocked : (d.std w).ses ≠ .locked
  hasKey : (d.std w).key ≠ none

theorem Dev.sesBegin_challenge {d : Dev} {w : Nat} (h : d.MayBegin w) :
    d.sesBegin w .challenge = d.setStd w { d.std w with op := some .challenge } := by
  simp [Dev.sesBegin, h.idle, h.notOpen, h.notBusy, h.notLocked, h.hasKey]

theorem Dev.sesBegin_submit {d : Dev} {w : Nat} (h : d.MayBegin w) (hc : (d.std w).ses = .challenged) :
    d.sesBegin w .submit = d.setStd w { d.std w with op := some .submit, given := (d.std w).proof } := by
  simp [Dev.sesBegin, h.idle, h.notOpen, h.notBusy, h.hasKey, hc]

theorem Dev.challengeDone_pending {d : Dev} {w : Nat} (h : (d.std w).op = some .challenge) :
    d.challengeDone w = d.took.setStd w { d.std w with
      op := none, ses := .challenged, result := .issued, nonce := Config.nonce d.freeCtr } :=
  if_pos h

/-- The right proof opens the session (R78). -/
theorem Dev.submitDone_right {d : Dev} {w : Nat} (h : (d.std w).op = some .submit) (hp : (d.std w).proofOk w = true) :
    d.submitDone w = d.setStd w { d.std w with
      op := none, ses := .opened, result := .opened, count := (d.std w).count + 1, fails := 0, nonce := 0 } :=
  (if_neg (not_not.2 h)).trans (if_pos hp)

/-- The first two wrong proofs count (R79). -/
theorem Dev.submitDone_wrong {d : Dev} {w : Nat} (h : (d.std w).op = some .submit) (hp : (d.std w).proofOk w = false)
    (hn : (d.std w).fails + 1 < 3) :
    d.submitDone w = d.setStd w { d.std w with
      op := none, ses := .closed, result := .badProof, fails := (d.std w).fails + 1, nonce := 0 } := by
  have hp' : ¬ (d.std w).proofOk w = true := by simp [hp]
  have hm : min ((d.std w).fails + 1) 255 = (d.std w).fails + 1 := by omega
  rw [Dev.submitDone, if_neg (not_not.2 h), if_neg hp', if_pos hn, hm]

/-- The third wrong proof in a row, and each after it, locks the slot out (R80). -/
theorem Dev.submitDone_locks {d : Dev} {w : Nat} (h : (d.std w).op = some .submit) (hp : (d.std w).proofOk w = false)
    (hn : 3 ≤ (d.std w).fails + 1) :
    d.submitDone w = (d.setStd w { d.std w with
      op := none, ses := .locked, result := .badProof, fails := min ((d.std w).fails + 1) 255, nonce := 0,
      lockEnd := d.up + min (2 ^ ((d.std w).fails + 1 - 3)) 64 * 1000000000 }).raise (0x380 + 4 * w) ⟨.none, 0⟩ [w]
        (BitVec.ofNat 64 (min ((d.std w).fails + 1) 255)) := by
  have hp' : ¬ (d.std w).proofOk w = true := by simp [hp]
  have hl : lockSeconds ((d.std w).fails + 1) = min (2 ^ ((d.std w).fails + 1 - 3)) 64 := if_neg (Nat.not_lt.2 hn)
  rw [Dev.submitDone, if_neg (not_not.2 h), if_neg hp', if_neg (Nat.not_lt.2 hn), hl]

theorem Dev.nonceExpiry_challenged {d : Dev} {w : Nat} (h : (d.std w).ses = .challenged) (hop : (d.std w).op = none) :
    d.nonceExpiry w = d.setStd w { d.std w with ses := .closed, nonce := 0 } :=
  if_pos ⟨h, by simp [hop]⟩

theorem Dev.lockoutEnd_locked {d : Dev} {w : Nat} (h : (d.std w).ses = .locked) :
    d.lockoutEnd w = d.setStd w { d.std w with ses := .closed } :=
  if_pos h

theorem Dev.sesIdle_opened {d : Dev} {w : Nat} (h : (d.std w).ses = .opened) (hop : (d.std w).op = none) :
    d.sesIdle w = d.setStd w { d.std w with ses := .closed } :=
  (if_pos h).trans (Dev.sesClose_opened hop h)

/-! ## Access keys (03 R69 to R73) -/

/-- A slot with its staged key committed (R70). -/
def Stand.rekeyed (x : Stand) : Stand :=
  { x with key := some x.staged, staged := 0, ses := .closed, nonce := 0, count := 0, fails := 0 }

/-- A change of the configuration block shows in the block in force and in what is kept of its copies alone. -/
theorem Dev.cfgStore_eq (d : Dev) (f : CfgBlock → CfgBlock) :
    d.cfgStore f = { d with
      cfg := f { d.cfg with seq := d.cfg.seq + 1 }, cfgA := (d.cfgStore f).cfgA, cfgB := (d.cfgStore f).cfgB,
      cfgIsB := (d.cfgStore f).cfgIsB } := by
  unfold Dev.cfgStore
  split <;> rfl

theorem Dev.keyCtl_commit {d : Dev} {w : Nat} (h : (d.std w).op = none) :
    d.keyCtl w 1 = if w = 0 then (d.setStd w (d.std w).rekeyed).cfgStore fun b => { b with claimed := true, key := (d.std w).staged }
      else d.setStd w (d.std w).rekeyed := by
  have hx : (d.sesAbandon w).std w = d.std w := by rw [Dev.sesAbandon_idle h, Dev.std_setStd]
  unfold Dev.keyCtl
  simp only [hx]
  rfl

theorem Dev.keyCtl_erase {d : Dev} {w : Nat} (h : (d.std w).op = none) (h0 : w ≠ 0) :
    d.keyCtl w 2 =
      d.setStd w { d.std w with key := none, ses := if (d.std w).ses = .opened then .closed else (d.std w).ses } := by
  have e : d.keyCtl w 2 = (d.sesClose w).modStd w fun x => { x with key := none } := if_neg h0
  rw [e, Dev.sesClose_idle h, Dev.modStd_setStd]

/-- STD_KEY_COMMIT of stand 0 claims it as well (R73). -/
theorem Dev.keyCtl_commit_owner {d : Dev} (h : (d.std 0).op = none) :
    let d' := d.keyCtl 0 1
    let d1 := d.setStd 0 (d.std 0).rekeyed
    d'.std 0 = d1.std 0 ∧ d'.cfg.claimed = true ∧ d'.cfg.key = (d.std 0).staged ∧ d'.cfg.seq = d.cfg.seq + 1 ∧
      d' = { d1 with cfg := d'.cfg, cfgA := d'.cfgA, cfgB := d'.cfgB, cfgIsB := d'.cfgIsB } := by
  dsimp only
  rw [Dev.keyCtl_commit h, if_pos rfl, Dev.cfgStore_eq]
  exact ⟨rfl, rfl, rfl, rfl, rfl⟩

/-! ## The ends of session operations -/

theorem challengeDone_gives {s : State} (st : Fin 32) (h : s.d.serving = true) :
    GivesLater s (.challengeDone st) (s.d.challengeDone st) :=
  State.served_eq (fun d => d.challengeDone st) h

theorem submitDone_gives {s : State} (st : Fin 32) (h : s.d.serving = true) :
    GivesLater s (.submitDone st) (s.d.submitDone st) :=
  State.served_eq (fun d => d.submitDone st) h

theorem nonceExpiry_gives {s : State} (st : Fin 32) (h : s.d.serving = true) :
    GivesLater s (.nonceExpiry st) (s.d.nonceExpiry st) :=
  State.served_eq (fun d => d.nonceExpiry st) h

theorem lockoutEnd_gives {s : State} (st : Fin 32) (h : s.d.serving = true) :
    GivesLater s (.lockoutEnd st) (s.d.lockoutEnd st) :=
  State.served_eq (fun d => d.lockoutEnd st) h

theorem sessionIdleTimeout_gives {s : State} (st : Fin 32) (h : s.d.serving = true) :
    GivesLater s (.sessionIdleTimeout st) (s.d.sesIdle st) :=
  State.served_eq (fun d => d.sesIdle st) h

theorem standResetDone_gives {s : State} (st : Fin 32) (h : s.d.serving = true) :
    GivesLater s (.standResetDone st) (s.d.standResetDone st) :=
  State.served_eq (fun d => d.standResetDone st) h

/-- Settles O31: an accepted write is its register's own step, and each step sets the stand's slot once in all. -/
theorem accessKeysAndSessions : Obligations.AccessKeysAndSessions := by
  intro s fn st
  refine ⟨fun hok hop => ?_, fun hok hop hopen hbusy hlock hkey => ?_, fun hok => ?_, fun hup => ?_⟩
  · obtain ⟨hcommit, herase⟩ := keyCtl_gives hok
    refine ⟨fun h0 => ?_, fun h0 => ?_, fun h0 => ?_, fun h0 => ?_⟩
    · exact hcommit.of_eq ((Dev.keyCtl_commit hop).trans (if_neg h0))
    · rw [h0] at hcommit hop ⊢
      exact ⟨_, hcommit, Dev.keyCtl_commit_owner hop⟩
    · exact herase.of_eq (Dev.keyCtl_erase hop h0)
    · exact herase.of_eq (if_pos h0)
  · obtain ⟨hchallenge, hsubmit, -⟩ := sesCtl_gives hok
    have hpass : s.d.MayBegin (standOf fn st) := ⟨hop, hopen, hbusy, hlock, hkey⟩
    exact ⟨hchallenge.of_eq (Dev.sesBegin_challenge hpass), fun hc => hsubmit.of_eq (Dev.sesBegin_submit hpass hc)⟩
  · obtain ⟨-, -, hclose⟩ := sesCtl_gives hok
    exact ⟨fun hop ho => hclose.of_eq (Dev.sesClose_opened hop ho), fun hop => hclose.of_eq (Dev.sesClose_pending hop)⟩
  · refine ⟨fun hop => ?_, fun hop hp => ?_, fun hop hp => ⟨fun hn => ?_, fun hn => ?_⟩, fun hs hop => ?_, fun hs => ?_,
      fun hs hop => ?_⟩
    · exact (challengeDone_gives st hup).of_eq (Dev.challengeDone_pending hop)
    · exact (submitDone_gives st hup).of_eq (Dev.submitDone_right hop hp)
    · exact (submitDone_gives st hup).of_eq (Dev.submitDone_wrong hop hp hn)
    · exact (submitDone_gives st hup).of_eq (Dev.submitDone_locks hop hp hn)
    · exact (nonceExpiry_gives st hup).of_eq (Dev.nonceExpiry_challenged hs hop)
    · exact (lockoutEnd_gives st hup).of_eq (Dev.lockoutEnd_locked hs)
    · exact (sessionIdleTimeout_gives st hup).of_eq (Dev.sesIdle_opened hs hop)

/-! ## Stand reset (03 R96 to R100, Table 6) -/

theorem Dev.standReset_running {d : Dev} {w : Nat} (h : (d.std w).rst = true) : d.standReset w = d := if_pos h

/-- What a stand reset does to the slot: the session is closed, but a lockout stays. -/
def Stand.resetting (x : Stand) : Stand :=
  { x with rst := true, nonce := 0, ses := if x.ses = .locked then .locked else .closed }

theorem Dev.standReset_slot {d : Dev} {w : Nat} (h : (d.std w).op = none) :
    (d.sesClose w).modStd w Stand.resetting = d.setStd w (d.std w).resetting := by
  rw [Dev.sesClose_idle h, Dev.modStd_setStd]
  congr 1
  unfold Stand.resetting
  cases (d.std w).ses <;> rfl

theorem Dev.standReset_begins {d : Dev} {w : Nat} (h : (d.std w).rst = false) (hop : (d.std w).op = none) :
    let d1 := d.setStd w (d.std w).resetting
    let d2 := ((((d1.clrRegs (Loc.addr ⟨.stand, w, 0x4000⟩) 0x1000).cutCommands w).clearQueues w).stopKernels w)
    let d3 := ((d2.shadow.filter fun e => keyStand e.1 == w).foldl (fun d e => d.idleSeq w e.1) d2).interruptStand w
    d.standReset w = ((d3.unloadAll w).revokeAll w).cutMessages w := by
  rw [← Dev.standReset_slot hop]
  exact if_neg (by simp [h])

theorem Dev.standResetDone_ends {d : Dev} {w : Nat} (h : (d.std w).rst = true) :
    let d1 := d.tracts.foldl (fun d e => if e.2.stand = w ∧ e.2.st = .revoking then d.tractGone e.1 e.2 else d) d
    let d2 := d1.conns.foldl (fun d e => if e.2.stand = w ∧ e.2.cruise.isNone then d.closeConn e.1 1 else d) d1
    let d3 := d2.setStd w { d2.std w with rst := false, yards := [] }
    d.standResetDone w =
      (d2.std w).yards.foldl (fun d k => if (d.entry k).any (fun v => bits v 63 61 == stYarded) then d.startYard k else d) d3 :=
  if_neg (by simp [h])

/-! ## Quotas (03 R91 to R94) -/

section
variable {d : Dev} {w : Nat} {q : Quota}

theorem Dev.quotaCheck_t0 (h : d.t0Cap < d.quotaSum w (·.t0) q) : d.quotaCheck w q = 2 := if_pos h

theorem Dev.quotaCheck_t1 (h0 : d.quotaSum w (·.t0) q ≤ d.t0Cap) (h : 1572864 < q.t1 ∨ d.t1Cap < d.quotaSum w (·.t1) q) :
    d.quotaCheck w q = 3 :=
  (if_neg (Nat.not_lt.2 h0)).trans (if_pos h)

/-- Quotas of the two tiers that pass leave it to the pools and the connections. -/
theorem Dev.quotaCheck_tiers (h0 : d.quotaSum w (·.t0) q ≤ d.t0Cap) (h1 : q.t1 ≤ 1572864) (h1' : d.quotaSum w (·.t1) q ≤ d.t1Cap) :
    d.quotaCheck w q =
      if 65536 < d.quotaSum w (·.pool) q then 4 else if 65536 < d.quotaSum w (·.conn) q then 5 else 1 :=
  (if_neg (Nat.not_lt.2 h0)).trans (if_neg (not_or.2 ⟨Nat.not_lt.2 h1, Nat.not_lt.2 h1'⟩))

end

/-- Quotas that pass are in force, and pages above them are pre-empted (R94). -/
theorem Dev.quotaCommit_passes {d : Dev} {w : Nat} (h : d.quotaCheck w (d.stagedQuota w) = 1) :
    let d1 := d.setSfld w 0x130 2 0 1
    d.quotaCommit w =
      (((d1.setStd w { d1.std w with quota := d.stagedQuota w }).preemptQuota w 0).preemptQuota w 1).pumpAll := by
  unfold Dev.quotaCommit
  simp only [h]
  rfl

/-- Quotas that fail a check leave the ones in force (R92). -/
theorem Dev.quotaCommit_fails {d : Dev} {w k : Nat} (h : d.quotaCheck w (d.stagedQuota w) = k) (hk : k ≠ 1) :
    d.quotaCommit w = (d.setSfld w 0x130 2 0 k).showQuota w := by
  unfold Dev.quotaCommit
  simp only [h]
  exact if_neg hk

/-- Settles O32: a reset of a stand without a pending operation is the steps of 03 Table 6, and a commit follows the first check
of R92 that the quotas fail. -/
theorem standResetAndQuotas : Obligations.StandResetAndQuotas := by
  intro s fn st
  refine ⟨fun hok hr => ?_, fun hok hr hop => ?_, fun hup hr => ?_, fun hok => ?_⟩
  · exact (standReset_gives hok).of_eq (Dev.standReset_running hr)
  · exact (standReset_gives hok).of_eq (Dev.standReset_begins hr hop)
  · exact (standResetDone_gives st hup).of_eq (Dev.standResetDone_ends hr)
  · have commit := quotaCommit_gives hok
    refine ⟨fun h0 h1 h1' hp hc => ?_, fun h0 => ?_, fun h0 h1 => ?_, fun h0 h1 h1' hp => ?_, fun h0 h1 h1' hp hc => ?_⟩
    · exact commit.of_eq (Dev.quotaCommit_passes
        ((Dev.quotaCheck_tiers h0 h1 h1').trans ((if_neg (Nat.not_lt.2 hp)).trans (if_neg (Nat.not_lt.2 hc)))))
    · exact commit.of_eq (Dev.quotaCommit_fails (Dev.quotaCheck_t0 h0) (by decide))
    · exact commit.of_eq (Dev.quotaCommit_fails (Dev.quotaCheck_t1 h0 h1) (by decide))
    · exact commit.of_eq (Dev.quotaCommit_fails ((Dev.quotaCheck_tiers h0 h1 h1').trans (if_pos hp)) (by decide))
    · exact commit.of_eq (Dev.quotaCommit_fails
        ((Dev.quotaCheck_tiers h0 h1 h1').trans ((if_neg (Nat.not_lt.2 hp)).trans (if_pos hc))) (by decide))

end Machine
end Sys2Proof

/-!
PROOFS. Resets of the PCIe endpoint and the management endpoints (16 R773, R780, R782, R796 to R799; 17 R822, R857; 18 R834 to
R836), and the statement O57.
-/
namespace Sys2Proof
namespace Machine

/-! ## PCIe resets and function-level resets (16 R773, R780, R782; 17 R857) -/

/-- No reset of the endpoint has an effect: the module has no power or is held in reset. -/
abbrev Dev.Held (d : Dev) : Prop := d.off = true ∨ d.board.mrst = true

theorem Dev.pcieTrigger_held {d : Dev} (code : Nat) (h : d.Held) : d.pcieTrigger code = d := if_pos h

theorem Dev.pcieTrigger_waits {d : Dev} (code : Nat) (h : ¬ d.Held) (hr : d.resetRuns = true) :
    d.pcieTrigger code = { d with resetQ := d.resetQ ++ [code] } :=
  (if_neg h).trans (if_pos hr)

theorem Dev.pcieTrigger_goes {d : Dev} (code : Nat) (h : ¬ d.Held) (hr : d.resetRuns = false) :
    d.pcieTrigger code = d.pcieGo code :=
  (if_neg h).trans (if_neg (by simp [hr]))

theorem Dev.linkUp_eq (d : Dev) (rate : BitVec 4) (width : BitVec 5) (flit : Bool) :
    d.linkUp rate.toNat width.toNat flit =
      d.wr .hif 0 0 (BitVec.ofNat 64 (rate.toNat * 2 ^ 9 + width.toNat * 2 ^ 4 + (if flit then 1 else 0))) := by
  rw [Dev.linkUp, Nat.mod_eq_of_lt rate.isLt, Nat.mod_eq_of_lt width.isLt]

/-- PERST_L released in the boot ROM, without power or in reset trains no link. -/
theorem Dev.perstRelease_early {d : Dev} (rate width : Nat) (flit : Bool) (h : d.Held ∨ d.stageOf < 2) :
    d.perstRelease rate width flit = { d with board := { d.board with perst := false } } :=
  if_pos (or_assoc.1 h)

theorem Dev.perstRelease_trains {d : Dev} (rate width : Nat) (flit : Bool) (h : ¬ d.Held) (h2 : 2 ≤ d.stageOf) :
    d.perstRelease rate width flit = ({ d with board := { d.board with perst := false } } : Dev).linkUp rate width flit :=
  if_neg fun hc => (or_assoc.2 hc).elim h (Nat.not_lt.2 h2)

theorem Dev.hotReset_idle {d : Dev} (rate width : Nat) (flit : Bool) (h : d.board.perst = true ∨ d.Held) :
    d.hotReset rate width flit = d := if_pos h

theorem Dev.hotReset_taken {d : Dev} (rate width : Nat) (flit : Bool) (hp : d.board.perst = false) (h : ¬ d.Held) :
    d.hotReset rate width flit = (d.pcieTrigger 7).linkUp rate width flit :=
  if_neg (not_or.2 ⟨by simp [hp], h⟩)

theorem Dev.vfReset_idle {d : Dev} {w : Nat} (h : w = 0 ∨ (d.std w).funcEn = false) : d.vfReset w = d :=
  if_pos (h.imp_right fun he => by simp [he])

theorem Dev.vfReset_taken {d : Dev} {w : Nat} (h0 : w ≠ 0) (he : (d.std w).funcEn = true) :
    let e := (d.standReset w).dmaAbandon fun r => r.fn == w
    d.vfReset w = { e with
      mgmt := { e.mgmt with spdm := Tab.del e.mgmt.spdm w }, fns := Tab.del e.fns w, msix := e.msix.filter fun v => v.1 / 256 != w } :=
  if_neg (by simp [h0, he])

theorem perstLAssert_gives (s : State) : GivesLater s .perstLAssert s.d.perstAssert := rfl

theorem pfFlr_gives (s : State) : GivesLater s .pfFlr (s.d.pcieTrigger 8) := rfl

theorem perstLRelease_gives (s : State) (rate : BitVec 4) (width : BitVec 5) (flit : Bool) :
    GivesLater s (.perstLRelease rate width flit) (s.d.perstRelease rate.toNat width.toNat flit) := rfl

theorem pcieHotReset_gives (s : State) (rate : BitVec 4) (width : BitVec 5) (flit : Bool) :
    GivesLater s (.pcieHotReset rate width flit) (s.d.hotReset rate.toNat width.toNat flit) := rfl

theorem vfFlr_gives (s : State) (w : Fin 32) : GivesLater s (.vfFlr w) (s.d.vfReset w) := rfl

/-! ## I3C and MCTP (17 R822) -/

theorem Dev.entdaa_taken {d : Dev} (a : BitVec 7) (h : d.i3cUp = true) (hn : d.mgmt.i3c = none) :
    d.entdaa a = { d with mgmt := { d.mgmt with i3c := some a.toNat }, out := d.out ++ [.provisional d.slotId] } :=
  if_pos ⟨h, hn⟩

theorem Dev.entdaa_idle {d : Dev} (a : BitVec 7) (h : d.i3cUp = false ∨ d.mgmt.i3c ≠ none) : d.entdaa a = d :=
  if_neg fun ⟨hu, hn⟩ => h.elim (by simp [hu]) (absurd hn)

theorem Dev.mctpRead_allowed {d : Dev} {off : Nat} {l : Loc} (h : d.mctpUp = true) (ho : off < 0x40000) (h8 : off % 8 = 0)
    (ht : d.target off = .one l) : d.mctpRead off = d.emit (.mctp 5 [d.readReg l]) := by
  rw [Dev.mctpRead, if_pos h, if_pos ⟨ho, h8⟩, ht]

theorem Dev.mctpRead_barred {d : Dev} {off : Nat} (h : d.mctpUp = true) (ho : 0x40000 ≤ off ∨ off % 8 ≠ 0) :
    d.mctpRead off = d.emit (.mctp 5 [0]) := by
  rw [Dev.mctpRead, if_pos h, if_neg (by omega)]

theorem entdaa_gives (s : State) (a : BitVec 7) : GivesLater s (.entdaa a) (s.d.entdaa a) := rfl

theorem mctpStatus_gives (s : State) : GivesLater s .mctpStatus s.d.mctpStatus := rfl

theorem mctpModuleReset_gives (s : State) : GivesLater s .mctpModuleReset s.d.mctpModuleReset := rfl

theorem mctpWarmReset_gives (s : State) : GivesLater s .mctpWarmReset s.d.mctpWarmReset := rfl

theorem mctpWake_gives (s : State) : GivesLater s .mctpWake s.d.mctpWake := rfl

theorem mctpRead_gives (s : State) (off : BitVec 26) : GivesLater s (.mctpRead off) (s.d.mctpRead off.toNat) := rfl

/-- Nothing happens where no MCTP message can be addressed to the endpoint. -/
theorem mctp_idle {s : State} (h : s.d.mctpUp = false) :
    GivesLater s .mctpStatus s.d ∧ GivesLater s .mctpModuleReset s.d ∧ GivesLater s .mctpWarmReset s.d ∧
      GivesLater s .mctpWake s.d ∧ ∀ off, GivesLater s (.mctpRead off) s.d := by
  have hn : ¬ s.d.mctpUp = true := by simp [h]
  exact ⟨(mctpStatus_gives s).of_eq (if_neg hn), (mctpModuleReset_gives s).of_eq (if_neg hn),
    (mctpWarmReset_gives s).of_eq (if_neg hn), (mctpWake_gives s).of_eq (if_neg hn), fun off => (mctpRead_gives s off).of_eq (if_neg hn)⟩

/-! ## SPDM: what is sent and counted (16 R796, Table 9) -/

/-- A response other than an error sent on a channel, and counted in the low half of ATT_STAT. -/
def Dev.spdmAnswers (d : Dev) (chan : Nat) (r : SpdmRsp) : Dev :=
  { d.setFld .boot 0 0x8000 31 0 (min 0xFFFFFFFF (d.fld .boot 0 0x8000 31 0 + 1)) with out := d.out ++ [.spdm chan r] }

/-- An error sent on a channel, and counted in the high half of ATT_STAT. -/
def Dev.spdmRefuses (d : Dev) (chan n : Nat) : Dev :=
  { d.setFld .boot 0 0x8000 63 32 (min 0xFFFFFFFF (d.fld .boot 0 0x8000 63 32 + 1)) with out := d.out ++ [.spdm chan (.error n)] }

theorem satAt_32 (n : Nat) : satAt 32 n = min 0xFFFFFFFF n := by
  unfold satAt
  split <;> omega

theorem Dev.spdmSend_error (d : Dev) (chan n : Nat) : d.spdmSend chan (.error n) = d.spdmRefuses chan n := by
  rw [Dev.spdmRefuses, ← satAt_32]
  rfl

theorem Dev.spdmSend_answer (d : Dev) (chan : Nat) {r : SpdmRsp} (h : ∀ n, r ≠ .error n) :
    d.spdmSend chan r = d.spdmAnswers chan r := by
  rw [Dev.spdmAnswers, ← satAt_32]
  cases r with
  | error n => exact absurd rfl (h n)
  | _ => rfl

theorem Dev.spdmSend_measurements (d : Dev) (chan count : Nat) (blocks : List (Nat × List Byte)) (n : Option (BitVec 256)) :
    d.spdmSend chan (.measurements count blocks n) = d.spdmAnswers chan (.measurements count blocks n) :=
  d.spdmSend_answer chan nofun

/-! ## SPDM: requests in their place and out of it (16 R796 to R799) -/

section
variable {d : Dev} {chan : Nat} {x : SpdmState} {f : Dev → Dev}

theorem Dev.spdmAt_down (h : d.spdmUp chan = false) : d.spdmAt chan x f = d := if_pos (by simp [h])

theorem Dev.spdmAt_here (h : d.spdmUp chan = true ∧ d.spdmOf chan = x) : d.spdmAt chan x f = f d :=
  (if_neg (by simp [h.1])).trans (if_pos h.2)

theorem Dev.spdmAt_elsewhere (h : d.spdmUp chan = true ∧ d.spdmOf chan ≠ x) :
    d.spdmAt chan x f = d.spdmRefuses chan spUnexpected :=
  (if_neg (by simp [h.1])).trans ((if_neg h.2).trans (d.spdmSend_error ..))

/-- A request that is answered in its place. -/
theorem Dev.spdmAt_answers {e : Dev} {r : SpdmRsp} (h : d.spdmUp chan = true ∧ d.spdmOf chan = x)
    (hf : f d = e.spdmSend chan r) (hr : ∀ n, r ≠ .error n) : d.spdmAt chan x f = e.spdmAnswers chan r :=
  (Dev.spdmAt_here h).trans (hf.trans (e.spdmSend_answer chan hr))

/-- A request that is refused in its place. -/
theorem Dev.spdmAt_refuses {n : Nat} (h : d.spdmUp chan = true ∧ d.spdmOf chan = x) (hf : f d = d.spdmSend chan (.error n)) :
    d.spdmAt chan x f = d.spdmRefuses chan n :=
  (Dev.spdmAt_here h).trans (hf.trans (d.spdmSend_error chan n))

end

theorem Dev.getVersion_down {d : Dev} {chan : Nat} (h : d.spdmUp chan = false) : d.getVersion chan = d := if_pos (by simp [h])

/-- GET_VERSION starts the channel anew. -/
theorem Dev.getVersion_other {d : Dev} {chan : Nat} (h : d.spdmUp chan = true) (h0 : chan ≠ 0) :
    d.getVersion chan = (d.setSpdm chan .version).spdmAnswers chan .version := by
  rw [Dev.getVersion, if_neg (by simp [h])]
  simp only [if_neg h0]
  exact Dev.spdmSend_answer _ _ nofun

/-- On the PF channel GET_VERSION ends the session as well. -/
theorem Dev.getVersion_pf {d : Dev} (h : d.spdmUp 0 = true) :
    let e := d.setSpdm 0 .version
    d.getVersion 0 = ({ e with mgmt := { e.mgmt with ses := .none } } : Dev).spdmAnswers 0 .version := by
  rw [Dev.getVersion, if_neg (by simp [h])]
  exact Dev.spdmSend_answer _ _ nofun

/-! ## SPDM: measurements (16 R798, R799, Table 8) -/

/-- The blocks that a channel may read: the module's, and those of all stands or of the function's own. -/
theorem mem_blocksFor (c : Fin 33) (i : Nat) :
    i ∈ blocksFor c ↔ (1 ≤ i ∧ i ≤ 4) ∨ i = 37 ∨ (5 ≤ i ∧ i ≤ 36 ∧ (c = 0 ∨ c = 32 ∨ i = 5 + c.val)) := by
  simp only [blocksFor, List.mem_filter, List.mem_range, Bool.and_eq_true, Bool.or_eq_true, bne_iff_ne, beq_iff_eq, decide_eq_true_eq,
    Fin.ext_iff]
  simp only [Fin.val_zero, show ((32 : Fin 33) : Nat) = 32 from rfl]
  omega

theorem ne_zero_of_mem_blocksFor {chan i : Nat} (h : i ∈ blocksFor chan) : i ≠ 0 := by
  rintro rfl
  simp [blocksFor] at h

theorem nodup_blocksFor (chan : Nat) : (blocksFor chan).Nodup := List.nodup_range.filter _

theorem length_blocksFor : ∀ c : Fin 33, (blocksFor c).length = if c = 0 ∨ c = 32 then 37 else 6 := by decide

/-- The device after the configuration digest is taken: with no copy in use its value is a free one. -/
def Dev.digestTaken (d : Dev) : Dev := if d.cfgInUse = none then { d with freeCtr := d.freeCtr + 1 } else d

theorem Dev.took_of_noCfg (d : Dev) : (if d.cfgInUse.isNone then d.took else d) = d.digestTaken := by
  simp only [Option.isNone_iff_eq_none]
  rfl

/-- What GET_MEASUREMENTS is answered with in its place. -/
theorem Dev.getMeasurements_here {d : Dev} {chan : Nat} (h : d.spdmUp chan = true ∧ d.spdmOf chan = .algorithms) (op : Nat)
    (nonce : BitVec 256) (sig : Bool) :
    let n := if sig then some nonce else none
    d.getMeasurements chan op nonce sig =
      if op = 0 then d.spdmAnswers chan (.measurements (blocksFor chan).length [] n)
      else if op = 255 then
        d.digestTaken.spdmAnswers chan (.measurements (blocksFor chan).length ((blocksFor chan).map fun i => (i, d.measurement i)) n)
      else if op ∈ blocksFor chan then d.digestTaken.spdmAnswers chan (.measurements 1 [(op, d.measurement op)] n)
      else d.spdmRefuses chan spInvalid := by
  intro n
  refine (Dev.spdmAt_here h).trans ?_
  simp only [Dev.took_of_noCfg, Dev.spdmSend_measurements, Dev.spdmSend_error, List.contains_iff_mem]
  rfl

/-! ## SPDM: the session of the PF channel (16 R796) -/

/-- A session request of another channel is not supported. -/
theorem Dev.session_unsupported {d : Dev} {chan : Nat} (h : d.spdmUp chan = true ∧ d.spdmOf chan = .algorithms) (h0 : chan ≠ 0) :
    d.keyExchange chan = d.spdmRefuses chan spUnsupported ∧ d.spdmFinish chan = d.spdmRefuses chan spUnsupported ∧
      d.endSession chan = d.spdmRefuses chan spUnsupported :=
  ⟨Dev.spdmAt_refuses h (if_pos h0), Dev.spdmAt_refuses h (if_pos h0), Dev.spdmAt_refuses h (if_pos h0)⟩

section
variable {d : Dev} (h : d.spdmUp 0 = true ∧ d.spdmOf 0 = .algorithms)
include h

/-- Without a session KEY_EXCHANGE alone is in place. -/
theorem Dev.session_none (hs : d.mgmt.ses = .none) :
    d.keyExchange 0 = ({ d with mgmt := { d.mgmt with ses := .handshake } } : Dev).spdmAnswers 0 .keyExchange ∧
      d.spdmFinish 0 = d.spdmRefuses 0 spSession ∧ d.endSession 0 = d.spdmRefuses 0 spSession :=
  ⟨Dev.spdmAt_answers h (by simp [hs]) nofun, Dev.spdmAt_refuses h (by simp [hs]), Dev.spdmAt_refuses h (by simp [hs])⟩

/-- After KEY_EXCHANGE the handshake waits for FINISH. -/
theorem Dev.session_handshake (hs : d.mgmt.ses = .handshake) :
    d.keyExchange 0 = d.spdmRefuses 0 spLimit ∧
      d.spdmFinish 0 = ({ d with mgmt := { d.mgmt with ses := .established } } : Dev).spdmAnswers 0 .finish ∧
      d.endSession 0 = d.spdmRefuses 0 spUnexpected :=
  ⟨Dev.spdmAt_refuses h (by simp [hs]), Dev.spdmAt_answers h (by simp [hs]) nofun, Dev.spdmAt_refuses h (by simp [hs])⟩

theorem Dev.session_established (hs : d.mgmt.ses = .established) :
    d.keyExchange 0 = d.spdmRefuses 0 spLimit ∧ d.spdmFinish 0 = d.spdmRefuses 0 spUnexpected ∧
      d.endSession 0 = ({ d with mgmt := { d.mgmt with ses := .none } } : Dev).spdmAnswers 0 .endSession :=
  ⟨Dev.spdmAt_refuses h (by simp [hs]), Dev.spdmAt_refuses h (by simp [hs]), Dev.spdmAt_answers h (by simp [hs]) nofun⟩

end

/-! ## What the SPDM requests give -/

section
variable (s : State) (c : Fin 33)

theorem getVersion_gives : GivesLater s (.getVersion c) (s.d.getVersion c) := rfl

theorem getCapabilities_gives : GivesLater s (.getCapabilities c) (s.d.getCapabilities c) := rfl

theorem negotiateAlgorithms_gives (common : Bool) :
    GivesLater s (.negotiateAlgorithms c common) (s.d.negotiate c common) := rfl

theorem getDigests_gives : GivesLater s (.getDigests c) (s.d.getDigests c) := rfl

theorem getCertificate_gives (slot : BitVec 4) (off len : BitVec 16) :
    GivesLater s (.getCertificate c slot off len) (s.d.getCertificate c slot.toNat off.toNat len.toNat) := rfl

theorem spdmChallenge_gives (slot : BitVec 4) (nonce : BitVec 256) :
    GivesLater s (.spdmChallenge c slot nonce) (s.d.spdmChallenge c slot.toNat nonce) := rfl

theorem getMeasurements_gives (op : BitVec 8) (nonce : BitVec 256) (sig : Bool) :
    GivesLater s (.getMeasurements c op nonce sig) (s.d.getMeasurements c op.toNat nonce sig) := rfl

theorem keyExchange_gives : GivesLater s (.keyExchange c) (s.d.keyExchange c) := rfl

theorem finish_gives : GivesLater s (.finish c) (s.d.spdmFinish c) := rfl

theorem endSession_gives : GivesLater s (.endSession c) (s.d.endSession c) := rfl

/-- The three session requests give what their answers make of the device. -/
theorem session_gives {d1 d2 d3 : Dev}
    (h : s.d.keyExchange c = d1 ∧ s.d.spdmFinish c = d2 ∧ s.d.endSession c = d3) :
    GivesLater s (.keyExchange c) d1 ∧ GivesLater s (.finish c) d2 ∧ GivesLater s (.endSession c) d3 := by
  obtain ⟨hkey, hfinish, hend⟩ := h
  exact ⟨(keyExchange_gives s c).of_eq hkey, (finish_gives s c).of_eq hfinish, (endSession_gives s c).of_eq hend⟩

end

/-! ## The test access port (18 R834 to R836) -/

section
variable {d : Dev}

theorem Dev.tapBypass_powered (bs : List Bool) (h : d.off = false) : d.tapBypass bs =
    { d with board := { d.board with tapIr := .bypass }, out := d.out ++ [.tdo ((false :: bs).take bs.length)] } :=
  if_neg (by simp [h])

theorem Dev.tapIdcode_powered (bs : List Bool) (h : d.off = false) : d.tapIdcode bs =
    { d with board := { d.board with tapIr := .idcode }, out := d.out ++ [.tdo ((idcode ++ bs).take bs.length)] } :=
  if_neg (by simp [h])

theorem Dev.tapScan_powered (ir : TapIr) (bs : List Bool) (h : d.off = false) : d.tapScan ir bs =
    { d with
      freeCtr := d.freeCtr + 1, board := { d.board with tapIr := ir, tapLatch := bs },
      out := d.out ++ [.tdo ((List.range bs.length).map fun i => (Config.choice d.freeCtr).testBit i)] } :=
  if_neg (by simp [h])

/-- EXTEST out of reset is BYPASS (R836). -/
theorem Dev.tapExtest_running (bs : List Bool) (h : d.board.mrst = false) : d.tapExtest bs = d.tapBypass bs :=
  if_neg (by simp [h])

/-- Without power no instruction is taken. -/
theorem Dev.tapExtest_off (bs : List Bool) (h : d.off = true) : d.tapExtest bs = d := by
  unfold Dev.tapExtest
  split
  · exact if_pos h
  · exact if_pos h

end

theorem bypass_gives (s : State) (bs : List Bool) : GivesLater s (.bypass bs) (s.d.tapBypass bs) := rfl

theorem idcode_gives (s : State) (bs : List Bool) : GivesLater s (.idcode bs) (s.d.tapIdcode bs) := rfl

theorem samplePreload_gives (s : State) (bs : List Bool) :
    GivesLater s (.samplePreload bs) (s.d.tapScan .samplePreload bs) := rfl

theorem extest_gives (s : State) (bs : List Bool) : GivesLater s (.extest bs) (s.d.tapExtest bs) := rfl

/-- Settles O57: each reset is taken, waits or is ignored as its trigger finds the module, and each request is answered as its
channel's place and the session allow. -/
theorem endpointResetsAndManagement : Obligations.EndpointResetsAndManagement := by
  intro s
  refine ⟨fun h => ?_, fun h hr => ?_, fun h hr => ?_, fun rate width flit => ?_, fun w => ?_, fun a => ?_, mctp_idle, fun h => ?_,
    fun c => ?_, fun bs => ?_⟩
  · exact ⟨(perstLAssert_gives s).of_eq (Dev.pcieTrigger_held 6 h), (pfFlr_gives s).of_eq (Dev.pcieTrigger_held 8 h)⟩
  · exact ⟨(perstLAssert_gives s).of_eq (Dev.pcieTrigger_waits 6 h hr), (pfFlr_gives s).of_eq (Dev.pcieTrigger_waits 8 h hr)⟩
  · exact ⟨(perstLAssert_gives s).of_eq (Dev.pcieTrigger_goes 6 h hr), (pfFlr_gives s).of_eq (Dev.pcieTrigger_goes 8 h hr)⟩
  · have release := perstLRelease_gives s rate width flit
    have hot := pcieHotReset_gives s rate width flit
    refine ⟨fun h => ?_, fun h h2 => ?_, fun h => ?_, fun hp h hr => ?_, fun hp h hr => ?_⟩
    · exact release.of_eq (Dev.perstRelease_early _ _ _ h)
    · exact release.of_eq ((Dev.perstRelease_trains _ _ _ h h2).trans (Dev.linkUp_eq ..))
    · exact hot.of_eq (Dev.hotReset_idle _ _ _ h)
    · rw [Dev.hotReset_taken _ _ _ hp h, Dev.pcieTrigger_waits 7 h hr, Dev.linkUp_eq] at hot
      exact hot
    · rw [Dev.hotReset_taken _ _ _ hp h, Dev.pcieTrigger_goes 7 h hr, Dev.linkUp_eq] at hot
      exact hot
  · exact ⟨fun h => (vfFlr_gives s w).of_eq (Dev.vfReset_idle (h.imp_left (congrArg Fin.val))),
      fun h0 he => (vfFlr_gives s w).of_eq (Dev.vfReset_taken (Fin.val_ne_of_ne h0) he)⟩
  · exact ⟨fun h hn => (entdaa_gives s a).of_eq (Dev.entdaa_taken a h hn), fun h => (entdaa_gives s a).of_eq (Dev.entdaa_idle a h)⟩
  · exact ⟨(mctpStatus_gives s).of_eq (if_pos h), (mctpModuleReset_gives s).of_eq (if_pos h),
      (mctpWarmReset_gives s).of_eq (if_pos h), (mctpWake_gives s).of_eq (if_pos h), fun off =>
        ⟨fun l ho h8 ht => (mctpRead_gives s off).of_eq (Dev.mctpRead_allowed h ho h8 ht),
          fun ho => (mctpRead_gives s off).of_eq (Dev.mctpRead_barred h ho)⟩⟩
  · refine ⟨fun h => ?_, fun h => ⟨fun h0 => ?_, fun h0 => ?_⟩, fun h => ?_, fun h => ?_, fun h => ?_, fun h common => ?_,
      fun h => ?_, fun h => ⟨?_, fun slot off len nonce => ⟨fun h0 => ?_, fun h0 => ?_⟩, fun op nonce sig => ?_, fun h0 => ?_,
        fun h0 hs => ?_, fun h0 hs => ?_, fun h0 hs => ?_⟩⟩
    · exact ⟨(getVersion_gives s c).of_eq (Dev.getVersion_down h), (getCapabilities_gives s c).of_eq (Dev.spdmAt_down h),
        (getDigests_gives s c).of_eq (Dev.spdmAt_down h), (keyExchange_gives s c).of_eq (Dev.spdmAt_down h),
        (finish_gives s c).of_eq (Dev.spdmAt_down h), (endSession_gives s c).of_eq (Dev.spdmAt_down h)⟩
    · exact (getVersion_gives s c).of_eq (Dev.getVersion_other h (Fin.val_ne_of_ne h0))
    · subst h0
      exact (getVersion_gives s 0).of_eq (Dev.getVersion_pf h)
    · exact (getCapabilities_gives s c).of_eq (Dev.spdmAt_answers h rfl nofun)
    · exact (getCapabilities_gives s c).of_eq (Dev.spdmAt_elsewhere h)
    · exact ⟨(negotiateAlgorithms_gives s c true).of_eq (Dev.spdmAt_answers h rfl nofun),
        (negotiateAlgorithms_gives s c false).of_eq (Dev.spdmAt_refuses h rfl)⟩
    · exact (negotiateAlgorithms_gives s c common).of_eq (Dev.spdmAt_elsewhere h)
    · exact ⟨(getDigests_gives s c).of_eq (Dev.spdmAt_elsewhere h), (keyExchange_gives s c).of_eq (Dev.spdmAt_elsewhere h),
        (finish_gives s c).of_eq (Dev.spdmAt_elsewhere h), (endSession_gives s c).of_eq (Dev.spdmAt_elsewhere h),
        fun slot off len => (getCertificate_gives s c slot off len).of_eq (Dev.spdmAt_elsewhere h),
        fun slot nonce => (spdmChallenge_gives s c slot nonce).of_eq (Dev.spdmAt_elsewhere h),
        fun op nonce sig => (getMeasurements_gives s c op nonce sig).of_eq (Dev.spdmAt_elsewhere h)⟩
    · exact (getDigests_gives s c).of_eq (Dev.spdmAt_answers h rfl nofun)
    · subst h0
      exact ⟨(getCertificate_gives s c 0 off len).of_eq (Dev.spdmAt_answers h rfl nofun),
        (spdmChallenge_gives s c 0 nonce).of_eq (Dev.spdmAt_answers h rfl nofun)⟩
    · have hn : slot.toNat ≠ 0 := fun e => h0 (BitVec.eq_of_toNat_eq e)
      exact ⟨(getCertificate_gives s c slot off len).of_eq (Dev.spdmAt_refuses h (by rw [if_neg hn]; rfl)),
        (spdmChallenge_gives s c slot nonce).of_eq (Dev.spdmAt_refuses h (by rw [if_neg hn]; rfl))⟩
    · have measure := (getMeasurements_gives s c op nonce sig).of_eq (Dev.getMeasurements_here h op.toNat nonce sig)
      refine ⟨fun h0 => ?_, fun h255 hi => ?_, fun h0 h255 hi => ?_, fun h255 => ?_⟩
      · rw [← length_blocksFor]
        exact measure.of_eq (if_pos (congrArg BitVec.toNat h0))
      · have hm := (mem_blocksFor c _).2 hi
        exact measure.of_eq ((if_neg (ne_zero_of_mem_blocksFor hm)).trans ((if_neg (by bv_omega)).trans (if_pos hm)))
      · exact measure.of_eq ((if_neg (by bv_omega)).trans ((if_neg (by bv_omega)).trans (if_neg (mt (mem_blocksFor c _).1 hi))))
      · subst h255
        exact ⟨blocksFor c, nodup_blocksFor c, mem_blocksFor c, measure⟩
    · exact session_gives s c (Dev.session_unsupported h (Fin.val_ne_of_ne h0))
    · subst h0
      exact session_gives s 0 (Dev.session_none h hs)
    · subst h0
      exact session_gives s 0 (Dev.session_handshake h hs)
    · subst h0
      exact session_gives s 0 (Dev.session_established h hs)
  · refine ⟨fun h => ?_, fun h => ⟨?_, ?_, ?_, fun hm => ?_, fun hm => ?_⟩⟩
    · exact ⟨(bypass_gives s bs).of_eq (if_pos h), (idcode_gives s bs).of_eq (if_pos h), (samplePreload_gives s bs).of_eq (if_pos h),
        (extest_gives s bs).of_eq (Dev.tapExtest_off bs h)⟩
    · exact (bypass_gives s bs).of_eq (Dev.tapBypass_powered bs h)
    · exact (idcode_gives s bs).of_eq (Dev.tapIdcode_powered bs h)
    · exact (samplePreload_gives s bs).of_eq (Dev.tapScan_powered _ bs h)
    · exact (extest_gives s bs).of_eq ((if_pos hm).trans (Dev.tapScan_powered _ bs h))
    · exact (extest_gives s bs).of_eq ((Dev.tapExtest_running bs hm).trans (Dev.tapBypass_powered bs h))

end Machine
end Sys2Proof

/-!
PROOFS. Pages and page tables (04 R126, R133 to R138): a page sealed, held edits published, and what is freed when no walk needs
it any more, and the statement O26.
-/
namespace Sys2Proof
namespace Machine

/-! ## Fields of a tile's descriptor (04 R120, R121, Table 5) -/

theorem leNat_natLe (n v : Nat) : leNat (natLe n v) = v % 256 ^ n := by
  induction n generalizing v with
  | zero => simp [natLe, leNat, Nat.mod_one]
  | succ n ih =>
    rw [natLe, leNat, ih, BitVec.toNat_ofNat, pow_succ' 256 n, Nat.mod_mul]

/-- A number that a record holds after other bytes is read at their length. -/
theorem recNum_append_natLe (before after : List Byte) (n v : Nat) :
    recNum (before ++ (natLe n v ++ after)) before.length n = v % 256 ^ n := by
  simp [recNum, recBytes, natLe_length, leNat_natLe, List.take_left']

/-- DCRC leaves the bytes before it. -/
theorem withDcrc_append (a r : List Byte) (h : a.length ≤ 124) : ∃ r', withDcrc (a ++ r) = a ++ r' := by
  simp only [withDcrc, recPut, List.take_append, List.take_of_length_le h, List.append_assoc]
  exact ⟨_, rfl⟩

/-- The descriptor's fields before FLAGS. -/
def DescHead.beforeFlags (h : DescHead) : List Byte :=
  natLe 8 h.key ++ natLe 2 h.layer ++ natLe 1 h.kFmt ++ natLe 1 h.vFmt ++ natLe 2 h.tokens

theorem DescHead.length_beforeFlags (h : DescHead) : h.beforeFlags.length = 14 := by
  simp [DescHead.beforeFlags, natLe_length]

theorem makeTile_eq_append (h : DescHead) (blocks : List (Option Nat × List Byte)) :
    ∃ r, makeTile h blocks = h.beforeFlags ++ (natLe 2 h.flags ++ r) := by
  have start (rest body : List Byte) :
      ∃ r, withDcrc (h.beforeFlags ++ natLe 2 h.flags ++ rest) ++ body = h.beforeFlags ++ (natLe 2 h.flags ++ r) := by
    obtain ⟨r, e⟩ := withDcrc_append (h.beforeFlags ++ natLe 2 h.flags) rest (by simp [h.length_beforeFlags, natLe_length])
    exact ⟨r ++ body, by rw [e]; simp only [List.append_assoc]⟩
  simp only [DescHead.beforeFlags, List.append_assoc] at start
  simp only [makeTile, DescHead.beforeFlags, List.append_assoc]
  exact start _ _

/-- FLAGS of a tile are those of its descriptor head. -/
theorem recNum_makeTile_flags (h : DescHead) (blocks : List (Option Nat × List Byte)) :
    recNum (makeTile h blocks) 14 2 = h.flags % 65536 := by
  obtain ⟨r, e⟩ := makeTile_eq_append h blocks
  rw [e, ← h.length_beforeFlags]
  exact recNum_append_natLe ..

/-! ## What the commands of pages and tables give -/

theorem pageSeal_gives {s : State} (set p : BitVec 32) (l : BitVec 8) (h : s.d.serving = true) :
    GivesLater s (.pageSeal set l p) (s.d.sealPage set.toNat l.toNat p.toNat) :=
  State.served_eq (fun d => d.sealPage set.toNat l.toNat p.toNat) h

theorem heldEditPublish_gives {s : State} (set : BitVec 32) (l : BitVec 8) (h : s.d.serving = true) :
    GivesLater s (.heldEditPublish set l) (Dev.publishHeld set.toNat l.toNat s.d.held.length s.d) :=
  State.served_eq (fun d => Dev.publishHeld set.toNat l.toNat d.held.length d) h

theorem tablePageFree_gives {s : State} (set : BitVec 32) (l : BitVec 8) (h : s.d.serving = true) :
    GivesLater s (.tablePageFree set l) (s.d.reapGens set.toNat l.toNat) :=
  State.served_eq (fun d => d.reapGens set.toNat l.toNat) h

theorem frameFree_gives {s : State} (h : s.d.serving = true) : GivesLater s .frameFree (s.d.freeReady fun _ => true) :=
  State.served_eq (fun d => d.freeReady fun _ => true) h

/-! ## Sealing a page (04 R126) -/

/-- The flags that a page is sealed with: those of the open page without OPEN and DIGEST_STALE. -/
theorem recNum_sealed_flags (t : List Byte) (m digest time : Nat) (blocks : List (Option Nat × List Byte)) :
    let h := tileHead t
    recNum (makeTile { h with flags := h.flags - (h.flags &&& m), digest := digest, sealTime := time } blocks) 14 2 =
      h.flags - (h.flags &&& m) := by
  intro h
  have hf : h.flags < 65536 := recNum_lt t 14 2
  rw [recNum_makeTile_flags]
  exact Nat.mod_eq_of_lt (Nat.lt_of_le_of_lt (Nat.sub_le _ _) hf)

/-- A full open page without move and hold is sealed when its new tile finds frames. -/
theorem Dev.sealPage_found {d d2 : Dev} {set l p : Nat} {v : W64} {pr : Profile} (hv : d.pte set l p = some v)
    (hp : d.seqProfile? (d.setKey set) = some pr) :
    let t := d.tileOf (keyStand (d.setKey set)) v
    let h := tileHead t
    tileFlag t flOpen = true → h.tokens = pr.tpp → pteMig v = 0 → (d.pageInfo? set l p).bind (·.hold) = none →
    let cell := d.workCell (keyStand (d.setKey set)) (frameDie (pteFrame v)) l p
    let blocks := compressPage d.slots (d.fld .cell cell 0x40000 4 0) (pageSections pr) (tilePage t)
    d.replaceTile set l p v (makeTile { h with
      flags := h.flags - (h.flags &&& (2 ^ flOpen + 2 ^ flStale)), digest := crc64 (tilePage t), sealTime := d.now } blocks) =
        some d2 →
    d.sealPage set l p = d2.sealStats cell blocks := by
  intro t h hopen hfull hmig hhold cell blocks hr
  have ready : tileFlag t flOpen = true ∧ h.tokens = pr.tpp ∧ pteMig v = 0 ∧ ((d.pageInfo? set l p).bind (·.hold)).isNone = true :=
    ⟨hopen, hfull, hmig, by rw [hhold]; rfl⟩
  simp only [Dev.sealPage, hv, hp]
  rw [if_pos ready, hr]

/-! ## Generations of a layer's table (04 R133 to R137) -/

/-- e is d with other table pages in service memory. -/
def Dev.OnlySvc (d e : Dev) : Prop := ∃ used svc, e = { d with svcUsed := used, svc := svc }

theorem Dev.foldl_svcFree_onlySvc (d : Dev) (ns : List Nat) : d.OnlySvc (ns.foldl Dev.svcFree d) :=
  List.foldlRecOn (motive := d.OnlySvc) ns _ ⟨_, _, rfl⟩ fun _ ⟨_, _, h⟩ _ _ => h ▸ ⟨_, _, rfl⟩

/-- Pages freed are not in use, and every other page is as it was. -/
theorem Dev.has_foldl_svcFree (d : Dev) (ns : List Nat) (n : Nat) :
    Tab.has (ns.foldl Dev.svcFree d).svcUsed n = if n ∈ ns then false else Tab.has d.svcUsed n := by
  induction ns generalizing d with
  | nil => simp
  | cons m ns ih =>
    rw [List.foldl_cons, ih]
    by_cases hn : n ∈ ns
    · simp [hn]
    · by_cases hm : n = m
      · simp [hm, Dev.svcFree, Tab.has]
      · simp [hn, hm, Dev.svcFree, Tab.has, Tab.get?_del_ne _ hm]

/-- Table pages that reapGens frees: those of the layer's generations without pins that no other one of the layer uses. -/
def Dev.genGarbage (d : Dev) (set l : Nat) : List Nat :=
  let mine := d.oldGens.filter fun g => g.set == set && g.layer == l
  let used := d.genPages (d.root set l) ++ (mine.filter fun g => d.pinCount set l g.gen != 0).flatMap fun g => d.genPages g.root
  ((mine.filter fun g => d.pinCount set l g.gen == 0).flatMap fun g => d.genPages g.root).filter fun n => !used.contains n

theorem Dev.reapGens_eq (d : Dev) (set l : Nat) : d.reapGens set l =
    (d.genGarbage set l).eraseDups.foldl Dev.svcFree
      { d with oldGens := d.oldGens.filter fun g => !(g.set == set && g.layer == l && d.pinCount set l g.gen == 0) } := rfl

theorem Dev.mem_genGarbage (d : Dev) (set l n : Nat) : n ∈ d.genGarbage set l ↔
    (∃ g ∈ d.oldGens, (g.set = set ∧ g.layer = l) ∧ d.pinCount set l g.gen = 0 ∧ n ∈ d.genPages g.root) ∧
      n ∉ d.genPages (d.root set l) ∧
      ∀ g ∈ d.oldGens, (g.set = set ∧ g.layer = l) → d.pinCount set l g.gen ≠ 0 → n ∉ d.genPages g.root := by
  simp only [Dev.genGarbage, List.mem_filter, List.mem_flatMap, List.contains_eq_mem, List.mem_append, Bool.and_eq_true, beq_iff_eq,
    bne_iff_ne, Bool.not_eq_true', decide_eq_false_iff_not, not_or, not_exists]
  grind

theorem Dev.oldGens_reapGens (d : Dev) (set l : Nat) : (d.reapGens set l).oldGens =
    d.oldGens.filter fun g => !(g.set == set && g.layer == l && d.pinCount set l g.gen == 0) := by
  rw [Dev.reapGens_eq]
  obtain ⟨_, _, h⟩ := Dev.foldl_svcFree_onlySvc { d with
    oldGens := d.oldGens.filter fun g => !(g.set == set && g.layer == l && d.pinCount set l g.gen == 0) } (d.genGarbage set l).eraseDups
  rw [h]

theorem Dev.mem_oldGens_reapGens (d : Dev) (set l : Nat) (g : OldGen) : g ∈ (d.reapGens set l).oldGens ↔
    g ∈ d.oldGens ∧ (g.set = set ∧ g.layer = l → d.pinCount set l g.gen ≠ 0) := by
  simp only [Dev.oldGens_reapGens, List.mem_filter, Bool.not_eq_true', Bool.and_eq_false_iff, beq_eq_false_iff_ne]
  tauto

/-- reapGens changes the replaced generations and service memory alone. -/
theorem Dev.reapGens_frame (d : Dev) (set l : Nat) : d.reapGens set l =
    { d with oldGens := (d.reapGens set l).oldGens, svcUsed := (d.reapGens set l).svcUsed, svc := (d.reapGens set l).svc } := by
  obtain ⟨_, _, h⟩ := Dev.foldl_svcFree_onlySvc { d with
    oldGens := d.oldGens.filter fun g => !(g.set == set && g.layer == l && d.pinCount set l g.gen == 0) } (d.genGarbage set l).eraseDups
  rw [Dev.reapGens_eq, h]

theorem Dev.has_svcUsed_reapGens (d : Dev) (set l n : Nat) : Tab.has (d.reapGens set l).svcUsed n =
    if n ∈ d.genGarbage set l then false else Tab.has d.svcUsed n := by
  rw [Dev.reapGens_eq, Dev.has_foldl_svcFree]
  simp

theorem Dev.held_reapGens (d : Dev) (set l : Nat) : (d.reapGens set l).held = d.held := by
  rw [Dev.reapGens_frame]

/-! ## Held edits (04 R136) -/

theorem Dev.held_svcAlloc {d e : Dev} {n : Nat} (h : d.svcAlloc = some (n, e)) : e.held = d.held := by
  obtain ⟨_, _, h⟩ := Option.map_eq_some_iff.1 h
  cases h
  rfl

theorem Dev.held_publishAt (d : Dev) (leaf root set l p : Nat) (v : W64) : (d.publishAt leaf root set l p v).held = d.held := by
  unfold Dev.publishAt
  dsimp only
  split
  · rfl
  · exact Dev.held_reapGens ..

theorem Dev.held_publish {d e : Dev} {set l p : Nat} {v : W64} (h : d.publish set l p v = some e) : e.held = d.held := by
  obtain ⟨⟨n, d1⟩, h1, h⟩ := Option.bind_eq_some_iff.1 h
  obtain ⟨⟨m, d2⟩, h2, rfl⟩ := Option.map_eq_some_iff.1 h
  rw [Dev.held_publishAt, Dev.held_svcAlloc h2, Dev.held_svcAlloc h1]

/-- A layer without held edits has nothing to publish. -/
theorem Dev.publishHeld_none {d : Dev} {set l : Nat} (n : Nat) (h : (d.held.filter fun h => h.set == set && h.layer == l) = []) :
    Dev.publishHeld set l n d = d := by
  have hf : (d.held.find? fun h => h.set == set && h.layer == l) = none := by
    rw [← List.head?_filter, h]
    rfl
  cases n with
  | zero => rfl
  | succ n => simp [Dev.publishHeld, hf]

/-- The only held edit of a layer is published when the limit allows it. -/
theorem Dev.publishHeld_one {d d1 : Dev} {set l : Nat} {h : HeldEdit} (hm : d.mustHold set l = false)
    (hf : (d.held.filter fun h => h.set == set && h.layer == l) = [h]) (hp : d.publish set l h.page h.pte = some d1) :
    Dev.publishHeld set l d.held.length d = { d1 with held := d.held.erase h } := by
  have mem : h ∈ d.held := List.mem_of_mem_filter (hf ▸ List.mem_singleton_self h)
  obtain ⟨n, hn⟩ := Nat.exists_eq_succ_of_ne_zero (List.length_pos_of_mem mem).ne'
  have first : (d.held.find? fun h => h.set == set && h.layer == l) = some h := by
    rw [← List.head?_filter, hf]
    rfl
  have rest : ((d.held.erase h).filter fun h => h.set == set && h.layer == l) = [] := by
    rw [← List.erase_filter, hf]
    simp
  simp only [hn, Dev.publishHeld, hm, first, hp, Option.map_some, Option.getD_some, Dev.held_publish hp, Bool.false_eq_true, if_false]
  exact Dev.publishHeld_none n rest

/-! ## Frames of replaced tiles (04 R138) -/

/-- e is d with other runs, tile bytes and codec counts. -/
def Dev.OnlyRuns (d e : Dev) : Prop := ∃ runs mem slots, e = { d with runs := runs, mem := mem, slots := slots }

theorem Dev.freeTile_onlyRuns (d : Dev) (tier stand f : Nat) : d.OnlyRuns (d.freeTile tier stand f) := by
  unfold Dev.freeTile
  dsimp only
  split
  · exact ⟨_, _, _, rfl⟩
  · split <;> exact ⟨_, _, _, rfl⟩

/-- Freeing a tile takes its run, and no other one. -/
theorem Dev.get?_runs_freeTile (d : Dev) (tier stand f n : Nat) :
    Tab.get? (d.freeTile tier stand f).runs n = if n = tileFrame tier stand f then none else Tab.get? d.runs n := by
  have del (t : Tab Run) : Tab.get? (Tab.del t (tileFrame tier stand f)) n =
      if n = tileFrame tier stand f then none else Tab.get? t n := by
    split
    · next h => rw [h, Tab.get?_del_self]
    · next h => exact Tab.get?_del_ne t h
  unfold Dev.freeTile
  dsimp only
  split
  · next h =>
    split
    · next e => rw [e, h]
    · rfl
  · split <;> exact del _

/-- The frames of a replaced tile freed. -/
def Dev.freeLate (d : Dev) (x : DeferFree) : Dev := d.freeTile x.tier x.stand x.frame

theorem Dev.foldl_freeLate_onlyRuns (d : Dev) (xs : List DeferFree) : d.OnlyRuns (xs.foldl Dev.freeLate d) :=
  List.foldlRecOn (motive := d.OnlyRuns) xs _ ⟨_, _, _, rfl⟩ fun e ⟨_, _, _, h⟩ x _ => by
    obtain ⟨_, _, _, h2⟩ := e.freeTile_onlyRuns x.tier x.stand x.frame
    exact ⟨_, _, _, h2.trans (by rw [h])⟩

theorem Dev.get?_runs_foldl_freeLate (d : Dev) (xs : List DeferFree) (n : Nat) : Tab.get? (xs.foldl Dev.freeLate d).runs n =
    if ∃ x ∈ xs, tileFrame x.tier x.stand x.frame = n then none else Tab.get? d.runs n := by
  induction xs generalizing d with
  | nil => simp
  | cons x xs ih =>
    rw [List.foldl_cons, ih, Dev.freeLate, Dev.get?_runs_freeTile]
    by_cases hx : tileFrame x.tier x.stand x.frame = n
    · simp [hx]
    · simp [hx, Ne.symm hx]

/-- The tiles whose waits are over. -/
def Dev.lateReady (d : Dev) : List DeferFree := d.lateFree.filter fun x => x.waits.isEmpty

theorem Dev.freeReady_all (d : Dev) : (d.freeReady fun _ => true) =
    d.lateReady.foldl Dev.freeLate { d with lateFree := d.lateFree.filter fun x => !x.waits.isEmpty } := by
  simp only [Dev.freeReady, Dev.lateReady, Bool.and_true]
  rfl

theorem Dev.mem_lateReady {d : Dev} {x : DeferFree} : x ∈ d.lateReady ↔ x ∈ d.lateFree ∧ x.waits = [] := by
  simp [Dev.lateReady]

/-- FRAME_FREE keeps the tiles that still wait, and changes runs, tile bytes and codec counts beside. -/
theorem Dev.freeReady_all_onlyRuns (d : Dev) :
    Dev.OnlyRuns { d with lateFree := d.lateFree.filter fun x => !x.waits.isEmpty } (d.freeReady fun _ => true) := by
  rw [Dev.freeReady_all]
  exact Dev.foldl_freeLate_onlyRuns ..

theorem Dev.get?_runs_freeReady_all (d : Dev) (n : Nat) : Tab.get? (d.freeReady fun _ => true).runs n =
    if ∃ x ∈ d.lateReady, tileFrame x.tier x.stand x.frame = n then none else Tab.get? d.runs n := by
  rw [Dev.freeReady_all, Dev.get?_runs_foldl_freeLate]

/-- Settles O26: a sealed tile keeps its other flags, a published edit leaves the list of held ones, and the folds that free
table pages and runs reach those that nothing needs any more and no others. -/
theorem pagesSealedAndTablesPublished : Obligations.PagesSealedAndTablesPublished := by
  intro s hs
  refine ⟨fun set p l v pr d2 hv hp => ?_, fun set l h d1 hm hf hp => ?_, fun set l => ?_, ?_⟩
  · intro stand t h hopen hfull hmig hhold cell blocks t2 hr
    exact ⟨(pageSeal_gives set p l hs).of_eq (Dev.sealPage_found hv hp hopen hfull hmig hhold hr), recNum_sealed_flags ..⟩
  · exact (heldEditPublish_gives set l hs).of_eq (Dev.publishHeld_one hm hf hp)
  · refine ⟨_, tablePageFree_gives set l hs, Dev.mem_oldGens_reapGens _ _ _, fun g hg hmine h0 n hn hroot hlive => ?_,
      fun n hn => ?_, Dev.reapGens_frame ..⟩
    · refine (Dev.has_svcUsed_reapGens ..).trans (if_pos ((Dev.mem_genGarbage ..).2 ⟨⟨g, hg, hmine, h0, hn⟩, hroot, ?_⟩))
      exact fun g' hg' hmine' hpins => hlive g' ((Dev.mem_oldGens_reapGens ..).2 ⟨hg', fun _ => hpins⟩) hmine'
    · refine (Dev.has_svcUsed_reapGens ..).trans (if_neg fun hgone => ?_)
      exact ((Dev.mem_genGarbage ..).1 hgone).2.1 hn
  · refine ⟨_, frameFree_gives hs, ?_, fun x hx hw => ?_, fun f hf => ?_, ?_⟩
    · obtain ⟨_, _, _, h⟩ := Dev.freeReady_all_onlyRuns s.d
      rw [h]
    · rw [Tab.has, Dev.get?_runs_freeReady_all, if_pos ⟨x, Dev.mem_lateReady.2 ⟨hx, hw⟩, rfl⟩]
      rfl
    · refine (Dev.get?_runs_freeReady_all ..).trans (if_neg ?_)
      rintro ⟨x, hx, e⟩
      obtain ⟨hl, hw⟩ := Dev.mem_lateReady.1 hx
      exact hf x hl hw e
    · obtain ⟨_, _, _, h⟩ := Dev.freeReady_all_onlyRuns s.d
      rw [h]

end Machine
end Sys2Proof

/-!
PROOFS. The directory, heat, moves and lent windows (04 R148; 10 R476 to R496): the steps of maintenance, and the statement O27.
-/
namespace Sys2Proof
namespace Machine

/-! ## What the commands of maintenance give -/

theorem dirScrubPass_gives {s : State} (bad : List (BitVec 24)) (h : s.d.serving = true) (hg : s.d.gateOn 18 = true) :
    GivesLater s (.dirScrubPass bad) (s.d.scrubPass (bad.map (·.toNat))) := by
  have run : exec (.dirScrubPass bad) s = s.served fun d => if d.gateOn 18 then d.scrubPass (bad.map (·.toNat)) else d := rfl
  rw [GivesLater, run, State.served_eq _ h, if_pos hg]

theorem heatEpoch_gives {s : State} (h : s.d.serving = true) : GivesLater s .heatEpoch s.d.heatEpochStep :=
  State.served_eq (fun d => d.heatEpochStep) h

theorem migrationStart_gives {s : State} (set p : BitVec 32) (l : BitVec 8) (h : s.d.serving = true) :
    GivesLater s (.migrationStart set l p) (s.d.migrateStart set.toNat l.toNat p.toNat) :=
  State.served_eq (fun d => d.migrateStart set.toNat l.toNat p.toNat) h

theorem migrationCommit_gives {s : State} (id : BitVec 32) (h : s.d.serving = true) :
    GivesLater s (.migrationCommit id) (s.d.migrationCommit id.toNat) :=
  State.served_eq (fun d => d.migrationCommit id.toNat) h

theorem lendDeadline_gives {s : State} (n : BitVec 16) (h : s.d.serving = true) :
    GivesLater s (.lendDeadline n) (s.d.lendDeadline n.toNat) :=
  State.served_eq (fun d => d.lendDeadline n.toNat) h

/-! ## The directory scrubber (04 R148, R149) -/

/-- A pass that finds nothing counts itself. -/
theorem Dev.scrubPass_nil {d : Dev} (h : bitAt (d.rd .dir 0 0x8) 32 = true) :
    d.scrubPass [] = d.incWrap .dir 0 0x10 31 0 1 := by
  simp [Dev.scrubPass, h]

/-- A pass that finds one entry in error, with no operation on it under way, corrects it. -/
theorem Dev.scrubPass_one {d : Dev} {i key : Nat} {w : W64} (h : bitAt (d.rd .dir 0 0x8) 32 = true)
    (hi : d.dir[i]? = some (key, w)) (hno : ∀ o ∈ d.dirOps, o.key ≠ key) :
    d.scrubPass [i] = (d.dirFix key).incWrap .dir 0 0x10 31 0 1 := by
  have idle : (d.dirOps.any fun o => o.key == key) = false := by simpa using hno
  simp only [Dev.scrubPass, h, hi, idle, List.foldl_cons, List.foldl_nil, Bool.not_true, Bool.false_eq_true, if_false]

/-- A correction writes the entry from its shadow, counts it, logs where and when, and raises DIR_SHADOW. -/
theorem Dev.dirFix_eq {d : Dev} {key : Nat} {v : W64} (h : d.entry key = some v) :
    d.dirFix key = (((({ d with dir := Tab.set d.dir key v } : Dev).incSat .dir 0 0x10 63 32 1).wr .dir 0 0x18
      (BitVec.ofNat 64 (d.dir.takeWhile fun e => e.1 < key).length)).wr .dir 0 0x20 (BitVec.ofNat 64 d.now)).raise
        0x240 ⟨.edge, 0⟩ [] 0 := by
  simp only [Dev.dirFix, h]
  rfl

/-! ## Entries changed in place (04 R132) -/

/-- A change of an entry in place reaches the held edits and service memory alone. -/
theorem Dev.modPte_frame (d : Dev) (set l p : Nat) (f : W64 → W64) :
    ∃ held svc, d.modPte set l p f = { d with held := held, svc := svc } := by
  unfold Dev.modPte Dev.putPte
  split
  · split
    · exact ⟨_, _, rfl⟩
    · split <;> exact ⟨_, _, rfl⟩
  · exact ⟨_, _, rfl⟩

/-! ## Frames taken (10 R465 to R467, R483) -/

/-- e is d with runs taken by free choices. -/
def Dev.OnlyTaken (d e : Dev) : Prop := ∃ runs ctr, e = { d with runs := runs, freeCtr := ctr }

theorem Dev.allocRun_onlyTaken {d e : Dev} {r : Nat × Nat} {n f : Nat} (h : d.allocRun r n = some (f, e)) : d.OnlyTaken e := by
  obtain ⟨_, _, h⟩ := Option.map_eq_some_iff.1 h
  cases h
  exact ⟨_, _, rfl⟩

theorem Dev.allocFrom_onlyTaken {d e : Dev} {n f : Nat} {dies : List Nat} (h : d.allocFrom n dies = some (f, e)) :
    d.OnlyTaken e := by
  induction dies with
  | nil => cases h
  | cons x r ih =>
    rw [Dev.allocFrom] at h
    split at h
    · next hx => exact Dev.allocRun_onlyTaken (hx.trans h)
    · exact ih h

/-- An eviction that stays in device memory takes frames of some dies. -/
theorem Dev.evictTo_device {d d1 : Dev} {set tier f : Nat} {v : W64} (h : d.evictTo set v = some (tier, f, d1)) (ht : tier < 2) :
    d.OnlyTaken d1 := by
  unfold Dev.evictTo at h
  dsimp only at h
  split at h
  · next ha =>
    cases h
    exact Dev.allocFrom_onlyTaken ha
  · split at h
    · cases h
    · split at h
      · obtain ⟨rfl, -⟩ := Prod.mk.inj (Option.some.inj h)
        omega
      · split at h
        · cases h
        · split at h
          · obtain ⟨rfl, -⟩ := Prod.mk.inj (Option.some.inj h)
            omega
          · cases h

/-! ## Moves (10 R480 to R487) -/

/-- A page that may be displaced and is not asked for in a higher tier is evicted when there is room. -/
theorem Dev.migrate_evicts {d d1 : Dev} {set l p tier f : Nat} {v : W64} (hv : d.pte set l p = some v)
    (hpromo : ∀ q ∈ d.promos, ¬ (q.set = set ∧ q.layer = l ∧ q.page = p)) (hmig : pteMig v = 0)
    (hhold : (d.pageInfo? set l p).bind (·.hold) = none)
    (hroom : d.migCount (d.stripeCell (keyStand (d.setKey set)) l p) <
      d.fld .cell (d.stripeCell (keyStand (d.setKey set)) l p) 0x60000 21 16)
    (hdisp : d.displaceable set l p = true) (he : d.evictTo set v = some (tier, f, d1)) :
    d.migrate set l p = d1.startMigr set l p 2 tier f [] := by
  have asked : (d.promos.find? fun q => q.set == set && q.layer == l && q.page == p) = none := by
    simpa [List.find?_eq_none, and_assoc] using hpromo
  simp only [Dev.migrate, hv]
  rw [if_neg (by simp [hmig, hhold, hroom]), asked]
  simp only [hdisp, he, if_true]

/-- A move that starts is listed with the next number, and its page marked. -/
theorem Dev.startMigr_eq (d : Dev) (set l p mig tier f : Nat) (tile : List Byte) : d.startMigr set l p mig tier f tile =
    { d.modPte set l p (fun v => putBits v 60 58 mig) with
      migrs := d.migrs ++ [⟨d.migNext, set, l, p, tier, f, mig,
        if tier = 0 then frameDie f else d.stripeCell (keyStand (d.setKey set)) l p, tile, 0⟩],
      migNext := d.migNext + 1 } := by
  obtain ⟨_, _, h⟩ := d.modPte_frame set l p fun v => putBits v 60 58 mig
  simp only [Dev.startMigr, Dev.setMig, h]

/-- An eviction within device memory starts with no more than its mark, its frames and its entry in the list of moves. -/
theorem Dev.migrateStart_device {d d1 : Dev} {set l p tier f : Nat} {v : W64} (hv : d.pte set l p = some v)
    (hpromo : ∀ q ∈ d.promos, ¬ (q.set = set ∧ q.layer = l ∧ q.page = p)) (hids : ∀ m ∈ d.migrs, m.id < d.migNext)
    (hsrc : pteTier v < 2) (hmig : pteMig v = 0) (hhold : (d.pageInfo? set l p).bind (·.hold) = none)
    (hroom : d.migCount (d.stripeCell (keyStand (d.setKey set)) l p) <
      d.fld .cell (d.stripeCell (keyStand (d.setKey set)) l p) 0x60000 21 16)
    (hdisp : d.displaceable set l p = true) (he : d.evictTo set v = some (tier, f, d1)) (ht : tier < 2) :
    d.migrateStart set l p = { d1.modPte set l p (fun v => putBits v 60 58 2) with
      migrs := d.migrs ++ [⟨d.migNext, set, l, p, tier, f, 2,
        if tier = 0 then frameDie f else d.stripeCell (keyStand (d.setKey set)) l p, [], 0⟩],
      migNext := d.migNext + 1 } := by
  have asked : (d.promos.any fun q => q.set == set && q.layer == l && q.page == p) = false := by
    simpa [and_assoc] using hpromo
  have old : (d.migrs.find? fun m => m.id == d.migNext) = none := by
    simpa [List.find?_eq_none] using fun m hm => (hids m hm).ne
  obtain ⟨_, _, frame⟩ := Dev.evictTo_device he ht
  simp only [Dev.migrateStart, asked, hv, Bool.false_eq_true, if_false]
  rw [if_neg (by omega), Dev.migrate_evicts hv hpromo hmig hhold hroom hdisp he, Dev.startMigr_eq]
  subst frame
  simp only [List.find?_append, old, List.find?_cons, beq_self_eq_true, Option.none_or]
  rw [if_neg (by omega), if_neg (by omega), if_neg (by omega)]
  rfl

/-- A copy within the device is committed with the tile as it lies at the source. -/
theorem Dev.migrationCommit_device {d : Dev} {id : Nat} {m : Migr} {v : W64}
    (hm : (d.migrs.find? fun m => m.id == id && m.mig != 5 && m.leg == 0) = some m) (hv : d.pte m.set m.layer m.page = some v)
    (hsrc : pteTier v < 2) :
    let stand := keyStand (d.setKey m.set)
    let t := d.tileOf stand v
    let d1 : Dev := { d with migrs := d.migrs.filter fun x => x.id != m.id }
    d.migrationCommit id =
      (((((d1.storeTile m.tier stand m.frame t).putPte m.set m.layer m.page
        (putBits (putBits (putBits (putBits v 62 61 m.tier) 47 36 (tileClen t)) 35 0 m.frame) 60 58 0)).deferTile
        m.set m.layer (pteTier v) stand (pteFrame v)).modPage m.set m.layer m.page fun i => { i with overflow := m.tier == 3 })).moveStats
        (pteTier v) (pteFrame v) m.tier m.frame := by
  intro stand t d1
  have copy : m.mig ≠ 5 := by
    have := List.find?_some hm
    simp_all
  have hv1 : d1.pte m.set m.layer m.page = some v := hv
  have near : ¬ (2 ≤ pteTier v ∧ (!dcrcOk t) = true) := by omega
  simp only [Dev.migrationCommit, hm, Dev.commitMigr]
  rw [hv1]
  simp only [if_neg copy, Option.getD_none]
  exact if_neg near

/-! ## Lent windows (10 R494 to R496) -/

/-- A granule of a lent window freed. -/
def Dev.freeGranule (d : Dev) (f : Nat) : Dev :=
  { d with runs := Tab.del d.runs f, mem := Memory.zero d.mem (f * 256) (granFrames * 256) }

theorem Dev.foldl_freeGranule_onlyRuns (d : Dev) (fs : List Nat) : d.OnlyRuns (fs.foldl Dev.freeGranule d) :=
  List.foldlRecOn (motive := d.OnlyRuns) fs _ ⟨_, _, _, rfl⟩ fun _ ⟨_, _, _, h⟩ _ _ => h ▸ ⟨_, _, _, rfl⟩

theorem Dev.has_runs_foldl_freeGranule (d : Dev) (fs : List Nat) {f : Nat} (hf : f ∈ fs ∨ Tab.has d.runs f = false) :
    Tab.has (fs.foldl Dev.freeGranule d).runs f = false := by
  induction fs generalizing d with
  | nil => simpa using hf
  | cons g fs ih =>
    refine ih (d.freeGranule g) ?_
    by_cases h : f = g
    · simp [h, Dev.freeGranule, Tab.has]
    · simpa [h, Dev.freeGranule, Tab.has, Tab.get?_del_ne _ h] using hf

theorem Dev.takeBack_eq (d : Dev) (w : LendOut) : d.takeBack w =
    let e := (w.granules.foldl Dev.freeGranule d).modTract (keyIndex (BitVec.ofNat 32 w.tract)) fun t =>
      { t with st := .hold, frames := [] }
    Dev.showLent { e with lendOut := e.lendOut.erase w } := rfl

/-- A window taken back leaves the list of windows lent, its granules and its tract. -/
theorem Dev.takeBack_spec (d : Dev) (w : LendOut) :
    (d.takeBack w).lendOut = d.lendOut.erase w ∧ (d.takeBack w).lendIn = d.lendIn ∧
      (∀ f ∈ w.granules, Tab.has (d.takeBack w).runs f = false) ∧
      (d.takeBack w).tracts =
        Tab.upd d.tracts (keyIndex (BitVec.ofNat 32 w.tract)) fun t => { t with st := .hold, frames := [] } := by
  rw [Dev.takeBack_eq]
  have freed (f : Nat) (hf : f ∈ w.granules) := d.has_runs_foldl_freeGranule w.granules (.inl hf)
  obtain ⟨_, _, _, h⟩ := d.foldl_freeGranule_onlyRuns w.granules
  rw [h] at freed ⊢
  exact ⟨rfl, rfl, freed, rfl⟩

/-- With no window of its own to lose, the lender takes back the one it reclaims. -/
theorem Dev.lendDeadline_lender {d : Dev} {n : Nat} {w : LendOut} (hw : (d.lendOut.filter fun w => w.borrower == n && w.reclaimed) = [w])
    (hin : ∀ x ∈ d.lendIn, ¬ (x.lender = n ∧ x.closing = true)) : d.lendDeadline n = d.takeBack w := by
  obtain ⟨-, hlend, -⟩ := d.takeBack_spec w
  have none : ((d.takeBack w).lendIn.filter fun x => x.lender == n && x.closing) = [] := by
    rw [hlend]
    simpa [List.filter_eq_nil_iff] using hin
  simp only [Dev.lendDeadline, hw, List.foldl_cons, List.foldl_nil, none]

/-- Moves of which none is selected go on. -/
theorem Dev.abandonMigrs_none {d : Dev} {p : Migr → Bool} (h : ∀ m ∈ d.migrs, p m = false) : d.abandonMigrs p = d := by
  have gone : d.migrs.filter p = [] := List.filter_eq_nil_iff.2 fun m hm => by simp [h m hm]
  have kept : (d.migrs.filter fun m => !p m) = d.migrs := List.filter_eq_self.2 fun m hm => by simp [h m hm]
  simp only [Dev.abandonMigrs, gone, kept, List.foldl_nil]

/-- A window without pages and without moves into it is dropped, and no page is lost. -/
theorem Dev.windowLost_empty {d : Dev} {w : LendIn} (hp : d.windowPages w = [])
    (hm : ∀ m ∈ d.migrs, ¬ (m.tier = 2 ∧ w.first ≤ m.frame ∧ m.frame < w.first + w.frames)) :
    d.windowLost w true = Dev.showLent { (d.incSat .cell 0 0x60828 63 32 0) with lendIn := d.lendIn.erase w } := by
  have into : d.abandonMigrs (fun m => m.tier == 2 && w.first ≤ m.frame && m.frame < w.first + w.frames) = d :=
    Dev.abandonMigrs_none fun m h => by simpa [and_assoc] using hm m h
  have within : d.abandonMigrs (fun m => ([] : Tab PageInfo).any fun e =>
      pkSet e.1 == m.set && pkLayer e.1 == m.layer && pkPage e.1 == m.page) = d :=
    Dev.abandonMigrs_none fun _ _ => rfl
  simp only [Dev.windowLost, hp, within, into, List.foldl_nil, if_true]
  rfl

theorem Dev.lendDeadline_borrower {d : Dev} {n : Nat} {w : LendIn} (hw : (d.lendIn.filter fun w => w.lender == n && w.closing) = [w])
    (hout : ∀ x ∈ d.lendOut, ¬ (x.borrower = n ∧ x.reclaimed = true)) : d.lendDeadline n = d.windowLost w true := by
  have none : (d.lendOut.filter fun x => x.borrower == n && x.reclaimed) = [] := by
    simpa [List.filter_eq_nil_iff] using hout
  simp only [Dev.lendDeadline, none, hw, List.foldl_cons, List.foldl_nil]

/-- Settles O27: each command takes the one branch that its premises leave, and a move within device memory takes no more than
its frames before its entry is marked. -/
theorem directoryScrubbedAndPlacementMaintained : Obligations.DirectoryScrubbedAndPlacementMaintained := by
  intro s hs
  refine ⟨fun hgate hon => ⟨(dirScrubPass_gives [] hs hgate).of_eq (Dev.scrubPass_nil hon), fun i key w v hi hno hv => ?_⟩,
    fun n hn hlate => ?_, fun set p l v tier f d1 hv hpromo hids hsrc hmig hhold hroom hdisp he ht => ?_,
    fun id m v hm hv hsrc => ?_, fun n w hw hin => ?_, fun n w hw hout hp hm => ?_⟩
  · exact (dirScrubPass_gives [i] hs hgate).of_eq
      ((Dev.scrubPass_one hon hi hno).trans (congrArg (·.incWrap .dir 0 0x10 31 0 1) (Dev.dirFix_eq hv)))
  · subst hn
    exact (heatEpoch_gives hs).of_eq (if_pos hlate)
  · exact (migrationStart_gives set p l hs).of_eq (Dev.migrateStart_device hv hpromo hids hsrc hmig hhold hroom hdisp he ht)
  · exact (migrationCommit_gives id hs).of_eq (Dev.migrationCommit_device hm hv hsrc)
  · obtain ⟨hlent, hheld, hfree, htracts⟩ := s.d.takeBack_spec w
    refine ⟨_, (lendDeadline_gives n hs).of_eq (Dev.lendDeadline_lender hw hin), hlent, hheld, hfree, fun t ht => ?_⟩
    rw [Dev.tract?, htracts, Tab.get?_upd_self]
    exact congrArg (Option.map _) ht
  · exact (lendDeadline_gives n hs).of_eq ((Dev.lendDeadline_borrower hw hout).trans (Dev.windowLost_empty hp hm))

end Machine
end Sys2Proof

/-!
PROOFS. The directory and the memory-system instructions (04 R135 to R172; 07 R348 to R359): what a lookup, an insertion, a
deletion, a yarding and a restore answer, for a thread and for a host command, and the statements O17, O18, O19 and O33.
-/
namespace Sys2Proof
namespace Machine

/-! ## What the commands give -/

section
variable {s : State} (h : s.d.serving = true)
include h

theorem pwalk_gives (t : Fin 512) (f : RegF) : GivesLater s (.pwalk t f) (s.d.pwalk t f) :=
  State.served_eq (fun d => d.pwalk t f) h

theorem pwalkR_gives (t : Fin 512) (f : RegF) : GivesLater s (.pwalkR t f) (s.d.pwalkR t f) :=
  State.served_eq (fun d => d.pwalkR t f) h

theorem dlook_gives (t : Fin 512) (f : RegF) (parity : Bool) : GivesLater s (.dlook t f parity) (s.d.dlook t f parity) :=
  State.served_eq (fun d => d.dlook t f parity) h

theorem dins_gives (t : Fin 512) (f : RegF) : GivesLater s (.dins t f) (s.d.dins t f) :=
  State.served_eq (fun d => d.dins t f) h

theorem ddel_gives (t : Fin 512) (f : RegF) : GivesLater s (.ddel t f) (s.d.ddel t f) :=
  State.served_eq (fun d => d.ddel t f) h

theorem dirUpdateDone_gives : GivesLater s .dirUpdateDone (s.d.dirUpdateDone Dev.tableDone) :=
  State.served_eq (fun d => d.dirUpdateDone Dev.tableDone) h

theorem mhint_gives (t : Fin 512) (f : RegF) : GivesLater s (.mhint t f) (s.d.mhint t f) :=
  State.served_eq (fun d => d.mhint t f) h

theorem yard_gives (t : Fin 512) (f : RegF) : GivesLater s (.yard t f) (s.d.kYard t f) :=
  State.served_eq (fun d => d.kYard t f) h

theorem restore_gives (t : Fin 512) (f : RegF) : GivesLater s (.restore t f) (s.d.kRestore t f) :=
  State.served_eq (fun d => d.kRestore t f) h

theorem digest_gives (t : Fin 512) (f : RegF) : GivesLater s (.digest t f) (s.d.digest t f) :=
  State.served_eq (fun d => d.digest t f) h

theorem profile_gives (st : Fin 32) (e : CmdEntry) : GivesLater s (.profile st e) (s.d.hProfile st e) :=
  State.served_eq (fun d => d.hProfile st e) h

theorem seqInsert_gives (st : Fin 32) (e : CmdEntry) : GivesLater s (.seqInsert st e) (s.d.hSeqInsert st e) :=
  State.served_eq (fun d => d.hSeqInsert st e) h

theorem seqDelete_gives (st : Fin 32) (e : CmdEntry) : GivesLater s (.seqDelete st e) (s.d.hSeqDelete st e) :=
  State.served_eq (fun d => d.hSeqDelete st e) h

theorem seqLookup_gives (st : Fin 32) (e : CmdEntry) (parity : Bool) :
    GivesLater s (.seqLookup st e parity) (s.d.hSeqLookup st e parity) :=
  State.served_eq (fun d => d.hSeqLookup st e parity) h

theorem yardCommand_gives (st : Fin 32) (e : CmdEntry) : GivesLater s (.yardCommand st e) (s.d.hYard st e) :=
  State.served_eq (fun d => d.hYard st e) h

theorem restoreCommand_gives (st : Fin 32) (e : CmdEntry) : GivesLater s (.restoreCommand st e) (s.d.hRestore st e) :=
  State.served_eq (fun d => d.hRestore st e) h

end

/-! ## The directory: lookup, insertion and deletion (04 R145, R150, R151, R156, R855) -/

theorem Dev.lookup_none {d : Dev} {key : Nat} (parity : Bool) (h : d.look key = none) : d.lookup key parity = (none, d) := by
  simp [Dev.lookup, h]

/-- A lookup without a parity error answers what the array shows. -/
theorem Dev.lookup_clean {d : Dev} {key : Nat} {v : W64} (h : d.look key = some v) : d.lookup key false = (some v, d) := by
  simp [Dev.lookup, h]

/-- Making a set leaves the listed operations. -/
theorem Dev.dirOps_newSet {d e : Dev} {key profile cls set : Nat} (h : d.newSet key profile cls = some (set, e)) :
    e.dirOps = d.dirOps := by
  obtain ⟨⟨_, _⟩, ha, h⟩ := Option.map_eq_some_iff.1 h
  obtain ⟨_, _, ha⟩ := Option.map_eq_some_iff.1 ha
  cases ha
  cases h
  rfl

/-- The directory value of a new sequence: resident, with what the insertion asks for and its set. -/
def newEntry (attr set : Nat) : W64 :=
  BitVec.ofNat 64 (stResident * 2 ^ 61 + nbits attr 9 8 * 2 ^ 59 + nbits attr 10 10 * 2 ^ 58 + nbits attr 7 4 * 2 ^ 28 +
    nbits attr 2 0 * 2 ^ 25 + set)

/-- The device after an accepted insertion: the entry stands in the shadow, and its moves are listed. -/
def Dev.inserted (d : Dev) (key : Nat) (v : W64) (who : DirWaiter) : Dev :=
  { d with shadow := Tab.set d.shadow key v, dirOps := d.dirOps ++ [⟨key, some v, who⟩] }

/-- An insertion of a new handle is accepted when there is a profile, a place and a set for it. -/
theorem Dev.insert_accepted {d d1 : Dev} {key attr set : Nat} {pr : Profile} (who : DirWaiter) (hnew : d.entry key = none)
    (hp : d.profile? (keyStand key) (nbits attr 2 0) = some pr) (ht : nbits attr 9 8 < 2)
    (hstand : d.dirCount (keyStand key) < d.fld .dir 0 (0x200 + 8 * keyStand key) 18 0) (hfull : d.shadow.length < 262144)
    (hset : d.newSet key (nbits attr 2 0) (nbits attr 7 4) = some (set, d1)) :
    d.insert key attr who = (dsOk, d1.inserted key (newEntry attr set) who) := by
  have profile : ¬ ((d.profile? (keyStand key) (nbits attr 2 0)).isNone = true ∨ 2 ≤ nbits attr 9 8) := by
    rw [hp]
    simpa using ht
  rw [Dev.insert, if_neg (by simp [hnew]), if_neg profile, if_neg (Nat.not_le.2 hstand), if_neg (Nat.not_le.2 hfull), hset]
  rfl

/-- An insertion is refused and changes nothing, or its entry with a new set is inserted. -/
theorem Dev.insert_cases (d : Dev) (key attr : Nat) (who : DirWaiter) :
    (∃ code, code ≠ dsOk ∧ d.insert key attr who = (code, d)) ∨
      ∃ set e, d.newSet key (nbits attr 2 0) (nbits attr 7 4) = some (set, e) ∧
        d.insert key attr who = (dsOk, e.inserted key (newEntry attr set) who) := by
  by_cases known : (d.entry key).isSome = true
  · exact .inl ⟨dsExists, by decide, by rw [Dev.insert, if_pos known]⟩
  by_cases bad : (d.profile? (keyStand key) (nbits attr 2 0)).isNone = true ∨ 2 ≤ nbits attr 9 8
  · exact .inl ⟨dsBadProfile, by decide, by rw [Dev.insert, if_neg known, if_pos bad]⟩
  by_cases limit : d.fld .dir 0 (0x200 + 8 * keyStand key) 18 0 ≤ d.dirCount (keyStand key)
  · exact .inl ⟨dsStandLimit, by decide, by rw [Dev.insert, if_neg known, if_neg bad, if_pos limit]⟩
  by_cases full : 262144 ≤ d.shadow.length
  · exact .inl ⟨dsFull, by decide, by rw [Dev.insert, if_neg known, if_neg bad, if_neg limit, if_pos full]⟩
  rw [Dev.insert, if_neg known, if_neg bad, if_neg limit, if_neg full]
  cases hset : d.newSet key (nbits attr 2 0) (nbits attr 7 4) with
  | none => exact .inl ⟨dsNoService, by decide, rfl⟩
  | some r => exact .inr ⟨r.1, r.2, rfl, rfl⟩

/-- An insertion that is accepted lists its operation last. -/
theorem Dev.dirOps_insert {d d1 : Dev} {key attr : Nat} {who : DirWaiter} (h : d.insert key attr who = (dsOk, d1)) :
    ∃ v, d1.dirOps = d.dirOps ++ [⟨key, some v, who⟩] := by
  rcases d.insert_cases key attr who with ⟨code, hc, hi⟩ | ⟨set, e, hset, hi⟩
  · exact absurd (Prod.mk.inj (hi.symm.trans h)).1 hc
  · obtain ⟨-, rfl⟩ := Prod.mk.inj (hi.symm.trans h)
    exact ⟨newEntry attr set, congrArg (· ++ _) (Dev.dirOps_newSet hset)⟩

/-- The device after an accepted deletion: the shadow has lost the entry, its moves are dropped and the operation is listed. -/
def Dev.deleted (d : Dev) (key : Nat) (who : DirWaiter) : Dev :=
  { d with
    shadow := Tab.del d.shadow key, moves := d.moves.filter fun m => m.key != key, dirOps := d.dirOps ++ [⟨key, none, who⟩] }

/-- A deletion of a sequence that neither runs nor is being restored is accepted. -/
theorem Dev.delete_accepted {d : Dev} {key : Nat} {v : W64} (who : DirWaiter) (hv : d.entry key = some v)
    (hrun : bits v 63 61 ≠ stRunning) (hres : bits v 63 61 ≠ stRestoring) : d.delete key who = (dsOk, d.deleted key who) := by
  simp only [Dev.delete, hv, hrun, hres, or_self, if_false]
  rfl

/-! ## The end of a directory operation (04 R143, R146, R157) -/

/-- What the array shows when an operation ends: the entry's present value, or nothing, with the set freed. -/
def Dev.dirShown (d : Dev) (o : DirOp) : Dev :=
  match o.val with
  | some v => { d with dir := Tab.set d.dir o.key ((d.entry o.key).getD v) }
  | none => match d.look o.key with
    | some v => if dvSet v = 0 then { d with dir := Tab.del d.dir o.key } else Dev.freeSet { d with dir := Tab.del d.dir o.key } (dvSet v)
    | none => { d with dir := Tab.del d.dir o.key }

/-- The end of the oldest operation shows its entry and answers who asked. -/
theorem Dev.dirUpdateDone_cons {d : Dev} {o : DirOp} {r : List DirOp} (tdone : Dev → Nat → Nat → Nat → Dev)
    (h : d.dirOps = o :: r) : d.dirUpdateDone tdone =
      match o.who with
      | .host s tag opc => (Dev.dirShown { d with dirOps := r } o).postCmd s tag opc 1 dsOk 0 0
      | .thread t reg => tdone (Dev.dirShown { d with dirOps := r } o) t reg dsOk
      | .none => Dev.dirShown { d with dirOps := r } o := by
  obtain ⟨key, val, who⟩ := o
  simp only [Dev.dirUpdateDone, h, Dev.dirShown]
  cases val with
  | some v => rfl
  | none =>
    dsimp only
    cases Dev.look { d with dirOps := r } key with
    | some v => rfl
    | none => rfl

theorem Thread.wg_run (x : Thread) (n : Nat) (v : W64) :
    { x.wg n v with wait := .run } = ({ x with wait := .run } : Thread).wg n v := by
  unfold Thread.wg
  split <;> rfl

/-- A thread that still waits for its operation goes on with the status in its register (07 R359). -/
theorem Dev.tableDone_waits {d : Dev} {t gd : Nat} (h : (d.thr t).wait = .table gd) :
    d.tableDone t gd dsOk = d.setThr t ((({ d.thr t with wait := .run } : Thread).wg gd 0).next 4) := by
  rw [Dev.tableDone, if_pos h, Dev.advance_eq, Dev.modThr_eq, Dev.setG_eq]
  simp only [Dev.setThr_setThr, Dev.thr_setThr, Thread.wg_run]
  rfl

/-- Settles O18: the array shows what the shadow holds by then, and whoever asked is answered. -/
theorem directoryUpdateEnds : Obligations.DirectoryUpdateEnds := by
  intro s o r hs hops
  refine ⟨fun q tag opc hw => ?_, fun t reg hw hwait => ?_⟩
  · refine (dirUpdateDone_gives hs).of_eq ((Dev.dirUpdateDone_cons _ hops).trans ?_)
    rw [hw]
    rfl
  · refine (dirUpdateDone_gives hs).of_eq ((Dev.dirUpdateDone_cons _ hops).trans ?_)
    rw [hw]
    exact Dev.tableDone_waits hwait

/-! ## Yarding and restore (04 R164 to R172) -/

theorem Dev.yard_resident {d : Dev} {key : Nat} {v : W64} (hv : d.look key = some v) (hst : bits v 63 61 = stResident) :
    d.yard key = (dsOk, d.startYard key) := by
  simp [Dev.yard, hv, hst]

/-- A restore of a yarded sequence whose yarding has ended, with quota for its pages, is accepted. -/
theorem Dev.restore_accepted {d : Dev} {key : Nat} {v : W64} (hv : d.look key = some v) (hst : bits v 63 61 = stYarded)
    (hmoves : ∀ m ∈ d.moves, m.key = key → m.restore = true)
    (hquota : d.useOf (keyStand key) (dvTier v) + (d.yardedPages (dvSet v)).length ≤ d.quotaOf (keyStand key) (dvTier v)) :
    let todo := d.yardedPages (dvSet v)
    let d1 := todo.foldl (fun d lp => d.modPage (dvSet v) lp.1 lp.2 fun i => { i with charge := some (dvTier v) }) d
    d.restore key = (dsOk, (((d1.recount (dvSet v)).setSeqState key stRestoring).addMove ⟨key, true, todo, none⟩).restoreStep key) := by
  intro todo d1
  have idle : (d.moves.find? fun m => m.key == key && !m.restore) = none := by
    simpa [List.find?_eq_none] using hmoves
  simp only [Dev.restore, hv, idle]
  rw [if_neg (not_not.2 hst), if_neg (Nat.not_lt.2 hquota)]

/-! ## The frame of a memory-system instruction (07 R348) -/

theorem Dev.issues_serving {d : Dev} {t : Nat} (h : d.issues t = true) : d.serving = true := (Bool.and_eq_true_iff.1 h).1

/-- A register written, and the program counter moved on. -/
theorem Dev.setG_advance (d : Dev) (t : Fin 512) (rd : BitVec 5) (v : W64) :
    (d.setG t rd.toNat v).advance t 4 = d.withG t rd v := by
  simp only [Dev.advance_eq, Dev.setG_eq, Dev.setThr_setThr, Dev.thr_setThr]
  rfl

/-- FUNC zero, and B zero where it is not used, are legal. -/
theorem legal_msys {f : RegF} {useB : Bool} (hf : f.func = 0) (hb : useB = true ∨ f.b = 0) (r : InstrRes) :
    legal (f.func == 0 && (useB || f.b == 0)) r = r :=
  if_pos (by simpa [hf] using hb)

section
variable {d d1 : Dev} {t : Fin 512} {f : RegF} (h : d.runnable t = true)
include h

section
variable {useB : Bool} {body : Dev → Thread → InstrRes} (hf : f.func = 0) (hb : useB = true ∨ f.b = 0)
include hf hb

theorem Dev.msys_ok (e : body d (d.thr t) = .ok d1) : d.msys t f useB body = d1.advance t 4 :=
  Dev.instr_ok h (d.fits_four t) ((legal_msys hf hb _).trans e)

theorem Dev.msys_hold (e : body d (d.thr t) = .hold d1) : d.msys t f useB body = d1 :=
  Dev.instr_hold h (d.fits_four t) ((legal_msys hf hb _).trans e)

/-- An instruction that writes a value at once. -/
theorem Dev.msys_value {v : W64} (e : body d (d.thr t) = .ok (d1.setG t f.d.toNat v)) :
    d.msys t f useB body = d1.withG t f.d v :=
  (Dev.msys_ok h hf hb e).trans (d1.setG_advance t f.d v)

/-- An instruction that answers a status at once, with status 0. -/
theorem Dev.msys_status {r : Dev → Thread → Nat × Dev} (e : r d (d.thr t) = (dsOk, d1)) :
    d.msys t f useB (fun d x => .ok ((r d x).2.setG t f.d.toNat (BitVec.ofNat 64 (r d x).1))) = d1.withG t f.d 0 :=
  Dev.msys_value h hf hb (by rw [e]; rfl)

end

/-! ## PWALK (04 R135; 07 R349, R350) -/

/-- A walk of a live sequence's layer is what pwalkLive makes of it. -/
theorem Dev.pwalk_live {v w : W64} {pr : Profile} (hf : f.func = 0) (htok : (d.thr t).tokFree ≠ 0)
    (hv : d.look (d.thr t).seqKey = some v) (hp : d.seqProfile? (d.thr t).seqKey = some pr)
    (hst : bits v 63 61 = stResident ∨ bits v 63 61 = stRunning) (hl : (d.g t f.a).toNat < pr.layers)
    (e : d.pwalkLive t f.d.toNat (dvSet v) (d.g t f.a).toNat (d.g t f.b).toNat pr = .ok (d1.setG t f.d.toNat w)) :
    d.pwalk t f = d1.withG t f.d w := by
  refine Dev.msys_value h hf (.inl rfl) ?_
  have live : bits v 63 61 ≠ stQuar := by rcases hst with hst | hst <;> rw [hst] <;> decide
  have walked : ¬ ((bits v 63 61 ≠ stResident ∧ bits v 63 61 ≠ stRunning) ∨ pr.layers ≤ ((d.thr t).rg f.a.toNat).toNat) :=
    not_or.2 ⟨fun ⟨hres, hrun⟩ => hst.elim hres hrun, Nat.not_le.2 hl⟩
  simp only [if_neg htok, hv, hp, if_neg live, if_neg walked]
  exact e

theorem Dev.pwalkR_pinned {v : W64} {p : Pin} (hf : f.func = 1) (hd : f.d = 0) (hb : f.b = 0) (hv : d.entry (d.thr t).seqKey = some v)
    (hp : d.pinOf t (dvSet v) (d.g t f.a).toNat = some p) : d.pwalkR t f = (d.unpin p).past t 4 := by
  refine Dev.instr_ok (d' := d.unpin p) h (d.fits_four t) ?_
  rw [Dev.g] at hp
  simp [legal, hf, hd, hb, hv, hp]

/-! ## Directory instructions (07 R352, R353) -/

theorem Dev.dlook_found {v : W64} (hf : f.func = 0) (hb : f.b = 0) (hv : d.look (seqKey (d.thrStand t) (d.g t f.a).toNat) = some v) :
    d.dlook t f false = d.withG t f.d (if d.thrStand t = 0 then v else putBits v 24 0 0) := by
  have e : d.lookup (d.thrKey t ((d.thr t).rg f.a.toNat)) false = (some v, d) := Dev.lookup_clean hv
  exact Dev.msys_value h hf (.inr hb) (by rw [e])

theorem Dev.dlook_none (hf : f.func = 0) (hb : f.b = 0) (hv : d.look (seqKey (d.thrStand t) (d.g t f.a).toNat) = none) :
    d.dlook t f false = d.withG t f.d 0 := by
  have e : d.lookup (d.thrKey t ((d.thr t).rg f.a.toNat)) false = (none, d) := Dev.lookup_none false hv
  exact Dev.msys_value h hf (.inr hb) (by rw [e])

/-- An insertion that is accepted holds its thread until its moves end. -/
theorem Dev.dins_accepted (hf : f.func = 0)
    (e : d.insert (seqKey (d.thrStand t) (d.g t f.a).toNat) (d.g t f.b).toNat (.thread t f.d.toNat) = (dsOk, d1)) :
    d.dins t f = d1.setThr t { d1.thr t with wait := .table f.d.toNat } := by
  refine Dev.msys_hold h hf (.inl rfl) ((congrArg (Dev.tableRes · t f.d.toNat) e).trans ?_)
  exact if_pos rfl

/-- An insertion that is refused gives its status at once. -/
theorem Dev.dins_refused {code : Nat} (hf : f.func = 0) (hc : code ≠ dsOk)
    (e : d.insert (seqKey (d.thrStand t) (d.g t f.a).toNat) (d.g t f.b).toNat (.thread t f.d.toNat) = (code, d1)) :
    d.dins t f = d1.withG t f.d (BitVec.ofNat 64 code) := by
  refine Dev.msys_value h hf (.inl rfl) ((congrArg (Dev.tableRes · t f.d.toNat) e).trans ?_)
  exact if_neg hc

/-- A deletion that is accepted holds its thread until its moves end. -/
theorem Dev.ddel_accepted {v : W64} (hf : f.func = 0) (hb : f.b = 0)
    (hv : d.entry (seqKey (d.thrStand t) (d.g t f.a).toNat) = some v) (hrun : bits v 63 61 ≠ stRunning)
    (hres : bits v 63 61 ≠ stRestoring) :
    d.ddel t f = (d.deleted (seqKey (d.thrStand t) (d.g t f.a).toNat) (.thread t f.d.toNat)).setThr t
      { d.thr t with wait := .table f.d.toNat } := by
  refine Dev.msys_hold h hf (.inr hb)
    ((congrArg (Dev.tableRes · t f.d.toNat) (Dev.delete_accepted (.thread t f.d.toNat) hv hrun hres)).trans ?_)
  exact if_pos rfl

end

/-- Settles O17: past the frame of a memory-system instruction, each answers what the walk, the lookup, the insertion or the
deletion does. -/
theorem pageWalkAndDirectoryInstructions : Obligations.PageWalkAndDirectoryInstructions := by
  intro s t f hi
  have hs := Dev.issues_serving hi
  have hr := Dev.issues_runnable hi
  refine ⟨fun v pr hf htok hv hp hst hl => ⟨fun p hpin => ?_, fun hpin hroot hpins => ?_, fun hpin hroot => ?_⟩,
    fun v p hf hd hb hv hp => ?_, fun hf hb => ⟨fun v hv => ?_, fun hv => ?_⟩,
    fun hf code d1 e => ⟨fun hc => ?_, fun hc => ?_⟩, fun hf hb v hv hrun hres => ?_⟩
  · exact (pwalk_gives hs t f).of_eq (Dev.pwalk_live hr hf htok hv hp hst hl (by simp only [Dev.pwalkLive, hpin]))
  · refine (pwalk_gives hs t f).of_eq (Dev.pwalk_live hr hf htok hv hp hst hl ?_)
    simp only [Dev.pwalkLive, hpin, if_neg hroot, if_neg (Nat.not_le.2 hpins)]
  · exact (pwalk_gives hs t f).of_eq (Dev.pwalk_live hr hf htok hv hp hst hl (by simp only [Dev.pwalkLive, hpin, if_pos hroot]))
  · exact (pwalkR_gives hs t f).of_eq (Dev.pwalkR_pinned hr hf hd hb hv hp)
  · exact (dlook_gives hs t f false).of_eq (Dev.dlook_found hr hf hb hv)
  · exact (dlook_gives hs t f false).of_eq (Dev.dlook_none hr hf hb hv)
  · subst hc
    exact ⟨(dins_gives hs t f).of_eq (Dev.dins_accepted hr hf e), Dev.dirOps_insert e⟩
  · exact (dins_gives hs t f).of_eq (Dev.dins_refused hr hf hc e)
  · exact (ddel_gives hs t f).of_eq (Dev.ddel_accepted hr hf hb hv hrun hres)

/-! ## MHINT and DIGEST (07 R354, R357, R358) -/

/-- What each hint makes of a sequence that is resident or running. -/
theorem Dev.mhintSeq_live {d : Dev} {key : Nat} {v : W64} (ga : W64) (hv : d.look key = some v)
    (hst : bits v 63 61 = stResident ∨ bits v 63 61 = stRunning) :
    d.mhintSeq key ga 0 = (dsOk, d.hintHeat (dvSet v) (bitAt ga 63) ga.toNat 255) ∧
      d.mhintSeq key ga 1 = (dsOk, d.hintHeat (dvSet v) (bitAt ga 63) ga.toNat 0) ∧
      d.mhintSeq key ga 2 = (dsOk, d.setEntry key (putBits v 60 59 0)) ∧
      d.mhintSeq key ga 3 = (dsOk, d.setEntry key (putBits v 60 59 1)) ∧
      d.mhintSeq key ga 4 = (dsOk, d.setEntry key (putBits v 58 58 1)) ∧
      d.mhintSeq key ga 5 = (dsOk, d.setEntry key (putBits v 58 58 0)) := by
  have live : ¬ (bits v 63 61 ≠ stResident ∧ bits v 63 61 ≠ stRunning) := by tauto
  simp only [Dev.mhintSeq, hv, if_neg live, and_self]

/-- A sealed page in device memory that expands gets its digest written, and STALE cleared. -/
theorem Dev.digestPage_sealed {d : Dev} {t fr set l p : Nat} {e : W64} {tile page : List Byte} {pr : Profile}
    (hn : d.tileNamed (d.thrStand t) e = some (fr, tile, (set, l, p), pr)) (hq : tileFlag tile flQuar = false)
    (ho : tileFlag tile flOpen = false) (htier : pteTier e < 2) (hx : expandTile d.slots tile = (page, false)) :
    d.digestPage t e = (dsOk, d.tileWrite (pteTier e) (d.thrStand t) (pteFrame e) 0
      ((setTileFlag (recPut tile 64 (natLe 8 (crc64 page))) flStale false).take descLen)) := by
  have done : ¬ (tileFlag tile flOpen = true ∨ 2 ≤ pteTier e) := not_or.2 ⟨by simp [ho], Nat.not_le.2 htier⟩
  simp only [Dev.digestPage, hn, hq, Bool.false_eq_true, if_false, if_neg done, hx]

/-- Settles O19: each instruction answers status 0 with what its operation makes of the device. -/
theorem sequenceInstructions : Obligations.SequenceInstructions := by
  intro s t f hi hf
  have hs := Dev.issues_serving hi
  have hr := Dev.issues_runnable hi
  refine ⟨fun v hv hst => ?_, fun hb v hv hst => ?_, fun hb d1 e => ?_, fun hb fr tile set l p pr page hn hq ho htier hx => ?_⟩
  · obtain ⟨h0, h1, h2, h3, h4, h5⟩ := Dev.mhintSeq_live (s.d.g t f.a) hv hst
    have hinted {n : Nat} {d1 : Dev} (e : s.d.mhintSeq (s.d.thr t).seqKey (s.d.g t f.a) n = (dsOk, d1))
        (hn : bits (s.d.g t f.b) 2 0 = n) : GivesLater s (.mhint t f) (d1.withG t f.d 0) :=
      (mhint_gives hs t f).of_eq (Dev.msys_status hr hf (.inl rfl) (hn ▸ e))
    exact ⟨hinted h0, hinted h1, hinted h2, hinted h3, hinted h4, hinted h5⟩
  · exact (yard_gives hs t f).of_eq (Dev.msys_status hr hf (.inr hb) (Dev.yard_resident hv hst))
  · exact (restore_gives hs t f).of_eq (Dev.msys_status hr hf (.inr hb) e)
  · exact (digest_gives hs t f).of_eq (Dev.msys_status hr hf (.inr hb) (Dev.digestPage_sealed hn hq ho htier hx))

/-! ## Host commands on profiles and sequences (17 R810, Table 6) -/

section
variable {d d1 : Dev} {s a : Nat} {e : CmdEntry} (hrst : (d.std s).rst = false)
include hrst

/-- PROFILE of a good record defines a slot that nothing uses (04 R112, R113). -/
theorem Dev.hProfile_good {p : Profile} (ha : e.actor s 16 16 = some a) (hp : parseProfile e.payload = some p)
    (hfree : (d.popFetched s 0x01 e).profileBusy a (nbits e.arg.toNat 2 0) = false) :
    let d1 := d.popFetched s 0x01 e
    let r := profileRecord p
    d.hProfile s e = Dev.postCmd { d1 with profiles := Tab.set d1.profiles (a * 8 + nbits e.arg.toNat 2 0) r } s e.tag 0x01 1 dsOk
      (BitVec.ofNat 64 (recNum r 0 8)) (BitVec.ofNat 64 (recNum r 8 8)) := by
  intro d1 r
  rw [Dev.hProfile, Dev.hostCmd_takes _ hrst ha]
  simp only [hp, hfree, Bool.false_eq_true, if_false]
  rfl

theorem Dev.hSeqInsert_accepted (ha : e.actor s 8 8 = some a)
    (hi : (d.popFetched s 0x02 e).insert (seqKey a e.arg.toNat) (e.inl 0 8) (.host s e.tag 0x02) = (dsOk, d1)) :
    d.hSeqInsert s e = d1 := by
  rw [Dev.hSeqInsert, Dev.hostCmd_takes _ hrst ha]
  simp only [hi, if_true]

theorem Dev.hSeqDelete_accepted (ha : e.actor s 0 0 = some a)
    (hd : (d.popFetched s 0x03 e).delete (seqKey a e.arg.toNat) (.host s e.tag 0x03) = (dsOk, d1)) :
    d.hSeqDelete s e = d1 := by
  rw [Dev.hSeqDelete, Dev.hostCmd_takes _ hrst ha]
  simp only [hd, if_true]

theorem Dev.hSeqLookup_found {v : W64} (ha : e.actor s 0 0 = some a)
    (hv : (d.popFetched s 0x04 e).look (seqKey a e.arg.toNat) = some v) :
    d.hSeqLookup s e false = (d.popFetched s 0x04 e).postCmd s e.tag 0x04 1 dsOk (if s = 0 then v else putBits v 24 0 0) 0 := by
  rw [Dev.hSeqLookup, Dev.hostCmd_takes _ hrst ha]
  simp only [Dev.lookup_clean hv]

theorem Dev.hSeqLookup_none (parity : Bool) (ha : e.actor s 0 0 = some a)
    (hv : (d.popFetched s 0x04 e).look (seqKey a e.arg.toNat) = none) :
    d.hSeqLookup s e parity = (d.popFetched s 0x04 e).postCmd s e.tag 0x04 1 dsNotFound 0 0 := by
  rw [Dev.hSeqLookup, Dev.hostCmd_takes _ hrst ha]
  simp only [Dev.lookup_none parity hv]

theorem Dev.hYard_accepted (ha : e.actor s 0 0 = some a)
    (hy : (d.popFetched s 0x05 e).yard (seqKey a e.arg.toNat) = (dsOk, d1)) :
    d.hYard s e = d1.postCmd s e.tag 0x05 1 dsOk 0 0 := by
  rw [Dev.hYard, Dev.hostCmd_takes _ hrst ha]
  simp only [hy]

theorem Dev.hRestore_accepted (ha : e.actor s 0 0 = some a)
    (hy : (d.popFetched s 0x06 e).restore (seqKey a e.arg.toNat) = (dsOk, d1)) :
    d.hRestore s e = d1.postCmd s e.tag 0x06 1 dsOk 0 0 := by
  rw [Dev.hRestore, Dev.hostCmd_takes _ hrst ha]
  simp only [hy]

end

/-- Settles O33: a command that is started leaves the fetched list and then does what the operation on the directory does. -/
theorem hostCommandsOnSequences : Obligations.HostCommandsOnSequences := by
  intro s st e a
  refine ⟨fun p ⟨hs, hrst, ha⟩ hp hfree => ?_, fun pr set d1 ⟨hs, hrst, ha⟩ hnew hp ht hstand hfull hset => ?_,
    fun v ⟨hs, hrst, ha⟩ hv hrun hres => ?_, fun v ⟨hs, hrst, ha⟩ hv => ?_, fun ⟨hs, hrst, ha⟩ hv parity => ?_,
    fun v ⟨hs, hrst, ha⟩ hv hst => ?_, fun v ⟨hs, hrst, ha⟩ hv hst hmoves hquota => ?_⟩
  · exact (profile_gives hs st e).of_eq (Dev.hProfile_good hrst ha hp hfree)
  · exact (seqInsert_gives hs st e).of_eq
      (Dev.hSeqInsert_accepted hrst ha (Dev.insert_accepted _ hnew hp ht hstand hfull hset))
  · exact (seqDelete_gives hs st e).of_eq (Dev.hSeqDelete_accepted hrst ha (Dev.delete_accepted _ hv hrun hres))
  · refine (seqLookup_gives hs st e false).of_eq ((Dev.hSeqLookup_found hrst ha hv).trans ?_)
    simp only [Fin.val_eq_zero_iff]
    rfl
  · exact (seqLookup_gives hs st e parity).of_eq (Dev.hSeqLookup_none hrst parity ha hv)
  · exact (yardCommand_gives hs st e).of_eq (Dev.hYard_accepted hrst ha (Dev.yard_resident hv hst))
  · exact (restoreCommand_gives hs st e).of_eq (Dev.hRestore_accepted hrst ha (Dev.restore_accepted hv hst hmoves hquota))

end Machine
end Sys2Proof

/-!
PROOFS. The attention computation (05 R197 to R235; 06 R265, R281; 07 R343, R344): the frame of a tile instruction, what a
matrix step makes of its scores, and how records and merge slots end; the statements O15 and O25.
-/
namespace Sys2Proof
namespace Machine

/-! ## Tokens (06 R281, R282) -/

/-- A number that freeAt answers lies below the bound and is free. -/
theorem Tab.freeAt_free {α : Type} {t : Tab α} {n hint i : Nat} {ok : Nat → Bool} (h : Tab.freeAt t n hint ok = some i) :
    i < n ∧ Tab.has t i = false := by
  unfold Tab.freeAt at h
  split at h
  · next hh =>
    obtain rfl := Option.some.inj h
    simp only [Bool.and_eq_true, decide_eq_true_eq, Bool.not_eq_true'] at hh
    exact hh.1
  · have free := List.find?_some h
    simp only [Bool.and_eq_true, Bool.not_eq_true'] at free
    exact ⟨List.mem_range.1 (List.mem_of_find?_eq_some h), free.1⟩

/-- A thread with a free token takes one. -/
theorem Dev.takeTok_free {d : Dev} {t : Nat} (gd : Nat) (k : TokKind) (ready : Option Nat)
    (h : ∃ n, n < 64 ∧ Tab.has (d.thr t).toks n = false) :
    ∃ n, n < 64 ∧ Tab.has (d.thr t).toks n = false ∧ d.takeTok t gd k ready =
      some (n, d.took.setThr t
        (({ d.thr t with toks := Tab.set (d.thr t).toks n ⟨k, gd == 0, ready, none⟩ }).wg gd (BitVec.ofNat 64 n))) := by
  obtain ⟨a, ha, hfree⟩ := h
  obtain ⟨n, hn⟩ := Option.isSome_iff_exists.1 (freeAt_some (d.thr t).toks 64 a (d.hint 64) (fun _ => true) ha hfree rfl)
  obtain ⟨hlt, hno⟩ := Tab.freeAt_free hn
  exact ⟨n, hlt, hno, by simp only [Dev.takeTok, hn, Option.map_some]⟩

/-! ## The frame of a tile instruction (06 R281; 07 R309 to R312) -/

/-- An operation that takes effect takes a token besides and moves the program counter on. -/
theorem tile_issues {s : State} {t : Fin 512} {f : LongF} {c : Instr} {ok useY : Bool}
    {body : Dev → Thread → Nat → Nat → TileRes} {h y st : Nat} {d1 : Dev} {src : Option Nat}
    (run : exec c s = s.served fun d => d.tile t f ok useY body)
    (hr : LongReady s t) (htok : FreeToken s.d t) (hok : ok = true) (hx : (s.d.thr t).handleOf f.x = some h)
    (hy : (if useY then (s.d.thr t).handleOf f.y else if f.y = 0 then some 0 else none) = some y)
    (e : body s.d (s.d.thr t) h y = .done d1 st src) (hk : (d1.thr t).toks = (s.d.thr t).toks) :
    TileIssues s t f.d c d1 st src := by
  obtain ⟨hs, hrun, hlen⟩ := hr
  obtain ⟨hleft, hfree⟩ := htok
  rw [← hk] at hfree
  obtain ⟨n, hlt, hno, htake⟩ := Dev.takeTok_free f.d.toNat (.tile src) (some st) hfree
  have fits : s.d.fits t 8 := fun ⟨_, hle⟩ => absurd hlen (Nat.not_lt.2 hle)
  refine ⟨n, hlt, hk ▸ hno, hk, ?_⟩
  have done : s.d.tile t f ok useY body = Dev.advance _ t 8 :=
    Dev.instr_ok hrun fits (by simp only [hx, hy, hok, legal, if_true, if_neg hleft, e, htake]; rfl)
  rw [GivesLater, run, State.served_eq _ hs, done, Dev.advance_eq, Dev.setThr_setThr, Dev.thr_setThr]
  rfl

/-- A thread whose handles alone changed, with free values taken. -/
theorem onlyHandles_setThr (d : Dev) (t : Fin 512) (n : Nat) (hs : Tab Handle) :
    OnlyHandles d ((d.tookN n).setThr t { d.thr t with t := hs }) t := by
  rw [OnlyHandles, Dev.thr_setThr]
  rfl

/-! ## Rows and scores stored (05 R222; 07 R344, R346) -/

/-- A write to a kernel address changes no thread. -/
@[simp] theorem Dev.memWrite_threads (d : Dev) (t : Nat) (a : W64) (bs : List Byte) : (d.memWrite t a bs).threads = d.threads := by
  unfold Dev.memWrite
  dsimp only
  split
  · rfl
  · split <;> rfl
  · split <;> rfl

/-- A thread follows from the table of threads. -/
theorem Dev.thr_congr {d e : Dev} (h : e.threads = d.threads) (t : Nat) : e.thr t = d.thr t := by
  rw [Dev.thr, Dev.thr, h]

/-- Updates that each change no thread change none one after the other. -/
theorem Dev.thr_foldl {α : Type} {f : Dev → α → Dev} (hf : ∀ e x, (f e x).threads = e.threads) (d : Dev) (xs : List α)
    (t : Nat) : (xs.foldl f d).thr t = d.thr t :=
  Dev.thr_congr (List.foldlRecOn (motive := fun e => e.threads = d.threads) xs f rfl fun e he x _ => (hf e x).trans he) t

/-- A handle dropped is empty, and nothing else of its thread changes. -/
theorem Dev.thr_dropHandle (d : Dev) (t h : Nat) :
    (d.dropHandle t h).thr t = { d.thr t with t := Tab.del (d.thr t).t h } := by
  unfold Dev.dropHandle
  dsimp only
  rw [Dev.modThr_eq, Dev.thr_setThr]
  split <;> rfl

theorem Dev.handle_dropHandle (d : Dev) (t : Fin 512) (h : Nat) : (d.dropHandle t h).handle t h = none := by
  rw [Dev.handle, Dev.thr_dropHandle]
  exact Tab.get?_del_self ..

/-- Outside check mode the check takes its free values and finds nothing. -/
theorem Dev.abft_unchecked (d : Dev) (t : Nat) {r : RowSet} (h : r.check = false) :
    d.abft t r = (0, d.tookN (512 * r.rows.length)) := by
  simp [Dev.abft, h]

theorem Dev.tstore_unchecked {d : Dev} {t h : Nat} {x : Thread} {ga : W64} {r : RowSet} (hr : Tab.get? x.t h = some (.rows r))
    (ha : stageExc ga 8 = none) (hc : r.check = false) :
    d.tstore t x h ga = .done ((r.rows.foldl
      (fun d q => d.memWrite t (ga + BitVec.ofNat 64 (q.idx * (8 + 4 * r.dim))) (rowBytes q.st))
      (d.tookN (512 * r.rows.length))).dropHandle t h) 0 none := by
  simp only [Dev.tstore, Thread.rowsOf, hr, ha, d.abft_unchecked t hc]

theorem Dev.tstoreS_mat {d : Dev} {t h : Nat} {x : Thread} {ga : W64} {m : MatRows} (hm : Tab.get? x.t h = some (.mat m))
    (ha : stageExc ga 8 = none) :
    d.tstoreS t x h ga = .done (m.score.zipIdx.foldl (fun d (row, r) =>
      d.memWrite t (ga + BitVec.ofNat 64 (1024 * r)) ((row.take m.n).flatMap fun w => natLe 4 w.toNat)) d) 0 none := by
  simp only [Dev.tstoreS, hm, ha]

/-! ## The matrix step (07 R343) -/

/-- The score in column j of row r after a step of activations a against the weights w, from free values at k. -/
def WeightOp.scoreOf (w : WeightOp) (z : Bool) (k r : Nat) (a : List Fv) (old : BitVec 32) (j : Nat) : BitVec 32 :=
  if j < w.n then
    toF32 (sumFree (k + 600 * (256 * r + j)) (f32 (if z then 0 else old) :: List.zipWith Fv.mul a (w.w.getD j [])))
  else old

/-- A matrix row set after a step against the weights w. -/
def MatRows.step (m : MatRows) (w : WeightOp) (z : Bool) (k : Nat) : MatRows :=
  { m with
    score := (m.a.zip m.score).zipIdx.map fun ((a, s), r) => s.zipIdx.map fun (old, j) => w.scoreOf z k r a old j
    n := w.n }

/-- A step against weights of the same K, at hand and not lost, changes the row set alone. -/
theorem Dev.tmm_matched {d : Dev} {t h y : Nat} {z : Bool} {m : MatRows} {w : WeightOp}
    (hm : Tab.get? (d.thr t).t h = some (.mat m)) (hw : Tab.get? (d.thr t).t y = some (.weight w))
    (he : w.engines.testBit m.engine = true) (hk : m.k = w.k) (hl : w.lost = false) :
    d.tmm t (d.thr t) z h y = .done ((d.tookN (600 * 256 * m.rows)).setThr t
      { d.thr t with t := Tab.set (d.thr t).t h (.mat (m.step w z d.freeCtr)) }) 0 none := by
  simp only [Dev.tmm, hm, hw, he, hl, Bool.not_true, Bool.false_eq_true, if_false]
  exact if_neg (not_not.2 hk)

/-- Each score of a row with activations is what the step makes of the old one. -/
theorem MatRows.step_score {m : MatRows} {w : WeightOp} {i j : Nat} {a : List Fv} {row : List (BitVec 32)} {old : BitVec 32}
    (z : Bool) (k : Nat) (ha : m.a[i]? = some a) (hrow : m.score[i]? = some row) (hold : row[j]? = some old) :
    ∃ row2, (m.step w z k).score[i]? = some row2 ∧ row2[j]? = some (w.scoreOf z k i a old j) :=
  ⟨row.zipIdx.map fun (old, j) => w.scoreOf z k i a old j,
    by simp [MatRows.step, List.getElem?_zip_eq_some (z := (a, row)) |>.2 ⟨ha, hrow⟩], by simp [hold]⟩

/-- Settles O15: each instruction names its handles and takes its token as every tile instruction does, and its operation
reaches memory or its own handle. -/
theorem rowsAndScoresStored : Obligations.RowsAndScoresStored := by
  intro s t f h hr htok hx
  refine ⟨fun r hh hb hy ha hc => ⟨?_, Dev.handle_dropHandle ..⟩,
    fun y m w func hz ha hb hy hm hw he hk hl => ?_, fun m hm hb hy ha => ?_⟩
  · refine tile_issues (y := 0) rfl hr htok (by simp [hb]) hx (if_pos hy) (Dev.tstore_unchecked hh ha hc) ?_
    rw [Dev.thr_dropHandle]
    exact congrArg (·.toks) (Dev.thr_foldl (fun e q => e.memWrite_threads ..) (s.d.tookN _) r.rows t)
  · refine ⟨_, m.step w (func.toNat == 1) s.d.freeCtr,
      tile_issues rfl hr htok (by simp [ha, hb, hz]) hx hy (Dev.tmm_matched hm hw he hk hl) (by rw [Dev.thr_setThr]),
      onlyHandles_setThr .., by rw [Dev.handle, Dev.thr_setThr]; exact Tab.get?_set_self .., rfl, rfl,
      fun i a row j old hai hrow hold => ?_⟩
    obtain ⟨row2, hrow2, hv⟩ := MatRows.step_score (w := w) (func.toNat == 1) s.d.freeCtr hai hrow hold
    refine ⟨row2, _, hrow2, hv, fun hj => if_neg (Nat.not_lt.2 hj), fun hj => ⟨s.d.freeCtr + 600 * (256 * i + j), ?_⟩⟩
    simp only [WeightOp.scoreOf, if_pos hj, beq_iff_eq]
  · refine tile_issues (y := 0) rfl hr htok (by simp [hb]) hx (if_pos hy) (Dev.tstoreS_mat hm ha) ?_
    exact congrArg (·.toks) (Dev.thr_foldl (fun e q => e.memWrite_threads ..) s.d m.score.zipIdx t)

/-! ## The own node (01 R18) -/

/-- A field of a stand's window does not name the node. -/
@[simp] theorem Dev.node_setFld_stand (d : Dev) (s off hi lo v : Nat) : (d.setFld .stand s off hi lo v).node = d.node := by
  rw [Dev.node, Dev.node, Dev.setFld_slotId, Dev.fld_setFld_ne (h := by simp only [Loc.addr, Blk.base]; omega)]

@[simp] theorem Dev.node_signal (d : Dev) (fn vec : Nat) : (d.signal fn vec).node = d.node := by
  unfold Dev.signal
  dsimp only
  split <;> rfl

@[simp] theorem Dev.node_emit (d : Dev) (o : Out) : (d.emit o).node = d.node := rfl

@[simp] theorem Dev.node_setHostQ (d : Dev) (s : Nat) (q : HostQ) : (d.setHostQ s q).node = d.node := rfl

@[simp] theorem Dev.node_signalCpl (d : Dev) (s : Nat) : (d.signalCpl s).node = d.node := by
  unfold Dev.signalCpl
  dsimp only
  split
  · exact Dev.node_signal ..
  · rfl

@[simp] theorem Dev.node_cplWrite (d : Dev) (s : Nat) (e : CplEntry) : (d.cplWrite s e).node = d.node := by
  unfold Dev.cplWrite
  extract_lets _ _ _ sent moved turned _ counted
  have hmoved : moved.node = d.node := (sent.node_setFld_stand ..).trans (d.node_emit _)
  have hturned : turned.node = d.node := by
    unfold turned
    split
    · exact (moved.node_setFld_stand ..).trans hmoved
    · exact hmoved
  have hcounted : counted.node = d.node := (turned.node_setHostQ s _).trans hturned
  split
  · exact (counted.node_signalCpl s).trans hcounted
  · exact hcounted

/-- A completion entry leaves the node. -/
@[simp] theorem Dev.node_post (d : Dev) (s : Nat) (e : CplEntry) : (d.post s e).node = d.node := by
  unfold Dev.post
  dsimp only
  split
  · exact Dev.node_cplWrite ..
  · split
    · exact Dev.node_setHostQ ..
    · exact Dev.node_setFld_stand ..

/-! ## What the commands that end records and merge slots give -/

section
variable {s : State} (h : s.d.serving = true)
include h

theorem recordComplete_gives (n clocks : BitVec 32) :
    GivesLater s (.recordComplete n clocks) (s.d.recordComplete n.toNat clocks.toNat) :=
  State.served_eq (fun d => d.recordComplete n.toNat clocks.toNat) h

theorem partialHeaderSend_gives (n : BitVec 32) : GivesLater s (.partialHeaderSend n) (s.d.sendHeader n.toNat) :=
  State.served_eq (fun d => d.sendHeader n.toNat) h

theorem mergeDeadline_gives (st : Fin 32) (tag : W64) : GivesLater s (.mergeDeadline st tag) (s.d.mergeDeadline st tag.toNat) :=
  State.served_eq (fun d => d.mergeDeadline st tag.toNat) h

theorem mergeHoldExpiry_gives (st : Fin 32) (tag : W64) : GivesLater s (.mergeHoldExpiry st tag) (s.d.mergeExpire st tag.toNat) :=
  State.served_eq (fun d => d.mergeExpire st tag.toNat) h

end

/-! ## Records completed (05 R223; 06 R265) -/

/-- The device without order o of number n, with its drop counted and its sequence given up. -/
def Dev.orderGone (d : Dev) (n : Nat) (o : Order) : Dev :=
  let d0 : Dev := { d with orders := Tab.del d.orders n }
  let d1 := if o.final = 5 ∨ o.final = 6 then d0.incSat .stand o.stand 0x308 31 0 1 else d0
  if o.started = true ∧ o.seq = true then d1.seqEnd o.key else d1

/-- An order without sub-orders goes, and completes by its kind. -/
theorem Dev.recordComplete_ended {d : Dev} {n : Nat} {o : Order} (clocks : Nat) (ho : Tab.get? d.orders n = some o)
    (hsub : ∀ e ∈ d.subs, e.2.order ≠ n) : d.recordComplete n clocks =
    if o.kind = 4 then
      ((d.orderGone n o).schCharge 0 o.stand (if o.seq then keyHandle o.key + 1 else 0)
        (clocks - (d.orderGone n o).fld .sch 0 8 63 32)).post o.stand
        ⟨BitVec.ofNat 64 (recNum o.bytes 0 8), 0, 0, 1, 0, 2, o.final⟩
    else (d.orderGone n o).completeQuery o := by
  have ended : (d.subs.any fun e => e.2.order == n) = false := by simpa using hsub
  simp only [Dev.recordComplete, ho, ended, Bool.false_eq_true, if_false]
  rfl

/-- A query order's partial record goes to the address that its record names: with MERGE_CNT to the merge address. -/
theorem Dev.completeQuery_eq (d : Dev) (o : Order) :
    let st := o.final
    let body := if st = 0 ∨ st = 9 then d.partBody o else []
    let merge := recNum o.bytes 84 2 ≠ 0
    d.completeQuery o = d.took.sendRecord ⟨o.stand, recNum o.bytes (if merge then 66 else 64) 2,
      BitVec.ofNat 32 (recNum o.bytes (if merge then 80 else 68) 4), recNum o.bytes (if merge then 88 else 72) 8,
      d.partHead o st body.length, 0, false, some o.at_⟩ body := by
  simp only [Dev.completeQuery, bne_iff_ne]

/-! ## Partial records sent (05 R224) -/

/-- A message begins on an open connection. -/
theorem Dev.startMsg_open {d : Dev} {c : Nat} {x : Conn} (m : OutMsg) (hx : d.conn? c = some x) (hst : x.st = 2) :
    d.startMsg c m = (d.setConn c { x with tx := x.tx ++ [{ m with n := x.txNext }], txNext := x.txNext + 1 }).pump c := by
  simp only [Dev.startMsg, hx, hst, if_true]

/-- The header of a record whose body messages were all acknowledged. -/
theorem Dev.sendHeader_acked {d : Dev} {n c : Nat} {j : PartJob} (hj : Tab.get? d.parts n = some j) (hleft : j.left = 0)
    (hok : j.failed = false) (hc : d.connTo j.stand j.node = some c) :
    d.sendHeader n = d.startMsg c (mkMsg tyPut 3 true j.key j.off j.head j.head.length (.whole n)) := by
  simp only [Dev.sendHeader, hj, hleft, hok, hc, ne_eq, not_true_eq_false, Bool.false_eq_true, if_false]

/-! ## Merge slots that time out (05 R231, R232) -/

/-- A slot whose record goes to another node sends it over a connection. -/
theorem Dev.mergeSend_away {d : Dev} {arm : List Byte} (m : MergeSlot) (reached : Bool) (h : recNum arm 52 2 ≠ d.node) :
    let r := d.mergeRec m arm reached
    d.mergeSend m arm reached =
      (((d.putMerge { m with sent := true, rows := [], bytes := 0 }).post m.stand
        ⟨BitVec.ofNat 64 (recNum arm 0 8), 0, 0, 1, 0, 2, recNum r.1 33 1⟩).sendParts
        ⟨m.stand, recNum arm 52 2, BitVec.ofNat 32 (recNum arm 40 4), recNum arm 24 8, r.1, 0, false, none⟩ r.2, none) := by
  intro r
  have away : recNum arm 52 2 ≠ (d.putMerge { m with sent := true, rows := [], bytes := 0 }).node := h
  rw [Dev.mergeSend]
  exact if_neg (by rw [Dev.node_post]; exact away)

/-- A slot armed and not sent, past its deadline and the grace after it, sends what it holds as not reached. -/
theorem Dev.mergeDeadline_late {d e : Dev} {s tag : Nat} {m : MergeSlot} {arm : List Byte} (hm : d.mergeSlot? s tag = some m)
    (harm : m.arm = some arm) (hsent : m.sent = false) (hlate : recNum arm 8 8 + d.sfld s 0x300 47 32 * 1000 ≤ d.now)
    (he : d.mergeSend m arm false = (e, none)) : d.mergeDeadline s tag = e := by
  simp only [Dev.mergeDeadline, hm, harm, hsent, Bool.false_eq_true, false_or, if_neg (Nat.not_lt.2 hlate), he]

/-- A slot that was never armed is freed, and its partials are counted as discarded. -/
theorem Dev.mergeExpire_unarmed {d : Dev} {s tag : Nat} {m : MergeSlot} (hm : d.mergeSlot? s tag = some m) (harm : m.arm = none) :
    d.mergeExpire s tag = ({ d with merges := d.merges.erase m } : Dev).incSat .stand s 0x308 63 32 m.parts := by
  simp only [Dev.mergeExpire, hm, harm, Option.isSome_none, Bool.false_eq_true, if_false]
  rfl

/-- Settles O25: an order without sub-orders completes by its kind, an acknowledged header begins one message, and a completion
entry leaves the node, so that a late slot's record still goes to another one. -/
theorem recordsCompletedAndMerged : Obligations.RecordsCompletedAndMerged := by
  intro s hs
  refine ⟨fun n clocks o ho hsub => ⟨fun hk => ?_, fun hk => ?_⟩, fun n j c x hj hleft hok hc hx hst => ?_,
    fun st tag m arm hm harm hsent hlate haway => ?_, fun st tag m hm harm => ?_⟩
  · exact (recordComplete_gives hs n clocks).of_eq ((Dev.recordComplete_ended clocks.toNat ho hsub).trans (if_pos hk))
  · exact (recordComplete_gives hs n clocks).of_eq
      (((Dev.recordComplete_ended clocks.toNat ho hsub).trans (if_neg hk)).trans (Dev.completeQuery_eq ..))
  · exact (partialHeaderSend_gives hs n).of_eq ((Dev.sendHeader_acked hj hleft hok hc).trans (Dev.startMsg_open _ hx hst))
  · exact (mergeDeadline_gives hs st tag).of_eq (Dev.mergeDeadline_late hm harm hsent hlate (Dev.mergeSend_away m false haway))
  · exact (mergeHoldExpiry_gives hs st tag).of_eq (Dev.mergeExpire_unarmed hm harm)

end Machine
end Sys2Proof

/-!
PROOFS. Limber threads and their sub-orders (06 R246 to R248, R260 to R266, R291 to R294, R304 to R307; 07 R369 to R374): what
an exception at its handler, a dispatch and the watchdog make of a thread, and what the queue, time and system instructions
answer; the statements O5, O6, O22 and O24.
-/
namespace Sys2Proof
namespace Machine

/-! ## An exception at its handler (06 R291) -/

/-- A thread in its handler: what the exception was, and where it happened (06 R291, Table 12). -/
def Thread.handling (x : Thread) (im : Image) (cause : Nat) (addr : W64) : Thread :=
  { x with excCause := cause, excPc := x.pc, excAddr := if 2 ≤ cause ∧ cause ≤ 4 then addr else 0#64, inExc := true,
           pc := im.excEntry, wait := .run }

/-- An exception that the image handles is counted and shown in its stand's window, and its thread goes on in the handler. -/
theorem Dev.except_handled {d : Dev} {t cause : Nat} {im : Image} (addr : W64) (him : d.thrImage t = some im)
    (hentry : im.excEntry ≠ 0) (hin : (d.thr t).inExc = false) (hc : cause ≠ 14) :
    d.except t cause addr =
      ((d.incSat .stand im.stand 0x418 63 32 1).setSfld im.stand 0x418 11 0 (cause * 256 + im.slot)).setThr t
        ((d.thr t).handling im cause addr) := by
  have handled : ¬ (im.excEntry = 0 ∨ (d.thr t).inExc = true ∨ cause = 14) := by simp [hentry, hin, hc]
  simp only [Dev.except, him, if_neg handled, Nat.add_zero, Thread.handling]

/-- Settles O5: an exception that the image handles writes its stand's exception register and its thread, and nothing else. -/
theorem exceptionAtHandler : Obligations.ExceptionAtHandler := by
  intro d t cause addr im him hentry hin hc
  rw [Dev.except_handled addr him hentry hin hc]
  exact ⟨Dev.thr_setThr .., fun u hu => Dev.thr_setThr_ne _ _ _ _ hu, rfl⟩

theorem suborderDispatch_gives {s : State} (c : Fin 16) (h : s.d.serving = true) :
    GivesLater s (.suborderDispatch c) (s.d.subDispatch c) :=
  State.served_eq (fun d => d.subDispatch c) h

theorem suborderWatchdog_gives {s : State} (t : Fin 512) (h : s.d.serving = true) :
    GivesLater s (.suborderWatchdog t) (s.d.subWatchdog t) :=
  State.served_eq (fun d => d.subWatchdog t) h

/-! ## The threads of a core (06 R246, R247) -/

/-- The four threads of core k replaced by x. -/
def Dev.setThreads (d : Dev) (k : Nat) (x : Thread) : Dev :=
  { d with threads := (List.range 4).foldl (fun ts j => Tab.set ts (4 * k + j) x) d.threads }

@[simp] theorem Dev.setThreads_cores (d : Dev) (k : Nat) (x : Thread) : (d.setThreads k x).cores = d.cores := rfl

@[simp] theorem Dev.setThreads_subs (d : Dev) (k : Nat) (x : Thread) : (d.setThreads k x).subs = d.subs := rfl

@[simp] theorem Dev.setThreads_orders (d : Dev) (k : Nat) (x : Thread) : (d.setThreads k x).orders = d.orders := rfl

theorem Dev.foldl_setThr (d : Dev) (k : Nat) (x : Thread) :
    (List.range 4).foldl (fun d j => d.setThr (4 * k + j) x) d = d.setThreads k x := by
  have four : List.range 4 = [0, 1, 2, 3] := rfl
  simp only [Dev.setThreads, four, List.foldl_cons, List.foldl_nil, Dev.setThr]

theorem Dev.thr_setThreads (d : Dev) (k t : Nat) (x : Thread) : (d.setThreads k x).thr t = if t / 4 = k then x else d.thr t := by
  have one (e : Dev) (j : Nat) : (e.setThr (4 * k + j) x).thr t = if t = 4 * k + j then x else e.thr t := by
    split
    · next h => rw [h, Dev.thr_setThr]
    · next h => exact Dev.thr_setThr_ne _ _ _ _ h
  have four : List.range 4 = [0, 1, 2, 3] := rfl
  simp only [← Dev.foldl_setThr, four, List.foldl_cons, List.foldl_nil, one]
  by_cases h : t / 4 = k
  · rw [if_pos h]
    have : t = 4 * k + 3 ∨ t = 4 * k + 2 ∨ t = 4 * k + 1 ∨ t = 4 * k + 0 := by omega
    simp only [← ite_or, this, if_true]
  · have other (j : Nat) (hj : j < 4) : t ≠ 4 * k + j := by omega
    rw [if_neg (other 3 (by decide)), if_neg (other 2 (by decide)), if_neg (other 1 (by decide)), if_neg (other 0 (by decide)),
      if_neg h]

theorem Dev.unbind_eq (d : Dev) (k : Nat) : d.unbind k = (d.setCore k ⟨none, false, []⟩).setThreads k Thread.reset :=
  Dev.foldl_setThr ..

/-- A thread as the binding of its core to an image starts it (06 R247). -/
def Image.start (i : Image) : Thread := { Thread.reset with pc := i.entry, wait := .run, seqKey := seqKey i.stand 0 }

/-- The threads of a core bound to an image start at its entry. -/
theorem Dev.restart_bound {d : Dev} {k im : Nat} {i : Image} (hk : (d.core k).image = some im)
    (hi : Tab.get? d.images im = some i) :
    (List.range 4).foldl (fun d j => d.restart (4 * k + j)) d = d.setThreads k i.start := by
  have started {e : Dev} (hc : e.cores = d.cores) (him : e.images = d.images) {j : Nat} (hj : j < 4) :
      e.restart (4 * k + j) = e.setThr (4 * k + j) i.start := by
    have core : (4 * k + j) / 4 = k := by omega
    have bound : e.thrImage (4 * k + j) = some i := by
      rw [Dev.thrImage, core, Dev.core, hc, him]
      exact (congrArg (·.bind (Tab.get? d.images)) hk).trans hi
    rw [Dev.restart, bound]
    rfl
  have each (js : List Nat) (hjs : ∀ j ∈ js, j < 4) {e : Dev} (hc : e.cores = d.cores) (him : e.images = d.images) :
      js.foldl (fun d j => d.restart (4 * k + j)) e = js.foldl (fun d j => d.setThr (4 * k + j) i.start) e := by
    induction js generalizing e with
    | nil => rfl
    | cons j js ih =>
      rw [List.foldl_cons, List.foldl_cons, started hc him (hjs j List.mem_cons_self)]
      exact ih (fun j hj => hjs j (List.mem_cons_of_mem _ hj)) hc him
  exact (each _ (fun _ => List.mem_range.1) rfl rfl).trans (d.foldl_setThr ..)

/-- A core bound to an image holds its data, and its threads start. -/
theorem Dev.bindCore_image {d : Dev} {k im : Nat} {i : Image} (hi : Tab.get? d.images im = some i) :
    d.bindCore k im =
      (d.setCore k ⟨some im, false, Memory.write [] 0 (recBytes i.bytes i.dataOff i.dataLen)⟩).setThreads k i.start := by
  rw [Dev.bindCore, hi]
  exact Dev.restart_bound (by simp [Dev.core]) hi

/-! ## A sub-order on its thread (06 R260 to R262) -/

/-- A sequence that begins to run changes its entry and its set alone (04 R154). -/
theorem Dev.seqStart_frame (d : Dev) (key : Nat) :
    ∃ svc shadow dir, d.seqStart key = { d with svc := svc, shadow := shadow, dir := dir } := by
  unfold Dev.seqStart
  split
  · next v _ =>
    dsimp only
    split
    · unfold Dev.setSeqState
      split
      · exact ⟨_, _, _, rfl⟩
      · exact ⟨_, d.shadow, d.dir, rfl⟩
    · exact ⟨_, d.shadow, d.dir, rfl⟩
  · exact ⟨d.svc, d.shadow, d.dir, rfl⟩

/-- The thread past its QPOP with 0 in gd, on sub-order sid with the key of its sequence. -/
def Thread.popped (x : Thread) (gd sid key : Nat) : Thread :=
  { (({ x with wait := .run } : Thread).wg gd 0).next 4 with sub := some sid, dogged := false, seqKey := key }

theorem Dev.resume_eq (d : Dev) (t len gd : Nat) (v : W64) :
    d.resume t len gd v = d.setThr t ((({ d.thr t with wait := .run } : Thread).wg gd v).next len) := by
  simp only [Dev.resume, Dev.advance_eq, Dev.modThr_eq, Dev.setG_eq, Dev.setThr_setThr, Dev.thr_setThr, Thread.wg_run]
  rfl


section
variable (d : Dev) (key t off : Nat) (bs : List Byte)

@[simp] theorem Dev.seqStart_subs : (d.seqStart key).subs = d.subs := by
  obtain ⟨_, _, _, h⟩ := d.seqStart_frame key
  rw [h]

@[simp] theorem Dev.seqStart_orders : (d.seqStart key).orders = d.orders := by
  obtain ⟨_, _, _, h⟩ := d.seqStart_frame key
  rw [h]

@[simp] theorem Dev.seqStart_threads : (d.seqStart key).threads = d.threads := by
  obtain ⟨_, _, _, h⟩ := d.seqStart_frame key
  rw [h]

@[simp] theorem Dev.localWrite_subs : (d.localWrite t off bs).subs = d.subs := rfl

@[simp] theorem Dev.localWrite_orders : (d.localWrite t off bs).orders = d.orders := rfl

@[simp] theorem Dev.localWrite_threads : (d.localWrite t off bs).threads = d.threads := rfl

end

/-- A sub-order that runs on thread t, with its input of len bytes at off and its output after it (06 R261, R262). -/
def Dev.runningSub (d : Dev) (u : Sub) (t im off len outLen : Nat) (i : Image) : Sub :=
  { u with
    st := .running t, image := im, inOff := off, inLen := len, outOff := off + roundUp len 64, outLen := outLen,
    rowEng := rowEngines (d.engMask u.cell) i.rowsets, engines := d.engMask u.cell, bad := if u.bad = 4 then 4 else 0,
    since := d.up }

section
variable {d : Dev} {sid t im gd a w off : Nat} {u : Sub} {o : Order} {i : Image}

/-- A sub-order with room for its areas runs on the thread that waits for it. -/
theorem Dev.dispatchTo_room (hu : Tab.get? d.subs sid = some u) (ho : Tab.get? d.orders u.order = some o)
    (hi : Tab.get? d.images im = some i) (hw : (d.thr t).wait = .qpop gd a w)
    (hroom : d.took.stageRoom u.cell (roundUp (d.inputArea o u).length 64 + d.took.outputLen o u) = some off) :
    (d.dispatchTo sid t im).subs =
        Tab.set d.subs sid (d.took.took.runningSub u t im off (d.inputArea o u).length (d.took.outputLen o u) i) ∧
      (d.dispatchTo sid t im).orders = Tab.set d.orders u.order { o with started := true } ∧
      (d.dispatchTo sid t im).threads =
        (d.setThr t ((d.thr t).popped gd sid (if o.key = 0 then seqKey o.stand 0 else o.key))).threads := by
  simp only [Dev.dispatchTo, hu, ho, hi, hw, hroom]
  refine ⟨?_, ?_, ?_⟩
  · simp only [Dev.modThr_eq, Dev.resume_eq, apply_ite Dev.subs, Dev.setThr_subs, Dev.localWrite_subs, Dev.stageWrite_subs,
      Dev.seqStart_subs, ite_self, Dev.took_subs]
    rfl
  · simp only [Dev.modThr_eq, Dev.resume_eq, apply_ite Dev.orders, Dev.setThr_orders, Dev.localWrite_orders,
      Dev.stageWrite_orders, Dev.seqStart_orders, ite_self, Dev.took_orders]
  · simp only [Dev.modThr_eq, Dev.resume_eq, Dev.thr_setThr, Dev.setThr_setThr, Dev.setThr_threads]
    simp only [Dev.thr, apply_ite Dev.threads, Dev.localWrite_threads, Dev.stageWrite_threads, Dev.seqStart_threads, ite_self,
      Dev.took_threads]
    rfl

end

/-- What the dispatch of the queued sub-order n would do. -/
def Dev.actOf (d : Dev) (n : Nat) : DispAct :=
  match Tab.get? d.subs n with
  | some u => d.dispAct u
  | none => .wait

theorem Dev.actOf_eq {d : Dev} {n : Nat} {u : Sub} (hu : Tab.get? d.subs n = some u) : d.actOf n = d.dispAct u := by
  rw [Dev.actOf, hu]

/-- What the cell's scheduler does with its choice (06 R248). -/
def Dev.dispatchBy (d : Dev) : Option SItem × Dev → Dev
  | (none, d') => d'
  | (some x, d') => match d.actOf x.ref with
    | .wait => d
    | .stop code => d'.stopOrder (((Tab.get? d.subs x.ref).map Sub.order).getD 0) code
    | .noKernel => d'.endSub x.ref 10 false
    | .bind k im => (d.unbind k).bindCore k im
    | .run t im => d'.took.dispatchTo x.ref t im

theorem Dev.subDispatch_eq {d : Dev} (c : Nat) (hh : d.halted = false) :
    d.subDispatch c = d.dispatchBy (d.choose (1 + c) (d.cellItems c) fun x => d.actOf x.ref != .wait) := by
  rw [Dev.subDispatch, if_neg (by simp [hh])]
  rfl

/-- The scheduler's choice is what is dispatched. -/
theorem Dev.subDispatch_chosen {d d1 : Dev} {c : Nat} {y : SItem} (hh : d.halted = false)
    (hc : d.choose (1 + c) (d.cellItems c) (fun x => d.actOf x.ref != .wait) = (some y, d1)) :
    d.subDispatch c = d.dispatchBy (some y, d1) :=
  (Dev.subDispatch_eq c hh).trans (congrArg d.dispatchBy hc)

theorem Dev.dispatchBy_run {d d1 : Dev} {y : SItem} {t im : Nat} (ha : d.actOf y.ref = .run t im) :
    d.dispatchBy (some y, d1) = d1.took.dispatchTo y.ref t im := by
  simp only [Dev.dispatchBy, ha]

theorem Dev.dispatchBy_bind {d d1 : Dev} {y : SItem} {k im : Nat} (ha : d.actOf y.ref = .bind k im) :
    d.dispatchBy (some y, d1) = (d.unbind k).bindCore k im := by
  simp only [Dev.dispatchBy, ha]

/-- A thread whose watchdog has gone off: its waits end (06 R293). -/
def Thread.watched (x : Thread) : Thread := { x with dogged := true, wait := .run }

/-- A sub-order that has run for the stand's time and was not stopped before takes the watchdog exception (06 R293). -/
theorem Dev.subWatchdog_late {d : Dev} {t sid : Nat} {u : Sub} (hs : (d.thr t).sub = some sid) (hu : Tab.get? d.subs sid = some u)
    (hd : (d.thr t).dogged = false) (hl : u.since + d.sfld u.stand 0x400 47 32 * 1000 ≤ d.up) :
    d.subWatchdog t = (d.setThr t (d.thr t).watched).except t 13 0 := by
  simp only [Dev.subWatchdog, hs, Option.bind_some, hu, hd, Bool.false_eq_true, false_or, if_neg (Nat.not_lt.2 hl)]
  rfl

/-- Settles O24: the choice of the scheduler runs the sub-order on the thread that waits, or binds a core; the watchdog raises an
exception that the image handles. -/
theorem subordersDispatched : Obligations.SubordersDispatched := by
  intro s hs
  refine ⟨fun c d1 y u act hh hc hu hact => ⟨fun t im off o i gd a w hrun hu1 ho hi hw hroom => ?_, fun k im i hbind hi => ?_⟩,
    fun t sid u im hsub hu hd hl him hentry hin => ?_⟩
  · have runs : s.d.subDispatch c = d1.took.dispatchTo y.ref t im :=
      (Dev.subDispatch_chosen hh hc).trans (Dev.dispatchBy_run ((Dev.actOf_eq hu).trans (hact.trans hrun)))
    obtain ⟨subs, orders, threads⟩ := Dev.dispatchTo_room (d := d1.took) hu1 ho hi hw hroom
    have thr := Dev.thr_congr threads
    have own := (thr t).trans (Dev.thr_setThr ..)
    refine ⟨_, (suborderDispatch_gives c hs).of_eq runs,
      ⟨_, (congrArg (Tab.get? · y.ref) subs).trans (Tab.get?_set_self ..), rfl, rfl, rfl, rfl, rfl, rfl, rfl⟩, ?_, ?_⟩
    · exact (congrArg (Tab.get? · u.order) orders).trans (Tab.get?_set_self ..)
    · rw [own]
      exact ⟨Thread.wg_wait .., rfl, rfl, congrArg (fun pc => (pc + 4) % 65536) (Thread.wg_pc ..),
        fun h => Thread.rg_wg_self _ _ _ h, fun t' h => (thr t').trans (Dev.thr_setThr_ne _ _ _ _ h)⟩
  · have binds : s.d.subDispatch c = (s.d.unbind k).bindCore k im :=
      (Dev.subDispatch_chosen hh hc).trans (Dev.dispatchBy_bind ((Dev.actOf_eq hu).trans (hact.trans hbind)))
    rw [Dev.unbind_eq] at binds
    refine ⟨_, (suborderDispatch_gives c hs).of_eq (binds.trans (Dev.bindCore_image hi)), by simp [Dev.core], fun j hj => ?_,
      fun t ht => ?_, by simp, by simp⟩
    · rw [Dev.thr_setThreads, if_pos (by omega)]
      rfl
    · rw [Dev.thr_setThreads, if_neg ht]
      exact (Dev.thr_setThreads ..).trans (if_neg ht)
  · refine ⟨_, (suborderWatchdog_gives t hs).of_eq ((Dev.subWatchdog_late hsub hu hd hl).trans
      (Dev.except_handled 0 him hentry ?_ (by decide))), ?_, rfl, rfl, fun t' h => ?_⟩
    · rw [Dev.thr_setThr]
      exact hin
    · rw [Dev.thr_setThr, Dev.thr_setThr]
      rfl
    · rw [Dev.thr_setThr_ne _ _ _ _ h]
      exact Dev.thr_setThr_ne _ _ _ _ h

/-! ## What the queue, time and system instructions give -/

section
variable {s : State} (h : s.d.serving = true)
include h

theorem tsleepWake_gives (t : Fin 512) : GivesLater s (.tsleepWake t) (s.d.tsleepWake t) :=
  State.served_eq (fun d => d.tsleepWake t) h

theorem qpop_gives (t : Fin 512) (f : RegF) : GivesLater s (.qpop t f) (s.d.qpop t f) :=
  State.served_eq (fun d => d.qpop t f) h

theorem qpush_gives (t : Fin 512) (f : RegF) : GivesLater s (.qpush t f) (s.d.qpush t f) :=
  State.served_eq (fun d => d.qpush t f) h

theorem tsleep_gives (t : Fin 512) (f : RegF) : GivesLater s (.tsleep t f) (s.d.tsleep t f) :=
  State.served_eq (fun d => d.tsleep t f) h

theorem sysr_gives (t : Fin 512) (f : RegF) : GivesLater s (.sysr t f) (s.d.sysr t f) :=
  State.served_eq (fun d => d.sysr t f) h

theorem sysw_gives (t : Fin 512) (f : RegF) : GivesLater s (.sysw t f) (s.d.sysw t f) :=
  State.served_eq (fun d => d.sysw t f) h

theorem fault_gives (t : Fin 512) (f : RegF) : GivesLater s (.fault t f) (s.d.kfault t f) :=
  State.served_eq (fun d => d.kfault t f) h

theorem sess_gives (t : Fin 512) (f : RegF) : GivesLater s (.sess t f) (s.d.sess t f) :=
  State.served_eq (fun d => d.sess t f) h

theorem blaze_gives (t : Fin 512) (f : RegF) : GivesLater s (.blaze t f) (s.d.blazeOp t f) :=
  State.served_eq (fun d => d.blazeOp t f) h

end

/-- An instruction of a thread's own registers that leaves the thread running. -/
theorem thread_gives {s : State} {t : Fin 512} {c : Instr} {f : Dev → Dev} {d : Dev} (run : exec c s = s.thread t f)
    (h : s.d.issues t = true) (e : f s.d = d) (hw : (d.thr t).wait = .run) : Gives s c d := by
  subst e
  exact run.trans (State.thread_run h hw)

/-- An instruction of a thread's own registers that leaves the thread waiting or stopped. -/
theorem thread_givesLater {s : State} {t : Fin 512} {c : Instr} {f : Dev → Dev} {d : Dev} (run : exec c s = s.thread t f)
    (h : s.d.issues t = true) (e : f s.d = d) (hw : (d.thr t).wait ≠ .run) : GivesLater s c d := by
  subst e
  exact run.trans (State.thread_wait h hw)

/-- An instruction that changes its own thread goes on past itself. -/
theorem Dev.instr_own {d : Dev} {t len : Nat} {f : Dev → Thread → InstrRes} {x : Thread} (h : d.runnable t = true)
    (hl : d.fits t len) (hf : f d (d.thr t) = .ok (d.setThr t x)) : d.instr t len f = d.setThr t (x.next len) := by
  rw [Dev.instr_ok h hl hf, Dev.advance_eq, Dev.setThr_setThr, Dev.thr_setThr]
  rfl

theorem legal_true {ok : Bool} (h : ok = true) (r : InstrRes) : legal ok r = r := if_pos h

/-! ## Cores that stay bound (06 R292, R300) -/

/-- A core that is not to be unbound and whose image still stands stays. -/
theorem Dev.settleCore_bound {d : Dev} {t : Nat} {im : Image} (hc : (d.core (t / 4)).closing = false)
    (him : d.thrImage t = some im) (hl : im.live = true) : d.settleCore (t / 4) = d := by
  rw [Dev.thrImage] at him
  simp only [Dev.settleCore, hc, him, hl, Bool.not_true, Bool.or_self, Bool.false_and, Bool.false_eq_true, if_false]

/-! ## HALT (06 R294) -/

theorem Dev.halt_free {d : Dev} {t : Fin 512} {im : Image} (h : d.runnable t = true) (hs : (d.thr t).sub = none)
    (hc : (d.core (t / 4)).closing = false) (him : d.thrImage t = some im) (hl : im.live = true) :
    d.halt t ⟨0, 0, 0, 0⟩ = d.setThr t ({ d.thr t with wait := .stopped }.next 4) := by
  refine Dev.instr_own (x := { d.thr t with wait := .stopped }) h (d.fits_four t) ((legal_true rfl _).trans ?_)
  exact (if_neg (by simp [hs])).trans (congrArg InstrRes.ok (Dev.settleCore_bound hc him hl))

/-! ## TSLEEP_WAKE (07 R372) -/

theorem Dev.tsleepWake_due {d : Dev} {t : Nat} {g : Nat} (hw : (d.thr t).wait = .tsleep g) (h : g ≤ d.fab) :
    d.tsleepWake t = d.setThr t ({ d.thr t with wait := .run }.next 4) := by
  simp only [Dev.tsleepWake, hw, if_pos h, Dev.resume_eq, Thread.wg_zero]

theorem Dev.tsleepWake_early {d : Dev} {t : Nat} {g : Nat} (hw : (d.thr t).wait = .tsleep g) (h : d.fab < g) :
    d.tsleepWake t = d := by
  simp only [Dev.tsleepWake, hw, if_neg (Nat.not_le.2 h)]

/-- Settles O6: HALT without a sub-order leaves its core bound and its thread stopped; a sleep ends at its time. -/
theorem threadsHaltAndWake : Obligations.ThreadsHaltAndWake := by
  refine ⟨fun s t im hi hs hc him hl => ?_, fun s t g hs hw => ⟨fun h => ?_, fun h => ?_⟩⟩
  · exact thread_givesLater rfl hi (Dev.halt_free (Dev.issues_runnable hi) hs hc him hl) (by simp [Thread.next])
  · exact (tsleepWake_gives hs t).of_eq (Dev.tsleepWake_due hw h)
  · exact (tsleepWake_gives hs t).of_eq (Dev.tsleepWake_early hw h)

/-! ## Frames of the queue, time and system instructions (07 R309, R312) -/

/-- An instruction that writes a value at once. -/
theorem Dev.instr_value {d d1 : Dev} {t : Fin 512} {f : Dev → Thread → InstrRes} {rd : BitVec 5} {v : W64}
    (h : d.runnable t = true) (hf : f d (d.thr t) = .ok (d1.setG t rd.toNat v)) : d.instr t 4 f = d1.withG t rd v :=
  (Dev.instr_ok h (d.fits_four t) hf).trans (d1.setG_advance t rd v)

/-- A value written by an instruction of a thread's own registers. -/
theorem thread_value {s : State} {t : Fin 512} {c : Instr} {f : Dev → Dev} {rd : BitVec 5} {v : W64}
    (run : exec c s = s.thread t f) (h : s.d.issues t = true) (e : f s.d = s.d.withG t rd v) : Gives s c (s.d.withG t rd v) := by
  refine thread_gives run h e ?_
  rw [Dev.withG, Dev.thr_setThr]
  exact (Thread.wg_wait ..).trans (Dev.runnable_wait (Dev.issues_runnable h))

/-- The device with its thread in QPUSH. -/
def Dev.pushing (d : Dev) (t st : Nat) : Dev := d.setThr t { d.thr t with wait := .qpush st, inExc := false }

theorem Dev.wake_pushing (d : Dev) (t st : Nat) :
    (d.pushing t st).wake t = if (d.thr t).allDone then (d.pushing t st).pushEnd t st else d.pushing t st := by
  simp only [Dev.wake, Dev.pushing, Dev.thr_setThr]
  rfl

section
variable {d d1 : Dev} {t : Fin 512} {f : RegF} (h : d.runnable t = true)
include h

/-! ## The sub-order queue (06 R260, R263, R266) -/

theorem Dev.qpop_free {im : Image} (hb : f.b = 0) (hf : f.func = 0) (hs : (d.thr t).sub = none)
    (hc : (d.core (t / 4)).closing = false) (him : d.thrImage t = some im) (hl : im.live = true) :
    d.qpop t f = d.setThr t { d.thr t with
      inExc := false, wait := .qpop f.d.toNat ((d.g t f.a).toNat % 262144 / 64 * 64) d.up } := by
  refine Dev.instr_hold h (d.fits_four t) ((legal_true (by simp [hb]) _).trans ?_)
  exact (if_neg (by simp [hf, hs])).trans (congrArg InstrRes.hold (Dev.settleCore_bound hc him hl))

theorem Dev.qpush_held {sid : Nat} (hd : f.d = 0) (hb : f.b = 0) (hf : f.func = 0) (hs : (d.thr t).sub = some sid)
    (ha : (d.g t f.a).toNat ≤ 11) : d.qpush t f = (d.pushing t (d.g t f.a).toNat).wake t := by
  refine Dev.instr_hold h (d.fits_four t) ((legal_true (by simp [hd, hb]) _).trans (if_neg ?_))
  rw [Dev.g] at ha
  simp [hf, hs, Nat.not_lt.2 ha]

theorem Dev.qpeek_bound {im : Image} (ha : f.a = 0) (hb : f.b = 0) (hf : f.func = 0) (him : d.thrImage t = some im) :
    d.qpeek t f = d.withG t f.d (BitVec.ofNat 64 (min (d.queuedFor (t / 32) im.stand im.slot) 65535)) := by
  refine Dev.instr_value h ((legal_true (by simp [ha, hb]) _).trans ((if_neg (not_not.2 hf)).trans ?_))
  rw [him]

/-! ## Time (07 R371, R372) -/

theorem Dev.time_ns (ha : f.a = 0) (hb : f.b = 0) (hf : f.func = 0) :
    d.time t f = d.withG t f.d (BitVec.ofNat 64 (d.fab / 65536)) :=
  Dev.instr_value h ((legal_true (by simp [ha, hb, hf]) _).trans (by rw [if_pos hf]; rfl))

theorem Dev.time_units (ha : f.a = 0) (hb : f.b = 0) (hf : f.func = 1) : d.time t f = d.withG t f.d (BitVec.ofNat 64 d.fab) := by
  refine Dev.instr_value h ((legal_true (by simp [ha, hb, hf]) _).trans ?_)
  have wraps : BitVec.ofNat 64 (d.fab % 2 ^ 64) = BitVec.ofNat 64 d.fab := BitVec.eq_of_toNat_eq (by simp)
  rw [if_neg (by simp [hf]), wraps]

theorem Dev.tsleep_until (hd : f.d = 0) (hb : f.b = 0) (hf : f.func = 0) (hl : d.fab / 65536 < (d.g t f.a).toNat) :
    d.tsleep t f = d.setThr t { d.thr t with wait := .tsleep ((d.g t f.a).toNat * 65536) } :=
  Dev.instr_hold h (d.fits_four t) ((legal_true (by simp [hd, hb, hf]) _).trans ((if_pos hf).trans (if_neg (Nat.not_le.2 hl))))

theorem Dev.tsleep_past (hd : f.d = 0) (hb : f.b = 0) (hf : f.func = 0) (hl : (d.g t f.a).toNat ≤ d.fab / 65536) :
    d.tsleep t f = d.past t 4 :=
  Dev.instr_ok h (d.fits_four t) ((legal_true (by simp [hd, hb, hf]) _).trans ((if_pos hf).trans (if_pos hl)))

theorem Dev.tsleep_for (hd : f.d = 0) (hb : f.b = 0) (hf : f.func = 1) (hl : (d.g t f.a).toNat ≠ 0) :
    d.tsleep t f = d.setThr t { d.thr t with wait := .tsleep (d.fab + (d.g t f.a).toNat * 65536) } :=
  Dev.instr_hold h (d.fits_four t) ((legal_true (by simp [hd, hb, hf]) _).trans ((if_neg (by simp [hf])).trans (if_neg hl)))

/-! ## System registers (06 R304, R305) -/

theorem Dev.sysr_thread (hb : f.b = 0) (hf : f.func ≠ 0x3FF) : d.sysr t f = d.withG t f.d (d.sysReg t f.func.toNat) :=
  Dev.instr_value h ((legal_true (by simp [hb]) _).trans (if_neg hf))

theorem Dev.sysr_device {v : W64} (hb : f.b = 0) (hf : f.func = 0x3FF)
    (e : d.kernelRead (d.thrStand t) (d.g t f.a).toNat = (v, d1)) : d.sysr t f = d1.withG t f.d v := by
  rw [Dev.g] at e
  exact Dev.instr_value h ((legal_true (by simp [hb]) _).trans ((if_pos hf).trans (by rw [e])))

theorem Dev.sysw_thread (hd : f.d = 0) (hf : f.func ≠ 0x3FF) :
    d.sysw t f = (d.sysWrite t f.func.toNat (d.g t f.b)).past t 4 :=
  Dev.instr_ok h (d.fits_four t) ((legal_true (by simp [hd]) _).trans (if_neg hf))

/-- SEQ_KEY takes the handle and keeps the stand. -/
theorem Dev.sysw_seqKey (hd : f.d = 0) (hf : f.func = 6) :
    d.sysw t f = d.setThr t ({ d.thr t with seqKey := seqKey (d.thrStand t) (bits (d.g t f.b) 58 0) }.next 4) := by
  have key : d.sysWrite t f.func.toNat (d.g t f.b) =
      d.setThr t { d.thr t with seqKey := seqKey (d.thrStand t) (bits (d.g t f.b) 58 0) } := by
    rw [hf]
    rfl
  rw [Dev.sysw_thread h hd (by simp [hf]), key, Dev.past, Dev.thr_setThr, Dev.setThr_setThr]

theorem Dev.sysw_device (hd : f.d = 0) (hf : f.func = 0x3FF) (e : d.kernelWrite (d.thrStand t) (d.g t f.a).toNat (d.g t f.b) = d1)
    (hw : (d1.thr t).wait = .run) (hb : (d1.thrImage t).isSome = true) : d.sysw t f = d1.past t 4 := by
  rw [Dev.g, Dev.g] at e
  refine Dev.instr_ok h (d.fits_four t) ((legal_true (by simp [hd]) _).trans ((if_pos hf).trans ?_))
  rw [e]
  exact if_pos ⟨hb, hw⟩

/-! ## FAULT and SESS (07 R373, R374) -/

theorem Dev.kfault_raises (hd : f.d = 0) (hb : f.b = 0) :
    d.kfault t f = (d.raise (0x382 + 4 * d.thrStand t) ⟨.core, t / 4⟩ [d.thrStand t]
      (BitVec.ofNat 64 (f.func.toNat * 2 ^ 48 + bits (d.g t f.a) 47 0))).advance t 4 :=
  Dev.instr_ok h (d.fits_four t) (legal_true (by simp [hd, hb]) _)

theorem Dev.sess_own (hb : f.b = 0) (hf : f.func = 0) : d.sess t f = d.withG t f.d (d.sesStatus (d.thrStand t)) :=
  Dev.instr_value h ((legal_true (by simp [hb, hf]) _).trans (if_pos hf))

theorem Dev.sess_named (hb : f.b = 0) (hf : f.func = 1) (hs : d.thrStand t = 0) :
    d.sess t f = d.withG t f.d (d.sesStatus (bits (d.g t f.a) 4 0)) :=
  Dev.instr_value h ((legal_true (by simp [hb, hf]) _).trans ((if_neg (by simp [hf])).trans (if_pos hs)))

end

/-! ## BLAZE (06 R306, R307) -/

/-- Bytes written to a tract reach its memory alone. -/
theorem Dev.unitsWrite_frame (fs : List Nat) (n off : Nat) (bs : List Byte) (d : Dev) :
    ∃ mem, Dev.unitsWrite fs n off bs d = { d with mem := mem } := by
  induction n generalizing off bs d with
  | zero => exact ⟨d.mem, rfl⟩
  | succ n ih =>
    rw [Dev.unitsWrite]
    split
    · exact ⟨d.mem, rfl⟩
    · split
      · exact ⟨d.mem, rfl⟩
      · next f _ =>
        obtain ⟨mem, h⟩ := ih (off + (65536 - off % 65536)) (bs.drop (65536 - off % 65536))
          { d with mem := Memory.write d.mem (f * 256 + off % 65536) (bs.take (65536 - off % 65536)) }
        exact ⟨mem, h⟩

@[simp] theorem Dev.tractWrite_blazes (d : Dev) (tr : Tract) (off : Nat) (bs : List Byte) :
    (d.tractWrite tr off bs).blazes = d.blazes := by
  unfold Dev.tractWrite
  split
  · rfl
  · obtain ⟨mem, h⟩ := Dev.unitsWrite_frame (d.tractFrames tr) (bs.length / 65536 + 2) off bs d
    rw [h]

section
variable {d : Dev} {t : Fin 512} {f : RegF} (h : d.runnable t = true) (hd : f.d = 0) (hb : f.b = 0)
include h hd hb

/-- A record of an enabled ring goes to its next place (06 R306). -/
theorem Dev.blaze_written {i : Nat} {tr : Tract} (hl : (d.blaze (d.thrStand t)).len ≠ 0)
    (ht : d.blazeTract (d.thrStand t) (d.blaze (d.thrStand t)) = some (i, tr)) (hm : tr.mode = 0) :
    let b := d.blaze (d.thrStand t)
    d.blazeOp t f = Dev.past { d.tractWrite tr (b.off.toNat + 32 * (b.seq.toNat % (b.len.toNat / 32)))
        (d.blazeRec t (d.thr t) (d.g t f.a) f.func.toNat) with
      blazes := Tab.set d.blazes (d.thrStand t) { b with seq := b.seq + 1 } } t 4 := by
  intro b
  refine Dev.instr_ok h (d.fits_four t) ((legal_true (by simp [hd, hb]) _).trans (congrArg InstrRes.ok ?_))
  simp only [if_neg hl, ht, Dev.mirPlaced, hm, true_or, if_true, Dev.tractWrite_blazes]
  rfl

/-- A disabled ring drops its records (06 R307). -/
theorem Dev.blaze_dropped (hl : (d.blaze (d.thrStand t)).len = 0) :
    d.blazeOp t f = Dev.past { d with
      blazes := Tab.set d.blazes (d.thrStand t) { d.blaze (d.thrStand t) with drop := (d.blaze (d.thrStand t)).drop + 1 } } t 4 :=
  Dev.instr_ok h (d.fits_four t) ((legal_true (by simp [hd, hb]) _).trans (congrArg InstrRes.ok (if_pos hl)))

end

/-- Settles O22: past its frame, each instruction answers what the queue, the clock, the register or the ring gives. -/
theorem queueTimeAndSystemInstructions : Obligations.QueueTimeAndSystemInstructions := by
  intro s t f hi
  have hs := Dev.issues_serving hi
  have hr := Dev.issues_runnable hi
  refine ⟨fun im hb hf hsub hc him hl => ?_, fun sid hd hb hf hsub ha => ?_, fun im ha hb hf him => ?_,
    fun ha hb => ⟨fun hf => ?_, fun hf => ?_⟩, fun hd hb => ⟨fun hf hl => ?_, fun hf hl => ?_, fun hf hl => ?_⟩,
    fun hb hf => ?_, fun v d1 hb hf e => ?_, fun hd hf _ => ?_, fun hd hf => ?_, fun d1 hd hf e hw him => ?_, fun hd hb => ?_,
    fun hb => ⟨fun hf => ?_, fun hf h0 => ?_⟩, fun hd hb => ⟨fun i tr hl ht hm _ => ?_, fun hl => ?_⟩⟩
  · exact (qpop_gives hs t f).of_eq (Dev.qpop_free hr hb hf hsub hc him hl)
  · have woken := (Dev.qpush_held hr hd hb hf hsub ha).trans (s.d.wake_pushing t _)
    exact ⟨fun h => (qpush_gives hs t f).of_eq (woken.trans (if_neg (by simp [h]))),
      fun h => (qpush_gives hs t f).of_eq (woken.trans (if_pos h))⟩
  · exact thread_value rfl hi (Dev.qpeek_bound hr ha hb hf him)
  · exact thread_value rfl hi (Dev.time_ns hr ha hb hf)
  · exact thread_value rfl hi (Dev.time_units hr ha hb hf)
  · exact (tsleep_gives hs t f).of_eq (Dev.tsleep_until hr hd hb hf hl)
  · exact (tsleep_gives hs t f).of_eq (Dev.tsleep_past hr hd hb hf hl)
  · exact (tsleep_gives hs t f).of_eq (Dev.tsleep_for hr hd hb hf hl)
  · exact (sysr_gives hs t f).of_eq (Dev.sysr_thread hr hb hf)
  · exact (sysr_gives hs t f).of_eq (Dev.sysr_device hr hb hf e)
  · exact (sysw_gives hs t f).of_eq (Dev.sysw_thread hr hd hf)
  · exact (sysw_gives hs t f).of_eq (Dev.sysw_seqKey hr hd hf)
  · exact (sysw_gives hs t f).of_eq (Dev.sysw_device hr hd hf e hw him)
  · exact (fault_gives hs t f).of_eq (Dev.kfault_raises hr hd hb)
  · exact (sess_gives hs t f).of_eq (Dev.sess_own hr hb hf)
  · exact (sess_gives hs t f).of_eq (Dev.sess_named hr hb hf h0)
  · exact (blaze_gives hs t f).of_eq (Dev.blaze_written hr hd hb hl ht hm)
  · exact (blaze_gives hs t f).of_eq (Dev.blaze_dropped hr hd hb hl)

end Machine
end Sys2Proof

/-!
PROOFS. Tokens and remote operations (06 R281 to R288; 07 R363 to R368): how operations end on their tokens, what the waits
answer, and the messages of the remote instructions; the statements O16 and O21.
-/
namespace Sys2Proof
namespace Machine

/-! ## What the tokens' commands give -/

section
variable {s : State} (h : s.d.serving = true)
include h

theorem tileOpDone_gives (t : Fin 512) (n : BitVec 6) (bad : Bool) :
    GivesLater s (.tileOpDone t n bad) (s.d.tileOpDone t n.toNat bad) :=
  State.served_eq (fun d => d.tileOpDone t n.toNat bad) h

theorem twait_gives (t : Fin 512) (f : LongF) (func : BitVec 10) : GivesLater s (.twait t f func) (s.d.twait t f func) :=
  State.served_eq (fun d => d.twait t f func) h

theorem nbwait_gives (t : Fin 512) (f : RegF) : GivesLater s (.nbwait t f) (s.d.nbwait t f) :=
  State.served_eq (fun d => d.nbwait t f) h

theorem rfence_gives (t : Fin 512) (f : LongF) (func : BitVec 10) : GivesLater s (.rfence t f func) (s.d.rfence t f func) :=
  State.served_eq (fun d => d.rfence t f func) h

end

theorem LongReady.fits {s : State} {t : Fin 512} (h : LongReady s t) : s.d.fits t 8 :=
  fun ⟨_, hle⟩ => absurd h.2.2 (Nat.not_lt.2 hle)

/-! ## Registers of a thread beside its other fields -/

section
variable (x : Thread) (n : Nat) (v : W64)

@[simp] theorem Thread.wg_toks : (x.wg n v).toks = x.toks := by unfold Thread.wg; split <;> rfl

theorem Thread.wg_withToks (ts : Tab Tok) : { x.wg n v with toks := ts } = ({ x with toks := ts } : Thread).wg n v := by
  unfold Thread.wg; split <;> rfl

theorem Thread.wg_withSticky (st : Nat) : { x.wg n v with sticky := st } = ({ x with sticky := st } : Thread).wg n v := by
  unfold Thread.wg; split <;> rfl

theorem Thread.wg_withRfirst (st : Nat) : { x.wg n v with rfirst := st } = ({ x with rfirst := st } : Thread).wg n v := by
  unfold Thread.wg; split <;> rfl

end

/-! ## Ends of waits (06 R283 to R285) -/

/-- The device with thread t in a wait. -/
def Dev.waiting (d : Dev) (t : Nat) (w : Wait) : Dev := d.setThr t { d.thr t with wait := w }

/-- A thread that was running goes on from a wait as if it had not waited. -/
theorem Dev.resume_waiting {d : Dev} {t : Nat} (h : d.runnable t = true) (w : Wait) (len gd : Nat) (v : W64) :
    (d.waiting t w).resume t len gd v = d.setThr t (((d.thr t).wg gd v).next len) := by
  have running : ({ d.thr t with wait := .run } : Thread) = d.thr t := by rw [← Dev.runnable_wait h]
  rw [Dev.resume_eq, Dev.waiting, Dev.thr_setThr, Dev.setThr_setThr, running]

section
variable {d : Dev} {t : Nat} (h : d.runnable t = true)
include h

theorem Dev.wake_twait_done {gd n st : Nat} {k : Tok} (hk : Tab.get? (d.thr t).toks n = some k) (hd : k.done = some st) :
    (d.waiting t (.twait gd n)).wake t =
      d.setThr t { ((d.thr t).wg gd (BitVec.ofNat 64 st)).next 8 with toks := Tab.del (d.thr t).toks n } := by
  have go := Dev.resume_waiting h (.twait gd n) 8 gd (BitVec.ofNat 64 st)
  simp only [Dev.wake, Dev.waiting, Dev.thr_setThr, hk, hd] at go ⊢
  rw [go, Dev.modThr_eq, Dev.setThr_setThr, Dev.thr_setThr]
  simp only [Thread.next, Thread.wg_toks]

theorem Dev.wake_twaitAll_done {gd : Nat} (hd : (d.thr t).allDone = true) :
    (d.waiting t (.twaitAll gd)).wake t =
      d.setThr t ((({ d.thr t with sticky := 0 } : Thread).wg gd (BitVec.ofNat 64 (d.thr t).sticky)).next 8) := by
  have all : ({ d.thr t with wait := .twaitAll gd } : Thread).allDone = true := hd
  have go := Dev.resume_waiting h (.twaitAll gd) 8 gd (BitVec.ofNat 64 (d.thr t).sticky)
  simp only [Dev.wake, Dev.waiting, Dev.thr_setThr, all, if_true] at go ⊢
  rw [go, Dev.modThr_eq, Dev.setThr_setThr, Dev.thr_setThr, ← Thread.wg_withSticky _ _ _ 0]
  rfl

theorem Dev.wake_nbwait_done {gd n id st : Nat} {anon : Bool} {ready : Option Nat}
    (hk : Tab.get? (d.thr t).toks n = some ⟨.nbx id, anon, ready, some st⟩) (hg : Tab.has d.nbprogs id = false) :
    (d.waiting t (.nbwait gd n)).wake t =
      d.setThr t { ((d.thr t).wg gd (BitVec.ofNat 64 st)).next 4 with toks := Tab.del (d.thr t).toks n } := by
  have go := Dev.resume_waiting h (.nbwait gd n) 4 gd (BitVec.ofNat 64 st)
  simp only [Dev.wake, Dev.waiting, Dev.thr_setThr, hk, Dev.setThr_nbprogs, hg, Bool.false_eq_true, if_false] at go ⊢
  rw [go, Dev.modThr_eq, Dev.setThr_setThr, Dev.thr_setThr]
  simp only [Thread.next, Thread.wg_toks]

end

section
variable {d : Dev} {t : Nat}

theorem Dev.wake_running (h : (d.thr t).wait = .run) : d.wake t = d := by
  simp only [Dev.wake, h]

theorem Dev.wake_twait_pending {gd n : Nat} {k : Tok} (hk : Tab.get? (d.thr t).toks n = some k) (hd : k.done = none) :
    (d.waiting t (.twait gd n)).wake t = d.waiting t (.twait gd n) := by
  simp only [Dev.wake, Dev.waiting, Dev.thr_setThr, hk, hd]

theorem Dev.wake_twaitAll_pending {gd : Nat} (hd : (d.thr t).allDone = false) :
    (d.waiting t (.twaitAll gd)).wake t = d.waiting t (.twaitAll gd) := by
  have all : ({ d.thr t with wait := .twaitAll gd } : Thread).allDone = false := hd
  simp only [Dev.wake, Dev.waiting, Dev.thr_setThr, all, Bool.false_eq_true, if_false]

theorem Dev.wake_nbwait_pending {gd n id : Nat} {anon : Bool} {ready : Option Nat}
    (hk : Tab.get? (d.thr t).toks n = some ⟨.nbx id, anon, ready, none⟩) :
    (d.waiting t (.nbwait gd n)).wake t = d.waiting t (.nbwait gd n) := by
  simp only [Dev.wake, Dev.waiting, Dev.thr_setThr, hk]

/-! ## TILE_OP_DONE (06 R281, R282) -/

theorem Thread.completeTok_wait (x : Thread) (n st : Nat) : (x.completeTok n st).wait = x.wait := by
  unfold Thread.completeTok Thread.stick
  split
  · rfl
  · split
    · split <;> rfl
    · rfl

/-- The end of an operation that reads no frame completes its token. -/
theorem Dev.tileOpDone_plain {n st : Nat} {anon : Bool} (hw : (d.thr t).wait = .run)
    (hk : Tab.get? (d.thr t).toks n = some ⟨.tile none, anon, some st, none⟩) :
    d.tileOpDone t n false = d.setThr t ((d.thr t).completeTok n st) := by
  have running : ((d.setThr t ((d.thr t).completeTok n st)).thr t).wait = .run := by
    rw [Dev.thr_setThr, Thread.completeTok_wait, hw]
  simp only [Dev.tileOpDone, hk, Dev.modThr_eq]
  exact Dev.wake_running running

end

/-! ## TWAIT, NBWAIT and RFENCE (06 R283 to R285) -/

section
variable {d : Dev} {t : Fin 512} (h : d.runnable t = true)
include h

section
variable {f : LongF} (hl : d.fits t 8) (hb : f.b = 0) (hx : f.x = 0) (hy : f.y = 0)
include hl hb hx hy

theorem Dev.twait_token {k : Tok} (ha : f.a ≠ 0) (hk : Tab.get? (d.thr t).toks (d.g t f.a).toNat = some k) :
    d.twait t f 0 = (d.waiting t (.twait f.d.toNat (d.g t f.a).toNat)).wake t := by
  rw [Dev.g] at hk
  exact Dev.instr_hold h hl ((legal_true (by simp [hb, hx, hy]) _).trans ((if_neg ha).trans (if_pos (by simp [Tab.has, hk]))))

theorem Dev.twait_all (ha : f.a = 0) : d.twait t f 0 = (d.waiting t (.twaitAll f.d.toNat)).wake t :=
  Dev.instr_hold h hl ((legal_true (by simp [hb, hx, hy]) _).trans (if_pos ha))

end

theorem Dev.nbwait_token {f : RegF} {id : Nat} {anon : Bool} {ready done : Option Nat} (hf : f.func = 0) (hb : f.b = 0)
    (hk : Tab.get? (d.thr t).toks (d.g t f.a).toNat = some ⟨.nbx id, anon, ready, done⟩) :
    d.nbwait t f = (d.waiting t (.nbwait f.d.toNat (d.g t f.a).toNat)).wake t := by
  rw [Dev.g] at hk
  refine Dev.instr_hold h (d.fits_four t) ((legal_true (by simp [hf, hb]) _).trans ?_)
  simp only [hk]
  rfl

/-- The tokens that a fence waits for. -/
def Thread.fenced (x : Thread) : List Nat :=
  (x.toks.filter fun e => match e.2.kind with
    | .remote _ => e.2.done.isNone
    | _ => false).map (·.1)

theorem Dev.rfence_none {rd : BitVec 5} (hl : d.fits t 8) (hn : (d.thr t).fenced = []) :
    d.rfence t ⟨rd, 0, 0, 0, 0, 0⟩ 0 =
      d.setThr t ((({ d.thr t with rfirst := 0 } : Thread).wg rd.toNat (BitVec.ofNat 64 (d.thr t).rfirst)).next 8) := by
  refine Dev.instr_own h hl ((legal_true rfl _).trans ((if_pos ?_).trans ?_))
  · exact List.isEmpty_iff.2 hn
  · rw [Dev.modThr_eq, Dev.setG_eq, Dev.setThr_setThr, Dev.thr_setThr, Thread.wg_withRfirst]

theorem Dev.rfence_pending {rd : BitVec 5} (hl : d.fits t 8) (hn : (d.thr t).fenced ≠ []) :
    d.rfence t ⟨rd, 0, 0, 0, 0, 0⟩ 0 = d.waiting t (.rfence rd.toNat (d.thr t).fenced) :=
  Dev.instr_hold h hl ((legal_true rfl _).trans (if_neg fun e => hn (List.isEmpty_iff.1 e)))

end

/-- Settles O16: an operation that ends completes its token, and an instruction that waits goes on at once when what it waits for
has come. -/
theorem tokensCompleteAndAreAwaited : Obligations.TokensCompleteAndAreAwaited := by
  intro s t
  refine ⟨fun n anon st hs hw hk => ?_,
    fun f k hr hb hx hy => ⟨fun ha hk => ⟨fun st hd => ?_, fun hd => ?_⟩, fun ha => ⟨fun hd => ?_, fun hd => ?_⟩⟩,
    fun f anon ready done id hi hf hb hk => ⟨fun st hd hg => ?_, fun hd => ?_⟩, fun rd hr => ⟨fun hn => ?_, fun hn => ?_⟩⟩
  · refine (tileOpDone_gives hs t n false).of_eq ((Dev.tileOpDone_plain hw hk).trans (congrArg (s.d.setThr t) ?_))
    simp only [Thread.completeTok, hk]
    cases anon <;> rfl
  · exact (twait_gives hr.1 t f 0).of_eq ((Dev.twait_token hr.2.1 hr.fits hb hx hy ha hk).trans (Dev.wake_twait_done hr.2.1 hk hd))
  · exact (twait_gives hr.1 t f 0).of_eq ((Dev.twait_token hr.2.1 hr.fits hb hx hy ha hk).trans (Dev.wake_twait_pending hk hd))
  · exact (twait_gives hr.1 t f 0).of_eq ((Dev.twait_all hr.2.1 hr.fits hb hx hy ha).trans (Dev.wake_twaitAll_done hr.2.1 hd))
  · exact (twait_gives hr.1 t f 0).of_eq ((Dev.twait_all hr.2.1 hr.fits hb hx hy ha).trans (Dev.wake_twaitAll_pending hd))
  · subst hd
    have hrun := Dev.issues_runnable hi
    exact (nbwait_gives (Dev.issues_serving hi) t f).of_eq ((Dev.nbwait_token hrun hf hb hk).trans (Dev.wake_nbwait_done hrun hk hg))
  · subst hd
    exact (nbwait_gives (Dev.issues_serving hi) t f).of_eq
      ((Dev.nbwait_token (Dev.issues_runnable hi) hf hb hk).trans (Dev.wake_nbwait_pending hk))
  · exact (rfence_gives hr.1 t _ 0).of_eq (Dev.rfence_none hr.2.1 hr.fits hn)
  · exact (rfence_gives hr.1 t _ 0).of_eq (Dev.rfence_pending hr.2.1 hr.fits hn)

/-! ## Remote operations (06 R286 to R288; 07 R363 to R368) -/

@[simp] theorem Thread.wg_sub (x : Thread) (n : Nat) (v : W64) : (x.wg n v).sub = x.sub := by unfold Thread.wg; split <;> rfl

/-- The message of a remote operation: its descriptor r, the bytes that it carries and the place of what it fetches. -/
def remoteMsg (t tok op ty fn : Nat) (r data : List Byte) (dst : Nat) : OutMsg :=
  let len := if ty = tyAtom then 16 else recNum r 16 4
  let notice := ty == tyNote || (ty == tyPut && recNum r 21 1 == 1)
  { mkMsg ty (recNum r 20 1) notice (BitVec.ofNat 32 (recNum r 4 4)) (recNum r 8 8) data len (.thread t tok op dst) with
    pkts := if ty = tyAtom then [⟨0, 16, BitVec.ofNat 64 fn, .unsent, 0, 0, false, false⟩] else cutPkts len 0 }

/-- A descriptor that names an open connection of the thread's stand to another node. -/
structure Dev.Reached (d : Dev) (t : Nat) (r : List Byte) (x : Conn) : Prop where
  away : recNum r 0 2 ≠ d.node
  conn : d.conn? (recNum r 2 2) = some x
  opened : x.st = 2
  stand : x.stand = d.thrStand t
  peer : x.peer = recNum r 0 2

theorem Dev.remoteStart_stage {d : Dev} {t tok op ty fn : Nat} {r : List Byte} {x : Conn} (h : d.Reached t r x) {a : StageArg}
    (val : W64) (ha : d.ownsStage t (adOff a.addr) a.len a.write = true) :
    d.remoteStart t tok op ty fn r (some a) val = d.startMsg (recNum r 2 2) (remoteMsg t tok op ty fn r
      (if ty = tyGet then [] else d.stageRead t (adOff a.addr) a.len) (adOff a.addr)) := by
  simp only [Dev.remoteStart, ha, Bool.not_true, Bool.false_eq_true, if_false, Dev.remoteStart.go, if_neg h.away, h.conn,
    h.opened, h.stand, h.peer, and_self, if_true]
  rfl

theorem Dev.remoteStart_value {d : Dev} {t tok op ty fn : Nat} {r : List Byte} {x : Conn} (h : d.Reached t r x) (val : W64) :
    d.remoteStart t tok op ty fn r none val = d.startMsg (recNum r 2 2) (remoteMsg t tok op ty fn r (natLe 8 val.toNat) 0) := by
  simp only [Dev.remoteStart, Dev.remoteStart.go, if_neg h.away, h.conn, h.opened, h.stand, h.peer, and_self, if_true]
  rfl

/-- A thread with token n taken for remote operation op (06 R281, R282). -/
def Thread.remoteTok (x : Thread) (rd : BitVec 5) (n op : Nat) : Thread :=
  ({ x with toks := Tab.set x.toks n ⟨.remote op, rd.toNat == 0, none, none⟩ }).wg rd.toNat (BitVec.ofNat 64 n)

/-- The device with token n of thread t taken for its next remote operation (06 R285). -/
def Dev.remoteTaken (d : Dev) (t : Fin 512) (rd : BitVec 5) (n : Nat) : Dev :=
  { d.took.setThr t ((d.thr t).remoteTok rd n d.opNext) with opNext := d.opNext + 1 }

section
variable {d : Dev} {t : Fin 512} {rd : BitVec 5} {n : Nat}

theorem Dev.Reached.taken {r : List Byte} {x : Conn} (h : d.Reached t r x) : (d.remoteTaken t rd n).Reached t r x :=
  ⟨h.away, h.conn, h.opened, h.stand, h.peer⟩

theorem Dev.ownsStage_remoteTaken (off len : Nat) (write : Bool) :
    (d.remoteTaken t rd n).ownsStage t off len write = d.ownsStage t off len write := by
  have own : (d.remoteTaken t rd n).thr t = (d.thr t).remoteTok rd n d.opNext := Dev.thr_setThr d.took t _
  have sub : ((d.remoteTaken t rd n).thr t).sub = (d.thr t).sub := by rw [own, Thread.remoteTok, Thread.wg_sub]
  rw [Dev.ownsStage, sub]
  rfl

end

section
variable {s : State} {t : Fin 512} {f : LongF} {c : Instr} {ok eight : Bool} {ty fn : Nat} {r : List Byte} {x : Conn}
  (hr : LongReady s t) (htok : FreeToken s.d t) (hok : (ok && f.x == 0 && f.y == 0 && f.ext == 0) = true)
  (ha : adTag (s.d.g t f.a) = 0) (hal : (s.d.g t f.a).toNat % 32 = 0)
  (hd : s.d.remoteDesc t (s.d.g t f.a) eight = some r)
include hr htok hok ha hal hd

/-- A remote instruction with good operands takes a token, starts its operation and goes on past itself. -/
theorem remote_starts {stage : Option (Nat × Bool)} (run : exec c s = s.served fun d => d.remote t f ok ty fn stage eight)
    (hb : stage.isSome = true → adTag (s.d.g t f.b) = 1) (hbl : ty = tyAtom → (s.d.g t f.b).toNat % 16 = 0) :
    ∃ n, n < 64 ∧ Tab.has (s.d.thr t).toks n = false ∧
      GivesLater s c (((s.d.remoteTaken t f.d n).remoteStart t n s.d.opNext ty fn r
        (stage.map fun p => ⟨s.d.g t f.b, if p.1 = 0 then recNum r 16 4 else p.1, p.2⟩) (s.d.g t f.b)).advance t 8) := by
  obtain ⟨hleft, hfree⟩ := htok
  obtain ⟨n, hlt, hno, htake⟩ := Dev.takeTok_free f.d.toNat (.remote s.d.opNext) none hfree
  refine ⟨n, hlt, hno, (run.trans (State.served_eq _ hr.1)).trans ?_⟩
  refine congrArg (fun d : Dev => Host.Outcome.next (s.put d.settle)) (Dev.instr_ok hr.2.1 hr.fits ((legal_true hok _).trans ?_))
  rw [Dev.g] at ha hal hb hbl hd
  rw [if_neg (not_not.2 ha), if_neg (not_not.2 hal), if_neg (fun h => h.2 (hb h.1)), if_neg (fun h => h.2 (hbl h.1))]
  simp only [hd, if_neg hleft, htake]
  rfl

/-- A remote instruction on stage bytes that its thread owns starts one message to the node that its descriptor names. -/
theorem remote_stage_starts {len : Nat} {write : Bool}
    (run : exec c s = s.served fun d => d.remote t f ok ty fn (some (len, write)) eight) (hx : s.d.Reached t r x)
    (hb : adTag (s.d.g t f.b) = 1) (hbl : ty = tyAtom → (s.d.g t f.b).toNat % 16 = 0)
    (hown : s.d.ownsStage t (adOff (s.d.g t f.b)) (if len = 0 then recNum r 16 4 else len) write = true) :
    ∃ n, n < 64 ∧ Tab.has (s.d.thr t).toks n = false ∧
      GivesLater s c (((s.d.remoteTaken t f.d n).startMsg (recNum r 2 2) (remoteMsg t n s.d.opNext ty fn r
        (if ty = tyGet then [] else s.d.stageRead t (adOff (s.d.g t f.b)) (if len = 0 then recNum r 16 4 else len))
        (adOff (s.d.g t f.b)))).advance t 8) := by
  obtain ⟨n, hlt, hno, hgive⟩ := remote_starts hr htok hok ha hal hd run (fun _ => hb) hbl
  exact ⟨n, hlt, hno, hgive.of_eq (congrArg (Dev.advance · t 8)
    (Dev.remoteStart_stage hx.taken _ ((Dev.ownsStage_remoteTaken ..).trans hown)))⟩

end

/-- Settles O21: past its frame, each instruction starts the message that its descriptor names. -/
theorem remoteOperationsStart : Obligations.RemoteOperationsStart := by
  intro s t f r cx hr htok hx hy hext d ga gb c key off len tc hga hal haway hconn hopen hstand hpeer
  have reached : d.Reached t r cx := ⟨haway, hconn, hopen, hstand, hpeer⟩
  refine ⟨fun hd hgb => ⟨fun hown => ?_, fun hown => ?_⟩, fun hd => ⟨fun func hf hgb hbl hown => ?_, ?_⟩⟩
  · obtain ⟨n, hlt, hno, hgive⟩ := remote_stage_starts (c := .rput t f 0) hr htok (by simp [hx, hy, hext]) hga hal hd rfl reached
      hgb (fun h => absurd h (by decide)) hown
    exact ⟨n, hlt, hno, hgive.of_eq rfl⟩
  · obtain ⟨n, hlt, hno, hgive⟩ := remote_stage_starts (c := .rget t f 0) hr htok (by simp [hx, hy, hext]) hga hal hd rfl reached
      hgb (fun h => absurd h (by decide)) hown
    exact ⟨n, hlt, hno, hgive.of_eq rfl⟩
  · obtain ⟨n, hlt, hno, hgive⟩ := remote_stage_starts (c := .ratom t f func) hr htok (by simp [hx, hy, hext, hf]) hga hal hd rfl
      reached hgb (fun _ => hbl) hown
    exact ⟨n, hlt, hno, hgive.of_eq rfl⟩
  · obtain ⟨n, hlt, hno, hgive⟩ := remote_starts (c := .rnote t f 0) hr htok (by simp [hx, hy, hext]) hga hal hd rfl
      (fun h => absurd h (by decide)) (fun h => absurd h (by decide))
    exact ⟨n, hlt, hno, hgive.of_eq (congrArg (Dev.advance · t 8) (Dev.remoteStart_value reached.taken _))⟩

end Machine
end Sys2Proof

/-!
PROOFS. Fetches into handles (04 R123; 05 R177; 06 R259, R270 to R275; 07 R339 to R342): what each form of TFETCH binds its handle
to; the statement O13.
-/
namespace Sys2Proof
namespace Machine

/-! ## Handles bound (06 R270 to R275) -/

section
variable (d : Dev) (t : Fin 512) (h : Nat)

/-- A handle bound is in its thread's table, and nothing else of the thread but the count of versions changes. -/
theorem Dev.thr_bind (v : Handle) : (d.bind t h v).thr t =
    { d.thr t with t := Tab.set (Tab.del (d.thr t).t h) h v, vers := (d.thr t).vers + 1 } := by
  rw [Dev.bind, Dev.modThr_eq, Dev.thr_setThr, Dev.thr_dropHandle]

theorem Dev.handle_bind (v : Handle) : (d.bind t h v).handle t h = some v := by
  rw [Dev.handle, Dev.thr_bind]
  exact Tab.get?_set_self ..

theorem Dev.thr_bindKv (o : KvOperand) (p : KvPart) : (d.bindKv t h o p).thr t =
    { d.thr t with
      t := Tab.set (Tab.del (d.thr t).t h) h (.kv { o with version := (d.thr t).vers + 1 }), vers := (d.thr t).vers + 1 } := by
  rw [Dev.bindKv, Dev.modThr_eq, Dev.thr_setThr, Dev.thr_congr (e := Dev.slotsUp _ _) (d := d.dropHandle t h) rfl,
    Dev.thr_dropHandle]

theorem Dev.handle_bindKv (o : KvOperand) (p : KvPart) :
    (d.bindKv t h o p).handle t h = some (.kv { o with version := (d.thr t).vers + 1 }) := by
  rw [Dev.handle, Dev.thr_bindKv]
  exact Tab.get?_set_self ..

theorem Dev.thr_appendKv (o : KvOperand) (p : KvPart) : (d.appendKv t h o p).thr t =
    { d.thr t with
      t := Tab.set (d.thr t).t h (.kv { o with parts := o.parts ++ [p], version := (d.thr t).vers + 1 })
      vers := (d.thr t).vers + 1 } := by
  rw [Dev.appendKv, Dev.modThr_eq, Dev.thr_setThr, Dev.thr_congr (e := Dev.slotsUp _ _) (d := d) rfl]

theorem Dev.handle_appendKv (o : KvOperand) (p : KvPart) :
    (d.appendKv t h o p).handle t h = some (.kv { o with parts := o.parts ++ [p], version := (d.thr t).vers + 1 }) := by
  rw [Dev.handle, Dev.thr_appendKv]
  exact Tab.get?_set_self ..

end

@[simp] theorem Dev.putPte_threads (d : Dev) (set l p : Nat) (v : W64) : (d.putPte set l p v).threads = d.threads := by
  unfold Dev.putPte
  split
  · rfl
  · split <;> rfl

/-- A page's heat changes no thread (10 R476). -/
@[simp] theorem Dev.heatUp_threads (d : Dev) (set l p : Nat) : (d.heatUp set l p).threads = d.threads := by
  unfold Dev.heatUp
  dsimp only
  split
  · rfl
  · simp only [apply_ite Dev.threads, Dev.putPte_threads, ite_self]

/-! ## TFETCH.Q and TFETCH.M (06 Table 4; 07 R340) -/

section
variable {d : Dev} {t h slot eng : Nat} {x : Thread} {ga gb : W64} (ha : stageExc ga 32 = none) (hop : x.isOperand h = false)
  (hs : d.nextSlot t h = some (slot, eng))
include ha hop hs

/-- A fetch of queries binds empty rows for the queries that gb selects. -/
theorem Dev.fetchQ_staged {hdr qs : List Byte} {c : RecCtx} (hm : d.memRead t ga 128 = (hdr, d)) (hc : d.recCtx t hdr = some c)
    (hq : d.memRead t (ga + 128) (querySize (queryFmt hdr) c.n (c.headCnt * c.g * c.pr.dim)) = (qs, d))
    (hrel : bits gb 7 0 < c.headCnt) (hfit : bits gb 23 8 + bits gb 39 24 ≤ c.n) (hrows : bits gb 39 24 * c.g ≤ 128) :
    ∃ rs : RowSet, d.fetchQ t x h ga gb = .done (d.bind t h (.rows rs)) 0 none ∧ rs.engine = eng ∧ rs.slot = slot ∧
      rs.rows.length = bits gb 39 24 * c.g ∧ ∀ r ∈ rs.rows, r.st = emptyRow c.pr.dim := by
  have good : ¬ (c.headCnt ≤ bits gb 7 0 ∨ c.n < bits gb 23 8 + bits gb 39 24 ∨ 128 < bits gb 39 24 * c.g) := by omega
  simp only [Dev.fetchQ, ha, hop, Bool.false_eq_true, if_false, hs, hm, hc, if_neg good, hq]
  refine ⟨_, rfl, rfl, rfl, ?_, fun r hr => ?_⟩
  · simp
  · simp only [List.mem_flatMap, List.mem_map] at hr
    obtain ⟨i, -, j, -, rfl⟩ := hr
    rfl

/-- A fetch of activations binds them with scores of zero. -/
theorem Dev.fetchM_staged {bs : List Byte} (h1 : 1 ≤ bits gb 7 0) (h128 : bits gb 7 0 ≤ 128) (h32 : 32 ≤ bits gb 16 8)
    (h256 : bits gb 16 8 ≤ 256) (hk : bits gb 16 8 % 32 = 0) (hf : bits gb 18 17 ≤ 2) (hz : bits gb 63 19 = 0)
    (hm : d.memRead t ga (querySize (actFmt (bits gb 18 17)) (bits gb 7 0) (bits gb 16 8)) = (bs, d)) :
    ∃ m : MatRows, d.fetchM t x h ga gb = .done (d.bind t h (.mat m)) 0 none ∧ m.rows = bits gb 7 0 ∧ m.k = bits gb 16 8 ∧
      m.engine = eng ∧ m.slot = slot ∧ m.score = List.replicate (bits gb 7 0) (List.replicate 256 0) := by
  have good : ¬ (bits gb 7 0 = 0 ∨ 128 < bits gb 7 0 ∨ bits gb 16 8 < 32 ∨ 256 < bits gb 16 8 ∨ bits gb 16 8 % 32 ≠ 0 ∨
    2 < bits gb 18 17 ∨ bits gb 63 19 ≠ 0) := by omega
  simp only [Dev.fetchM, ha, hop, Bool.false_eq_true, if_false, hs, if_neg good, hm]
  exact ⟨_, rfl, rfl, rfl, rfl, rfl, rfl⟩

end

/-! ## TFETCH of pages (04 R123; 06 R259) -/

/-- The part of a page that a stored tile makes. -/
def pageOf (tile : List Byte) (pr : Profile) (src : Nat × Nat × Nat) (mask : Nat) : KvPart :=
  ⟨false, recNum tile 16 4, recNum tile 12 2, pr, 0, pr.heads, tile, [], src, mask⟩

/-- An entry that names a good page of the stand's in a tier below the zone (06 R259). -/
structure Dev.GoodPage (d : Dev) (t : Nat) (e : W64) (fr : Nat) (tile : List Byte) (src : Nat × Nat × Nat)
    (pr : Profile) : Prop where
  named : d.tileNamed (d.thrStand t) e = some (fr, tile, src, pr)
  sound : tileFlag tile flQuar = false
  held : pteTier e < 2 ∨ (pteTier e = 2 ∧ dcrcOk tile = true)

section
variable {d : Dev} {t h fr : Nat} {x : Thread} {ga gb : W64} {tile : List Byte} {src : Nat × Nat × Nat} {pr : Profile}
  (hp : d.GoodPage t ga fr tile src pr)
include hp

theorem Dev.pagePart_good (mask : Nat) :
    d.pagePart t ga mask = (pageOf tile pr src mask, 0, some fr, d.heatUp src.1 src.2.1 src.2.2) := by
  obtain ⟨named, sound, held⟩ := hp
  have lost : ¬ (pteTier ga = 3 ∧ d.sfld (d.thrStand t) 0x618 1 0 = 2) := by omega
  have bad : ¬ (2 ≤ pteTier ga ∧ (!dcrcOk tile) = true) := by
    rintro ⟨h2, hc⟩
    rcases held with hlt | ⟨-, hok⟩
    · omega
    · simp [hok] at hc
  simp only [Dev.pagePart, named, sound, lost, bad, or_self, Bool.false_eq_true, if_false]
  rfl

/-- The blocks that a fetch of a page selects: all for none. -/
def blockMask (gb : W64) : Nat := if bits gb 31 16 = 0 then 65535 else bits gb 31 16

theorem Dev.fetchN_good (h0 : ga ≠ 0) (hb : d.bindExc t x h (bits gb 5 0) = none)
    (hparts : partsBad [pageOf tile pr src (blockMask gb)] = false) :
    d.fetchN t x h ga gb = .done ((d.heatUp src.1 src.2.1 src.2.2).bindKv t h
      ⟨bits gb 5 0, [pageOf tile pr src (blockMask gb)], 0⟩ (pageOf tile pr src (blockMask gb))) 0 (some fr) := by
  have part := Dev.pagePart_good hp (blockMask gb)
  rw [blockMask] at part hparts ⊢
  simp only [Dev.fetchN, if_neg h0, hb, part, hparts, Bool.false_eq_true, if_false]

theorem Dev.fetchA_good {o : KvOperand} (ho : d.appendTo t x h (bits gb 5 0) = .inr o)
    (hparts : partsBad (o.parts ++ [pageOf tile pr src (blockMask gb)]) = false) :
    d.fetchA t x h ga gb = .done ((d.heatUp src.1 src.2.1 src.2.2).appendKv t h o (pageOf tile pr src (blockMask gb))) 0
      (some fr) := by
  have part := Dev.pagePart_good hp (blockMask gb)
  rw [blockMask] at part hparts ⊢
  simp only [Dev.fetchA, ho, part, hparts, Bool.false_eq_true, if_false]

end

/-- A fetch from address 0 empties an operand handle. -/
theorem Dev.fetchN_zero {d : Dev} {t h : Nat} {x : Thread} {ga : W64} (gb : W64) (h0 : ga = 0)
    (ho : Tab.has x.t h = true → x.isOperand h = true) : d.fetchN t x h ga gb = .done (d.dropHandle t h) 0 none := by
  have operand : ¬ ((Tab.has x.t h && !x.isOperand h) = true) := by simpa using ho
  simp only [Dev.fetchN, if_pos h0, if_neg operand]

/-! ## TFETCH of windows (05 R177; 06 R261) -/

section
variable {d : Dev} {t h : Nat} {x : Thread} {ga gb : W64} {part : KvPart} (ha : stageExc ga 32 = none)
  (hw : d.windowPart t ga = some (part, d))
include ha hw

theorem Dev.fetchWN_staged (hb : d.bindExc t x h (bits gb 5 0) = none) (hparts : partsBad [part] = false) :
    d.fetchWN t x h ga gb = .done (d.bindKv t h ⟨bits gb 5 0, [part], 0⟩ part) 0 none := by
  simp only [Dev.fetchWN, ha, hb, hw, hparts, Bool.false_eq_true, if_false]

theorem Dev.fetchWA_staged {o : KvOperand} (ho : d.appendTo t x h (bits gb 5 0) = .inr o)
    (hparts : partsBad (o.parts ++ [part]) = false) : d.fetchWA t x h ga gb = .done (d.appendKv t h o part) 0 none := by
  simp only [Dev.fetchWA, ha, ho, hw, hparts, Bool.false_eq_true, if_false]

end

/-! ## TFETCH.W (07 R341) -/

theorem Dev.reading_false {d : Dev} (h : d.doing.badRead = false) : d.reading false = d := by
  rw [Dev.reading, ← h]

/-- Bytes of weights of n rows and k columns in a format, with their scales (07 R341). -/
def weightSize (fmt n k : Nat) : Nat :=
  if fmt = 5 then n * k * fmtBits fmt / 8 else roundUp (n * k * fmtBits fmt / 8) 32 + n * k / 32

/-- A fetch of weights in the stand's region binds them. -/
theorem Dev.fetchW_region {d : Dev} {t h : Nat} {x : Thread} {ga gb : W64} {bs : List Byte}
    (hb : d.bindExc t x h (bits gb 5 0) = none) (hal : ga.toNat % 256 = 0) (h7 : bits gb 7 6 = 0) (hf : bits gb 15 8 ≤ 5)
    (hn1 : 1 ≤ bits gb 24 16) (hn : bits gb 24 16 ≤ 256) (hk1 : 32 ≤ bits gb 33 25) (hk : bits gb 33 25 ≤ 256)
    (hk32 : bits gb 33 25 % 32 = 0) (hz : bits gb 63 34 = 0) (hbad : d.doing.badRead = false)
    (hw : d.weightRead (d.thrStand t) ga.toNat (weightSize (bits gb 15 8) (bits gb 24 16) (bits gb 33 25)) = some (bs, false)) :
    ∃ w, d.fetchW t x h ga gb = .done (d.bind t h (.weight ⟨bits gb 5 0, bits gb 15 8, bits gb 24 16, bits gb 33 25, w, false,
      x.vers + 1⟩)) 0 none ∧ w.length = bits gb 24 16 := by
  have good : ¬ (ga.toNat % 256 ≠ 0 ∨ bits gb 7 6 ≠ 0 ∨ 5 < bits gb 15 8 ∨ bits gb 24 16 = 0 ∨ 256 < bits gb 24 16 ∨
    bits gb 33 25 < 32 ∨ 256 < bits gb 33 25 ∨ bits gb 33 25 % 32 ≠ 0 ∨ bits gb 63 34 ≠ 0) := by omega
  rw [weightSize] at hw
  simp only [Dev.fetchW, hb, if_neg good, hbad, Bool.false_eq_true, false_and, if_false, hw]
  exact ⟨_, rfl, by simp⟩

/-! ## What a fetch gives -/

/-- A fetch of query rows, pages, windows or activations, which names X alone. -/
theorem fetch_issues {s : State} {t : Fin 512} {f : LongF} {h : Nat} {c : Instr} {body : Dev → Thread → Nat → Nat → TileRes}
    {d1 : Dev} {src : Option Nat} (hr : LongReady s t) (htok : FreeToken s.d t) (hx : (s.d.thr t).handleOf f.x = some h) (hy : f.y = 0)
    (run : exec c s = s.served fun d => d.tile t f true false body) (e : body s.d (s.d.thr t) h 0 = .done d1 0 src)
    (hk : (d1.thr t).toks = (s.d.thr t).toks) : TileIssues s t f.d c d1 0 src :=
  tile_issues run hr htok rfl hx (if_pos hy) e hk

/-- TFETCH.W with no sector that cannot be read. -/
theorem tfetchW_clean {s : State} {t : Fin 512} {f : LongF} (h : s.d.doing.badRead = false) : exec (.tfetchW t f false) s =
    s.served fun d => d.tile t f true false fun d x h _ => d.fetchW t x h (x.rg f.a.toNat) (x.rg f.b.toNat) := by
  have run : exec (.tfetchW t f false) s = execTfetchW t f false s := rfl
  rw [run, execTfetchW, State.served, State.served, Dev.reading_false h]

/-- Settles O13: each fetch names its handle and takes its token as every tile instruction does, and binds the handle to what it
read. -/
theorem fetchBindsAHandle : Obligations.FetchBindsAHandle := by
  intro s t f h hr htok hx hy
  have issues {c : Instr} {body : Dev → Thread → Nat → Nat → TileRes} {d1 : Dev} {src : Option Nat} :=
    fetch_issues (c := c) (body := body) (d1 := d1) (src := src) hr htok hx hy
  have heat (set l p : Nat) : (s.d.heatUp set l p).thr t = s.d.thr t := Dev.thr_congr (Dev.heatUp_threads ..) t
  refine ⟨fun slot eng hdr c qs ha hop hs hm hc hq hrel hfit hrows => ?_, fun h0 ho => ⟨?_, Dev.handle_dropHandle ..⟩,
    fun fr tile set l p pr hn hquar htier h0 => ⟨fun hb hparts => ?_, fun o ho hparts => ?_⟩,
    fun part ha hw => ⟨fun hb hparts => ?_, fun o ho hparts => ?_⟩,
    fun slot eng bs ha hop hs h1 h128 h32 h256 hk hf hz hm => ?_, fun bs hb hal h7 hf hn1 hn hk1 hk hk32 hz hbad hw => ?_⟩
  · obtain ⟨rs, e, hrs⟩ := Dev.fetchQ_staged ha hop hs hm hc hq hrel hfit hrows
    exact ⟨rs, ⟨issues rfl e (by rw [Dev.thr_bind]), Dev.handle_bind ..⟩, hrs⟩
  · exact issues rfl (Dev.fetchN_zero _ h0 ho) (by rw [Dev.thr_dropHandle])
  · have e := Dev.fetchN_good ⟨hn, hquar, htier⟩ h0 hb hparts
    refine ⟨issues rfl e (by rw [Dev.thr_bindKv, heat]), (Dev.handle_bindKv ..).trans ?_⟩
    rw [heat]
  · have e := Dev.fetchA_good ⟨hn, hquar, htier⟩ ho hparts
    refine ⟨issues rfl e (by rw [Dev.thr_appendKv, heat]), (Dev.handle_appendKv ..).trans ?_⟩
    rw [heat]
  · exact ⟨issues rfl (Dev.fetchWN_staged ha hw hb hparts) (by rw [Dev.thr_bindKv]), Dev.handle_bindKv ..⟩
  · exact ⟨issues rfl (Dev.fetchWA_staged ha hw ho hparts) (by rw [Dev.thr_appendKv]), Dev.handle_appendKv ..⟩
  · obtain ⟨m, e, hm⟩ := Dev.fetchM_staged ha hop hs h1 h128 h32 h256 hk hf hz hm
    exact ⟨m, ⟨issues rfl e (by rw [Dev.thr_bind]), Dev.handle_bind ..⟩, hm⟩
  · obtain ⟨w, e, hlen⟩ := Dev.fetchW_region hb hal h7 hf hn1 hn hk1 hk hk32 hz hbad hw
    refine ⟨w, ?_, hlen⟩
    rw [Dev.reading_false hbad]
    exact issues (tfetchW_clean hbad) e (by rw [Dev.thr_bind])

end Machine
end Sys2Proof

/-!
PROOFS. Host commands on regions, kernel images, codec tables, keys and the firmware image (05 R240; 06 R298 to R301; 08 R394 to
R401; 16 R788, R795; 17 R815): the statement O36.
-/
namespace Sys2Proof
namespace Machine

/-! ## What the commands on regions, kernels and tables give -/

section
variable {s : State} (h : s.d.serving = true)
include h

theorem weight_gives (st : Fin 32) (e : CmdEntry) : GivesLater s (.weight st e) (s.d.hWeight st e) :=
  State.served_eq (fun d => d.hWeight st e) h

theorem scratch_gives (st : Fin 32) (e : CmdEntry) : GivesLater s (.scratch st e) (s.d.hScratch st e) :=
  State.served_eq (fun d => d.hScratch st e) h

theorem kload_gives (st : Fin 32) (e : CmdEntry) : GivesLater s (.kload st e) (s.d.hKload st e) :=
  State.served_eq (fun d => d.hKload st e) h

theorem kunload_gives (st : Fin 32) (e : CmdEntry) : GivesLater s (.kunload st e) (s.d.hKunload st e) :=
  State.served_eq (fun d => d.hKunload st e) h

theorem cdcLoad_gives (st : Fin 32) (e : CmdEntry) : GivesLater s (.cdcLoad st e) (s.d.hCdcLoad st e) :=
  State.served_eq (fun d => d.hCdcLoad st e) h

theorem cdcSetMode_gives (st : Fin 32) (e : CmdEntry) : GivesLater s (.cdcSetMode st e) (s.d.hCdcSetMode st e) :=
  State.served_eq (fun d => d.hCdcSetMode st e) h

theorem cdcRecode_gives (st : Fin 32) (e : CmdEntry) : GivesLater s (.cdcRecode st e) (s.d.hCdcRecode st e) :=
  State.served_eq (fun d => d.hCdcRecode st e) h

theorem recodePageCommit_gives (id : BitVec 32) : GivesLater s (.recodePageCommit id) (s.d.recodeCommit id.toNat) :=
  State.served_eq (fun d => d.recodeCommit id.toNat) h

theorem recodePassDone_gives : GivesLater s .recodePassDone s.d.recodeDone := State.served_eq Dev.recodeDone h

theorem kkey_gives (st : Fin 32) (e : CmdEntry) : GivesLater s (.kkey st e) (s.d.hKkey st e) :=
  State.served_eq (fun d => d.hKkey st e) h

theorem fwUpdate_gives (st : Fin 32) (e : CmdEntry) : GivesLater s (.fwUpdate st e) (s.d.hFwUpdate st e) :=
  State.served_eq (fun d => d.hFwUpdate st e) h

end

/-- A command of stand 0 that is accepted has its own effect. -/
theorem Dev.hostCmd0_takes {d : Dev} {opc lo hi a : Nat} {e : CmdEntry} (f : Dev → Nat → Dev) (h : (d.std 0).rst = false)
    (ha : e.actor 0 lo hi = some a) : d.hostCmd0 0 opc e lo hi f = f (d.popFetched 0 opc e) a := by
  rw [Dev.hostCmd0, Dev.hostCmd_takes _ h ha, if_pos rfl]

/-! ## WEIGHT, SCRATCH and KUNLOAD (06 R301; 17 R815) -/

section
variable {d : Dev} {s a : Nat} {e : CmdEntry} (hrst : (d.std s).rst = false)
include hrst

theorem Dev.hWeight_pages (ha : e.actor s 0 0 = some a) (hp : e.arg.toNat % 65536 = 0) :
    let d1 := d.popFetched s 0x12 e
    d.hWeight s e = Dev.regionCheck { d1 with
      regionCmds := d1.regionCmds ++ [⟨a, s, e.tag, false, e.arg.toNat / 65536, d1.runningSubs a⟩] } :=
  (Dev.hostCmd_takes _ hrst ha).trans (if_neg (not_not.2 hp))

theorem Dev.hScratch_takes (ha : e.actor s 0 0 = some a) :
    let d1 := d.popFetched s 0x13 e
    d.hScratch s e = Dev.regionCheck { d1 with
      regionCmds := d1.regionCmds ++ [⟨a, s, e.tag, true, e.arg.toNat, d1.runningSubs a⟩] } :=
  Dev.hostCmd_takes _ hrst ha

theorem Dev.hKunload_loaded {im : Nat} (ha : e.actor s 0 0 = some a)
    (him : (d.popFetched s 0x15 e).slotImage a (nbits e.arg.toNat 2 0) = some im) :
    let d1 := (d.popFetched s 0x15 e).bindKinds a (nbits e.arg.toNat 2 0) 0
    d.hKunload s e = Dev.unloadCheck { d1 with unloads := d1.unloads ++ [⟨a, s, nbits e.arg.toNat 2 0, e.tag, im, false⟩] } := by
  refine (Dev.hostCmd_takes _ hrst ha).trans ?_
  simp only [him]

/-! ## KLOAD (06 R298, R299, R303) -/

/-- The device with an image of stand a loaded into a slot over pages ps of service memory, and bound to the kinds asked for that
it serves (06 R299). -/
def Dev.loaded (d : Dev) (a slot kinds : Nat) (b : List Byte) (ps : List Nat) : Dev :=
  let d3 : Dev := { d with
    images := Tab.set d.images d.imgNext (parseImage a slot b ps), imgNext := d.imgNext + 1,
    slotImg := Tab.set d.slotImg (a * 8 + slot) d.imgNext,
    svc := ps.zipIdx.foldl (fun m (p, i) => Memory.write m (p * 4096) ((b.drop (4096 * i)).take 4096)) d.svc }
  ((d3.setSfld a 0x408 slot slot 1).setSfld a 0x408 (8 + slot) (8 + slot) 0).bindKinds a slot
    (kinds &&& (parseImage a slot b ps).kinds)

/-- KLOAD of an image that passes the checks into a slot that is not being unloaded. -/
theorem Dev.hKload_good {ps : List Nat} {d1 : Dev} (ha : e.actor s 352 1048576 = some a)
    (hc : (d.popFetched s 0x14 e).imageCheck a e.payload = 0)
    (hp : (d.popFetched s 0x14 e).svcPagesFor (ceilDiv e.payload.length 4096) [] = some (ps, d1))
    (hu : ∀ u ∈ d1.unloads, ¬ (u.stand = a ∧ u.slot = nbits e.arg.toNat 2 0)) :
    d.hKload s e = (((d1.emptySlot a (nbits e.arg.toNat 2 0)).loaded a (nbits e.arg.toNat 2 0) (nbits e.arg.toNat 10 8) e.payload
      ps).setRegion a).postCmd s e.tag 0x14 4 0 0 0 := by
  have noUnload : (d1.unloads.filter fun u => u.stand == a && u.slot == nbits e.arg.toNat 2 0) = [] := by
    simpa [List.filter_eq_nil_iff] using hu
  have kept : (d1.unloads.filter fun u => !(u.stand == a && u.slot == nbits e.arg.toNat 2 0)) = d1.unloads := by
    simpa [List.filter_eq_self, imp_iff_not_or] using hu
  refine (Dev.hostCmd_takes _ hrst ha).trans ?_
  simp only [hc, ne_eq, not_true_eq_false, if_false, hp, noUnload, kept, List.foldl_nil]
  rfl

end

/-! ## CDC_TABLE (08 R394 to R401) -/

section
variable {d : Dev} {r : List Byte}

theorem Dev.cdcLoad_good (hr : cdcRecOk r 1 = true) (hm : recNum r 2 1 ≠ 0) (hc : (d.slot (recNum r 1 1)).count = 0)
    (ht : tableOk (recBytes r 8 136) = true) : d.cdcLoad r =
      (0, { d with slots := Tab.set d.slots (recNum r 1 1) ⟨recNum r 2 1, tableLens (recBytes r 8 136), 0⟩ }) := by
  simp [Dev.cdcLoad, hr, hm, hc, ht]

theorem Dev.cdcSetMode_mode (hr : cdcRecOk r 2 = true) (hm : recNum r 2 1 ≠ 0) (hx : (d.slot (recNum r 1 1)).mode ≠ 0) :
    d.cdcSetMode r = (0, { d with
      slots := Tab.set d.slots (recNum r 1 1) { d.slot (recNum r 1 1) with mode := recNum r 2 1 } }) := by
  simp [Dev.cdcSetMode, hr, hm, hx]

theorem Dev.cdcSetMode_empty (hr : cdcRecOk r 2 = true) (hm : recNum r 2 1 = 0) (hc : (d.slot (recNum r 1 1)).count = 0) :
    d.cdcSetMode r = (0, { d with slots := Tab.del d.slots (recNum r 1 1) }) := by
  simp [Dev.cdcSetMode, hr, hm, hc]

end

section
variable {d d1 : Dev} {e : CmdEntry} {a : Nat} (hrst : (d.std 0).rst = false)
include hrst

section
variable (ha : e.actor 0 144 144 = some a)
include ha

theorem Dev.hCdcLoad_done (h : (d.popFetched 0 0x18 e).cdcLoad e.payload = (0, d1)) :
    d.hCdcLoad 0 e = d1.postCmd 0 e.tag 0x18 3 0 0 0 := by
  rw [Dev.hCdcLoad, Dev.hostCmd0_takes _ hrst ha, h]

theorem Dev.hCdcSetMode_done (h : (d.popFetched 0 0x18 e).cdcSetMode e.payload = (0, d1)) :
    d.hCdcSetMode 0 e = d1.postCmd 0 e.tag 0x18 3 0 0 0 := by
  rw [Dev.hCdcSetMode, Dev.hostCmd0_takes _ hrst ha, h]

/-- A pass begins with every page that it can take now (08 R399). -/
theorem Dev.hCdcRecode_starts (hr : cdcRecOk e.payload 3 = true)
    (hm : ((d.popFetched 0 0x18 e).slot (recNum e.payload 1 1)).mode = 2) :
    let d0 := d.popFetched 0 0x18 e
    let n := recNum e.payload 1 1
    let d1 : Dev := { d0 with recodes := d0.recodes ++ [⟨n, 0, e.tag⟩] }
    d.hCdcRecode 0 e = (d1.recodeLeft n).foldl (fun d p => d.recodePage (pkSet p.1) (pkLayer p.1) (pkPage p.1)) d1 := by
  rw [Dev.hCdcRecode, Dev.hostCmd0_takes _ hrst ha]
  exact if_neg (by simp [hr, hm])

end

/-! ## KKEY and FW_UPDATE (16 R788, R795) -/

theorem Dev.hKkey_removes (ha : e.actor 0 0 96 = some a) (h8 : e.arg.getLsbD 8 = true) :
    d.hKkey 0 e = ((d.popFetched 0 0x19 e).cfgStore fun b => { b with
      kkeys := Tab.del b.kkeys (nbits e.arg.toNat 1 0) }).postCmd 0 e.tag 0x19 0 0 0 0 := by
  rw [Dev.hKkey, Dev.hostCmd0_takes _ hrst ha]
  exact if_pos h8

theorem Dev.hKkey_sets (ha : e.actor 0 0 96 = some a) (h8 : e.arg.getLsbD 8 = false) (hn : e.dataLen.toNat = 96) :
    d.hKkey 0 e = ((d.popFetched 0 0x19 e).cfgStore fun b => { b with
      kkeys := Tab.set b.kkeys (nbits e.arg.toNat 1 0) e.payload }).postCmd 0 e.tag 0x19 0 0 0 0 := by
  rw [Dev.hKkey, Dev.hostCmd0_takes _ hrst ha]
  exact (if_neg (Bool.eq_false_iff.1 h8)).trans (if_neg (by simp [hn]))

theorem Dev.hFwUpdate_good (ha : e.actor 0 0 4194304 = some a) (hc : (d.popFetched 0 0x1A e).fwCheck (some e.payload) = 0) :
    let d1 := d.popFetched 0 0x1A e
    d.hFwUpdate 0 e = Dev.postCmd { d1 with board := { d1.board with flash := some e.payload } } 0 e.tag 0x1A 0 0 0 0 := by
  rw [Dev.hFwUpdate, Dev.hostCmd0_takes _ hrst ha]
  exact if_pos hc

end

/-! ## Recode passes (08 R399 to R401) -/

theorem Dev.recodeCommit_found {d : Dev} {id : Nat} {m : Migr} (h : d.migrs.find? (fun m => m.id == id && m.mig == 5) = some m) :
    d.recodeCommit id = (d.commitMigr m none).recodes.foldl (fun d r => (d.recodeLeft r.slot).foldl
      (fun d p => d.recodePage (pkSet p.1) (pkLayer p.1) (pkPage p.1)) d) (d.commitMigr m none) := by
  simp only [Dev.recodeCommit, h]

theorem Dev.recodeDone_finished {d : Dev} {r : RecodePass} {rest : List RecodePass} (h : d.recodes = r :: rest)
    (hl : d.recodeLeft r.slot = []) (hm : ∀ m ∈ d.migrs, m.mig ≠ 5) :
    d.recodeDone =
      ({ d with recodes := rest } : Dev).postCmd r.stand r.tag 0x18 3 0 (BitVec.ofNat 64 (d.slot r.slot).count) 0 := by
  have idle : (d.recodeLeft r.slot).isEmpty = true ∧ (!d.migrs.any fun m => m.mig == 5) = true :=
    ⟨by simp [hl], by simpa using hm⟩
  simp only [Dev.recodeDone, h, if_pos idle]

/-- Settles O36: a command that is started leaves the fetched list and then takes the one branch that its premises leave; a recode
goes on as a page is committed, and ends with its last page. -/
theorem regionsKernelsAndTables : Obligations.RegionsKernelsAndTables := by
  intro s st e a
  refine ⟨fun ⟨hs, hrst, ha⟩ => ⟨fun hp => ?_, ?_, fun im him => ?_⟩, fun ps d1 ⟨hs, hrst, ha⟩ hc hp hu => ?_,
    fun ⟨hs, hrst, ha⟩ => ⟨fun hr hm hc ht => ?_, fun hr hm hx => ?_, fun hr hm hc => ?_, fun hr hm => ?_⟩,
    fun hs => ⟨fun id m hm => ?_, fun r rest hr hl hm => ?_⟩, fun ⟨hs, hrst, ha⟩ => ⟨fun h8 => ?_, fun h8 hn => ?_⟩,
    fun ⟨hs, hrst, ha⟩ hc => ?_⟩
  · exact (weight_gives hs st e).of_eq (Dev.hWeight_pages hrst ha hp)
  · exact (scratch_gives hs st e).of_eq (Dev.hScratch_takes hrst ha)
  · exact (kunload_gives hs st e).of_eq (Dev.hKunload_loaded hrst ha him)
  · exact (kload_gives hs st e).of_eq (Dev.hKload_good hrst ha hc hp hu)
  · exact (cdcLoad_gives hs 0 e).of_eq (Dev.hCdcLoad_done hrst ha (Dev.cdcLoad_good hr hm hc ht))
  · exact (cdcSetMode_gives hs 0 e).of_eq (Dev.hCdcSetMode_done hrst ha (Dev.cdcSetMode_mode hr hm hx))
  · exact (cdcSetMode_gives hs 0 e).of_eq (Dev.hCdcSetMode_done hrst ha (Dev.cdcSetMode_empty hr hm hc))
  · exact (cdcRecode_gives hs 0 e).of_eq (Dev.hCdcRecode_starts hrst ha hr hm)
  · exact (recodePageCommit_gives hs id).of_eq (Dev.recodeCommit_found hm)
  · exact (recodePassDone_gives hs).of_eq (Dev.recodeDone_finished hr hl hm)
  · exact (kkey_gives hs 0 e).of_eq (Dev.hKkey_removes hrst ha h8)
  · exact (kkey_gives hs 0 e).of_eq (Dev.hKkey_sets hrst ha h8 hn)
  · exact (fwUpdate_gives hs 0 e).of_eq (Dev.hFwUpdate_good hrst ha hc)

end Machine
end Sys2Proof

/-!
PROOFS. The kernel instruction set (06 R251, R252, R254, R256; 07 R312, R320 to R338): what integer, control, memory and vector
instructions make of their thread, what a store leaves, and which fields raise ILLEGAL; the statements O1 to O4 and O7 to O12.
-/
namespace Sys2Proof
namespace Machine

/-! ## Instructions of a thread's own registers and memories -/

theorem Gives.of_eq {s : State} {c : Instr} {d d' : Dev} (h : Gives s c d) (e : d = d') : Gives s c d' := e ▸ h

@[simp] theorem Thread.next_wait (x : Thread) (len : Nat) : (x.next len).wait = x.wait := rfl

theorem Dev.issues_wait {d : Dev} {t : Nat} (h : d.issues t = true) : (d.thr t).wait = .run :=
  Dev.runnable_wait (Dev.issues_runnable h)

section
variable {s : State} {t : Fin 512} {c : Instr} {f : Dev → Dev} (run : exec c s = s.thread t f) (h : s.d.issues t = true)
include run h

/-- An instruction that changes its own thread alone and leaves it running. -/
theorem thread_own {x : Thread} (e : f s.d = s.d.setThr t x) (hw : x.wait = .run) : Gives s c (s.d.setThr t x) :=
  thread_gives run h e ((congrArg Thread.wait (Dev.thr_setThr ..)).trans hw)

/-- An instruction that goes on past itself and changes no thread otherwise. -/
theorem thread_past {d : Dev} (e : f s.d = d.past t 4) (ht : d.threads = s.d.threads) : Gives s c (d.past t 4) := by
  refine thread_gives run h e ?_
  rw [Dev.past, Dev.thr_setThr, Thread.next_wait, Dev.thr_congr ht]
  exact Dev.issues_wait h

/-- An instruction that raises an exception. -/
theorem thread_raises {cause : Nat} {addr : W64} (e : f s.d = s.d.except t cause addr) : Raises s t c cause addr := by
  refine run.trans ?_
  rw [State.thread, if_pos h, e]

end

theorem legal_false {ok : Bool} (h : ok = false) (r : InstrRes) : legal ok r = .exc 1 0 := if_neg (by simp [h])

/-- An instruction with a reserved field set raises ILLEGAL (07 R312). -/
theorem Dev.instr_illegal {d : Dev} {t : Nat} {f : Dev → Thread → InstrRes} {ok : Bool} {r : InstrRes}
    (h : d.runnable t = true) (hf : f d (d.thr t) = legal ok r) (hok : ok = false) : d.instr t 4 f = d.except t 1 0 :=
  Dev.instr_exc h (d.fits_four t) (hf.trans (legal_false hok r))

/-! ## Integer instructions (07 R320 to R322) -/

section
variable {d : Dev} {t : Fin 512} (h : d.runnable t = true) (rd a b : BitVec 5) (u : Bool) (imm : BitVec 15) (k : ImmKind)
  (uOk : Bool) (op : Bool → W64 → W64 → W64)
include h

theorem Dev.alu_reg (hu : (uOk || !u) = true) :
    d.alu t (.reg rd a b u 0) k uOk op = d.withG t rd (op u (d.g t a) (d.g t b)) :=
  Dev.instr_value h (legal_true (by simpa using hu) _)

theorem Dev.alu_imm {v : W64} (hv : k.value imm = some v) :
    d.alu t (.imm rd a imm) k uOk op = d.withG t rd (op false (d.g t a) v) :=
  Dev.instr_value h (by simp only [hv]; rfl)

theorem Dev.alu_reg_reserved {rsv : BitVec 5} (hr : rsv ≠ 0 ∨ (uOk = false ∧ u = true)) :
    d.alu t (.reg rd a b u rsv) k uOk op = d.except t 1 0 :=
  Dev.instr_illegal h rfl (by
    rcases hr with hr | ⟨hOk, hu⟩
    · rw [beq_false_of_ne hr, Bool.false_and]
    · rw [hOk, hu, Bool.not_true, Bool.or_self, Bool.and_false])

theorem Dev.alu_imm_reserved (hv : k.value imm = Option.none) : d.alu t (.imm rd a imm) k uOk op = d.except t 1 0 :=
  Dev.instr_exc h (d.fits_four t) (by simp only [hv])

end

theorem ImmKind.shift_value {imm : BitVec 15} (h : imm.toNat < 64) : ImmKind.shift.value imm = some (imm.zeroExtend 64) := if_pos h

theorem ImmKind.shift_none {imm : BitVec 15} (h : 64 ≤ imm.toNat) : ImmKind.shift.value imm = Option.none :=
  if_neg (Nat.not_lt.2 h)

section
variable {s : State} {t : Fin 512} {c : AluF → Instr} {k : ImmKind} {uOk : Bool} {op : Bool → W64 → W64 → W64}
  (run : ∀ f, exec (c f) s = s.thread t fun d => d.alu t f k uOk op) (h : s.d.issues t = true) {rd a b : BitVec 5} {v : W64}
include run h

/-- An integer instruction in the Register format gives its operation's result. -/
theorem alu_reg_gives {u : Bool} (hu : (uOk || !u) = true) (e : op u (s.d.g t a) (s.d.g t b) = v := by rfl) :
    Gives s (c (.reg rd a b u 0)) (s.d.withG t rd v) := by
  subst e
  exact thread_value (run _) h (Dev.alu_reg (Dev.issues_runnable h) rd a b u k uOk op hu)

/-- An integer instruction in the Immediate format gives its operation's result. -/
theorem alu_imm_gives {imm : BitVec 15} {y : W64} (hy : k.value imm = some y) (e : op false (s.d.g t a) y = v := by rfl) :
    Gives s (c (.imm rd a imm)) (s.d.withG t rd v) := by
  subst e
  exact thread_value (run _) h (Dev.alu_imm (Dev.issues_runnable h) rd a imm k uOk op hy)

end

/-! ## The operation of each integer instruction (07 Table 4) -/

section
variable (s : State) (t : Fin 512) (f : AluF)

theorem exec_add : exec (.add t f) s = s.thread t fun d => d.alu t f .sext false fun _ a b => a + b := rfl

theorem exec_sub : exec (.sub t f) s = s.thread t fun d => d.alu t f .sext false fun _ a b => a - b := rfl

theorem exec_and : exec (.and t f) s = s.thread t fun d => d.alu t f .zext false fun _ a b => a &&& b := rfl

theorem exec_or : exec (.or t f) s = s.thread t fun d => d.alu t f .zext false fun _ a b => a ||| b := rfl

theorem exec_xor : exec (.xor t f) s = s.thread t fun d => d.alu t f .zext false fun _ a b => a ^^^ b := rfl

theorem exec_shl : exec (.shl t f) s = s.thread t fun d => d.alu t f .shift false fun _ a b => a <<< (b.toNat % 64) := rfl

theorem exec_shr : exec (.shr t f) s = s.thread t fun d => d.alu t f .shift false fun _ a b => a >>> (b.toNat % 64) := rfl

theorem exec_sar : exec (.sar t f) s = s.thread t fun d => d.alu t f .shift false fun _ a b => a.sshiftRight (b.toNat % 64) := rfl

theorem exec_mul : exec (.mul t f) s = s.thread t fun d => d.alu t f .sext false fun _ a b => a * b := rfl

theorem exec_mulh : exec (.mulh t f) s = s.thread t fun d => d.alu t f .none true mulHigh := rfl

theorem exec_min : exec (.min t f) s = s.thread t fun d => d.alu t f .sext true minW := rfl

theorem exec_max : exec (.max t f) s = s.thread t fun d => d.alu t f .sext true maxW := rfl

end

theorem minW_signed (a b : W64) : minW false a b = if b.toInt < a.toInt then b else a := by
  simp [minW, lessThan, BitVec.slt]

theorem minW_unsigned (a b : W64) : minW true a b = if b.toNat < a.toNat then b else a := by
  simp [minW, lessThan, BitVec.ult]

theorem maxW_signed (a b : W64) : maxW false a b = if a.toInt < b.toInt then b else a := by
  simp [maxW, lessThan, BitVec.slt]

theorem maxW_unsigned (a b : W64) : maxW true a b = if a.toNat < b.toNat then b else a := by
  simp [maxW, lessThan, BitVec.ult]

/-- Settles O1: each instruction is its operation on two registers, or on a register and the extended immediate. -/
theorem integerInstructionResults : Obligations.IntegerInstructionResults := by
  intro s t rd a b i hi d x y sx zx r u m
  have count (hlt : i.toNat < 64) : (i.zeroExtend 64 : W64).toNat % 64 = i.toNat := by
    rw [BitVec.toNat_setWidth]; omega
  exact ⟨alu_reg_gives (exec_add s t) hi rfl, alu_imm_gives (exec_add s t) hi rfl,
    alu_reg_gives (exec_sub s t) hi rfl, alu_imm_gives (exec_sub s t) hi rfl,
    alu_reg_gives (exec_and s t) hi rfl, alu_imm_gives (exec_and s t) hi rfl,
    alu_reg_gives (exec_or s t) hi rfl, alu_imm_gives (exec_or s t) hi rfl,
    alu_reg_gives (exec_xor s t) hi rfl, alu_imm_gives (exec_xor s t) hi rfl,
    alu_reg_gives (exec_shl s t) hi rfl, alu_reg_gives (exec_shr s t) hi rfl, alu_reg_gives (exec_sar s t) hi rfl,
    fun hlt => ⟨alu_imm_gives (exec_shl s t) hi (ImmKind.shift_value hlt) (congrArg (x <<< ·) (count hlt)),
      alu_imm_gives (exec_shr s t) hi (ImmKind.shift_value hlt) (congrArg (x >>> ·) (count hlt)),
      alu_imm_gives (exec_sar s t) hi (ImmKind.shift_value hlt) (congrArg x.sshiftRight (count hlt))⟩,
    alu_reg_gives (exec_mul s t) hi rfl, alu_imm_gives (exec_mul s t) hi rfl, alu_reg_gives (exec_mulh s t) hi rfl,
    alu_reg_gives (exec_mulh s t) hi rfl,
    alu_reg_gives (exec_min s t) hi rfl (minW_signed x y), alu_reg_gives (exec_min s t) hi rfl (minW_unsigned x y),
    alu_imm_gives (exec_min s t) hi rfl (minW_signed x sx), alu_reg_gives (exec_max s t) hi rfl (maxW_signed x y),
    alu_reg_gives (exec_max s t) hi rfl (maxW_unsigned x y), alu_imm_gives (exec_max s t) hi rfl (maxW_signed x sx)⟩

/-! ## CMP, LI and LUI (07 R323, R324) -/

theorem not_slt (a b : W64) : (!a.slt b) = decide (b.toInt ≤ a.toInt) := by
  simp [BitVec.slt, ← decide_not]

theorem not_ult (a b : W64) : (!a.ult b) = decide (b.toNat ≤ a.toNat) := by
  simp [BitVec.ult, ← decide_not]

section
variable {d : Dev} {t : Fin 512} (h : d.runnable t = true)
include h

theorem Dev.cmp_legal {f : RegF} (hd : f.d.toNat < 8) (hf : f.func.toNat < 6) :
    d.cmp t f = d.setThr t (((d.thr t).wp f.d.toNat (cmpCond f.func.toNat (d.g t f.a) (d.g t f.b))).next 4) :=
  Dev.instr_own h (d.fits_four t) (legal_true (by simp [hd, hf]) _)

theorem Dev.cmp_reserved {f : RegF} (hf : 8 ≤ f.d.toNat ∨ 6 ≤ f.func.toNat) : d.cmp t f = d.except t 1 0 :=
  Dev.instr_illegal h rfl (by rcases hf with hf | hf <;> simp [Nat.not_lt.2 hf])

theorem Dev.li_eq (f : WideF) : d.li t f = d.withG t f.d (f.imm.signExtend 64) := Dev.instr_value h rfl

theorem Dev.lui_eq (f : WideF) : d.lui t f = d.withG t f.d (d.g t f.d <<< 20 ||| f.imm.zeroExtend 64) := Dev.instr_value h rfl

end

/-- Settles O2: CMP writes the comparison that FUNC names, LI and LUI a constant. -/
theorem compareAndConstantResults : Obligations.CompareAndConstantResults := by
  intro s t hi
  have hr := Dev.issues_runnable hi
  refine ⟨fun f hd hf => ?_, fun f => thread_value rfl hi (Dev.li_eq hr f), fun f => thread_value rfl hi (Dev.lui_eq hr f)⟩
  have waits (v : Bool) : (((s.d.thr t).wp f.d.toNat v).next 4).wait = .run := (Thread.wp_wait ..).trans (Dev.issues_wait hi)
  refine (thread_own rfl hi (Dev.cmp_legal hr hd hf) (waits _)).of_eq
    (congrArg (fun v => s.d.setThr t (((s.d.thr t).wp f.d.toNat v).next 4)) ?_)
  generalize f.func.toNat = n at hf
  match n, hf with
  | 0, _ | 1, _ | 2, _ | 4, _ => rfl
  | 3, _ => exact not_slt ..
  | 5, _ => exact not_ult ..

/-! ## Branches (07 R325 to R327) -/

/-- What a jump of thread t to place p makes of the device, with x for the thread: the place taken, or LOCAL_RANGE (R326). -/
def Dev.jumped (d : Dev) (t : Fin 512) (p : Int) (x : Thread) : Dev :=
  if d.inText t p then d.setThr t { x with pc := p.toNat } else d.except t 3 (BitVec.ofInt 64 p)

section
variable {d : Dev} {t : Fin 512} {p : Int}

theorem Dev.jumped_inside (x : Thread) (hp : d.inText t p = true) : d.jumped t p x = d.setThr t { x with pc := p.toNat } :=
  if_pos hp

theorem Dev.jumped_outside (x : Thread) (hp : d.inText t p = false) : d.jumped t p x = d.except t 3 (BitVec.ofInt 64 p) :=
  if_neg (by simp [hp])

section
variable (h : d.runnable t = true)
include h

/-- An instruction that jumps after g, which makes x of its thread, program counter aside. -/
theorem Dev.instr_jumps {f : Dev → Thread → InstrRes} {g : Dev → Dev} {x : Thread} (hf : f d (d.thr t) = d.jumpTo t p g)
    (hg : ∀ pc, (g d).setThr t { (g d).thr t with pc := pc } = d.setThr t { x with pc := pc }) :
    d.instr t 4 f = d.jumped t p x := by
  unfold Dev.jumpTo at hf
  unfold Dev.jumped
  split
  · next hp => exact (Dev.instr_jump h (d.fits_four t) (hf.trans (if_pos hp))).trans (hg _)
  · next hp => exact Dev.instr_exc h (d.fits_four t) (hf.trans (if_neg hp))

theorem Dev.instr_jumps_own {f : Dev → Thread → InstrRes} {x : Thread}
    (hf : f d (d.thr t) = d.jumpTo t p fun d => d.setThr t x) : d.instr t 4 f = d.jumped t p x :=
  Dev.instr_jumps h hf fun _ => by rw [Dev.setThr_setThr, Dev.thr_setThr]

theorem Dev.br_jumps {f : BranchF} (hc : f.c = 0) : d.br t f = d.jumped t (Machine.target (d.thr t) f.off) (d.thr t) :=
  Dev.instr_jumps h (legal_true (by simp [hc]) _) fun _ => rfl

theorem Dev.bc_jumps {f : BranchF} (hc : f.c.toNat < 8) (hp : (d.thr t).rp f.c.toNat = true) :
    d.bc t f = d.jumped t (Machine.target (d.thr t) f.off) (d.thr t) :=
  Dev.instr_jumps h ((legal_true (by simp [hc]) _).trans (if_pos hp)) fun _ => rfl

theorem Dev.bc_stays {f : BranchF} (hc : f.c.toNat < 8) (hp : (d.thr t).rp f.c.toNat = false) : d.bc t f = d.past t 4 :=
  Dev.instr_ok h (d.fits_four t) ((legal_true (by simp [hc]) _).trans (if_neg (by simp [hp])))

theorem Dev.call_jumps {f : BranchF} (hc : f.c = 0)
    (hs : d.inText t (Machine.target (d.thr t) f.off) = false ∨ (d.thr t).stack.length < 16) :
    d.call t f = d.jumped t (Machine.target (d.thr t) f.off) { d.thr t with stack := ((d.thr t).pc + 4) :: (d.thr t).stack } := by
  refine Dev.instr_jumps_own h ((legal_true (by simp [hc]) _).trans (if_neg ?_))
  rcases hs with hs | hs
  · simp [hs]
  · exact fun ⟨_, full⟩ => Nat.not_lt.2 full hs

theorem Dev.ret_jumps {q : Nat} {r : List Nat} (hs : (d.thr t).stack = q :: r) :
    d.ret t ⟨0, 0, 0, 0⟩ = d.jumped t q { d.thr t with stack := r } :=
  Dev.instr_jumps_own h ((legal_true rfl _).trans (by rw [hs]; rfl))

/-- LOOP goes round while its count is not 0, and does not count when its target lies outside the text (R326, R327). -/
theorem Dev.loop_jumps {f : BranchF}
    (hv : (d.thr t).rg f.c.toNat - 1 ≠ 0 ∨ d.inText t (Machine.target (d.thr t) f.off) = false) :
    d.loop t f = d.jumped t (Machine.target (d.thr t) f.off) ((d.thr t).wg f.c.toNat ((d.thr t).rg f.c.toNat - 1)) := by
  refine Dev.instr_jumps_own h (ite_congr rfl (fun hp => if_neg (hv.resolve_right ?_)) fun _ => rfl)
  simp [hp]

theorem Dev.loop_ends {f : BranchF} (hv : (d.thr t).rg f.c.toNat - 1 = 0)
    (hp : d.inText t (Machine.target (d.thr t) f.off) = true) : d.loop t f = d.setThr t (((d.thr t).wg f.c.toNat 0).next 4) :=
  Dev.instr_own h (d.fits_four t) ((if_pos hp).trans ((if_pos hv).trans (by rw [hv]; rfl)))

theorem Dev.yield_past : d.yield t ⟨0, 0, 0, 0⟩ = d.past t 4 := Dev.instr_ok h (d.fits_four t) rfl

end
end

/-- A jump to a place in the text gives its thread there. -/
theorem jumped_gives {s : State} {t : Fin 512} {c : Instr} {f : Dev → Dev} {p : Int} {x : Thread}
    (run : exec c s = s.thread t f) (h : s.d.issues t = true) (e : f s.d = s.d.jumped t p x) (hp : s.d.inText t p = true)
    (hw : x.wait = (s.d.thr t).wait) : Gives s c (s.d.setThr t { x with pc := p.toNat }) :=
  thread_own run h (e.trans (Dev.jumped_inside x hp)) (hw.trans (Dev.issues_wait h))

/-- A jump out of the text raises LOCAL_RANGE. -/
theorem jumped_raises {s : State} {t : Fin 512} {c : Instr} {f : Dev → Dev} {p : Int} {x : Thread}
    (run : exec c s = s.thread t f) (h : s.d.issues t = true) (e : f s.d = s.d.jumped t p x) (hp : s.d.inText t p = false) :
    Raises s t c 3 (BitVec.ofInt 64 p) :=
  thread_raises run h (e.trans (Dev.jumped_outside x hp))

/-- Settles O3: an instruction that jumps takes its thread to a target in the text, and one that does not goes on. -/
theorem branchResults : Obligations.BranchResults := by
  intro s t hi d x
  have hr := Dev.issues_runnable hi
  refine ⟨fun f hp => ⟨fun hc => ?_, fun hc h1 => ?_, fun hc hs => ?_, fun hv => ?_, fun hv => ?_⟩, fun f hc h0 => ?_,
    fun q r hs hp => ?_, ?_⟩
  · exact jumped_gives rfl hi (Dev.br_jumps hr hc) hp rfl
  · exact jumped_gives rfl hi (Dev.bc_jumps hr hc h1) hp rfl
  · exact jumped_gives rfl hi (Dev.call_jumps hr hc (.inr hs)) hp rfl
  · exact jumped_gives rfl hi (Dev.loop_jumps hr (.inl hv)) hp (Thread.wg_wait ..)
  · exact thread_own rfl hi (Dev.loop_ends hr hv hp) ((Thread.wg_wait ..).trans (Dev.issues_wait hi))
  · exact thread_past rfl hi (Dev.bc_stays hr hc h0) rfl
  · exact jumped_gives rfl hi (Dev.ret_jumps hr hs) hp rfl
  · exact thread_past rfl hi (Dev.yield_past hr) rfl

/-- Settles O4: an instruction that jumps to a target outside the text does nothing but raise the exception. -/
theorem branchOutOfTextRaisesLocalRange : Obligations.BranchOutOfTextRaisesLocalRange := by
  intro s t hi d x raises
  have hr := Dev.issues_runnable hi
  refine ⟨fun f hp => ⟨fun hc => ?_, fun hc h1 => ?_, fun hc => ?_, ?_⟩, fun q r hs hp => ?_⟩
  · exact jumped_raises rfl hi (Dev.br_jumps hr hc) hp
  · exact jumped_raises rfl hi (Dev.bc_jumps hr hc h1) hp
  · exact jumped_raises rfl hi (Dev.call_jumps hr hc (.inl hp)) hp
  · exact jumped_raises rfl hi (Dev.loop_jumps hr (.inr hp)) hp
  · exact jumped_raises rfl hi (Dev.ret_jumps hr hs) hp

/-! ## Memory that a thread may access (06 R254, R256, Table 2) -/

section
variable (d : Dev) (t : Nat) {a : W64}

theorem Dev.memRead_local (n : Nat) (ha : adTag a = 0) :
    d.memRead t a n = (Memory.readN (d.core (t / 4)).mem (adOff a) n, d) := by
  simp only [Dev.memRead, ha, Dev.localRead]

theorem Dev.memRead_stage {n : Nat} (ha : adTag a = 1) (ho : d.ownsStage t (adOff a) n false = true) :
    d.memRead t a n = (Memory.readN d.stage (stageAt (t / 32) (adOff a)) n, d) := by
  simp only [Dev.memRead, ha, ho, if_true, Dev.stageRead]

theorem Dev.memRead_svc {n : Nat} (ha : adTag a = 3) (hs : d.thrStand t = 0) (ho : adOff a + n ≤ d.svcPages * 4096) :
    d.memRead t a n = (Memory.readN d.svc (adOff a) n, d) := by
  simp only [Dev.memRead, ha, hs, ho, and_self, if_true]

theorem Dev.memWrite_local (bs : List Byte) (ha : adTag a = 0) : d.memWrite t a bs = d.localWrite t (adOff a) bs := by
  simp only [Dev.memWrite, ha]

theorem Dev.memWrite_stage {bs : List Byte} (ha : adTag a = 1) (ho : d.ownsStage t (adOff a) bs.length true = true) :
    d.memWrite t a bs = d.stageWrite (t / 32) (adOff a) bs := by
  simp only [Dev.memWrite, ha, ho, if_true]

theorem Dev.memWrite_svc {bs : List Byte} (ha : adTag a = 3) (hs : d.thrStand t = 0)
    (ho : adOff a + bs.length ≤ d.svcPages * 4096) :
    d.memWrite t a bs = { d with svc := Memory.write d.svc (adOff a) bs } := by
  simp only [Dev.memWrite, ha, hs, ho, and_self, if_true]

end

/-! ## Loads (07 R328 to R330) -/

theorem Dev.ldPar_good (d : Dev) (t : Nat) (f : MemF) : d.ldPar t f false = d.ld t f := if_neg (by decide)

theorem Dev.ldvPar_good (d : Dev) (t : Nat) (f : MemF) : d.ldvPar t f false = d.ldv t f := if_neg fun h => absurd h.1 (by decide)

section
variable {d : Dev} {t : Fin 512} {f : MemF} {bs : List Byte} (h : d.runnable t = true)
include h

theorem Dev.ld_reads (hm : memExc (addOff (d.g t f.a) f.off.toInt) (2 ^ f.size.toNat) = none)
    (hr : d.memRead t (addOff (d.g t f.a) f.off.toInt) (2 ^ f.size.toNat) = (bs, d)) :
    d.ld t f = d.withG t f.d (BitVec.ofNat 64 (leNat bs)) := by
  unfold Dev.g at hm hr
  exact Dev.instr_value h (by simp only [sizeBytes, hm, hr])

theorem Dev.ldv_reads (hz : f.size = 0) (hm : memExc (addOff (d.g t f.a) (64 * f.off.toInt)) 64 = none)
    (hr : d.memRead t (addOff (d.g t f.a) (64 * f.off.toInt)) 64 = (bs, d)) :
    d.ldv t f = d.withV t f.d (BitVec.ofNat 512 (leNat bs)) := by
  unfold Dev.g at hm hr
  exact Dev.instr_own h (d.fits_four t) ((legal_true (by simp [hz]) _).trans (by simp only [hm, hr, Dev.modThr_eq]))

end

section
variable {s : State} {t : Fin 512} {f : MemF} {bs : List Byte} (h : s.d.issues t = true)
include h

theorem ld_gives (hm : memExc (addOff (s.d.g t f.a) f.off.toInt) (2 ^ f.size.toNat) = none)
    (hr : s.d.memRead t (addOff (s.d.g t f.a) f.off.toInt) (2 ^ f.size.toNat) = (bs, s.d)) :
    GivesLater s (.ld t f false) (s.d.withG t f.d (BitVec.ofNat 64 (leNat bs))) :=
  GivesLater.of_eq (State.served_eq (fun d => d.ldPar t f false) (Dev.issues_serving h))
    ((Dev.ldPar_good ..).trans (Dev.ld_reads (Dev.issues_runnable h) hm hr))

theorem ldv_gives (hz : f.size = 0) (hm : memExc (addOff (s.d.g t f.a) (64 * f.off.toInt)) 64 = none)
    (hr : s.d.memRead t (addOff (s.d.g t f.a) (64 * f.off.toInt)) 64 = (bs, s.d)) :
    GivesLater s (.ldv t f false) (s.d.withV t f.d (BitVec.ofNat 512 (leNat bs))) :=
  GivesLater.of_eq (State.served_eq (fun d => d.ldvPar t f false) (Dev.issues_serving h))
    ((Dev.ldvPar_good ..).trans (Dev.ldv_reads (Dev.issues_runnable h) hz hm hr))

end

/-- Settles O7: a load gives the bytes that its thread reads, in each of the three memories. -/
theorem loadResults : Obligations.LoadResults := by
  intro s t f hi d num
  refine ⟨fun hm => ⟨fun ha => ?_, fun ha ho => ?_, fun ha hs ho => ?_⟩,
    fun hz hm => ⟨fun ha => ?_, fun ha ho => ?_, fun ha hs ho => ?_⟩⟩
  · exact ld_gives hi hm (d.memRead_local t _ ha)
  · exact ld_gives hi hm (d.memRead_stage t ha ho)
  · exact ld_gives hi hm (d.memRead_svc t ha hs ho)
  · exact ldv_gives hi hz hm (d.memRead_local t _ ha)
  · exact ldv_gives hi hz hm (d.memRead_stage t ha ho)
  · exact ldv_gives hi hz hm (d.memRead_svc t ha hs ho)

/-! ## Stores (07 R328 to R331) -/

section
variable {d : Dev} {t : Fin 512} {f : MemF} (h : d.runnable t = true)
include h

theorem Dev.st_writes (hm : memExc (addOff (d.g t f.a) f.off.toInt) (2 ^ f.size.toNat) = none) :
    d.st t f =
      (d.memWrite t (addOff (d.g t f.a) f.off.toInt) (natLe (2 ^ f.size.toNat) (d.g t f.d).toNat)).past t 4 := by
  unfold Dev.g at hm
  exact Dev.instr_ok h (d.fits_four t) (by simp only [sizeBytes, hm]; rfl)

theorem Dev.stv_writes (hz : f.size = 0) (hm : memExc (addOff (d.g t f.a) (64 * f.off.toInt)) 64 = none) :
    d.stv t f = (d.memWrite t (addOff (d.g t f.a) (64 * f.off.toInt)) (natLe 64 (d.vreg t f.d).toNat)).past t 4 := by
  unfold Dev.g at hm
  exact Dev.instr_ok h (d.fits_four t) ((legal_true (by simp [hz]) _).trans (by simp only [hm]; rfl))

theorem Dev.pref_past (hz : f.size = 0) (hm : memExc (addOff (d.g t f.a) f.off.toInt) 1 = none) : d.pref t f = d.past t 4 := by
  unfold Dev.g at hm
  exact Dev.instr_ok h (d.fits_four t) ((legal_true (by simp [hz]) _).trans (by simp only [hm]))

end

section
variable {s : State} {t : Fin 512} {f : MemF} (h : s.d.issues t = true)
include h

theorem st_gives (hm : memExc (addOff (s.d.g t f.a) f.off.toInt) (2 ^ f.size.toNat) = none) :
    Gives s (.st t f)
      ((s.d.memWrite t (addOff (s.d.g t f.a) f.off.toInt) (natLe (2 ^ f.size.toNat) (s.d.g t f.d).toNat)).past t 4) :=
  thread_past rfl h (Dev.st_writes (Dev.issues_runnable h) hm) (Dev.memWrite_threads ..)

theorem stv_gives (hz : f.size = 0) (hm : memExc (addOff (s.d.g t f.a) (64 * f.off.toInt)) 64 = none) :
    Gives s (.stv t f) ((s.d.memWrite t (addOff (s.d.g t f.a) (64 * f.off.toInt)) (natLe 64 (s.d.vreg t f.d).toNat)).past t 4) :=
  thread_past rfl h (Dev.stv_writes (Dev.issues_runnable h) hz hm) (Dev.memWrite_threads ..)

end

/-- Settles O8: a store leaves the bytes that its thread writes, in each of the three memories; PREF leaves nothing. -/
theorem storeResults : Obligations.StoreResults := by
  intro s t f hi d stored
  have stores {c : Instr} {a : W64} {bs : List Byte}
      (hg : memExc a bs.length = none → Gives s c ((d.memWrite t a bs).past t 4)) : stored c a bs := fun hm =>
    ⟨fun ha => (hg hm).of_eq (congrArg (Dev.past · t 4) (d.memWrite_local t bs ha)),
      fun ha ho => (hg hm).of_eq (congrArg (Dev.past · t 4) (d.memWrite_stage t ha ho)),
      fun ha hs ho => (hg hm).of_eq (congrArg (Dev.past · t 4) (d.memWrite_svc t ha hs ho))⟩
  refine ⟨stores fun hm => ?_, fun hz => stores fun hm => ?_, fun hz hm => ?_⟩
  · rw [natLe_length] at hm
    exact st_gives hi hm
  · rw [natLe_length] at hm
    exact stv_gives hi hz hm
  · exact thread_past rfl hi (Dev.pref_past (Dev.issues_runnable hi) hz hm) rfl

/-! ## The frame of a store (06 R256) -/

/-- What a write of a thread can do: its bytes written in one of the three memories, or a violation recorded. -/
theorem Dev.memWrite_cases (d : Dev) (t : Nat) (a : W64) (bs : List Byte) :
    (adTag a = 0 ∧ d.memWrite t a bs = d.localWrite t (adOff a) bs) ∨
    (adTag a = 1 ∧ d.memWrite t a bs = d.stageWrite (t / 32) (adOff a) bs) ∨
    (adTag a ≠ 0 ∧ adTag a ≠ 1 ∧ d.memWrite t a bs = { d with svc := Memory.write d.svc (adOff a) bs }) ∨
    d.memWrite t a bs = d.kernelViol (d.thrStand t) true a.toNat := by
  unfold Dev.memWrite
  dsimp only
  split
  · next ha => exact .inl ⟨ha, rfl⟩
  · next ha =>
    split
    · exact .inr (.inl ⟨ha, rfl⟩)
    · exact .inr (.inr (.inr rfl))
  · next h0 h1 =>
    split
    · exact .inr (.inr (.inl ⟨h0, h1, rfl⟩))
    · exact .inr (.inr (.inr rfl))

section
variable (d : Dev) (t : Nat) (a : W64) (bs : List Byte)

theorem Dev.localWrite_core (off k : Nat) :
    (d.localWrite t off bs).core k =
      if k = t / 4 then { d.core k with mem := Memory.write (d.core k).mem off bs } else d.core k := by
  simp only [Dev.localWrite, Dev.core, Dev.setCore]
  split
  · next hk => rw [hk, Tab.getD_set_self]
  · next hk => rw [Tab.getD_set_ne _ _ _ hk]

theorem Dev.memWrite_core_read {k x : Nat} (hx : adTag a = 0 → k = t / 4 → x < adOff a ∨ adOff a + bs.length ≤ x) :
    Memory.read ((d.memWrite t a bs).core k).mem x = Memory.read (d.core k).mem x := by
  rcases d.memWrite_cases t a bs with ⟨ha, e⟩ | ⟨-, e⟩ | ⟨-, -, e⟩ | e <;> rw [e]
  · rw [Dev.localWrite_core]
    split
    · next hk => exact Memory.read_write_outside _ _ _ _ (hx ha hk)
    · rfl
  all_goals rfl

theorem Dev.memWrite_stage_read {x : Nat}
    (hx : adTag a = 1 → x < stageAt (t / 32) (adOff a) ∨ stageAt (t / 32) (adOff a) + bs.length ≤ x) :
    Memory.read (d.memWrite t a bs).stage x = Memory.read d.stage x := by
  rcases d.memWrite_cases t a bs with ⟨-, e⟩ | ⟨ha, e⟩ | ⟨-, -, e⟩ | e <;> rw [e]
  case inr.inl => exact Memory.read_write_outside _ _ _ _ (hx ha)
  all_goals rfl

theorem Dev.memWrite_svc_read {x : Nat} (hx : adTag a ≠ 0 → adTag a ≠ 1 → x < adOff a ∨ adOff a + bs.length ≤ x) :
    Memory.read (d.memWrite t a bs).svc x = Memory.read d.svc x := by
  rcases d.memWrite_cases t a bs with ⟨-, e⟩ | ⟨-, e⟩ | ⟨h0, h1, e⟩ | e <;> rw [e]
  case inr.inr.inl => exact Memory.read_write_outside _ _ _ _ (hx h0 h1)
  all_goals rfl

/-- A violation changes the count and the log of its stand alone (03 R102). -/
theorem Dev.violate_rd (st kind space : Nat) (write : Bool) (o : Nat) {b : Blk} {i off : Nat}
    (h200 : Loc.addr ⟨b, i, off⟩ ≠ Loc.addr ⟨.stand, st, 0x200⟩) (h208 : Loc.addr ⟨b, i, off⟩ ≠ Loc.addr ⟨.stand, st, 0x208⟩) :
    (d.violate st kind space write o).rd b i off = d.rd b i off := by
  rw [Dev.violate, Dev.rd_wr_ne (h := h208), Dev.incSat, Dev.rd_setFld_ne (h := h200)]

theorem Dev.memWrite_rd {b : Blk} {i off : Nat} (h200 : Loc.addr ⟨b, i, off⟩ ≠ Loc.addr ⟨.stand, d.thrStand t, 0x200⟩)
    (h208 : Loc.addr ⟨b, i, off⟩ ≠ Loc.addr ⟨.stand, d.thrStand t, 0x208⟩) :
    (d.memWrite t a bs).rd b i off = d.rd b i off := by
  rcases d.memWrite_cases t a bs with ⟨-, e⟩ | ⟨-, e⟩ | ⟨-, -, e⟩ | e <;> rw [e]
  case inr.inr.inr => rw [Dev.kernelViol, d.violate_rd _ _ _ _ _ h200 h208]
  all_goals rfl

@[simp] theorem Dev.memWrite_mem : (d.memWrite t a bs).mem = d.mem := by
  rcases d.memWrite_cases t a bs with ⟨-, e⟩ | ⟨-, e⟩ | ⟨-, -, e⟩ | e <;> rw [e] <;> rfl

@[simp] theorem Dev.memWrite_doing : (d.memWrite t a bs).doing = d.doing := by
  rcases d.memWrite_cases t a bs with ⟨-, e⟩ | ⟨-, e⟩ | ⟨-, -, e⟩ | e <;> rw [e] <;> rfl

end

/-- Settles O9: past its program counter, a store leaves what the write of its bytes leaves. -/
theorem storeFrame : Obligations.StoreFrame := by
  intro s s' t f hi a n out hm hb hex
  have len : (natLe n (s.d.g t f.d).toNat).length = n := natLe_length ..
  have given := (st_gives hi hm).symm.trans hex
  change Host.Outcome.next (s.put ((s.d.memWrite t a (natLe n (s.d.g t f.d).toNat)).past t 4)) = .next s' at given
  generalize natLe n (s.d.g t f.d).toNat = bs at given len
  have outside {x base : Nat} (h : out x base) : x < base ∨ base + bs.length ≤ x := by rw [len]; exact h
  have core {k x : Nat} (hx : adTag a = 0 → k = t / 4 → out x (adOff a)) :=
    s.d.memWrite_core_read t a bs fun h0 hk => outside (hx h0 hk)
  have stage {x : Nat} (hx : adTag a = 1 → out x (stageAt (t / 32) (adOff a))) :=
    s.d.memWrite_stage_read t a bs fun h1 => outside (hx h1)
  have svc {x : Nat} (hx : adTag a ≠ 0 → adTag a ≠ 1 → out x (adOff a)) :=
    s.d.memWrite_svc_read t a bs fun h0 h1 => outside (hx h0 h1)
  have mem := s.d.memWrite_mem t a bs
  have threads := s.d.memWrite_threads t a bs
  have own := Dev.thr_congr threads t
  have burn := (congrArg Doing.burn (s.d.memWrite_doing t a bs)).trans hb
  have reg {b : Blk} {i off : Nat} := s.d.memWrite_rd t a bs (b := b) (i := i) (off := off)
  generalize s.d.memWrite t a bs = e at given core stage svc mem threads own burn reg
  injection given with left
  have burn : (e.past t 4).doing.burn = none := burn
  rw [← left, State.put_d _ _ burn, State.put_otp _ _ burn, State.put_pending]
  refine ⟨fun _ _ => core, fun _ => stage, fun _ => svc, mem, rfl, rfl, ?_, fun _ _ _ => reg⟩
  rw [← own, ← threads]
  rfl

/-! ## Vector instructions (07 R333 to R338) -/

/-- An instruction that writes a vector register. -/
theorem Dev.instr_vector {d : Dev} {t : Fin 512} {f : Dev → Thread → InstrRes} {vd : BitVec 5} {v : BitVec 512}
    (h : d.runnable t = true) (hf : f d (d.thr t) = .ok (d.modThr t fun x => x.wv vd.toNat v)) :
    d.instr t 4 f = d.withV t vd v :=
  Dev.instr_own h (d.fits_four t) hf

/-- A vector written by an instruction of a thread's own registers, with free values taken or not. -/
theorem thread_vector {s : State} {t : Fin 512} {c : Instr} {f : Dev → Dev} {d : Dev} {vd : BitVec 5} {v : BitVec 512}
    (run : exec c s = s.thread t f) (h : s.d.issues t = true) (e : f s.d = d.withV t vd v) (ht : d.threads = s.d.threads) :
    Gives s c (d.withV t vd v) := by
  refine thread_gives run h e ?_
  rw [Dev.withV, Dev.thr_setThr, Thread.next_wait, Thread.wv_wait, Dev.thr_congr ht]
  exact Dev.issues_wait h

section
variable {d : Dev} {t : Fin 512} (h : d.runnable t = true)
include h

theorem Dev.vec_legal {f : VecF} {types : List Nat} (op : Nat → BitVec 512 → BitVec 512 → BitVec 512 → BitVec 512)
    (hp : f.pn = 0) (ht : types.contains f.ty.toNat = true) :
    d.vec t f types op = d.withV t f.d (op f.ty.toNat (d.vreg t f.d) (d.vreg t f.a) (d.vreg t f.b)) :=
  Dev.instr_vector h (legal_true (by simp only [hp, ht]; rfl) _)

theorem Dev.vec_reserved {f : VecF} {types : List Nat} (op : Nat → BitVec 512 → BitVec 512 → BitVec 512 → BitVec 512)
    (hf : f.pn ≠ 0 ∨ types.contains f.ty.toNat = false) : d.vec t f types op = d.except t 1 0 :=
  Dev.instr_illegal h rfl (by
    rcases hf with hf | hf
    · rw [beq_false_of_ne hf, Bool.false_and]
    · rw [hf, Bool.and_false])

/-- A function of bounded error takes sixteen free values (log 12). -/
theorem Dev.vecFun_legal {f : VecF} (g : Nat → BitVec 32 → BitVec 32) (hp : f.pn = 0) (ht : f.ty = 0) :
    d.vecFun t f g = Dev.withV { d with freeCtr := d.freeCtr + 16 } t f.d (vfun d.freeCtr g (d.vreg t f.a)) := by
  have runs : Dev.runnable { d with freeCtr := d.freeCtr + 16 } t = true := h
  rw [Dev.vecFun, if_pos h]
  exact Dev.vec_legal runs _ hp (by rw [ht]; rfl)

theorem Dev.vecCvt_legal {f : VecF} (hp : f.pn = 0) (ht : f.ty = 0) (hb : f.b.toNat < 16) :
    d.vecCvt t f = d.withV t f.d (vcvt f.b.toNat (d.vreg t f.a)) :=
  Dev.instr_vector h (legal_true (by simp [hp, ht, hb]) _)

theorem Dev.vecSel_legal {f : VecF} (ht : f.ty.toNat < 3) :
    d.vecSel t f = d.withV t f.d (if (d.thr t).rp f.pn.toNat then d.vreg t f.a else d.vreg t f.b) :=
  Dev.instr_vector h (legal_true (decide_eq_true ht) _)

end

/-- A lane type other than the one that Table 8 leaves undefined. -/
theorem laneType_defined {ty : BitVec 2} (h : ty ≠ 3) : [0, 1, 2].contains ty.toNat = true := by
  revert ty; decide

theorem laneType_lt {ty : BitVec 2} (h : ty ≠ 3) : ty.toNat < 3 := by bv_omega

theorem laneType_float {ty : BitVec 2} (h : ty = 0 ∨ ty = 1) : [0, 1].contains ty.toNat = true := by
  rcases h with h | h <;> rw [h] <;> rfl

theorem laneType_notFloat {ty : BitVec 2} (h : ty = 2 ∨ ty = 3) : [0, 1].contains ty.toNat = false := by
  rcases h with h | h <;> rw [h] <;> rfl

/-- A lane-wise or horizontal instruction gives its operation's result. -/
theorem vec_gives {s : State} {t : Fin 512} {c : Instr} (f : VecF) {types : List Nat}
    (op : Nat → BitVec 512 → BitVec 512 → BitVec 512 → BitVec 512) (run : exec c s = s.thread t fun d => d.vec t f types op)
    (h : s.d.issues t = true) (hp : f.pn = 0) (ht : types.contains f.ty.toNat = true) :
    Gives s c (s.d.withV t f.d (op f.ty.toNat (s.d.vreg t f.d) (s.d.vreg t f.a) (s.d.vreg t f.b))) :=
  thread_vector run h (Dev.vec_legal (Dev.issues_runnable h) op hp ht) rfl

theorem vecFun_gives {s : State} {t : Fin 512} {c : Instr} (f : VecF) (g : Nat → BitVec 32 → BitVec 32)
    (run : exec c s = s.thread t fun d => d.vecFun t f g) (h : s.d.issues t = true) (hp : f.pn = 0) (ht : f.ty = 0) :
    Gives s c (Dev.withV { s.d with freeCtr := s.d.freeCtr + 16 } t f.d (vfun s.d.freeCtr g (s.d.vreg t f.a))) :=
  thread_vector run h (Dev.vecFun_legal (Dev.issues_runnable h) g hp ht) rfl

/-- Settles O10: each instruction writes its operation of old vd, va and vb. -/
theorem vectorInstructionResults : Obligations.VectorInstructionResults := by
  intro s t vd a b ty hi d o x y f g e
  have hr := Dev.issues_runnable hi
  refine ⟨fun h => ?_, fun h => ?_, fun h => ?_, fun h hb => ?_, fun pn h => ?_⟩
  · have ht := laneType_defined h
    exact ⟨vec_gives f vadd rfl hi rfl ht, vec_gives f vmax rfl hi rfl ht,
      vec_gives f vshuf rfl hi rfl ht⟩
  · have ht := laneType_float h
    exact ⟨vec_gives f vmul rfl hi rfl ht, vec_gives f vfma rfl hi rfl ht,
      vec_gives f vrmax rfl hi rfl ht, vec_gives f vrsum rfl hi rfl ht⟩
  · exact ⟨vecFun_gives f exp2F rfl hi rfl h, vecFun_gives f rsqrtF rfl hi rfl h,
      vecFun_gives f rcpF rfl hi rfl h⟩
  · exact thread_vector rfl hi (Dev.vecCvt_legal hr rfl h hb) rfl
  · exact thread_vector rfl hi (Dev.vecSel_legal hr (laneType_lt h)) rfl

/-! ## Lanes (07 R333, Tables 7 and 8) -/

/-- Lane i of the number that lanes of w bits make up. -/
theorem packed_lane (w : Nat) (ls : List Nat) (i : Nat) (hi : i < ls.length) :
    (ls.foldr (fun x a => a * 2 ^ w + x % 2 ^ w) 0) >>> (w * i) % 2 ^ w = ls[i] % 2 ^ w := by
  have pos : 0 < 2 ^ w := Nat.two_pow_pos w
  induction ls generalizing i with
  | nil => exact absurd hi (Nat.not_lt_zero i)
  | cons x r ih =>
    rw [List.foldr_cons]
    cases i with
    | zero => simp
    | succ j =>
      have above (n : Nat) : (n * 2 ^ w + x % 2 ^ w) / 2 ^ w = n := by
        rw [Nat.mul_comm, Nat.mul_add_div pos, Nat.div_eq_of_lt (Nat.mod_lt x pos), Nat.add_zero]
      rw [Nat.mul_succ, Nat.add_comm (w * j), Nat.shiftRight_add, Nat.shiftRight_eq_div_pow _ w,
        above]
      exact ih j (Nat.lt_of_succ_lt_succ hi)

/-- A lane below bit 512 is the lane of the number before it is cut to 512 bits. -/
theorem lane_ofNat {w i : Nat} (n : Nat) (h : w * i + w ≤ 512) : lane (BitVec.ofNat 512 n) w i = n >>> (w * i) % 2 ^ w := by
  refine Nat.eq_of_testBit_eq fun j => ?_
  simp only [lane, BitVec.toNat_ofNat, Nat.testBit_mod_two_pow, Nat.testBit_shiftRight]
  by_cases hj : j < w
  · simp [show w * i + j < 512 by omega]
  · simp [hj]

/-- Lane i of a vector made of lanes is the i-th of them, cut to the width of a lane. -/
theorem lane_ofLanes {w i : Nat} (f : Nat → Nat) (n : Nat) (hi : i < n) (hn : w * n ≤ 512) :
    lane (ofLanes w ((List.range n).map f)) w i = f i % 2 ^ w := by
  have fits : w * i + w ≤ 512 := le_trans (Nat.mul_le_mul_left w hi) hn
  rw [ofLanes, lane_ofNat _ fits, packed_lane w _ i (by simpa using hi)]
  simp

theorem lane_lanes (w : Nat) (op : Nat → Nat → Nat → Nat) (o a b : BitVec 512) {i : Nat} (hi : i < 512 / w) :
    lane (lanes w op o a b) w i = op (lane o w i) (lane a w i) (lane b w i) % 2 ^ w :=
  lane_ofLanes _ _ hi (Nat.mul_div_le 512 w)

/-- Settles O11: a vector made of lanes has them for its lanes, and each is made of the operands' lanes there. -/
theorem vectorLanesAreIndependent : Obligations.VectorLanesAreIndependent := by
  refine ⟨fun w op o a b i _ hi => lane_lanes w op o a b hi, fun o a b i hi => ?_, fun ty o a b k hk => ?_⟩
  · rw [vadd, if_pos rfl]
    exact lane_lanes 64 _ o a b hi
  · have byte : lane a 8 (lane b 8 k % 64) < 2 ^ 8 := Nat.mod_lt _ (by decide)
    rw [vshuf, lane_ofLanes _ 64 hk (by decide), Nat.mod_eq_of_lt byte]

/-! ## Reserved fields (07 R312) -/

/-- Settles O12: a field that is reserved, or a form that does not exist, raises ILLEGAL. -/
theorem reservedFieldsRaiseIllegal : Obligations.ReservedFieldsRaiseIllegal := by
  intro s t hi illegal
  have hr := Dev.issues_runnable hi
  refine ⟨fun rd a b u rsv h => ?_, fun rd a i => ?_, fun rd a i h => ?_, fun f h => ?_, fun f h => ?_⟩
  · exact thread_raises (exec_add ..) hi (Dev.alu_reg_reserved hr rd a b u _ _ _ (h.imp_right fun hu => ⟨rfl, hu⟩))
  · exact thread_raises (exec_mulh ..) hi (Dev.alu_imm_reserved hr rd a i _ _ _ rfl)
  · exact thread_raises (exec_shl ..) hi (Dev.alu_imm_reserved hr rd a i _ _ _ (ImmKind.shift_none h))
  · exact thread_raises rfl hi (Dev.cmp_reserved hr h)
  · exact thread_raises rfl hi (Dev.vec_reserved hr vmul (h.imp_right laneType_notFloat))

end Machine
end Sys2Proof

/-!
PROOFS. Host DMA and the KV aperture (17 R805 to R819), and the writes that turn a landing zone on and off (10 R499) and set the
service reservation (10 R468); the statement O38.
-/
namespace Sys2Proof
namespace Machine

/-! ## The end of a host DMA request (17 R811, R816, R819) -/

theorem dmaRequestDone_gives {s : State} (id : BitVec 32) (res : DmaRes) (h : s.d.up? = true) :
    GivesLater s (.dmaRequestDone id res) (s.d.dmaDone id.toNat res) :=
  State.alive_eq (fun d => d.dmaDone id.toNat res) h

/-- The device without the requests of a number. -/
def Dev.dmaTaken (d : Dev) (id : Nat) : Dev := { d with dma := d.dma.filter fun q => !(q.id == id) }

/-- A request that is no zone's and ends well has its own effect alone. -/
theorem Dev.dmaDone_ok {d : Dev} {id : Nat} {r : DmaReq} (data : List Byte) (h : d.dma.find? (fun r => r.id == id) = some r)
    (hz : (d.dmaTaken id).zoneStand r.use = none) : d.dmaDone id (.ok data) = (d.dmaTaken id).dmaOk r data := by
  unfold Dev.dmaTaken at hz ⊢
  simp only [Dev.dmaDone, h, hz]

/-- A request that fails is sent again or failed for good. -/
theorem Dev.dmaDone_fail {d : Dev} {id : Nat} {r : DmaReq} (e : DmaErr) (h : d.dma.find? (fun r => r.id == id) = some r) :
    d.dmaDone id (.fail e) = (d.dmaTaken id).dmaFail r e := by
  simp only [Dev.dmaDone, h]
  rfl

section
variable {d : Dev} {id : Nat} {r : DmaReq} {w : Nat}

/-- A fetch of entries that ends well moves HEAD past them, takes each, and the fetch goes on. -/
theorem Dev.dmaDone_fetched {n : Nat} (data : List Byte) (h : d.dma.find? (fun r => r.id == id) = some r)
    (hu : r.use = .cmdFetch w n) : d.dmaDone id (.ok data) = (d.dmaTaken id).entriesDone w n data := by
  rw [Dev.dmaDone_ok data h (by rw [hu]; rfl), Dev.dmaOk, hu]

/-- A payload that ends well makes its command ready to start. -/
theorem Dev.dmaDone_payload {opc : Nat} {e : CmdEntry} (data : List Byte) (h : d.dma.find? (fun r => r.id == id) = some r)
    (hu : r.use = .payload w opc e) : d.dmaDone id (.ok data) = (d.dmaTaken id).payloadDone w opc e data := by
  rw [Dev.dmaDone_ok data h (by rw [hu]; rfl), Dev.dmaOk, hu]

section
variable {n : Nat} {e : DmaErr} (hu : r.use = .cmdFetch w n)
include hu

/-- A fetch that fails for the first time is counted and sent again (R816). -/
theorem Dev.dmaFail_fetch_first (he : e ≠ .disabled) (ht : r.tries = 0) :
    d.dmaFail r e = { d.dmaCount e with dma := (d.dmaCount e).dma ++ [{ r with tries := 1 }] } := by
  simp only [Dev.dmaFail, hu, Dev.zoneStand, Dev.dmaTries, ht]
  exact if_pos ⟨Nat.one_pos, he⟩

/-- A fetch that fails for the second time is counted and stops the queue (R816). -/
theorem Dev.dmaFail_fetch_second (ht : r.tries = 1) : d.dmaFail r e = (d.dmaCount e).fetchStop w := by
  simp only [Dev.dmaFail, hu, Dev.zoneStand, Dev.dmaTries, Dev.dmaFailed, ht]
  exact if_neg fun h => Nat.lt_irrefl 1 h.1

end

end

/-! ## The KV aperture (17 R805 to R807) -/

/-- Function fn may reach its windows: the device is powered and READY, the function is enabled and awake, its stand's session
is open, and no low-power state holds the memory. -/
structure Dev.ApertureOpen (d : Dev) (fn : Nat) : Prop where
  powered : d.off = false
  running : d.board.mrst = false
  linked : d.board.perst = false
  awake : (d.fnCtl fn).d3 = false
  enabled : fn = 0 ∨ (d.std fn).funcEn = true
  ready : d.stageOf = 3
  configured : fn ≠ 0 ∨ d.cfgBad = false
  session : d.sesOpen fn = true
  memory : ¬ 2 ≤ d.modPower

section
variable {d d1 : Dev} {fn off n k x : Nat} {write : Bool} {data bs : List Byte} {bad : Bool} (h : d.ApertureOpen fn)
  (hn : (if write then data.length else n) ≠ 0) (hb : off % 4096 + (if write then data.length else n) ≤ 4096)
include h hn hb

/-- Nothing but the windows decides on an access of an open aperture that lies within a 4 KiB block. -/
theorem Dev.ApertureOpen.passes :
    ¬ (d.off ∨ d.board.mrst ∨ d.board.perst ∨ (d.fnCtl fn).d3 ∨ (fn ≠ 0 ∧ !(d.std fn).funcEn) ∨
        (if write then data.length else n) = 0 ∨ 4096 < off % 4096 + (if write then data.length else n)) ∧
      ¬ ((d.stageOf ≠ 3 ∧ !d.warm) ∨ (fn = 0 ∧ d.cfgBad)) ∧ ¬ (!d.sesOpen fn) := by
  obtain ⟨hoff, hm, hp, hd3, hen, hst, hcfg, hs, -⟩ := h
  refine ⟨?_, ?_, ?_⟩
  · simp only [hoff, hm, hp, hd3, hn, Nat.not_lt.2 hb, Bool.false_eq_true, false_or, or_false]
    rintro ⟨h0, he⟩
    simp [hen.resolve_left h0] at he
  · simp only [hst, ne_eq, not_true_eq_false, false_and, false_or]
    exact fun ⟨h0, hc⟩ => by simp [hcfg.resolve_left (not_not.2 h0)] at hc
  · simp [hs]

/-- An access that no window covers is counted as kind 2, and a read of it answers zeros. -/
theorem Dev.aperture_uncovered (hw : d.apWindow fn off = none) :
    d.aperture fn off write n data bad =
      if write then d.violate fn 2 spBar2 write off
      else (d.violate fn 2 spBar2 write off).emit (.readData fn (List.replicate (if write then data.length else n) 0#8)) := by
  obtain ⟨hgo, hready, hs⟩ := h.passes hn hb
  simp only [Dev.aperture, if_neg hgo, if_neg hready, if_neg hs, hw]

/-- An access that a window covers is the window's, and a read answers what the window gives. -/
theorem Dev.aperture_covered (hw : d.apWindow fn off = some (k, x))
    (ha : d.windowAccess fn k x write (if write then data.length else n) data bad = some (bs, d1)) :
    d.aperture fn off write n data bad = if write then d1 else d1.emit (.readData fn bs) := by
  obtain ⟨hgo, hready, hs⟩ := h.passes hn hb
  simp only [Dev.aperture, if_neg hgo, if_neg hready, if_neg hs, hw, if_neg h.memory, ha]

end

/-- A write to a window of a BUFFER tract that is not mirrored places the bytes in it. -/
theorem Dev.windowAccess_buffer {d : Dev} {w k x n i : Nat} {t : Tract} {data : List Byte} {bad : Bool}
    (hk : d.sfld w (0x3010 + 32 * k) 63 62 = 1)
    (ht : d.tractOf w (BitVec.ofNat 32 (d.sfld w (0x3010 + 32 * k) 31 0)) = some (i, t)) (hkind : t.kind = 0) (hmode : t.mode = 0)
    (hdata : data ≠ []) (hx : x + data.length ≤ t.len) :
    d.windowAccess w k x true n data bad = some ([], d.tractWrite t x data) := by
  have hall : data.take (t.len - x) = data := List.take_of_length_le (by omega)
  simp [Dev.windowAccess, hk, ht, hkind, hall, hdata, Dev.mirPlaced, hmode]

theorem kvApertureAccess_gives (s : State) (fn : Fin 32) (write : Bool) (off : BitVec 36) (size : BitVec 13) (data : List Byte)
    (bad : Bool) :
    GivesLater s (.kvApertureAccess fn write off size data bad) (s.d.aperture fn off.toNat write size.toNat data bad) := rfl

/-! ## The landing zone of a stand (10 R499) -/

/-- An accepted write of STD_LZ_CTL is the zone's own step, whatever else its row says. -/
theorem lzEnableWrite_gives {s : State} {fn st : Fin 32} {v : W64} {d : Dev} (h : WindowOpen s fn st 0x610)
    (hd : ∀ r, s.d.writeZone fn ⟨.stand, standOf fn st, 0x610⟩ r (0, 64) v = d) : GivesLater s (.lzEnableWrite fn st v) d :=
  GivesLater.of_eq (d := s.d.busWrite fn (winOff fn st 0x610) 8 v) rfl
    (Dev.busWrite_stand h rfl (by decide) (by decide +kernel) fun r => hd r)

section
variable {d : Dev} {f w : Nat} {r : RegRow} {v : W64}

/-- EN turns a zone on that is off, and forgets its failures. -/
theorem Dev.writeZone_on (hv : bitAt v 0 = true) (hz : bitAt (d.rd .stand w 0x610) 0 = false) :
    d.writeZone f ⟨.stand, w, 0x610⟩ r (0, 64) v =
      { ((d.setSfld w 0x618 8 8 0).setSfld w 0x610 0 0 1).setSfld w 0x618 1 0 1 with zoneFails := Tab.del d.zoneFails w } := by
  simp only [Dev.writeZone, hv, hz]
  rfl

/-- A zone that holds frames stays on (10 R499). -/
theorem Dev.writeZone_refused (hv : bitAt v 0 = false) (hz : bitAt (d.rd .stand w 0x610) 0 = true)
    (hf : d.usedIn (d.zoneFrames w) ≠ 0) : d.writeZone f ⟨.stand, w, 0x610⟩ r (0, 64) v = d.setSfld w 0x618 8 8 1 := by
  simp [Dev.writeZone, hv, hz, hf]

/-- A zone that is off, or holds no frame, is off after EN 0. -/
theorem Dev.writeZone_off (hv : bitAt v 0 = false)
    (hz : bitAt (d.rd .stand w 0x610) 0 = false ∨ d.usedIn (d.zoneFrames w) = 0) :
    d.writeZone f ⟨.stand, w, 0x610⟩ r (0, 64) v =
      ((d.setSfld w 0x618 8 8 0).setSfld w 0x610 0 0 0).setSfld w 0x618 1 0 0 := by
  have hno : ¬ (bitAt (d.rd .stand w 0x610) 0 = true ∧ d.usedIn (d.zoneFrames w) ≠ 0) := by
    rintro ⟨hon, hf⟩
    rcases hz with hz | hz
    · exact Bool.false_ne_true (hz.symm.trans hon)
    · exact hf hz
  simp [Dev.writeZone, hv, if_neg hno]

end

/-! ## The service reservation (10 R468, Table 4) -/

/-- Each cell's window reaches the one register, for the device-wide part of the TIE block is kept once (10 R506). -/
theorem Dev.target_svcRes (d : Dev) (c : Fin 16) : d.target (0x1000000 + c * 0x100000 + 0x60800) = .one ⟨.cell, 0, 0x60800⟩ := by
  have ha : (0x1000000 + (c : Nat) * 0x100000 + 0x60800) / 8 * 8 = 0x1000000 + c * 0x100000 + 0x60800 := by omega
  have hm : (0x1000000 + (c : Nat) * 0x100000 + 0x60800) % 0x100000 = 0x60800 := by omega
  simp only [Dev.target, ha, hm]
  iterate 8 rw [if_neg (by omega)]
  rw [if_pos (by omega)]
  rfl

theorem findRow_svcRes : findRow .cell 0x60800 = some ⟨0x60800, 1, 0x8, [⟨6, 0, .rwl, 0, .keepOld⟩]⟩ := by decide +kernel

/-- A write of TIE_SVC_RES is accepted only with the lock open. -/
theorem Dev.lockOpen_svcRes {d : Dev} {c : Fin 16}
    (h : d.hostVerdict 0 (0x1000000 + c * 0x100000 + 0x60800) 8 true = .ok) : d.lock = false := by
  have reach := (Dev.hostVerdict_of_ok true h rfl).symm.trans h
  have lane (o : Nat) : 0 < (laneOf o 8).1 + (laneOf o 8).2 ∧ (laneOf o 8).1 ≤ 6 := ⟨Nat.zero_lt_succ 63, Nat.zero_le 6⟩
  simpa using Dev.lockOpen_of_reach reach (d.target_svcRes c) findRow_svcRes (List.mem_singleton.2 rfl) rfl (lane _)

/-- A demand on a cell that is awake and not about to sleep changes nothing. -/
theorem Dev.demand_awake {d : Dev} {c : Nat} (hl : Tab.get? d.lpEnter c = none) (hp : d.cellPower c = 0) : d.demand c = d := by
  simp only [Dev.demand, hl, hp, if_true]

/-- A write that reaches TIE_SVC_RES through the window of a cell that needs no demand, with the lock open, stores a good size
and ignores another. -/
theorem Dev.doWrite_svcRes {d : Dev} {o c : Nat} (v : W64) (ht : d.target o = .one ⟨.cell, 0, 0x60800⟩) (hu : uniCell o = some c)
    (hd : d.demand c = d) (hl : d.lock = false) :
    d.doWrite 0 o 8 v =
      if bits v 6 0 < 16 ∨ 64 < bits v 6 0 ∨ bits v 6 0 % 4 ≠ 0 then d
      else (d.cfgStore fun b => { b with svcRes := bits v 6 0 }).setFld .cell 0 0x60800 6 0 (bits v 6 0) := by
  simp [Dev.doWrite, ht, hu, hd, hl, Dev.regWrite, findRow_svcRes, Dev.writeCell, Dev.writeSvcRes, laneOf, busWord]

theorem tieSvcResWrite_gives {s : State} {c : Fin 16} (v : W64)
    (h : s.d.hostVerdict 0 (0x1000000 + c * 0x100000 + 0x60800) 8 true = .ok) (hl : Tab.get? s.d.lpEnter c = none)
    (hp : s.d.cellPower c = 0) :
    GivesLater s (.tieSvcResWrite 0 c v)
      (if bits v 6 0 < 16 ∨ 64 < bits v 6 0 ∨ bits v 6 0 % 4 ≠ 0 then s.d
      else (s.d.cfgStore fun b => { b with svcRes := bits v 6 0 }).setFld .cell 0 0x60800 6 0 (bits v 6 0)) := by
  have hu : uniCell (0x1000000 + (c : Nat) * 0x100000 + 0x60800) = some c.val := by
    have hc : (0x1000000 + (c : Nat) * 0x100000 + 0x60800 - 0x1000000) / 0x100000 = c := by omega
    rw [uniCell, if_pos (by omega), hc]
  refine GivesLater.of_eq (d := s.d.busWrite 0 (0x1000000 + c * 0x100000 + 0x60800) 8 v) rfl ?_
  rw [Dev.busWrite_ok v h]
  exact Dev.doWrite_svcRes v (s.d.target_svcRes c) hu (Dev.demand_awake hl hp) (Dev.lockOpen_svcRes h)

/-- Settles O38: each end of a request is what its use makes of it, an access of an open aperture is its window's, and an accepted
write of a zone or of the service reservation is its register's own step. -/
theorem dmaAndAperture : Obligations.DmaAndAperture := by
  intro s
  refine ⟨fun id r hup hr => ?_, fun fn off size data hoff hm hp hd3 hen hst hcfg hs hpow => ?_, fun fn st v hok => ?_,
    fun fn c v hok h0 hl hp => ?_⟩
  · refine ⟨fun w n data hu => ?_, fun w opc e data hu => ?_, fun w n hu => ⟨fun ht => ?_, fun ht => ?_⟩⟩
    · exact (dmaRequestDone_gives id _ hup).of_eq (Dev.dmaDone_fetched data hr hu)
    · exact (dmaRequestDone_gives id _ hup).of_eq (Dev.dmaDone_payload data hr hu)
    · exact (dmaRequestDone_gives id _ hup).of_eq ((Dev.dmaDone_fail .timeout hr).trans (Dev.dmaFail_fetch_first hu (by decide) ht))
    · exact (dmaRequestDone_gives id _ hup).of_eq ((Dev.dmaDone_fail .timeout hr).trans (Dev.dmaFail_fetch_second hu ht))
  · have hopen : s.d.ApertureOpen fn :=
      ⟨hoff, hm, hp, hd3, hen.imp_left (congrArg Fin.val), hst, hcfg.imp_left Fin.val_ne_of_ne, hs, Nat.not_le.2 hpow⟩
    refine ⟨fun hn hb => ?_, fun hn hb k x t i hw hk ht hkind hmode hx => ?_⟩
    · have hn' : size.toNat ≠ 0 := fun e => hn (BitVec.eq_of_toNat_eq e)
      exact ⟨fun k x bs d1 hw ha => (kvApertureAccess_gives ..).of_eq (Dev.aperture_covered hopen hn' hb hw ha),
        fun hw => (kvApertureAccess_gives ..).of_eq (Dev.aperture_uncovered hopen hn' hb hw)⟩
    · exact (kvApertureAccess_gives ..).of_eq (Dev.aperture_covered (n := size.toNat) hopen (mt List.length_eq_zero_iff.1 hn) hb hw
        (Dev.windowAccess_buffer hk ht hkind hmode hn hx))
  · exact ⟨fun hv hz => lzEnableWrite_gives hok fun _ => Dev.writeZone_on hv hz,
      fun hv hz hf => lzEnableWrite_gives hok fun _ => Dev.writeZone_refused hv hz hf,
      fun hv hz => lzEnableWrite_gives hok fun _ => Dev.writeZone_off hv hz⟩
  · subst h0
    have write := tieSvcResWrite_gives v hok hl hp
    exact ⟨fun h16 h64 h4 => write.of_eq (if_neg (by omega)), fun hbad => write.of_eq (if_pos hbad)⟩

end Machine
end Sys2Proof

/-!
PROOFS. Request packets of verified sources (11 R526, R538, R541, R546, R547, R550, R557, R571): what a packet that arrives comes
to, the checks that a request passes or fails, and what each type does; the statement O41.
-/
namespace Sys2Proof
namespace Machine

/-! ## A packet that arrives (11 R518 to R526, R532) -/

section
variable {s : State} {p : Fin 16} {k : Pkt}

/-- What reaches this node is handed on. -/
theorem Dev.arrive_reaches (f : Dev → Dev) (h : Reaches s p k) : s.d.arrive p k f = f s.d := by
  obtain ⟨-, hact, hhalt, hcls, hnode, hcrc⟩ := h
  simp [Dev.arrive, hact, hhalt, hcls, hnode, hcrc]

/-- A packet of a verified source with its context on chip and room for it is served. -/
theorem Dev.rxPkt_taken {x : Conn} (h : Taken s p k x) :
    s.d.rxPkt p k = (s.d.touchConn k.r.dstConn.toNat).servePkt p k.r.dstConn.toNat x k := by
  obtain ⟨hreach, hver, hconn, hres, hbuf⟩ := h
  obtain ⟨y, hver⟩ := Option.isSome_iff_exists.1 hver
  rw [Dev.rxPkt, Dev.arrive_reaches _ hreach]
  simp [hver, hconn, hres, hbuf]

theorem taken_gives {c : Instr} {x : Conn} (run : exec c s = s.served fun d => d.rxPkt p k) (h : Taken s p k x) :
    GivesLater s c ((s.d.touchConn k.r.dstConn.toNat).servePkt p k.r.dstConn.toNat x k) :=
  (run.trans (State.served_eq _ h.1.1)).trans (by rw [Dev.rxPkt_taken h])

end

theorem reqPkt_ty {ty : Nat} (r : Route) (h : ReqHdr) (data : List Byte) (icrc : BitVec 32) (hty : ty < 16) :
    (reqPkt ty r h data icrc).ty.toNat = ty :=
  Nat.mod_eq_of_lt hty

/-! ## Requests (11 R546, R571) -/

/-- The types of the requests that reach a tract: PUT, GET, ATOM, NOTE and LAND (11 Table 3). -/
def reachesTract (ty : Nat) : Bool := ty == tyPut || ty == tyGet || ty == tyAtom || ty == tyNote || ty == tyLand

theorem reachesTract_lt {ty : Nat} (h : reachesTract ty = true) : ty < 16 ∧ ty ≠ tyGrsp ∧ ty ≠ tyCtrl := by
  simp only [reachesTract, tyPut, tyGet, tyAtom, tyNote, tyLand, tyGrsp, tyCtrl, Bool.or_eq_true, beq_iff_eq] at h ⊢
  omega

/-- A request of a message of the window that has not finished, on an OPEN connection; its message is opened as m in e1. -/
structure Dev.Opens (e : Dev) (c : Nat) (x : Conn) (ty : Nat) (r : Route) (h : ReqHdr) (data : List Byte) (n : Nat) (m : InMsg)
    (e1 : Dev) : Prop where
  head : e.checkHead x ty r h data = .inr n
  window : x.rxBase ≤ n
  unfinished : Tab.has x.fin n = false
  opened : x.st = 2
  message : e.openRx c n ty r h = (m, e1)

section
variable {e e1 : Dev} {p c n ty : Nat} {x : Conn} {r : Route} {h : ReqHdr} {data : List Byte} (icrc : BitVec 32) {m : InMsg}
  (hty : reachesTract ty = true)
include hty

/-- A request that fails a check of its header is refused. -/
theorem Dev.servePkt_badHead {why : Refused} (hw : e.checkHead x ty r h data = .inl why) :
    e.servePkt p c x (reqPkt ty r h data icrc) =
      e.refuse p c x (reqPkt ty r h data icrc) (e.pktIndex x.stand ty h) why := by
  obtain ⟨hlt, hgrsp, -⟩ := reachesTract_lt hty
  have hk := reqPkt_ty r h data icrc hlt
  simp only [reqPkt] at hk ⊢
  simp only [Dev.servePkt, hk, if_neg hgrsp, Dev.serveReq, hw, Sum.elim_inl]

variable (ho : e.Opens c x ty r h data n m e1)
include ho

/-- A request of an open message comes to the checks of its key. -/
theorem Dev.servePkt_admits :
    e.servePkt p c x (reqPkt ty r h data icrc) = e.admitReq p c n x (reqPkt ty r h data icrc) h data := by
  obtain ⟨hhead, hwin, hfin, hst, -⟩ := ho
  obtain ⟨hlt, hgrsp, hctrl⟩ := reachesTract_lt hty
  have hk := reqPkt_ty r h data icrc hlt
  simp only [reqPkt] at hk ⊢
  simp [Dev.servePkt, hk, if_neg hgrsp, Dev.serveReq, hhead, Dev.serveMsg, hfin, hst, hctrl, Nat.not_lt.2 hwin]

/-- A packet placed before is acknowledged again (R547). -/
theorem Dev.admitReq_again (hg : ty ≠ tyGet) (ha : ty ≠ tyAtom) (hi : e.pktIndex x.stand ty h ∈ m.got) :
    let m2 : InMsg := { m with
      unacked := m.unacked.erase (e.pktIndex x.stand ty h) ++ [e.pktIndex x.stand ty h], ece := m.ece || r.ce }
    e.admitReq p c n x (reqPkt ty r h data icrc) h data = (e1.setRx c m2).ackNow c m2 false := by
  have hk := reqPkt_ty r h data icrc (reachesTract_lt hty).1
  simp only [reqPkt] at hk ⊢
  simp [Dev.admitReq, hk, ho.message, hi, hg, ha]

/-- A request whose key fails a check is refused (R571). -/
theorem Dev.admitReq_badKey {why : Refused} (hi : e.pktIndex x.stand ty h ∉ m.got)
    (hw : e1.checkKey x.stand h.key ty r.notice (some r.epoch.toNat) = .inl why) :
    e.admitReq p c n x (reqPkt ty r h data icrc) h data =
      e1.refuse p c x (reqPkt ty r h data icrc) (e.pktIndex x.stand ty h) why := by
  have hk := reqPkt_ty r h data icrc (reachesTract_lt hty).1
  simp only [reqPkt] at hk ⊢
  simp [Dev.admitReq, hk, ho.message, hi, hw]

end

/-! ## What a request does that passes its checks (11 R538, R547, R550, R557) -/

/-- A packet not placed before, on a BUFFER or STAGE tract without mirroring, within bounds and with the rights it needs. -/
structure Dev.Passes (e e1 : Dev) (x : Conn) (ty : Nat) (r : Route) (h : ReqHdr) (m : InMsg) (i : Nat) (t : Tract) : Prop where
  fresh : e.pktIndex x.stand ty h ∉ m.got
  key : e1.checkKey x.stand h.key ty r.notice (some r.epoch.toNat) = .inr (i, t)
  kind : t.kind ≤ 1
  unmirrored : t.mode = 0
  bounds : e1.outOfBounds t ty r.notice h.offset.toNat h.plen.toNat m.base.toNat m.len = false

/-- Bytes placed in a tract without mirroring send no mirror write. -/
theorem Dev.mirPlaced_unmirrored (d : Dev) (i off : Nat) {t : Tract} (bs : List Byte) (hm : t.mode = 0) :
    d.mirPlaced i t off bs = ([], d) := if_pos (.inl hm)

/-- A PUT or NOTE to a BUFFER or STAGE tract without mirroring writes its bytes at OFFSET. -/
theorem Dev.placePut_bytes (d : Dev) (c i : Nat) {t : Tract} (m : InMsg) (h : ReqHdr) (data : List Byte) (hk : t.kind ≤ 1)
    (hm : t.mode = 0) : d.placePut c i t m h data = .inr (m, (d.tractWrite t h.offset.toNat data).setRx c m) := by
  have hkind : ¬ (t.kind = 2 ∨ t.kind = 3) ∧ t.kind ≠ 7 := by omega
  simp only [Dev.placePut, if_neg hkind.1, if_neg hkind.2, Dev.mirPlaced_unmirrored _ _ _ _ hm, List.append_nil]

section
variable {e e1 : Dev} {p c n ty : Nat} {x : Conn} {r : Route} {h : ReqHdr} {data : List Byte} (icrc : BitVec 32) {m : InMsg}
  {i : Nat} {t : Tract} (ho : e.Opens c x ty r h data n m e1)
include ho

section
variable (hp : e.Passes e1 x ty r h m i t)
include hp

/-- A PUT or NOTE writes its bytes and counts as placed. -/
theorem Dev.admitReq_write (hty : ty = tyPut ∨ ty = tyNote) :
    e.admitReq p c n x (reqPkt ty r h data icrc) h data =
      ((e1.tractWrite t h.offset.toNat data).setRx c m).placed p c m (reqPkt ty r h data icrc) (e.pktIndex x.stand ty h)
        h.plen.toNat := by
  obtain ⟨hnew, hkey, hkind, hmode, hb⟩ := hp
  have h8 : t.kind ≠ 8 := by omega
  have hother : ty < 16 ∧ ty ≠ tyGet ∧ ty ≠ tyAtom ∧ ty ≠ tyLand := by rcases hty with rfl | rfl <;> decide
  obtain ⟨hlt, hget, hatom, hland⟩ := hother
  have hk := reqPkt_ty r h data icrc hlt
  simp only [reqPkt] at hk ⊢
  simp [Dev.admitReq, hk, ho.message, hnew, hkey, h8, hb, hmode, hget, hatom, hland,
    Dev.placePut_bytes e1 c i m h data hkind hmode]

/-- A GET answers with the bytes that it reads and counts them; the last packet finishes the message. -/
theorem Dev.admitReq_get (hty : ty = tyGet) (hbad : e1.doing.badRead = false) :
    let m2 : InMsg := { m with got := m.got ++ [e.pktIndex x.stand ty h], count := m.count + h.plen.toNat }
    let d2 := (e1.sendGrsp c x (reqPkt ty r h data icrc) h (e1.tractRead t h.offset.toNat h.plen.toNat)).setRx c m2
    e.admitReq p c n x (reqPkt ty r h data icrc) h data = if m.len ≤ m2.count then d2.finish c n true else d2 := by
  subst hty
  obtain ⟨hnew, hkey, hkind, hmode, hb⟩ := hp
  have h8 : t.kind ≠ 8 := by omega
  have hk := reqPkt_ty r h data icrc (ty := tyGet) (by decide)
  have hland : tyGet ≠ tyLand := by decide
  simp only [reqPkt] at hk ⊢
  simp [Dev.admitReq, hk, ho.message, hnew, hkey, h8, hb, hbad, hland]

/-- An ATOM does its operation and is answered with the old value. -/
theorem Dev.admitReq_atom (hty : ty = tyAtom) :
    let a := e1.atomic t h.offset.toNat (bits h.arg 9 0) data
    e.admitReq p c n x (reqPkt ty r h data icrc) h data = a.2.answerAtom c n r.tc.toNat r.ce a.1 := by
  subst hty
  obtain ⟨hnew, hkey, hkind, hmode, hb⟩ := hp
  have h8 : t.kind ≠ 8 := by omega
  have hk := reqPkt_ty r h data icrc (ty := tyAtom) (by decide)
  have hother : tyAtom ≠ tyLand ∧ tyAtom ≠ tyGet := by decide
  simp only [reqPkt] at hk ⊢
  simp [Dev.admitReq, hk, ho.message, hnew, hkey, h8, hb, hmode, hother, Dev.mirPlaced_unmirrored]

end

/-- A LAND to a LANDING tract without mirroring whose tokens find their place counts as placed. -/
theorem Dev.admitReq_land {ns : List Nat} {d2 : Dev} (hty : ty = tyLand) (hnew : e.pktIndex x.stand ty h ∉ m.got)
    (hkey : e1.checkKey x.stand h.key ty r.notice (some r.epoch.toNat) = .inr (i, t)) (hkind : t.kind = 4) (hmode : t.mode = 0)
    (hlayer : ∀ key pr, e1.landSeq x.stand h.offset = some (key, pr) → bits h.arg 7 0 < pr.layers)
    (hplace : e1.placeLand i t h data = .inr (ns, d2)) :
    e.admitReq p c n x (reqPkt ty r h data icrc) h data =
      d2.placed p c { m with mirrors := m.mirrors ++ ns } (reqPkt ty r h data icrc) (e.pktIndex x.stand ty h) h.plen.toNat := by
  subst hty
  have hk := reqPkt_ty r h data icrc (ty := tyLand) (by decide)
  have hother : tyLand ≠ tyGet ∧ tyLand ≠ tyAtom := by decide
  simp only [reqPkt] at hk ⊢
  rcases hs : e1.landSeq x.stand h.offset with _ | ⟨key, pr⟩
  · simp [Dev.admitReq, hk, ho.message, hnew, hkey, hkind, hmode, hother, hplace, hs]
  · have hl : ¬ pr.layers ≤ bits h.arg 7 0 := Nat.not_le.2 (hlayer key pr hs)
    simp [Dev.admitReq, hk, ho.message, hnew, hkey, hkind, hmode, hother, hplace, hs, hl]

end

theorem Dev.openRx_doing {e e1 : Dev} {c n ty : Nat} {r : Route} {h : ReqHdr} {m : InMsg} (ho : e.openRx c n ty r h = (m, e1)) :
    e1.doing = e.doing := by
  have he : (e.openRx c n ty r h).2.doing = e.doing := by
    rw [Dev.openRx]
    split <;> rfl
  rwa [ho] at he

/-- GET with no sector that cannot be read. -/
theorem get_clean {s : State} {p : Fin 16} {r : Route} {h : ReqHdr} {data : List Byte} {icrc : BitVec 32}
    (hbad : s.d.doing.badRead = false) :
    exec (.get p r h data icrc false) s = s.served fun d => d.rxPkt p (reqPkt tyGet r h data icrc) := by
  have run : exec (.get p r h data icrc false) s = execGet p r h data icrc false s := rfl
  rw [run, execGet, State.served, State.served, Dev.reading_false hbad]

/-- Settles O41: a request that is taken is refused at a check of its header, or comes to admission, where the packets placed
before, the checks of its key and its type decide. -/
theorem requestPacketsServed : Obligations.RequestPacketsServed := by
  intro s p r h data icrc x n i t c e served passes
  have opens {ty : Nat} {m : InMsg} {e1 : Dev} (hs : served ty m e1) : e.Opens c x ty r h data n m e1 := by
    obtain ⟨-, hhead, hwin, hfin, hst, hopen⟩ := hs
    exact ⟨hhead, hwin, hfin, hst, hopen⟩
  have admits {ci : Instr} {ty : Nat} {m : InMsg} {e1 : Dev} (hs : served ty m e1) (hty : reachesTract ty = true)
      (run : exec ci s = s.served fun d => d.rxPkt p (reqPkt ty r h data icrc)) :
      GivesLater s ci (e.admitReq p c n x (reqPkt ty r h data icrc) h data) :=
    (taken_gives run hs.1).of_eq (Dev.servePkt_admits icrc hty (opens hs))
  have checked {ty : Nat} {m : InMsg} {e1 : Dev} (hp : passes ty m e1) : e.Passes e1 x ty r h m i t := by
    obtain ⟨-, hnew, hkey, hkind, hmode, hb⟩ := hp
    exact ⟨hnew, hkey, hkind, hmode, hb⟩
  refine ⟨fun m e1 hp => ?_, fun m e1 hp => ?_, fun m e1 hp hbad => ?_, fun m e1 hp => ?_,
    fun m e1 ns d2 hs hnew hkey hkind hmode hlayer hplace => ?_, fun m e1 hs hi => ?_, fun why ht hw => ?_,
    fun m e1 why hs hnew hw => ?_⟩
  · exact (admits hp.1 (by decide) rfl).of_eq (Dev.admitReq_write icrc (opens hp.1) (checked hp) (.inl rfl))
  · exact (admits hp.1 (by decide) rfl).of_eq (Dev.admitReq_write icrc (opens hp.1) (checked hp) (.inr rfl))
  · have hbad1 : e1.doing.badRead = false := by
      rw [Dev.openRx_doing (opens hp.1).message]
      exact hbad
    have give := (admits hp.1 (by decide) (get_clean hbad)).of_eq (Dev.admitReq_get icrc (opens hp.1) (checked hp) rfl hbad1)
    exact ⟨fun hl => give.of_eq (if_neg (Nat.not_le.2 hl)), fun hl => give.of_eq (if_pos hl)⟩
  · exact (admits hp.1 (by decide) rfl).of_eq (Dev.admitReq_atom icrc (opens hp.1) (checked hp) rfl)
  · exact (admits hs (by decide) rfl).of_eq (Dev.admitReq_land icrc (opens hs) rfl hnew hkey hkind hmode hlayer hplace)
  · exact (admits hs (by decide) rfl).of_eq (Dev.admitReq_again icrc (by decide) (opens hs) (by decide) (by decide) hi)
  · exact (taken_gives rfl ht).of_eq (Dev.servePkt_badHead icrc (by decide) hw)
  · exact (admits hs (by decide) rfl).of_eq (Dev.admitReq_badKey icrc (by decide) (opens hs) hnew hw)

end Machine
end Sys2Proof

/-!
PROOFS. Host commands on records, tracts and connections, and the events that end them (11 R524, R528, R535 to R544, R552 to
R554): the statement O35.
-/
namespace Sys2Proof
namespace Machine

/-! ## What the commands and events give -/

section
variable {s : State} (h : s.d.serving = true)
include h

theorem qrec_gives (st : Fin 32) (e : CmdEntry) : GivesLater s (.qrec st e) (s.d.hQrec st e) :=
  State.served_eq (fun d => d.hQrec st e) h

theorem wrec_gives (st : Fin 32) (e : CmdEntry) : GivesLater s (.wrec st e) (s.d.hWrec st e) :=
  State.served_eq (fun d => d.hWrec st e) h

theorem tractRegister_gives (st : Fin 32) (e : CmdEntry) : GivesLater s (.tractRegister st e) (s.d.hTractRegister st e) :=
  State.served_eq (fun d => d.hTractRegister st e) h

theorem tractRevoke_gives (st : Fin 32) (e : CmdEntry) : GivesLater s (.tractRevoke st e) (s.d.hTractRevoke st e) :=
  State.served_eq (fun d => d.hTractRevoke st e) h

theorem connOpen_gives (st : Fin 32) (e : CmdEntry) : GivesLater s (.connOpen st e) (s.d.hConnOpen st e) :=
  State.served_eq (fun d => d.hConnOpen st e) h

theorem connClose_gives (st : Fin 32) (e : CmdEntry) : GivesLater s (.connClose st e) (s.d.hConnClose st e) :=
  State.served_eq (fun d => d.hConnClose st e) h

theorem tractRevoked_gives (i : BitVec 16) : GivesLater s (.tractRevoked i) (s.d.tractRevoked i.toNat) :=
  State.served_eq (fun d => d.tractRevoked i.toNat) h

theorem tractHoldExpiry_gives (i : BitVec 16) : GivesLater s (.tractHoldExpiry i) (s.d.tractHoldEnd i.toNat) :=
  State.served_eq (fun d => d.tractHoldEnd i.toNat) h

theorem connCloseSend_gives (c : BitVec 16) : GivesLater s (.connCloseSend c) (s.d.closeSend c.toNat) :=
  State.served_eq (fun d => d.closeSend c.toNat) h

theorem closeAckTimeout_gives (c : BitVec 16) : GivesLater s (.closeAckTimeout c) (s.d.closeAckTimeout c.toNat) :=
  State.served_eq (fun d => d.closeAckTimeout c.toNat) h

end

section
variable {d : Dev} {s a : Nat} {e : CmdEntry} (hrst : (d.std s).rst = false)
include hrst

/-! ## QREC and WREC (11 R552 to R554) -/

/-- A query record of whole units with room and good reply nodes enters the ring (R552, R554). -/
theorem Dev.hQrec_enters (ha : e.actor s 256 1048576 = some a) (hl : e.payload.length % 256 = 0)
    (hr : recNum e.payload 86 2 * 256 = e.payload.length)
    (hu : (d.popFetched s 0x08 e).ringUsed a + e.payload.length ≤ 1048576) (hn : (d.popFetched s 0x08 e).replyOk a e.payload = true) :
    d.hQrec s e = ((d.popFetched s 0x08 e).enterRing a 2 e.payload).postCmd s e.tag 0x08 0 0 0 0 := by
  refine (Dev.hostCmd_takes _ hrst ha).trans ?_
  simp [hl, hr, Nat.not_lt.2 hu, hn]

/-- A work order with room and a good reply node enters the queue (R553, R554). -/
theorem Dev.hWrec_enters (ha : e.actor s 64 64 = some a) (hu : (d.popFetched s 0x09 e).wqUsed a < 4096)
    (hn : (d.popFetched s 0x09 e).wreplyOk a e.payload = true) :
    d.hWrec s e = ((d.popFetched s 0x09 e).enterWq a 2 e.payload).postCmd s e.tag 0x09 0 0 0 0 := by
  refine (Dev.hostCmd_takes _ hrst ha).trans ?_
  simp [Nat.not_lt.2 hu, hn]

end

/-! ## TRACT (11 R535 to R544) -/

@[simp] theorem Dev.tract?_setTract (d : Dev) (i : Nat) (t : Tract) : (d.setTract i t).tract? i = some t := by
  simp [Dev.tract?]

/-- Units of 64 KiB that a registration takes: those of a BUFFER or a MERGE tract (11 Table 11). -/
def tractUnits (bs : List Byte) : Nat :=
  if recNum bs 1 1 = 0 ∨ recNum bs 1 1 = 5 then ceilDiv (recNum bs 24 8) 65536 else 0

/-- GEN of the next tract at an INDEX (R536). -/
def Dev.nextGen (d : Dev) (i : Nat) : Nat := match d.tract? i with
  | some o => (o.gen + 1) % 256
  | none => 0

/-- The tract that a good record of stand a without mirroring makes at an INDEX, over frames fs (11 Table 10). -/
def Dev.tractMade (d : Dev) (a i : Nat) (bs : List Byte) (fs : List Nat) : Tract :=
  { Tract.none_ with
    kind := recNum bs 1 1, rights := recNum bs 2 1, mode := 0, partner := recNum bs 4 2, stand := a, cell := recNum bs 6 2,
    base := recNum bs 16 8, len := recNum bs 24 8, frames := fs, st := .active, nextInt := d.mirNow, gen := d.nextGen i,
    check := d.hint 256 }

theorem Dev.newTract_eq (d : Dev) (i : Nat) (t : Tract) :
    d.newTract i t = d.took.setTract i { t with gen := d.nextGen i, check := d.hint 256 } := rfl

theorem Dev.tract?_of_tractOf {d : Dev} {a i : Nat} {k : BitVec 32} {t : Tract} (h : d.tractOf a k = some (i, t)) :
    d.tract? i = some t ∧ t.st = .active := by
  unfold Dev.tractOf at h
  split at h
  · next u hu =>
    split at h
    · next hc =>
      obtain ⟨rfl, rfl⟩ := Prod.mk.inj (Option.some.inj h)
      exact ⟨hu, hc.2.1⟩
    · cases h
  · cases h

/-- An active tract without mirroring is revoked with nothing sent (R540). -/
theorem Dev.revoke_unmirrored {d : Dev} {i : Nat} {t : Tract} (cmd : Option (Nat × W64)) (ht : d.tract? i = some t)
    (hst : t.st = .active) (hm : t.mode = 0) : d.revoke i cmd =
      { d with
        tracts := Tab.set d.tracts i { t with st := .revoking, cmd := cmd }
        mirSeqs := d.mirSeqs.filter fun m => m.2.tract != i } := by
  simp [Dev.revoke, ht, hst, hm, Dev.setTract]

section
variable {d : Dev} {s a : Nat} {e : CmdEntry} (hrst : (d.std s).rst = false) (ha : e.actor s 64 64 = some a)
include hrst ha

/-- A registration that passes its checks makes an ACTIVE tract and answers its key (R537). -/
theorem Dev.hTractRegister_active {i : Nat} {fs : List Nat} {d1 : Dev}
    (hok : (d.popFetched s 0x10 e).tractRecOk a e.payload = true) (hcmp : a = 0 ∨ (d.popFetched s 0x10 e).cmpState ≠ 1)
    (hi : (d.popFetched s 0x10 e).freeIndex = some i)
    (hq : tractUnits e.payload = 0 ∨
      (d.popFetched s 0x10 e).useOf a 1 + tractUnits e.payload ≤ ((d.popFetched s 0x10 e).std a).quota.t1)
    (hm : recNum e.payload 3 1 = 0) (hf : (d.popFetched s 0x10 e).allocUnits a (tractUnits e.payload) [] = some (fs, d1)) :
    d.hTractRegister s e = (d1.took.setTract i (d1.tractMade a i e.payload fs)).postCmd s e.tag 0x10 0 0
      (((d1.tractMade a i e.payload fs).key i).setWidth 64) 0 := by
  have standby : ¬ (a ≠ 0 ∧ (d.popFetched s 0x10 e).cmpState = 1) := by tauto
  have quota : ¬ (((d.popFetched s 0x10 e).std a).quota.t1 < (d.popFetched s 0x10 e).useOf a 1 + tractUnits e.payload ∧
      tractUnits e.payload ≠ 0) := by omega
  rw [tractUnits] at quota hf
  refine (Dev.hostCmd_takes _ hrst ha).trans ?_
  simp only [hok, Bool.not_true, Bool.false_eq_true, if_false, if_neg standby, hi]
  rw [if_neg quota]
  simp [hm, hf, Dev.newTract_eq, Dev.tractMade]

/-- A revocation of an active tract of the stand sets it REVOKING (R540). -/
theorem Dev.hTractRevoke_begins {i : Nat} {t : Tract} (h0 : recNum e.payload 0 1 = 2) (h1 : recNum e.payload 1 7 = 0)
    (h12 : recNum e.payload 12 4 = 0) (h16 : ∀ b ∈ recBytes e.payload 16 48, b = 0#8)
    (ht : (d.popFetched s 0x10 e).tractOf a (BitVec.ofNat 32 (recNum e.payload 8 4)) = some (i, t)) (hk : t.kind ≠ 7) :
    d.hTractRevoke s e = (d.popFetched s 0x10 e).revoke i (some (s, e.tag)) := by
  refine (Dev.hostCmd_takes _ hrst ha).trans ?_
  have h16' : (recBytes e.payload 16 48).all (· == 0#8) = true := by simpa using h16
  simp [h0, h1, h12, h16', ht, hk]

end

section
variable {d : Dev} {i : Nat} {t : Tract} (ht : d.tract? i = some t) (hst : t.st = .revoking) (hf : t.inflight = 0)
include ht hst hf

/-- A revoked tract with nothing in flight is held (R542). -/
theorem Dev.tractRevoked_quiet (hc : t.cmd = none) : d.tractRevoked i = d.tractGone i t := by
  simp [Dev.tractRevoked, ht, hst, hf, hc]

/-- The command that revoked it completes (R542). -/
theorem Dev.tractRevoked_answers {s : Nat} {tag : W64} (hc : t.cmd = some (s, tag)) :
    d.tractRevoked i = (d.tractGone i t).postCmd s tag 0x10 0 0 0 0 := by
  simp [Dev.tractRevoked, ht, hst, hf, hc]

end

/-- A held INDEX becomes free (R544). -/
theorem Dev.tractHoldEnd_held {d : Dev} {i : Nat} {t : Tract} (ht : d.tract? i = some t) (hst : t.st = .hold) :
    d.tractHoldEnd i = d.setTract i { t with st := .free } := by
  rw [Dev.tractHoldEnd, Dev.modTract, Tab.upd_of_get? _ ht, if_pos hst]
  rfl

/-! ## CONN (11 R524, R528) -/

@[simp] theorem Dev.conn?_setConn (d : Dev) (c : Nat) (x : Conn) : (d.setConn c x).conn? c = some x := by
  simp [Dev.conn?]

@[simp] theorem Dev.setConn_setConn (d : Dev) (c : Nat) (x y : Conn) : (d.setConn c x).setConn c y = d.setConn c y := by
  simp [Dev.setConn]

/-- An OPEN connection that is closed is CLOSING (R528). -/
theorem Dev.closeConn_open {d : Dev} {c : Nat} {x : Conn} (reason : Nat) (hc : d.conn? c = some x) (hst : x.st = 2) :
    d.closeConn c reason = d.setConn c { x with st := 3, reason := reason } := by
  simp [Dev.closeConn, hc, hst]

section
variable {d : Dev} {s a : Nat} {e : CmdEntry} (hrst : (d.std s).rst = false) (ha : e.actor s 10 10 = some a)
include hrst ha

/-- A connection to another node within the quota is OPENING (R524). -/
theorem Dev.hConnOpen_begins {c : Nat} {d1 : Dev} (h0 : recNum e.payload 0 1 = 1) (h1 : recNum e.payload 1 1 = 0)
    (h8 : recNum e.payload 8 2 = 0) (hn : recNum e.payload 2 2 ≠ (d.popFetched s 0x11 e).node)
    (hcmp : a = 0 ∨ (d.popFetched s 0x11 e).cmpState ≠ 1)
    (hq : (d.popFetched s 0x11 e).useConn a < ((d.popFetched s 0x11 e).std a).quota.conn)
    (hc : (d.popFetched s 0x11 e).newConn a (recNum e.payload 2 2) (BitVec.ofNat 32 (recNum e.payload 4 4))
      (fun x => { x with openCmd := some (s, e.tag) }) = some (c, d1)) :
    d.hConnOpen s e = d1 := by
  have standby : ¬ (a ≠ 0 ∧ (d.popFetched s 0x11 e).cmpState = 1) := by tauto
  refine (Dev.hostCmd_takes _ hrst ha).trans ?_
  simp [h0, h1, h8, hn, if_neg standby, Nat.not_le.2 hq, hc]

/-- An OPEN connection of the stand that is closed by command is CLOSING with REASON 0 (R528). -/
theorem Dev.hConnClose_open {x : Conn} (h0 : recNum e.payload 0 1 = 2) (h1 : recNum e.payload 1 7 = 0)
    (hc : (d.popFetched s 0x11 e).conn? (recNum e.payload 8 2) = some x) (hs : x.stand = a) (hst : x.st = 2) :
    d.hConnClose s e = (d.popFetched s 0x11 e).setConn (recNum e.payload 8 2)
      { x with closeCmd := some (s, e.tag), st := 3, reason := 0 } := by
  refine (Dev.hostCmd_takes _ hrst ha).trans ?_
  simp [h0, h1, hc, hs, hst, Dev.closeConn_open]

end

theorem Dev.newConn_fresh {d d1 : Dev} {s peer c : Nat} {join : BitVec 32} {f : Conn → Conn}
    (h : d.newConn s peer join f = some (c, d1)) : Tab.has d.conns c = false ∧ c < 65536 := by
  obtain ⟨i, hi, he⟩ := Option.map_eq_some_iff.1 h
  obtain rfl := congrArg Prod.fst he
  exact (Tab.freeAt_free hi).symm

/-- CLOSE is sent once no message of a CLOSING connection is left (R528). -/
theorem Dev.closeSend_idle {d : Dev} {c : Nat} {x : Conn} (hc : d.conn? c = some x) (hst : x.st = 3) (ht : x.tx = []) (hr : x.rx = [])
    (hs : x.closeSent = false) : d.closeSend c =
      (d.setConn c { x with closeSent := true }).sendConn x.stand c x.peer x.peerConn 3 x.reason x.join 0 := by
  simp [Dev.closeSend, hc, hst, ht, hr, hs]

theorem Dev.closeAckTimeout_sent {d : Dev} {c : Nat} {x : Conn} (hc : d.conn? c = some x) (hst : x.st = 3)
    (hs : x.closeSent = true) : d.closeAckTimeout c = d.freeConn c := by
  simp [Dev.closeAckTimeout, hc, hst, hs]

/-- Settles O35: a command that is started takes the one branch that its premises leave, and each event finds its tract or
connection in the state that it ends. -/
theorem recordsTractsAndConnections : Obligations.RecordsTractsAndConnections := by
  intro s st e a
  refine ⟨fun ⟨hs, hrst, ha⟩ hl hr hu hn => ?_, fun ⟨hs, hrst, ha⟩ hu hn => ?_,
    fun i fs d1 ⟨hs, hrst, ha⟩ hok hcmp hi hq hm hf => ?_, fun i t ⟨hs, hrst, ha⟩ h0 h1 h12 h16 ht hk hm => ?_,
    fun c d1 ⟨hs, hrst, ha⟩ h0 h1 h8 hn hcmp hq hc => ?_, fun x ⟨hs, hrst, ha⟩ h0 h1 hc hst h2 => ?_,
    fun hs => ⟨fun i t ht hst hf => ⟨fun hc => ?_, fun w tag hc => ?_⟩, fun i t ht hst => ?_,
      fun c x hc h3 => ⟨fun htx hrx hsent => ?_, fun hsent => ?_⟩⟩⟩
  · exact (qrec_gives hs st e).of_eq (Dev.hQrec_enters hrst ha hl hr hu hn)
  · exact (wrec_gives hs st e).of_eq (Dev.hWrec_enters hrst ha hu hn)
  · refine ⟨d1.tractMade a i e.payload fs, (tractRegister_gives hs st e).of_eq
      (Dev.hTractRegister_active hrst ha hok hcmp hi hq hm hf), rfl, rfl, rfl, rfl, rfl, rfl, rfl, rfl, fun o ho => ?_, fun ho => ?_⟩
    · simp [Dev.tractMade, Dev.nextGen, ho]
    · simp [Dev.tractMade, Dev.nextGen, ho]
  · obtain ⟨hactive, hst⟩ := Dev.tract?_of_tractOf ht
    exact (tractRevoke_gives hs st e).of_eq
      ((Dev.hTractRevoke_begins hrst ha h0 h1 h12 h16 ht hk).trans (Dev.revoke_unmirrored _ hactive hst hm))
  · exact ⟨(connOpen_gives hs st e).of_eq (Dev.hConnOpen_begins hrst ha h0 h1 h8 hn hcmp hq hc), Dev.newConn_fresh hc⟩
  · exact (connClose_gives hs st e).of_eq (Dev.hConnClose_open hrst ha h0 h1 hc hst h2)
  · exact (tractRevoked_gives hs i).of_eq (Dev.tractRevoked_quiet ht hst hf hc)
  · exact (tractRevoked_gives hs i).of_eq (Dev.tractRevoked_answers ht hst hf hc)
  · exact (tractHoldExpiry_gives hs i).of_eq (Dev.tractHoldEnd_held ht hst)
  · exact (connCloseSend_gives hs c).of_eq (Dev.closeSend_idle hc h3 htx hrx hsent)
  · exact (closeAckTimeout_gives hs c).of_eq (Dev.closeAckTimeout_sent hc h3 hsent)

end Machine
end Sys2Proof

/-!
PROOFS. Connections opened and closed by CONN packets and timers, and contexts moved between the chip and the host (11 R524 to
R533, R859): the statement O43.
-/
namespace Sys2Proof
namespace Machine

/-! ## CONN packets (11 R525, R528, R859) -/

/-- A CONN packet of an operation. -/
def connPkt (op : Nat) (r : Route) (h : ConnHdr) (icrc : BitVec 32) : Pkt := ⟨BitVec.ofNat 4 tyConn, r, .conn op h, icrc⟩

section
variable {s : State} {p : Fin 16} {r : Route} {h : ConnHdr} {icrc : BitVec 32}

theorem openReq_gives (hr : Reaches s p (connPkt 1 r h icrc)) : GivesLater s (.openReq p r h icrc) (s.d.rxOpenReq p r h) :=
  GivesLater.of_eq (State.served_eq (fun d => d.rxConn p 1 r h icrc) hr.1) (Dev.arrive_reaches _ hr)

theorem openAck_gives (hr : Reaches s p (connPkt 2 r h icrc)) : GivesLater s (.openAck p r h icrc) (s.d.rxOpenAck p r h) :=
  GivesLater.of_eq (State.served_eq (fun d => d.rxConn p 2 r h icrc) hr.1) (Dev.arrive_reaches _ hr)

theorem close_gives (hr : Reaches s p (connPkt 3 r h icrc)) : GivesLater s (.close p r h icrc) (s.d.rxClose r h) :=
  GivesLater.of_eq (State.served_eq (fun d => d.rxConn p 3 r h icrc) hr.1) (Dev.arrive_reaches _ hr)

theorem closeAck_gives (hr : Reaches s p (connPkt 4 r h icrc)) : GivesLater s (.closeAck p r h icrc) (s.d.rxCloseAck r) :=
  GivesLater.of_eq (State.served_eq (fun d => d.rxConn p 4 r h icrc) hr.1) (Dev.arrive_reaches _ hr)

end

section
variable {d : Dev} {p c : Nat} {r : Route} {h : ConnHdr} {x : Conn}

/-- The contexts that an OPEN_REQ can be for: those to its node with its JOIN (R525). -/
def Dev.joins (d : Dev) (r : Route) (h : ConnHdr) : Tab Conn :=
  d.conns.filter fun e => e.2.peer == r.srcNode.toNat && e.2.join == h.join

/-- An OPEN_REQ for an OPENING context opens it and is answered. -/
theorem Dev.rxOpenReq_opens (hc : d.joins r h = [(c, x)]) (hst : x.st = 1) :
    d.rxOpenReq p r h = (d.connOpened c r.srcConn.toNat h.epoch).sendConn x.stand c r.srcNode.toNat r.srcConn.toNat 2 0 x.join
      (BitVec.ofNat 32 ((d.connOpened c r.srcConn.toNat h.epoch).sliceEpoch x.stand)) := by
  rw [Dev.joins] at hc
  simp only [Dev.rxOpenReq, hc, List.find?_cons, List.find?_nil, hst]
  -- The one context is taken whether it is the port's own or not.
  generalize (1 == 1 && _ : Bool) = own
  cases own <;> simp [hst]

/-- An OPEN_REQ that repeats an OPEN context is only answered. -/
theorem Dev.rxOpenReq_repeats (hc : d.joins r h = [(c, x)]) (hst : x.st = 2) (hp : x.peerConn = r.srcConn.toNat) :
    d.rxOpenReq p r h = d.sendConn x.stand c r.srcNode.toNat r.srcConn.toNat 2 0 x.join
      (BitVec.ofNat 32 (d.sliceEpoch x.stand)) := by
  rw [Dev.joins] at hc
  simp [Dev.rxOpenReq, hc, hst, hp]

/-- An OPEN_REQ that matches nothing is dropped and counted. -/
theorem Dev.rxOpenReq_unmatched (hc : d.joins r h = []) : d.rxOpenReq p r h = d.dropUnverified p := by
  rw [Dev.joins] at hc
  simp only [Dev.rxOpenReq, hc]
  rfl

theorem Dev.rxOpenAck_opens (hc : d.conn? r.dstConn.toNat = some x) (hst : x.st = 1) (hp : x.peer = r.srcNode.toNat)
    (hj : x.join = h.join) : d.rxOpenAck p r h = d.connOpened r.dstConn.toNat r.srcConn.toNat h.epoch := by
  simp [Dev.rxOpenAck, hc, hst, hp, hj]

theorem Dev.rxClose_verified (hv : d.verified r = some x) : d.rxClose r h =
    (d.sendConn x.stand r.dstConn.toNat x.peer x.peerConn 4 0 h.join 0).freeConn r.dstConn.toNat := by
  simp [Dev.rxClose, hv]

theorem Dev.rxCloseAck_closing (hv : d.verified r = some x) (hst : x.st = 3) : d.rxCloseAck r = d.freeConn r.dstConn.toNat := by
  simp [Dev.rxCloseAck, hv, hst]

end

/-! ## Timers of a context that opens (11 R525) -/

section
variable {s : State} (hs : s.d.serving = true) (c : BitVec 16)
include hs

theorem openReqTimer_gives : GivesLater s (.openReqTimer c) (s.d.openReq c.toNat) :=
  State.served_eq (fun d => d.openReq c.toNat) hs

theorem connOpenTimeout_gives : GivesLater s (.connOpenTimeout c) (s.d.openTimeout c.toNat) :=
  State.served_eq (fun d => d.openTimeout c.toNat) hs

theorem contextEvict_gives : GivesLater s (.contextEvict c) (s.d.evictCtx c.toNat) :=
  State.served_eq (fun d => d.evictCtx c.toNat) hs

theorem contextFetchDone_gives : GivesLater s (.contextFetchDone c) (s.d.fetchDone c.toNat) :=
  State.served_eq (fun d => d.fetchDone c.toNat) hs

theorem contextFetchHold_gives : GivesLater s (.contextFetchHold c) (s.d.fetchHold c.toNat) :=
  State.served_eq (fun d => d.fetchHold c.toNat) hs

end

section
variable {d : Dev} {c : Nat} {x : Conn} (hc : d.conn? c = some x)
include hc

theorem Dev.openReq_sends (hst : x.st = 1) (hn : d.node < x.peer) : d.openReq c =
    d.sendConn x.stand c x.peer 0xFFFF 1 0 x.join (BitVec.ofNat 32 (d.sliceEpoch x.stand)) := by
  simp [Dev.openReq, hc, hst, hn]

/-- A context that stays OPENING too long without a command is freed. -/
theorem Dev.openTimeout_frees (hst : x.st = 1) (ho : x.openCmd = none) : d.openTimeout c = d.freeConn c := by
  simp [Dev.openTimeout, Dev.closeConn, hc, hst, ho]

/-- One with a command completes it with code 5 as well. -/
theorem Dev.openTimeout_answers {w : Nat} {tag : W64} (hst : x.st = 1) (ho : x.openCmd = some (w, tag)) :
    d.openTimeout c = (d.postCmd w tag 0x11 0 5 0 0).freeConn c := by
  simp [Dev.openTimeout, Dev.closeConn, hc, hst, ho]

/-! ## Contexts between the chip and the host (11 R530 to R533) -/

/-- An idle OPEN context with a place in the host area is written there (R530). -/
theorem Dev.evictCtx_idle (hon : bitAt (d.rd .port 0 0x9000) 15 = true) (hres : x.res < 2) (he : x.evict = none) (hrx : x.rx = [])
    (htx : ∀ m ∈ x.tx, m.unacked = false) (hst : x.st = 2)
    (hroom : 256 * (c + 1) ≤ d.fld .port 0 0x9020 24 0 * 1024) :
    d.evictCtx c = (d.setConn c { x with evict := some d.dmaNext }).issueDma 0 (.ctxEvict c) fun _ =>
      .dmaWrite 0 (d.fld .port 0 0x9018 63 12 * 4096 + 256 * c) [] := by
  have hout : x.res ≠ 2 ∧ x.res ≠ 3 := by omega
  have hacked : (x.tx.any fun m => m.unacked) = false := by simpa using htx
  simp [Dev.evictCtx, hc, hon, hout, he, hrx, hacked, hst, Nat.not_lt.2 hroom]

/-- A packet that waited for its context is served by what the context has become (R532). -/
def Dev.serveParked (d : Dev) (c : Nat) (q : Parked) : Dev :=
  match d.conn? c with
  | some x => if x.st = 2 ∨ x.st = 3 then d.servePkt q.port c x q.pkt else d.dropUnverified q.port
  | none => d.dropUnverified q.port

theorem Dev.fetchDone_fetching (hres : x.res = 3) :
    d.fetchDone c = x.parked.foldl (fun d q => d.serveParked c q) (d.setConn c { x with res := 0, parked := [] }) := by
  simp only [Dev.fetchDone, hc, hres, ne_eq, not_true_eq_false, if_false]
  rfl

theorem Dev.fetchHold_fetching (hres : x.res = 3) : d.fetchHold c =
    x.parked.foldl (fun d q => d.took.nakPkt x.stand c q.pkt 12 (d.idxOf x.stand q.pkt) d.retryHint)
      (d.setConn c { x with parked := [] }) := by
  simp only [Dev.fetchHold, hc, hres, ne_eq, not_true_eq_false, if_false]

end

/-- Settles O43: a CONN packet that reaches this node finds the context that it names in the state that it ends, and so does each
timer and event of a context. -/
theorem connectionsOpenedAndContextsMoved : Obligations.ConnectionsOpenedAndContextsMoved := by
  intro s
  refine ⟨fun p r h icrc => ⟨fun c x hr hc hst => ?_, fun c x hr hc hst hp => ?_, fun hr hc => ?_, fun x hr hc hst hp hj => ?_,
      fun x hr hv => ?_, fun x hr hv hst => ?_⟩,
    fun hs c x hc => ⟨fun hst hn => ?_, fun hst ho => ?_, fun w tag hst ho => ?_, fun hon hres he hrx htx hst hroom => ?_,
      fun hres => ?_, fun hres => ?_⟩⟩
  · exact (openReq_gives hr).of_eq (Dev.rxOpenReq_opens hc hst)
  · exact (openReq_gives hr).of_eq (Dev.rxOpenReq_repeats hc hst hp)
  · exact (openReq_gives hr).of_eq (Dev.rxOpenReq_unmatched hc)
  · exact (openAck_gives hr).of_eq (Dev.rxOpenAck_opens hc hst hp hj)
  · exact (close_gives hr).of_eq (Dev.rxClose_verified hv)
  · exact (closeAck_gives hr).of_eq (Dev.rxCloseAck_closing hv hst)
  · exact (openReqTimer_gives hs c).of_eq (Dev.openReq_sends hc hst hn)
  · exact (connOpenTimeout_gives hs c).of_eq (Dev.openTimeout_frees hc hst ho)
  · exact (connOpenTimeout_gives hs c).of_eq (Dev.openTimeout_answers hc hst ho)
  · exact (contextEvict_gives hs c).of_eq (Dev.evictCtx_idle hc hon hres he hrx htx hst hroom)
  · exact (contextFetchDone_gives hs c).of_eq (Dev.fetchDone_fetching hc hres)
  · exact (contextFetchHold_gives hs c).of_eq (Dev.fetchHold_fetching hc hres)

end Machine
end Sys2Proof

/-!
PROOFS. Responses to the messages of this device, and the timers of messages (11 R546 to R548, R559 to R565, R860): the statement
O42.
-/
namespace Sys2Proof
namespace Machine

/-! ## What acknowledging a packet leaves -/

@[simp] theorem Dev.ackWindow_threads (d : Dev) (c b : Nat) (ece : Bool) : (d.ackWindow c b ece).threads = d.threads := rfl

@[simp] theorem Dev.ackPkt_threads (d : Dev) (c : Nat) (m : OutMsg) (i : Nat) (ece : Bool) :
    (d.ackPkt c m i ece).threads = d.threads := by
  unfold Dev.ackPkt
  split
  · rfl
  · simp only [apply_ite Dev.threads, Dev.ackWindow_threads]
    simp [Dev.modConn, Dev.modMsg]

/-! ## Responses served (11 R560 to R563) -/

section
variable {e : Dev} {p c : Nat} {x : Conn} {r : Route}

theorem Dev.servePkt_ack (h : RspHdr) (icrc : BitVec 32) : e.servePkt p c x (rspPkt tyAck r h icrc) = e.takeAck c r h := rfl

theorem Dev.servePkt_nak (h : RspHdr) (icrc : BitVec 32) : e.servePkt p c x (rspPkt tyNak r h icrc) = e.takeNak c h := rfl

theorem Dev.servePkt_arsp (h : RspHdr) (icrc : BitVec 32) : e.servePkt p c x (rspPkt tyArsp r h icrc) = e.takeArsp c r h := rfl

theorem Dev.servePkt_grsp (h : ReqHdr) (data : List Byte) (icrc : BitVec 32) :
    e.servePkt p c x (reqPkt tyGrsp r h data icrc) = e.takeGrsp c r h data := rfl

end

section
variable {e : Dev} {c : Nat} {x : Conn} {r : Route} {m : OutMsg} (hc : e.conn? c = some x)
include hc

section
variable {h : RspHdr} (hm : x.msg? h.msgId.toNat = some m)
include hm

/-- The packets of message m that an ACK names and that were not acknowledged before (R560). -/
def ackIds (m : OutMsg) (h : RspHdr) : List Nat :=
  ((List.range 64).filterMap fun k => if h.info.getLsbD k then some (h.base.toNat + k) else none).filter fun i =>
    m.pkts[i]?.any fun p => p.st != .acked

/-- An ACK acknowledges the packets that it names, notes DONE, and finishes the message when it may (R560). -/
theorem Dev.takeAck_names (hget : m.ty ≠ tyGet) (hatom : m.ty ≠ tyAtom) :
    let d1 := (ackIds m h).foldl (fun d i => d.ackPkt c m i r.ece) e
    let d2 := if h.code.getLsbD 0 then d1.modMsg c m.n fun m => { m with done := true } else d1
    e.takeAck c r h = (d2.tryFinish c m.n).pump c := by
  simp only [Dev.takeAck, hc, Option.bind_some, hm, hget, hatom, or_self, if_false]
  rfl

/-- The device that has taken the epoch that a STALE_EPOCH gives (11 Table 12). -/
def Dev.epochTaken (e : Dev) (c : Nat) (h : RspHdr) : Dev :=
  if h.code.toNat = 11 then e.modConn c fun x => { x with epoch := h.info.setWidth 32 } else e

/-- A NAK that is not retried ends the message (R563). -/
theorem Dev.takeNak_ends (hr : nakRetries h.code.toNat = false) :
    e.takeNak c h = ((e.epochTaken c h).dropMsg c m (0x100 + h.code.toNat)).pump c := by
  simp only [Dev.takeNak, hc, Option.bind_some, hm, hr, Bool.false_eq_true, if_false, Dev.epochTaken]

/-- A NAK that is retried sets the packet that it names aside (R563). -/
theorem Dev.takeNak_later (hr : nakRetries h.code.toNat = true) (hn : m.naks < e.fld .port 0 0x9010 31 16)
    (hq : ∀ q, m.pkts[h.base.toNat]? = some q → q.st ≠ .flight) :
    e.takeNak c h = (((e.epochTaken c h).modMsg c m.n fun m => { m with naks := m.naks + 1 }).modMsg c m.n fun m =>
      m.setPkt h.base.toNat fun q => if q.st = .acked then q else { q with st := .later }).pump c := by
  have h11 : h.code.toNat ≠ 11 := by
    intro h11
    rw [h11] at hr
    exact absurd hr (by decide)
  have grounded : (m.pkts[h.base.toNat]?.any fun p => p.st == .flight) = false := by
    rcases hp : m.pkts[h.base.toNat]? with _ | q
    · rfl
    · simpa using hq q hp
  simp [Dev.takeNak, hc, hm, hr, Dev.epochTaken, h11, grounded, Nat.not_le.2 hn]

/-- An ARSP writes the old value where its thread's operation wants it, and ends the message (R560). -/
theorem Dev.takeArsp_thread (hatom : m.ty = tyAtom) {t tok op dst : Nat} {k : Tok} (hw : m.who = .thread t tok op dst)
    (hk : Tab.get? (e.thr t).toks tok = some k) (hkind : k.kind = .remote op) :
    e.takeArsp c r h =
      ((((e.ackPkt c m 0 r.ece).stageWrite (t / 32) dst (natLe 8 h.info.toNat)).dropMsg c m 0).pump c) := by
  have hk' : Tab.get? ((e.ackPkt c m 0 r.ece).thr t).toks tok = some k := by rwa [Dev.thr_congr (Dev.ackPkt_threads ..)]
  simp [Dev.takeArsp, hc, hm, hatom, hw, hk', hkind]

end

/-- A GRSP of a packet still awaited writes its bytes where the thread's operation wants them; the last one ends the message
(R560, R565). -/
theorem Dev.takeGrsp_thread {h : ReqHdr} {data : List Byte} {m2 : OutMsg} {q : OutPkt} (hm : x.msg? h.msgId.toNat = some m)
    (hget : m.ty = tyGet) (hq : m.pkts[h.msgOff.toNat / 4096]? = some q) (hgot : q.got = false) (hlen : q.len = data.length)
    {t tok op dst : Nat} {k : Tok} (hw : m.who = .thread t tok op dst) (hk : Tab.get? (e.thr t).toks tok = some k)
    (hkind : k.kind = .remote op) :
    let d1 := (e.ackPkt c m (h.msgOff.toNat / 4096) r.ece).stageWrite (t / 32) (dst + h.msgOff.toNat) data
    ((d1.conn? c).bind fun x => x.msg? h.msgId.toNat) = some m2 →
    e.takeGrsp c r h data = if m2.pkts.all (·.got) then (d1.dropMsg c m2 0).pump c else d1.pump c := by
  intro d1 hm2
  have hk' : Tab.get? ((e.ackPkt c m (h.msgOff.toNat / 4096) r.ece).thr t).toks tok = some k := by
    rwa [Dev.thr_congr (Dev.ackPkt_threads ..)]
  have awaited : ¬ (m.ty ≠ tyGet ∨
      (!(m.pkts[h.msgOff.toNat / 4096]?.any fun p => !p.got && p.len == data.length)) = true) := by
    simp [hget, hq, hgot, hlen]
  simp only [Dev.takeGrsp, hc, Option.bind_some, hm, if_neg awaited, hw, hk', hkind, if_true, d1] at hm2 ⊢
  simp only [hm2]

end

/-! ## Timers of messages (11 R548, R559, R561) -/

section
variable {d : Dev} {c n : Nat} {x : Conn} (hc : d.conn? c = some x)
include hc

/-- Placed packets that no acknowledgement named are acknowledged (R548). -/
theorem Dev.ackTimer_acks {m : InMsg} (hm : x.rx.find? (fun m => m.n == n) = some m) (hu : m.unacked ≠ []) :
    d.ackTimer c n = d.ackNow c m false := by
  simp [Dev.ackTimer, hc, hm, hu]

/-- A message of the window that is not complete is abandoned (R559). -/
theorem Dev.msgTimeout_abandons (hlo : x.rxBase ≤ n) (hhi : n < x.rxTop) (hfin : Tab.has x.fin n = false)
    (hpart : ∀ y ∈ x.rx, y.n = n → y.count < y.len) : d.msgTimeout c n = d.finish c n false := by
  have inWindow : ¬ (n < x.rxBase ∨ x.rxTop ≤ n ∨ Tab.has x.fin n = true) := by simp [hfin]; omega
  have unfinished : (x.rx.any fun m => m.n == n && m.len ≤ m.count) = false := by simpa using hpart
  simp [Dev.msgTimeout, hc, inWindow, unfinished]

section
variable {m : OutMsg} (hm : x.tx.find? (fun m => m.n == n) = some m)
include hm
variable {i : Nat} {q : OutPkt} (hq : m.pkts[i]? = some q) (hst : q.st = .flight)
include hq hst

/-- A packet in flight too long is sent again (R561). -/
theorem Dev.retxPkt_again (htries : q.tries < d.fld .port 0 0x9010 15 0) :
    let d1 := if m.windowed then d.setConn c { x with inflight := x.inflight - q.len } else d
    d.retxPkt c n i =
      (d1.modMsg c n fun m => m.setPkt i fun q => { q with st := .unsent, tries := q.tries + 1, again := true }).pump c := by
  have hmod : d.modConn c (fun x => { x with inflight := x.inflight - q.len }) =
      d.setConn c { x with inflight := x.inflight - q.len } := by
    rw [Dev.modConn, Tab.upd_of_get? _ hc, Dev.setConn]
  simp [Dev.retxPkt, hc, hm, hq, hst, Nat.not_le.2 htries, hmod]

/-- After the last try its message fails (R561). -/
theorem Dev.retxPkt_fails (htries : d.fld .port 0 0x9010 15 0 ≤ q.tries) :
    d.retxPkt c n i = (d.dropMsg c m 0x200).pump c := by
  simp [Dev.retxPkt, hc, hm, hq, hst, htries]

end

end

/-! ## The statement -/

/-- What an event comes to while the device serves. -/
theorem serving_gives {s : State} {c : Instr} (f : Dev → Dev) (run : exec c s = s.served f) (h : s.d.serving = true) :
    GivesLater s c (f s.d) :=
  run.trans (State.served_eq f h)

theorem Taken.conn {s : State} {p : Fin 16} {k : Pkt} {x : Conn} (h : Taken s p k x) :
    (s.d.touchConn k.r.dstConn.toNat).conn? k.r.dstConn.toNat = some x := h.2.2.1

/-- Settles O42: each response is served by the function of its type, and each timer finds the message it names. -/
theorem responsesAndMessageTimers : Obligations.ResponsesAndMessageTimers := by
  intro s
  dsimp only
  refine ⟨fun p r h icrc x m hm => ⟨?_, ?_, ?_, ?_⟩, ?_, fun hs => ⟨?_, ?_⟩⟩
  · intro ht hget hatom
    exact (taken_gives rfl ht).of_eq ((Dev.servePkt_ack h icrc).trans (Dev.takeAck_names ht.conn hm hget hatom))
  · intro ht hr
    exact (taken_gives rfl ht).of_eq ((Dev.servePkt_nak h icrc).trans (Dev.takeNak_ends ht.conn hm hr))
  · intro ht hr hn hq
    exact (taken_gives rfl ht).of_eq ((Dev.servePkt_nak h icrc).trans (Dev.takeNak_later ht.conn hm hr hn hq))
  · intro ht hatom t tok op dst hw hkind hhas
    obtain ⟨k, hk⟩ := Option.isSome_iff_exists.1 hhas
    exact (taken_gives rfl ht).of_eq
      ((Dev.servePkt_arsp h icrc).trans (Dev.takeArsp_thread ht.conn hm hatom hw hk (hkind k hk)))
  · intro p r h data icrc x m m2 q ht hm hget hq hgot hlen t tok op dst k hw hk hkind hm2
    have served := (Dev.servePkt_grsp (p := p) (x := x) h data icrc).trans
      (Dev.takeGrsp_thread (r := r) ht.conn hm hget hq hgot hlen hw hk hkind hm2)
    constructor <;> intro hall
    · exact (taken_gives rfl ht).of_eq (served.trans (if_pos hall))
    · exact (taken_gives rfl ht).of_eq (served.trans (if_neg (by simp [hall])))
  · intro c n x m hc hm
    constructor
    · intro hu
      exact (serving_gives (fun d => d.ackTimer c.toNat n.toNat) rfl hs).of_eq (Dev.ackTimer_acks hc hm hu)
    · intro hlo hhi hfin hpart
      exact (serving_gives (fun d => d.msgTimeout c.toNat n.toNat) rfl hs).of_eq
        (Dev.msgTimeout_abandons hc hlo hhi hfin hpart)
  · intro c n i x m q hc hm hq
    have gives : GivesLater s (.retxTimeout c n i) (s.d.retxPkt c.toNat n.toNat i.toNat) :=
      serving_gives (fun d => d.retxPkt c.toNat n.toNat i.toNat) rfl hs
    refine ⟨?_, ?_, ?_⟩
    · intro hst htries
      exact gives.of_eq (Dev.retxPkt_again hc hm hq hst htries)
    · intro hst htries
      exact gives.of_eq (Dev.retxPkt_fails hc hm hq hst htries)
    · intro _
      exact serving_gives (fun d => d.retryPkt c.toNat n.toNat i.toNat) rfl hs

end Machine
end Sys2Proof

/-!
PROOFS. Link frames, egress and the calendar wheel (11 R509, R510, R513; 12 R605, R610): what a frame of each kind does on an
ACTIVE port, and what is sent; the statement O40.
-/
namespace Sys2Proof
namespace Machine

/-- STATE 6 is ACTIVE (11 Table 1). -/
theorem Dev.portActive_of_state {d : Dev} {p : Nat} (h : d.portState p = 6) : d.portActive p = true :=
  beq_iff_eq.2 h

/-! ## Frames received (11 R509, R510) -/

/-- The device that has counted the corrected codewords of a frame with no uncorrectable one (R511). -/
def Dev.counted (d : Dev) (p : Nat) (f : LinkFrame) : Dev :=
  (d.setFld .port p 0x10 31 0 (d.fld .port p 0x10 31 0 + f.corrected.toNat)).incSat .port p 0x10 63 32 0

theorem Dev.counted_link (d : Dev) (p : Nat) (f : LinkFrame) : (d.counted p f).link p = d.link p := rfl

section
variable {d : Dev} {p : Nat} {f : LinkFrame}

theorem Dev.fecCount_clean (hu : f.uncorrectable = 0) : d.fecCount p f = (d.counted p f, false) := by
  simp only [Dev.fecCount, hu, if_true]
  rfl

/-- How far a frame's number is ahead of the next one wanted. -/
def Dev.ahead (d : Dev) (p : Nat) (f : LinkFrame) : Nat := (f.seq.toNat + 4096 - (d.link p).rxSeq) % 4096

theorem Dev.ahead_of_wanted (hseq : f.seq.toNat = (d.link p).rxSeq) : d.ahead p f = 0 := by
  rw [Dev.ahead, ← hseq, Nat.add_sub_cancel_left]

section
variable (d)

/-- The frame in sequence taken and acknowledged (R509). -/
def Dev.takeNext (d : Dev) (p : Nat) (f : LinkFrame) : Dev :=
  (d.modLink p fun l => { l with rxSeq := ((d.link p).rxSeq + 1) % 4096 }).emit (.frame p (.ack f.seq))

/-- A request for the frames from the next one wanted on (R509). -/
def Dev.askAgain (d : Dev) (p : Nat) : Dev := d.emit (.frame p (.again (BitVec.ofNat 12 (d.link p).rxSeq)))

/-- Credit granted by the partner, added to its class (R510). -/
def Dev.credited (d : Dev) (p : Nat) (c : BitVec 3) (two : Bool) (n : BitVec 8) : Dev :=
  let i := c.toNat + (if two then 8 else 0)
  d.modLink p fun l => { l with credits := Tab.set l.credits i (Tab.getD l.credits i 0 + n.toNat) }

theorem Dev.credited_rxSeq (c : BitVec 3) (two : Bool) (n : BitVec 8) :
    ((d.credited p c two n).link p).rxSeq = (d.link p).rxSeq := by
  simp [Dev.credited, Dev.modLink, Dev.setLink, Dev.link, Tab.getD]

end

theorem Dev.takeFrame_next (h : d.ahead p f = 0) : d.takeFrame p f = d.takeNext p f := if_pos h

theorem Dev.takeFrame_early (h0 : 0 < d.ahead p f) (h : d.ahead p f < 2048) : d.takeFrame p f = d.askAgain p :=
  (if_neg (Nat.ne_of_gt h0)).trans (if_pos h)

theorem Dev.takeFrame_old (h : 2048 ≤ d.ahead p f) : d.takeFrame p f = d.emit (.frame p (.ack f.seq)) :=
  (if_neg (Nat.ne_of_gt (Nat.lt_of_lt_of_le (by decide) h))).trans (if_neg (Nat.not_lt.2 h))

variable (ha : d.portState p = 6) (hu : f.uncorrectable = 0)
include ha hu

/-- A frame with a bad CRC asks for the next one wanted (R509). -/
theorem Dev.linkRx_bad (hcrc : f.crcOk = false) : d.linkRx p f = (d.counted p f).askAgain p := by
  simp [Dev.linkRx, Dev.portActive_of_state ha, Dev.fecCount_clean hu, hcrc, Dev.askAgain]

variable (hcrc : f.crcOk = true)
include hcrc

theorem Dev.linkRx_ack {n : BitVec 12} (hk : f.kind = .ack n) :
    d.linkRx p f = (d.counted p f).modLink p fun l => { l with replay := ackReplay n.toNat l.replay } := by
  simp [Dev.linkRx, Dev.portActive_of_state ha, Dev.fecCount_clean hu, hu, hcrc, hk]

theorem Dev.linkRx_again {n : BitVec 12} (hk : f.kind = .again n) :
    d.linkRx p f = (d.counted p f).replayFrom p n.toNat := by
  simp [Dev.linkRx, Dev.portActive_of_state ha, Dev.fecCount_clean hu, hu, hcrc, hk]

theorem Dev.linkRx_idle (hk : f.kind = .idle) : d.linkRx p f = (d.counted p f).takeFrame p f := by
  simp [Dev.linkRx, Dev.portActive_of_state ha, Dev.fecCount_clean hu, hu, hcrc, hk]

/-- A packet's frame in sequence returns one credit of its class (R510). -/
theorem Dev.linkRx_data {c : BitVec 3} {two : Bool} (hk : f.kind = .data c two) (hseq : f.seq.toNat = (d.link p).rxSeq) :
    d.linkRx p f = ((d.counted p f).takeNext p f).emit (.frame p (.credit c two 1)) := by
  have next : (d.counted p f).takeFrame p f = (d.counted p f).takeNext p f :=
    Dev.takeFrame_next (Dev.ahead_of_wanted (d := d.counted p f) hseq)
  simp [Dev.linkRx, Dev.portActive_of_state ha, Dev.fecCount_clean hu, hu, hcrc, hk, Dev.counted_link, hseq, next]

theorem Dev.linkRx_credit {c : BitVec 3} {two : Bool} {n : BitVec 8} (hk : f.kind = .credit c two n) :
    d.linkRx p f = ((d.counted p f).credited p c two n).takeFrame p f := by
  simp [Dev.linkRx, Dev.portActive_of_state ha, Dev.fecCount_clean hu, hu, hcrc, hk, Dev.credited]

end

/-! ## Frames sent (11 R513; 12 R605) -/

/-- The packets of port p's queue for whose class the port has link credit (R510). -/
def Dev.creditFor (d : Dev) (p : Nat) (x : SItem) : Bool :=
  match (d.egq p)[x.ref]? with
  | some e => 0 < Tab.getD (d.link p).credits (d.creditIdx p e.pkt) 0
  | none => false

section
variable {d : Dev} {p : Nat} (ha : d.portState p = 6) (hroom : (d.link p).replay.length < 64)
include ha hroom

/-- An ACTIVE port with nothing to send and room in its replay buffer sends an idle frame (R513). -/
theorem Dev.idleFrame_sends (hq : d.egq p = []) : d.idleFrame p = d.sendFrame p none := by
  simp [Dev.idleFrame, Dev.portActive_of_state ha, hq, hroom]

/-- The packet that the scheduler chose leaves its queue and spends a credit (R605, R510). -/
theorem Dev.egressSelect_sends {x : SItem} {d1 : Dev} {e : EgItem} (hhalt : d.halted = false)
    (hsel : d.choose (17 + p) (egItems (d.egq p)) (d.creditFor p) = (some x, d1))
    (he : (d.egq p)[x.ref]? = some e) :
    let d2 : Dev := { d1 with egress := Tab.set d1.egress p ((d.egq p).eraseIdx x.ref) }
    let i := d2.creditIdx p e.pkt
    let d3 := d2.modLink p fun l => { l with credits := Tab.set l.credits i (Tab.getD l.credits i 0 - 1) }
    d.egressSelect p = (((d3.stamp p e.pkt).2.sendFrame p (some (d3.stamp p e.pkt).1)).recordLeft e).pumpAll := by
  have may : ¬ ((!d.portActive p) = true ∨ 64 ≤ (d.link p).replay.length ∨ d.halted = true) := by
    simp [Dev.portActive_of_state ha, hhalt, hroom]
  rw [Dev.egressSelect, if_neg may]
  dsimp only
  erw [hsel]
  simp only [he]

end

/-- A queue whose eligible time has come leaves the calendar wheel (R610). -/
theorem Dev.wheelEligible_leaves {d : Dev} {i u t : Nat} (hw : (d.upq i u).wheel = some t) (ht : t ≤ d.now) :
    d.wheelEligible i u = d.setUpq i u { d.upq i u with wheel := none } := by
  simp [Dev.wheelEligible, hw, ht]

/-! ## The statement -/

theorem linkFrameRx_gives {s : State} (h : s.d.serving = true) (p : Fin 16) (f : LinkFrame) :
    GivesLater s (.linkFrameRx p f) (s.d.linkRx p f) :=
  serving_gives (fun d => d.linkRx p f) rfl h

/-- Settles O40: a good frame comes to the case of `Dev.linkRx` that its kind names, and one in sequence to that of
`Dev.takeFrame` that its number names. -/
theorem linkFramesAndEgress : Obligations.LinkFramesAndEgress := by
  intro s p hs d
  refine ⟨fun f ha hu => ?_, ?_, ?_, ?_⟩
  · intro d1 want ahead taken
    have gives := linkFrameRx_gives hs p f
    refine ⟨?_, fun hcrc => ⟨?_, ?_, ?_, ?_, ?_, ?_, ?_⟩⟩
    · intro hcrc
      exact gives.of_eq (Dev.linkRx_bad ha hu hcrc)
    · intro n hk
      exact gives.of_eq (Dev.linkRx_ack ha hu hcrc hk)
    · intro n hk
      exact gives.of_eq (Dev.linkRx_again ha hu hcrc hk)
    · intro hk hahead
      exact gives.of_eq ((Dev.linkRx_idle ha hu hcrc hk).trans (Dev.takeFrame_next hahead))
    · intro hk hlo hhi
      exact gives.of_eq ((Dev.linkRx_idle ha hu hcrc hk).trans (Dev.takeFrame_early hlo hhi))
    · intro hk hold
      exact gives.of_eq ((Dev.linkRx_idle ha hu hcrc hk).trans (Dev.takeFrame_old hold))
    · intro c two hk hseq _
      exact gives.of_eq (Dev.linkRx_data ha hu hcrc hk hseq)
    · intro c two n hk hahead i d2
      have wanted : (d2.link p).rxSeq = want := Dev.credited_rxSeq (d := d1) c two n
      refine gives.of_eq ((Dev.linkRx_credit ha hu hcrc hk).trans ((Dev.takeFrame_next (d := d2) ?_).trans ?_))
      · rw [Dev.ahead, wanted]
        exact hahead
      · rw [Dev.takeNext, wanted]
  · intro ha hq hroom n
    exact (serving_gives (fun d => d.idleFrame p) rfl hs).of_eq (Dev.idleFrame_sends ha hroom hq)
  · intro x d1 e ha hroom hhalt hsel he d2 i d3 k d4 n
    exact (serving_gives (fun d => d.egressSelect p) rfl hs).of_eq (Dev.egressSelect_sends ha hroom hhalt hsel he)
  · intro i u t hw ht
    exact (serving_gives (fun d => d.wheelEligible i u) rfl hs).of_eq (Dev.wheelEligible_leaves hw ht)

end Machine
end Sys2Proof

/-!
PROOFS. Ports (11 Table 1, R512, R513, R850; 13 R629, R637, R641): the writes of PRT_CTL, a port taken down, and training; the
statement O39.
-/
namespace Sys2Proof
namespace Machine

/-- The bit of a field of one bit. -/
theorem bitAt_eq_of_bits {w w' : W64} {k : Nat} (h : bits w k k = bits w' k k) : bitAt w k = bitAt w' k := by
  rw [bits_single, bits_single] at h
  exact (by decide : ∀ a b : Bool, a.toNat = b.toNat → a = b) _ _ h

/-! ## A port that is DOWN (11 Table 14) -/

/-- d' is d with only registers, links and egress queues changed, and with port p's link and queue as they are DOWN. -/
def Dev.PortDown (p : Nat) (d d' : Dev) : Prop :=
  d'.link p = PortLink.reset ∧ Tab.get? d'.egress p = none ∧
    d' = { d with regs := d'.regs, ports := d'.ports, egress := d'.egress }

section
variable {d e : Dev} {p : Nat}

theorem Dev.portReset_down (d : Dev) (p : Nat) : Dev.PortDown p d (d.portReset p) := by
  refine ⟨?_, ?_, rfl⟩
  · simp [Dev.portReset, Dev.setLink, Dev.link, Tab.getD]
  · simp [Dev.portReset]

/-- What was down from d is down from a device that differs from d in these fields only. -/
theorem Dev.PortDown.of_only {d0 : Dev} (h : Dev.PortDown p d e)
    (h0 : d = { d0 with regs := d.regs, ports := d.ports, egress := d.egress }) :
    Dev.PortDown p d0 e := by
  obtain ⟨hlink, hegr, honly⟩ := h
  exact ⟨hlink, hegr, honly.trans (by rw [h0])⟩

theorem Dev.PortDown.setPort (h : Dev.PortDown p d e) (n : Nat) : Dev.PortDown p d (e.setPort p n) := by
  obtain ⟨hlink, hegr, honly⟩ := h
  exact ⟨hlink, hegr, by rw [honly]; rfl⟩

theorem Dev.PortDown.reset (h : Dev.PortDown p d e) : Dev.PortDown p d (e.portReset p) :=
  (Dev.portReset_down e p).of_only h.2.2

/-! ## State and enabling of a port that is taken down -/

theorem Dev.portEn_wr_status (d : Dev) (p : Nat) (w : W64) : (d.wr .port p 8 w).portEn p = d.portEn p := by
  rw [Dev.portEn, Dev.rd_wr_ne _ _ _ _ _ _ _ _ (by simp [Loc.addr])]
  rfl

theorem Dev.portState_wr_ctl (d : Dev) (p : Nat) (w : W64) : (d.wr .port p 0 w).portState p = d.portState p := by
  rw [Dev.portState, Dev.fld, Dev.rd_wr_ne _ _ _ _ _ _ _ _ (by simp [Loc.addr])]
  rfl

theorem Dev.power_wr_port (d : Dev) (p off hi lo : Nat) (w : W64) :
    (d.wr .port p off w).fld .pwr 0 0 hi lo = d.fld .pwr 0 0 hi lo := by
  rw [Dev.fld, Dev.rd_wr_ne _ _ _ _ _ _ _ _ (by simp [Loc.addr, Blk.base]; omega)]
  rfl

theorem Dev.portReset_state (d : Dev) (p : Nat) : (d.portReset p).portState p = 0 := by
  change bits ((d.wr .port p 8 0).rd .port p 8) 2 0 = 0
  rw [Dev.rd_wr_self]
  rfl

theorem Dev.portReset_en (d : Dev) (p : Nat) : (d.portReset p).portEn p = d.portEn p := d.portEn_wr_status p 0

theorem Dev.portReset_mayTrain (d : Dev) (p : Nat) : (d.portReset p).mayTrain p = d.mayTrain p := by
  have hp : (d.portReset p).fld .pwr 0 0 35 32 = d.fld .pwr 0 0 35 32 := d.power_wr_port p 8 35 32 0
  rw [Dev.mayTrain, hp, Dev.portReset_en]
  rfl

theorem Dev.setPort_state (d : Dev) (p : Nat) {n : Nat} (h : n < 8) : (d.setPort p n).portState p = n :=
  (Dev.fld_setFld_self d .port p 8 2 0 n (by decide) (by decide)).trans (Nat.mod_eq_of_lt h)

theorem Dev.setPort_en (d : Dev) (p n : Nat) : (d.setPort p n).portEn p = d.portEn p := d.portEn_wr_status p _

/-! ## Training started (11 R512) -/

theorem Dev.portTrain_starts (h : d.mayTrain p = true) : d.portTrain p = (d.portReset p).setPort p 1 := if_pos h

theorem Dev.portTrain_waits (h : d.mayTrain p = false) : d.portTrain p = d.portReset p := if_neg (by simp [h])

/-- A port that is not ACTIVE has no partner to leave (13 R629). -/
theorem Dev.retrain_idle (h : d.portState p ≠ 6) (c : Bool) : d.retrain p c = (d.portReset p).portTrain p := by
  have hact : d.portActive p = false := beq_eq_false_iff_ne.2 h
  simp [Dev.retrain, Dev.portLeave, hact]

/-- A port that may train starts at step 1, with a fresh link. -/
theorem Dev.trains (h : d.mayTrain p = true) :
    (d.portTrain p).portState p = 1 ∧ (d.portTrain p).portEn p = d.portEn p ∧ Dev.PortDown p d (d.portTrain p) := by
  rw [Dev.portTrain_starts h]
  exact ⟨Dev.setPort_state _ p (by decide), (Dev.setPort_en _ p 1).trans (d.portReset_en p), (d.portReset_down p).setPort 1⟩

/-! ## Writes of PRT_CTL (11 R510, R511) -/

/-- The device with EN of a value written to PRT_CTL. -/
def Dev.enStored (d : Dev) (p : Nat) (v : W64) : Dev := d.wr .port p 0 (putBits 0 0 0 (bits v 0 0))

variable {v : W64}

theorem Dev.enStored_state : (d.enStored p v).portState p = d.portState p := d.portState_wr_ctl p _

theorem Dev.enStored_en : (d.enStored p v).portEn p = bitAt v 0 := by
  have h : bits (putBits 0 0 0 (bits v 0 0)) 0 0 = bits v 0 0 := by
    rw [bits_putBits_self _ _ _ _ (by decide) (by decide)]
    exact Nat.mod_eq_of_lt (bits_lt ..)
  rw [Dev.portEn, Dev.enStored, Dev.rd_wr_self]
  exact bitAt_eq_of_bits h

theorem Dev.enStored_mayTrain : (d.enStored p v).mayTrain p =
    (bitAt v 0 && !d.portFenced p && !d.halted && d.fld .pwr 0 0 35 32 == 0) := by
  have hp : (d.enStored p v).fld .pwr 0 0 35 32 = d.fld .pwr 0 0 35 32 := d.power_wr_port p 0 35 32 _
  rw [Dev.mayTrain, Dev.enStored_en, hp]
  rfl

/-- A port that is not ACTIVE and is enabled by the write trains from step 1. -/
theorem Dev.ctl_trains (hen : bitAt v 0 = true) (hst : d.portState p ≠ 6) (hf : d.portFenced p = false) (hh : d.halted = false)
    (hs0 : d.fld .pwr 0 0 35 32 = 0) :
    let d' := (d.enStored p v).retrain p true
    d'.portState p = 1 ∧ d'.portEn p = true ∧ Dev.PortDown p d d' := by
  have hmay : ((d.enStored p v).portReset p).mayTrain p = true := by
    rw [Dev.portReset_mayTrain, Dev.enStored_mayTrain]
    simp [hen, hf, hh, hs0]
  obtain ⟨hstate, hen', hdown⟩ := Dev.trains hmay
  intro d'
  have e : d' = ((d.enStored p v).portReset p).portTrain p := Dev.retrain_idle (by rwa [Dev.enStored_state]) true
  rw [e]
  exact ⟨hstate, by rw [hen', Dev.portReset_en, Dev.enStored_en, hen], hdown.of_only rfl⟩

/-- A port that is not ACTIVE and is disabled by the write goes DOWN and stays so. -/
theorem Dev.ctl_stops (hen : bitAt v 0 = false) (hst : d.portState p ≠ 6) :
    let d' := (d.enStored p v).retrain p true
    d'.portState p = 0 ∧ d'.portEn p = false ∧ Dev.PortDown p d d' := by
  have hmay : ((d.enStored p v).portReset p).mayTrain p = false := by
    rw [Dev.portReset_mayTrain, Dev.enStored_mayTrain]
    simp [hen]
  intro d'
  have e : d' = ((d.enStored p v).portReset p).portReset p :=
    (Dev.retrain_idle (by rwa [Dev.enStored_state]) true).trans (Dev.portTrain_waits hmay)
  rw [e]
  exact ⟨Dev.portReset_state _ p, by rw [Dev.portReset_en, Dev.portReset_en, Dev.enStored_en, hen],
    (Dev.portReset_down _ p).reset.of_only rfl⟩

theorem Dev.prtCtlWrite_same (hsame : bitAt v 0 = d.portEn p) (hre : bitAt v 1 = false) : d.prtCtlWrite p v = d.enStored p v :=
  if_neg (by simp [hsame, hre])

theorem Dev.prtCtlWrite_retrains (h : d.portEn p ≠ bitAt v 0 ∨ bitAt v 1 = true) :
    d.prtCtlWrite p v = (d.enStored p v).retrain p true := if_pos h

end

/-! ## The commands of PRT_CTL -/

section
variable {d : Dev} {fn : Fin 32} {p : Fin 16} (h : d.hostVerdict fn (0x400000 + p * 0x10000) 8 true = .ok)
include h

/-- Only function 0 reaches a port: elsewhere the offset lies in the first page of the stand's own window (03 R68). -/
theorem Dev.fn_of_portCtl : (fn : Nat) = 0 := by
  by_contra h0
  have howner := Dev.hostVerdict_ok_owner h h0
  have hfn := fn.isLt
  rw [pfOff, if_neg h0, show (0x400000 + p * 0x10000 : Nat) % 65536 = 0 by omega] at howner
  rw [notOwner, if_pos (by omega), if_neg h0] at howner
  simp at howner

/-- An accepted write of PRT_CTL has the effect of that register (11 Table 14). -/
theorem Dev.busWrite_portCtl (v : W64) : d.busWrite fn (0x400000 + p * 0x10000) 8 v = d.prtCtlWrite p v := by
  have hp := p.isLt
  have hoff : pfOff fn (0x400000 + p * 0x10000) = 0x400000 + p * 0x10000 := if_pos (Dev.fn_of_portCtl h)
  have ha : (0x400000 + p * 0x10000 : Nat) / 8 * 8 = 0x400000 + p * 0x10000 := by omega
  have hi : (0x400000 + p * 0x10000 - 0x400000 : Nat) / 65536 = p := by omega
  have hm : (0x400000 + p * 0x10000 : Nat) % 65536 = 0 := by omega
  have ht : d.target (0x400000 + p * 0x10000) = .one ⟨.port, p, 0⟩ := by
    simp only [Dev.target, ha, hi, hm]
    rw [if_neg (by omega), if_neg (by omega), if_neg (by omega), if_neg (by omega), if_pos (by omega)]
    rfl
  have hu : uniCell (0x400000 + p * 0x10000) = none := if_neg (by omega)
  obtain ⟨r, hr⟩ := Option.isSome_iff_exists.1 (by decide +kernel : (findRow .port 0).isSome = true)
  rw [Dev.busWrite_ok v h]
  simp only [Dev.doWrite, hoff, ht, hu, Dev.regWrite, hr]
  rfl

end

/-- Bit 0 of a value whose RETRAIN is set or cleared. -/
theorem bits_retrain_en (v : W64) (b : Nat) : bits (putBits v 1 1 b) 0 0 = bits v 0 0 :=
  bits_putBits_other v 1 1 b 0 0 (by decide) (by decide) (by decide) (by decide)

theorem bitAt_retrain_en (v : W64) (b : Nat) : bitAt (putBits v 1 1 b) 0 = bitAt v 0 :=
  getLsbD_putBits_outside v b (by decide) (by decide) (by decide)

theorem bitAt_retrain (v : W64) (b : Bool) : bitAt (putBits v 1 1 b.toNat) 1 = b := by
  have h := bits_putBits_self v 1 1 b.toNat (by decide) (by decide)
  rw [bits_single] at h
  cases b <;> simpa [bitAt] using h

theorem Dev.enStored_retrain (d : Dev) (p : Nat) (v : W64) (b : Nat) : d.enStored p (putBits v 1 1 b) = d.enStored p v := by
  rw [Dev.enStored, bits_retrain_en, Dev.enStored]

section
variable {s : State} {fn : Fin 32} {p : Fin 16} {v : W64}
  (h : s.d.hostVerdict fn (0x400000 + p * 0x10000) 8 true = .ok)
include h

/-- PORT_ENABLE of the value that EN has only stores it. -/
theorem portEnable_gives_same (hsame : bitAt v 0 = s.d.portEn p) : GivesLater s (.portEnable fn p v) (s.d.enStored p v) :=
  GivesLater.of_eq rfl ((Dev.busWrite_portCtl h (putBits v 1 1 0)).trans
    ((Dev.prtCtlWrite_same ((bitAt_retrain_en v 0).trans hsame) (bitAt_retrain v false)).trans (s.d.enStored_retrain p v 0)))

/-- PORT_ENABLE that changes EN takes the port down and trains it when it may. -/
theorem portEnable_gives_change {b : Bool} (hen : bitAt v 0 = b) (hold : s.d.portEn p = !b) :
    GivesLater s (.portEnable fn p v) ((s.d.enStored p v).retrain p true) :=
  GivesLater.of_eq rfl ((Dev.busWrite_portCtl h (putBits v 1 1 0)).trans
    ((Dev.prtCtlWrite_retrains (.inl (by simp [bitAt_retrain_en, hen, hold]))).trans (by rw [Dev.enStored_retrain])))

/-- PORT_RETRAIN takes the port down and trains it when it may. -/
theorem portRetrain_gives : GivesLater s (.portRetrain fn p v) ((s.d.enStored p v).retrain p true) :=
  GivesLater.of_eq rfl ((Dev.busWrite_portCtl h (putBits v 1 1 1)).trans
    ((Dev.prtCtlWrite_retrains (.inr (bitAt_retrain v true))).trans (by rw [Dev.enStored_retrain])))

end

/-! ## Events of training (11 R512, R850) -/

section
variable {d : Dev} {p : Nat} (hlo : 1 ≤ d.portState p) (hhi : d.portState p ≤ 5)
include hlo hhi

/-- A training port that may train becomes ACTIVE with its partner, opens its cruise connection and sends HELLO. -/
theorem Dev.portTrained_active {node : BitVec 16} {pp : BitVec 4} {grants : List (BitVec 8)} {c : Nat} {d3 : Dev}
    (hmay : d.mayTrain p = true) :
    let lanes := if (d.link p).lost = 0 then 8 else 4
    let d1 := (d.wr .port p 8 (BitVec.ofNat 64 (node.toNat * 2 ^ 48 + pp.toNat * 2 ^ 44 + lanes * 2 ^ 8 + 6))).modLink p fun l =>
      { l with credits := grants.zipIdx.map fun (n, i) => (i, n.toNat) }
    let d2 := ({ d1 with downLinks := d.downLinks.filter fun x => x != (d1.node, p) } : Dev).grantAll p
    d2.newConn 0 node.toNat 0 (fun x => { x with cruise := some p }) = some (c, d3) →
    d.portTrained p node pp grants = d3.sendHello p := by
  intro lanes d1 d2 hconn
  have training : ¬ (d.portState p = 0 ∨ 6 ≤ d.portState p ∨ (!d.mayTrain p) = true) := by
    rw [hmay]
    simp only [Bool.not_true, Bool.false_eq_true, or_false]
    omega
  rw [Dev.portTrained, if_neg training]
  change (match d2.newConn 0 node.toNat 0 (fun x => { x with cruise := some p }) with
    | some (_, d) => d.sendHello p
    | none => d2) = d3.sendHello p
  rw [hconn]

section
variable {lanes : BitVec 8}

/-- A step that fails on lanes of one half goes on with the other half. -/
theorem Dev.trainTimeout_goesOn (h3 : d.portState p ≤ 3) (hl : lanes ≠ 0)
    (hhalf : ((d.link p).lost ||| lanes.toNat) % 16 = 0 ∨ ((d.link p).lost ||| lanes.toNat) / 16 = 0) :
    d.trainTimeout p lanes =
      (d.modLink p fun l => { l with lost := (d.link p).lost ||| lanes.toNat }).setPort p (d.portState p + 1) := by
  rw [Dev.trainTimeout, if_neg (by omega), if_pos ⟨h3, hl, hhalf⟩]

/-- Any other failure ends training, to be tried again. -/
theorem Dev.trainTimeout_fails (hbad : 3 < d.portState p ∨ lanes = 0 ∨
      (((d.link p).lost ||| lanes.toNat) % 16 ≠ 0 ∧ ((d.link p).lost ||| lanes.toNat) / 16 ≠ 0)) :
    d.trainTimeout p lanes = (d.portReset p).modLink p fun l => { l with retry := true } := by
  rw [Dev.trainTimeout, if_neg (by omega), if_neg]
  rintro ⟨h3, hl, hhalf⟩
  rcases hbad with h | h | ⟨hlow, hhigh⟩
  · omega
  · exact hl h
  · exact hhalf.elim hlow hhigh

end

end

/-! ## The statement -/

/-- Settles O39: an accepted write of PRT_CTL is `Dev.prtCtlWrite`, and each event finds the port in the state it names. -/
theorem portsTrainAndRetrain : Obligations.PortsTrainAndRetrain := by
  intro s fn p v d down
  refine ⟨?_, fun hs => ⟨?_, ?_, ?_, ?_⟩⟩
  · intro hok d1
    refine ⟨?_, ?_, ?_, ?_, ?_, ?_⟩
    · exact fun hsame => portEnable_gives_same hok hsame
    · intro hen hdis hst hf hh hs0
      have notActive : d.portState p ≠ 6 := fun h => absurd (hst.symm.trans h) (by decide)
      exact ⟨_, portEnable_gives_change hok hen hdis, Dev.ctl_trains hen notActive hf hh hs0⟩
    · intro hen hon hst
      exact ⟨_, portEnable_gives_change hok hen hon, Dev.ctl_stops hen hst⟩
    · intro hen hon _
      exact portEnable_gives_change hok hen hon
    · exact fun _ _ => portRetrain_gives hok
    · intro hen hst hf hh hs0
      exact ⟨_, portRetrain_gives hok, Dev.ctl_trains hen hst hf hh hs0⟩
  · intro node pp grants c d3 hlo hhi hmay lanes d1 d2 hconn
    exact (serving_gives (fun d => d.portTrained p node pp grants) rfl hs).of_eq (Dev.portTrained_active hlo hhi hmay hconn)
  · intro lanes lost hlo hhi
    have gives := serving_gives (c := .trainingStepTimeout p lanes) (fun d => d.trainTimeout p lanes) rfl hs
    exact ⟨fun h3 hl hhalf => gives.of_eq (Dev.trainTimeout_goesOn hlo hhi h3 hl hhalf),
      fun hbad => gives.of_eq (Dev.trainTimeout_fails hlo hhi hbad)⟩
  · intro hretry hst hmay
    have gives := serving_gives (c := .trainingRetry p) (fun d => d.trainRetry p) rfl hs
    obtain ⟨hstate, -, hdown⟩ := Dev.trains hmay
    exact ⟨_, gives.of_eq (if_pos ⟨hretry, hst⟩), hstate, hdown⟩
  · intro hst
    exact (serving_gives (fun d => d.linkTimeout p) rfl hs).of_eq (if_pos (Dev.portActive_of_state hst))

end Machine
end Sys2Proof

/-!
PROOFS. A step, and fabric time (12 R576 to R592): TIME packets and the parent, the PPS input, FTM_NOW and FTM_SET; the statements
O44 and O58.
-/
namespace Sys2Proof
namespace Machine

/-! ## A step -/

/-- With no slewing under way a tick moves fabric time and the device clock by 1 ns (R577). -/
theorem State.tick_of_no_slew {s : State} (h : s.d.slew = 0) :
    s.tick = { s with d := { s.d with fab := s.d.fab + 65536, up := s.d.up + 1 } } := by
  rw [State.tick, Dev.fabTick, if_pos h]

theorem step_idle {s : State} (h : s.pending = []) : step s = .next s.tick := by
  rw [step, h]

/-- Settles O58: a step looks at the queue's front alone, and on an empty queue ticks. -/
theorem stepRunsTheFrontCommand : Obligations.StepRunsTheFrontCommand :=
  ⟨fun _ _ _ => rfl, fun _ hempty => ⟨step_idle hempty, State.tick_of_no_slew⟩⟩

/-! ## FTM_STATUS (12 Table 9) -/

section
variable (d : Dev)

/-- A field above STATE leaves it. -/
theorem Dev.ftmState_setFld {hi lo : Nat} (v : Nat) (h : lo ≤ hi) (h64 : hi < 64) (hlo : 2 < lo) :
    (d.setFld .ftm 0 0x10 hi lo v).ftmState = d.ftmState :=
  Dev.fld_setFld_other d .ftm 0 0x10 hi lo v 2 0 h h64 (.inl hlo) (by decide)

theorem Dev.isRef_setPps (v : Nat) : (d.setFld .ftm 0 0x10 4 4 v).isRef = d.isRef := by
  rw [Dev.isRef, Dev.setFld, Dev.rd_wr_self]
  exact getLsbD_putBits_outside _ v (by decide) (by decide) (by decide)

theorem Dev.ppsValid_set : (d.setFld .ftm 0 0x10 4 4 1).ppsValid = true := by
  have h := d.fld_setFld_self .ftm 0 0x10 4 4 1 (by decide) (by decide)
  rw [Dev.fld, bits_single] at h
  exact Bool.toNat_eq_one.1 h

theorem Dev.ftmState_modLink (p : Nat) (f : PortLink → PortLink) : (d.modLink p f).ftmState = d.ftmState := rfl

/-- The search for a parent leaves STATE. -/
theorem Dev.ftmState_refreshParent : d.refreshParent.ftmState = d.ftmState := by
  have shown (node port dist : Nat) :
      (((d.setFld .ftm 0 0x10 47 32 node).setFld .ftm 0 0x10 31 28 port).setFld .ftm 0 0x10 27 20 dist).ftmState = d.ftmState := by
    rw [Dev.ftmState_setFld _ _ (by decide) (by decide) (by decide), Dev.ftmState_setFld _ _ (by decide) (by decide) (by decide),
      Dev.ftmState_setFld _ _ (by decide) (by decide) (by decide)]
  unfold Dev.refreshParent
  split
  · exact shown 0 0 0
  · split
    · dsimp only
      split
      · exact shown _ _ _
      · exact (Dev.ftmState_modLink _ _ _).trans (shown _ _ _)
    · exact shown 0 0 255

end

/-! ## TIME packets (R582, R584) -/

/-- The device that has taken the distance and reference of a TIME packet on a port. -/
def Dev.heardTime (d : Dev) (p : Nat) (h : TimeHdr) : Dev :=
  (d.modLink p fun l => { l with dist := h.dist.toNat, refNode := h.refNode.toNat }).refreshParent

/-- Offset of an exchange from its four stamps in units of 2^-16 ns and the port's correction: doubled, so in units of 2^-17 ns
(R584). -/
def syncOffset (t1 t2 t3 t4 corr : Int) : Int := (t2 - t1) - (t4 - t3) - corr * 16384

/-- Delay of an exchange, doubled likewise (R584). -/
def syncDelay (t1 t2 t3 t4 : Int) : Int := (t4 - t1) - (t3 - t2)

section
variable {d : Dev} {p : Fin 16} {r : Route} {h : TimeHdr} {icrc : BitVec 32}

/-- A TIME packet of the link partner for this node is taken. -/
theorem Dev.arriveTime_taken {op : Nat} (f : Dev → Dev) (hact : d.portActive p = true) (hhalt : d.halted = false)
    (hdst : r.dstNode.toNat = d.node) (hcrc : (⟨BitVec.ofNat 4 tyTime, r, .time op h, icrc⟩ : Pkt).icrcOk = true)
    (hsrc : r.srcNode.toNat = d.peerNode p) : d.arriveTime p op r h icrc f = f (d.heardTime p h) := by
  simp [Dev.arriveTime, Dev.heardTime, hact, hhalt, hdst, hcrc, hsrc]

/-- A request of the partner is answered (R584). -/
theorem Dev.rxSyncReq_answers (harr : ∀ f, d.arriveTime p 1 r h icrc f = f (d.heardTime p h)) :
    d.rxSyncReq p r h icrc = (d.heardTime p h).timePkt p 2 h.seq h.ta (BitVec.ofNat 80 d.fab) :=
  harr fun e => e.timePkt p 2 h.seq h.ta (BitVec.ofNat 80 d.fab)

/-- A FREE device steps by half of the doubled offset of an exchange and acquires (R589). -/
theorem Dev.exchange_free (hfree : d.ftmState = 0) (p : Nat) (delay off : Int) :
    d.exchange p delay off =
      ((d.showOffset off delay).stepFab (((d.showOffset off delay).fab : Int) + off / 2).toNat).setFtm 1 := by
  rw [Dev.exchange, if_pos hfree]

/-- What an answer of the parent to the request outstanding, not too old, does once its packet is taken. -/
theorem Dev.rxSyncRsp_exchanges {q : TimeReq} (harr : ∀ f, d.arriveTime p 2 r h icrc f = f (d.heardTime p h))
    (hreq : ((d.heardTime p h).link p).req = some q) (hseq : q.seq = h.seq.toNat) (hage : d.fab ≤ q.t1 + 100000 * 65536)
    (hpar : (d.heardTime p h).isParent p = true) :
    let e1 := (d.heardTime p h).modLink p fun l => { l with req := none }
    let corr := (BitVec.ofNat 16 (e1.fld .ftm 0 (0x100 + 8 * p) 15 0)).toInt
    d.rxSyncRsp p r h icrc =
      e1.exchange p (syncDelay q.t1 h.tb.toNat h.tc.toNat d.fab) (syncOffset q.t1 h.tb.toNat h.tc.toNat d.fab corr) := by
  intro e1 corr
  have young : ¬ ((100000 * 65536 : Int) < (d.fab : Int) - q.t1) := by omega
  have parent : e1.isParent p = true := hpar
  rw [Dev.rxSyncRsp, harr]
  simp only [hreq]
  rw [if_neg (not_not.2 hseq), if_neg young, if_pos parent]
  rfl

end

/-! ## The timers of exchanges (R584, R592) -/

section
variable {d : Dev} {p : Nat}

theorem Dev.syncTimer_sends (hact : d.portActive p = true) :
    d.syncTimer p = (d.modLink p fun l => { l with reqSeq := ((d.link p).reqSeq + 1) % 2 ^ 32 }).timePkt p 1
      (BitVec.ofNat 32 (d.link p).reqSeq) 0 0 := by
  simp [Dev.syncTimer, hact]

/-- The device that looks for a parent elsewhere than on a port. -/
def Dev.parentLost (d : Dev) (p : Nat) : Dev := (d.modLink p fun l => { l with dist := 255 }).refreshParent

theorem Dev.parentTimeout_eq (hpar : d.isParent p = true) (hst : d.ftmState ≠ 0) :
    d.parentTimeout p =
      if (d.parentLost p).fld .ftm 0 0x10 27 20 = 255 then (d.parentLost p).setFtm 3 else d.parentLost p := by
  have acquired : (d.parentLost p).ftmState ≠ 0 := by
    rwa [Dev.parentLost, Dev.ftmState_refreshParent, Dev.ftmState_modLink]
  have lost : d.parentTimeout p =
      if (d.parentLost p).fld .ftm 0 0x10 27 20 = 255 ∧ (d.parentLost p).ftmState ≠ 0 then (d.parentLost p).setFtm 3
      else d.parentLost p := if_neg (by simp [hpar])
  simp only [lost, acquired, ne_eq, not_false_eq_true, and_true]

end

/-! ## The PPS input (R579, R580) -/

/-- Edges in time in a row, after one that came n ns after the one before it. -/
def Dev.ppsRunAt (d : Dev) (n : BitVec 32) : Nat :=
  if decide (999999000 ≤ n.toNat) && decide (n.toNat ≤ 1000001000) then d.ppsRun + 1 else 0

theorem Dev.ppsRunAt_eq (d : Dev) (n : BitVec 32) :
    d.ppsRunAt n = if 999999000 ≤ n.toNat ∧ n.toNat ≤ 1000001000 then d.ppsRun + 1 else 0 := by
  simp only [Dev.ppsRunAt, Bool.and_eq_true, decide_eq_true_eq]

/-- The device that has counted an edge, and shows PPS_VALID from the third in time on. -/
def Dev.ppsCounted (d : Dev) (n : BitVec 32) : Dev :=
  let c : Dev := { d with ppsRun := d.ppsRunAt n }
  if 3 ≤ d.ppsRunAt n then c.setFld .ftm 0 0x10 4 4 1 else c

/-- Twice the way from a fabric time to the nearest whole second. -/
def ppsError (fab : Nat) : Int :=
  let sec := 1000000000 * 65536
  let past := fab % sec
  if past < sec / 2 then -(2 * past : Int) else 2 * (sec - past : Int)

theorem ppsError_eq (fab : Nat) :
    let past := fab % (1000000000 * 65536)
    ppsError fab = if past < 500000000 * 65536 then -(2 * (past : Int)) else 2 * ((1000000000 * 65536 : Int) - past) := by
  norm_num [ppsError]

section
variable {d : Dev} {n : BitVec 32}

theorem Dev.isRef_ppsCounted : (d.ppsCounted n).isRef = d.isRef := by
  unfold Dev.ppsCounted
  dsimp only
  split
  · exact Dev.isRef_setPps _ 1
  · rfl

theorem Dev.ppsEdge_eq (d : Dev) (n : BitVec 32) :
    d.ppsEdge n = if (d.ppsCounted n).isRef ∧ (d.ppsCounted n).ppsValid then (d.ppsCounted n).correct (ppsError (d.ppsCounted n).fab)
      else d.ppsCounted n := rfl

/-- An edge elsewhere than at the reference only counts. -/
theorem Dev.ppsEdge_follower (href : d.isRef = false) : d.ppsEdge n = d.ppsCounted n := by
  rw [Dev.ppsEdge_eq, if_neg]
  simp [Dev.isRef_ppsCounted, href]

/-- The third edge in time, or a later one, corrects the reference to the nearest whole second. -/
theorem Dev.ppsEdge_reference (href : d.isRef = true) (hrun : 3 ≤ d.ppsRunAt n) :
    d.ppsEdge n = (({ d with ppsRun := d.ppsRunAt n } : Dev).setFld .ftm 0 0x10 4 4 1).correct (ppsError d.fab) := by
  have counted : d.ppsCounted n = ({ d with ppsRun := d.ppsRunAt n } : Dev).setFld .ftm 0 0x10 4 4 1 := if_pos hrun
  have valid : (d.ppsCounted n).ppsValid = true := by
    rw [counted]
    exact Dev.ppsValid_set _
  rw [Dev.ppsEdge_eq, if_pos ⟨Dev.isRef_ppsCounted.trans href, valid⟩, counted, Dev.setFld_fab]

end

/-! ## FTM_NOW and FTM_SET (R577, R581) -/

/-- Only function 0 reaches an offset that is one of the provisioning page in a stand's window (03 R68). -/
theorem Dev.fn_of_provisioning {d : Dev} {fn : Fin 32} {off size : Nat} {w : Bool} (h : d.hostVerdict fn off size w = .ok)
    (ho : off % 65536 < 0x1000) : fn = 0 := by
  by_contra h0
  have hn : (fn : Nat) ≠ 0 := fun e => h0 (Fin.ext e)
  have howner := Dev.hostVerdict_ok_owner h hn
  have hfn := fn.isLt
  have hoff : pfOff fn off = 0x100000 + fn * 0x10000 + off % 65536 := if_neg hn
  have hlow : pfOff fn off % 65536 < 0x1000 := by omega
  rw [notOwner, if_pos (by omega), if_neg hn] at howner
  simp [hlow] at howner

/-- An accepted read of 8 bytes of FTM_NOW. -/
theorem Dev.busRead_now {d : Dev} {fn : Fin 32} (h : d.hostVerdict fn 0x40000 8 false = .ok) :
    d.busRead fn 0x40000 8 = (BitVec.ofNat 64 d.now, d.wr .ftm 0 8 (BitVec.ofNat 64 (d.fab % 65536))) := by
  obtain rfl := Dev.fn_of_provisioning h (by decide)
  obtain ⟨r, hr⟩ := Option.isSome_iff_exists.1 (by decide +kernel : (findRow .ftm 0).isSome = true)
  have ht : d.target (pfOff (0 : Fin 32) 0x40000) = .one ⟨.ftm, 0, 0⟩ := rfl
  have hu : uniCell (pfOff (0 : Fin 32) 0x40000) = none := rfl
  simp only [Dev.busRead, h, Dev.doRead, ht, hu, Dev.readReg, hr, Dev.view]
  rfl

/-- An accepted write of function 0 to a register of the FTM block. -/
theorem Dev.busWrite_ftm {d : Dev} {o : Nat} {r : RegRow} (v : W64) (h8 : o % 8 = 0) (ho : o < 0x10000)
    (hr : findRow .ftm o = some r) (h : d.hostVerdict 0 (0x40000 + o) 8 true = .ok) :
    d.busWrite 0 (0x40000 + o) 8 v = d.writeFtm 0 ⟨.ftm, 0, o⟩ r (0, 64) v := by
  have ht : d.target (0x40000 + o) = .one ⟨.ftm, 0, o⟩ := by
    have e : (0x40000 + o) / 8 * 8 = 0x40000 + o := by omega
    have hq : (0x40000 + o) / 65536 = 4 := by omega
    have hm : (0x40000 + o) % 65536 = o := by omega
    simp only [Dev.target, e, hq, hm]
    rw [if_pos (by omega)]
    rfl
  have hu : uniCell (0x40000 + o) = none := if_neg (by omega)
  rw [Dev.busWrite_ok v h]
  simp only [Dev.doWrite, pfOff, if_true, ht, hu, Dev.regWrite, hr]
  rfl

/-- An accepted write of FTM_SET. -/
theorem Dev.busWrite_ftmSet {d : Dev} {fn : Fin 32} (v : W64) (h : d.hostVerdict fn 0x40028 8 true = .ok) :
    d.busWrite fn 0x40028 8 v = d.ftmSet v := by
  obtain rfl := Dev.fn_of_provisioning h (by decide)
  obtain ⟨r, hr⟩ := Option.isSome_iff_exists.1 (by decide +kernel : (findRow .ftm 0x28).isSome = true)
  rw [Fin.val_zero, Dev.busWrite_ftm (o := 0x28) v rfl (by decide) hr h, Dev.writeFtm, if_pos rfl]

/-- The reference steps forward once (R581). -/
theorem Dev.ftmSet_steps {d : Dev} {v : W64} (href : d.isRef = true) (hdone : bitAt (d.rd .ftm 0 0x10) 5 = false)
    (hv : d.now ≤ v.toNat) :
    d.ftmSet v = (d.stepFab (roundUp v.toNat 1000000000 * 65536)).setFld .ftm 0 0x10 5 5 1 := by
  simp [Dev.ftmSet, href, hdone, Nat.not_lt.2 hv]

theorem ftmNowRead_gives {s : State} {fn : Fin 32} (h : s.d.hostVerdict fn 0x40000 8 false = .ok) :
    GivesLater s (.ftmNowRead fn true)
      ((s.d.wr .ftm 0 8 (BitVec.ofNat 64 (s.d.fab % 65536))).emit (.readData fn (natLe 8 (BitVec.ofNat 64 s.d.now).toNat))) :=
  GivesLater.of_eq (d := (s.d.busRead fn 0x40000 8).2.emit (.readData fn (natLe 8 (s.d.busRead fn 0x40000 8).1.toNat))) rfl
    (by rw [Dev.busRead_now h])

theorem ftmSetWrite_gives {s : State} {fn : Fin 32} (v : W64) (h : s.d.hostVerdict fn 0x40028 8 true = .ok) :
    GivesLater s (.ftmSetWrite fn v) (s.d.ftmSet v) :=
  GivesLater.of_eq (d := s.d.busWrite fn 0x40028 8 v) rfl (Dev.busWrite_ftmSet v h)

/-! ## The statement -/

/-- Settles O44: a TIME packet of the partner and each timer come to the function of their kind, and the two registers to theirs. -/
theorem fabricTimeKept : Obligations.FabricTimeKept := by
  intro s d
  refine ⟨?_, fun hs => ⟨?_, ?_, ?_, ?_, ?_⟩, ?_, ?_⟩
  · intro p op r h icrc hs hact hhalt hdst hcrc hsrc e
    have taken (f : Dev → Dev) : d.arriveTime p op r h icrc f = f (d.heardTime p h) :=
      Dev.arriveTime_taken f hact hhalt hdst hcrc hsrc
    refine ⟨?_, ?_⟩
    · rintro rfl
      exact (serving_gives (fun d => d.rxSyncReq p r h icrc) rfl hs).of_eq (Dev.rxSyncReq_answers taken)
    · rintro q rfl hreq hseq hage hpar hfree e1 corr delay off
      exact (serving_gives (fun d => d.rxSyncRsp p r h icrc) rfl hs).of_eq
        ((Dev.rxSyncRsp_exchanges taken hreq hseq hage hpar).trans (Dev.exchange_free (d := e1) hfree p delay off))
  · intro p hact n
    exact (serving_gives (fun d => d.syncTimer p) rfl hs).of_eq (Dev.syncTimer_sends hact)
  · intro p hpar hst e
    have gives := (serving_gives (c := .parentTimeout p) (fun d => d.parentTimeout p) rfl hs).of_eq (Dev.parentTimeout_eq hpar hst)
    exact ⟨fun hnone => gives.of_eq (if_pos hnone), fun hsome => gives.of_eq (if_neg hsome)⟩
  · intro n href run
    have counts : d.ppsRunAt n = run := d.ppsRunAt_eq n
    have gives := (serving_gives (c := .ppsEdge n) (fun d => d.ppsEdge n) rfl hs).of_eq (Dev.ppsEdge_follower href)
    rw [Dev.ppsCounted, counts] at gives
    exact ⟨fun h3 => gives.of_eq (if_pos h3), fun h3 => gives.of_eq (if_neg (Nat.not_le.2 h3))⟩
  · intro n href hlo hhi hrun e past
    have counts : d.ppsRunAt n = d.ppsRun + 1 := (d.ppsRunAt_eq n).trans (if_pos ⟨hlo, hhi⟩)
    have corrects := Dev.ppsEdge_reference (n := n) href (by omega)
    rw [counts, ppsError_eq] at corrects
    exact (serving_gives (fun d => d.ppsEdge n) rfl hs).of_eq corrects
  · exact serving_gives Dev.ppsTimeout rfl hs
  · intro fn hok d1
    exact (ftmNowRead_gives hok).of_eq (by rw [BitVec.toNat_ofNat]; rfl)
  · intro fn v hok href hdone hv
    exact (ftmSetWrite_gives v hok).of_eq (Dev.ftmSet_steps href hdone hv)

end Machine
end Sys2Proof

/-!
PROOFS. Cruise messages (13 R629 to R659; 16 R778): how one that arrives comes to the cruise engine, and what the engine does with
HELLO to RECORD and SLICE_RESET; the statements O46 and O47.
-/
namespace Sys2Proof
namespace Machine

/-! ## Cruise messages at the receiver (13 R631) -/

/-- A cruise message that passes the checks is placed and handed to the cruise engine (13 R631). -/
theorem Dev.servePkt_ctrl {e e1 : Dev} {p c n : Nat} {x : Conn} {r : Route} {h : ReqHdr} {bs : List Byte} {m : InMsg}
    (icrc : BitVec 32) (ho : e.Opens c x tyCtrl r h bs n m e1) (hs : x.stand = 0) (hk : h.key = 0)
    (hl : h.plen.setWidth 32 = h.msgLen) (h16 : 16 ≤ bs.length) :
    let d := e1.placed p c m (reqPkt tyCtrl r h bs icrc) 0 h.plen.toNat
    e.servePkt p c x (reqPkt tyCtrl r h bs icrc) = { d with cruiseIn := d.cruiseIn ++ [(p, bs)] } := by
  obtain ⟨hhead, hwin, hfin, hst, hopen⟩ := ho
  have hty := reqPkt_ty (ty := tyCtrl) r h bs icrc (by decide)
  have hother : tyCtrl ≠ tyGrsp := by decide
  have hlen : ¬ bs.length < 16 := Nat.not_lt.2 h16
  simp only [reqPkt] at hty ⊢
  simp [Dev.servePkt, hty, hother, Dev.serveReq, hhead, Dev.serveMsg, Nat.not_lt.2 hwin, hfin, hst, Dev.takeCtrl, hs, hk, hl, hlen,
    hopen]

/-- The command of a cruise message opens and places it and hands it to the engine. -/
theorem ctrl_gives {s : State} {ci : Instr} {p : Fin 16} {r : Route} {h : ReqHdr} {bs : List Byte} {icrc : BitVec 32} {x : Conn}
    {n : Nat} {m : InMsg} {e1 : Dev} (run : exec ci s = s.served fun d => d.rxPkt p (reqPkt tyCtrl r h bs icrc))
    (ht : CtrlTaken s p r h bs icrc x n m e1) : GivesLater s ci (e1.ctrlPlaced p r h bs icrc m) := by
  obtain ⟨htaken, hhead, hwin, hfin, hst, hstand, hkey, hlen, h16, hopen⟩ := ht
  exact (taken_gives run htaken).of_eq (Dev.servePkt_ctrl icrc ⟨hhead, hwin, hfin, hst, hopen⟩ hstand hkey hlen h16)

/-! ## A cruise message taken apart (13 Table 1) -/

/-- A field of a record that starts with another number is the field of what follows. -/
theorem recNum_natLe_append_of_le {k j : Nat} (h : k ≤ j) (n v : Nat) (r : List Byte) :
    recNum (natLe k v ++ r) j n = recNum r (j - k) n := by
  simp [recNum, recBytes, List.drop_append, List.drop_of_length_le, natLe_length, h]

/-- The number that a record starts with. -/
theorem recNum_natLe_append (n v : Nat) (r : List Byte) : recNum (natLe n v ++ r) 0 n = v % 256 ^ n :=
  recNum_append_natLe [] r n v

theorem CruiseHdr.length_bytes (ch : CruiseHdr) (op : Nat) : (ch.bytes op).length = 16 := by
  simp [CruiseHdr.bytes, natLe_length]

/-- A cruise message taken apart is the header and the body that it was made of. -/
theorem cruiseParse_bytes (ch : CruiseHdr) {op : Nat} (hop : op < 256) (body : List Byte) :
    cruiseParse (ch.bytes op ++ body) =
      (⟨op, ch.flags.toNat, ch.origin.toNat, ch.version.toNat, ch.epoch.toNat⟩, body) := by
  have hbody : (ch.bytes op ++ body).drop 16 = body := List.drop_left' (ch.length_bytes op)
  have hflags : ch.flags.toNat % 256 = ch.flags.toNat := Nat.mod_eq_of_lt ch.flags.isLt
  have horigin : ch.origin.toNat % 65536 = ch.origin.toNat := Nat.mod_eq_of_lt ch.origin.isLt
  have hversion : ch.version.toNat % 4294967296 = ch.version.toNat := Nat.mod_eq_of_lt ch.version.isLt
  have hepoch : ch.epoch.toNat % 4294967296 = ch.epoch.toNat := Nat.mod_eq_of_lt ch.epoch.isLt
  rw [cruiseParse, hbody]
  simp [CruiseHdr.bytes, recNum_natLe_append_of_le, recNum_natLe_append, Nat.mod_eq_of_lt hop, hflags, horigin, hversion, hepoch]

/-! ## Cruise messages at the engine (13 R632, R643) -/

/-- With nothing else to do, the one message that waits is taken. -/
theorem Dev.work_message {d : Dev} {m : Nat × List Byte} (hreact : d.react = []) (hends : d.msgEnds = []) (hin : d.cruiseIn = [m])
    (hgoes : d.sliceWaits m = false) (n : Nat) :
    Dev.work (n + 1) d = Dev.work n (Dev.cruiseTake { d with cruiseIn := [] } m.1 m.2) := by
  rw [Dev.work, hreact, hends]
  simp [hin, hgoes]

section
variable {d : Dev} {p : Fin 16} {op : Nat} {ch : CruiseHdr} {body : List Byte} (hop : op < 256)
include hop

theorem Dev.sliceWaits_bytes (hwarm : d.warm = false ∨ op ≠ 23) (q : Nat) : d.sliceWaits (q, ch.bytes op ++ body) = false := by
  have hread : recNum (ch.bytes op ++ body) 0 1 = op := congrArg (fun x => x.1.op) (cruiseParse_bytes ch hop body)
  rw [Dev.sliceWaits, hread]
  rcases hwarm with h | h <;> simp [h]

/-- What the engine makes of a message is what taking it makes of the device. -/
theorem cruiseDoes_of_take {d2 : Dev} (hreact : d.react = []) (hends : d.msgEnds = []) (hin : d.cruiseIn = [])
    (hwarm : d.warm = false ∨ op ≠ 23) (ht : d.cruiseTake p (ch.bytes op ++ body) = d2) : CruiseDoes d p op ch body d2 := by
  intro n
  have hrest : ({ d with cruiseIn := [] } : Dev) = d := by rw [← hin]
  subst ht
  exact (Dev.work_message (d := { d with cruiseIn := [(p.val, ch.bytes op ++ body)] }) hreact hends rfl
    (Dev.sliceWaits_bytes (d := d) hop hwarm p) n).trans
    (congrArg (fun e : Dev => Dev.work n (e.cruiseTake p (ch.bytes op ++ body))) hrest)

end

section
variable {d : Dev} {p : Nat} {bs body : List Byte} {h : CruiseIn} (hparse : cruiseParse bs = (h, body))
include hparse

/-- A message that is not flooded is acted on; a HELLO's higher epoch is adopted first (R643). -/
theorem Dev.cruiseTake_own (hf : (h.flags % 2 == 1) = false) :
    d.cruiseTake p bs = (if h.op = 1 then d.adoptEpoch h.epoch else d).cruiseAct p h body := by
  rw [Dev.cruiseTake, hparse]
  exact if_neg (by simp only [hf, Bool.false_eq_true, not_false_eq_true])

/-- A flooded message that was taken before is dropped (R632). -/
theorem Dev.cruiseTake_seen (hf : (h.flags % 2 == 1) = true) (hseen : h.version ∈ Tab.getD d.seenMsgs h.origin []) :
    d.cruiseTake p bs = d := by
  simp [Dev.cruiseTake, hparse, hf, Dev.seenBefore, hseen]

/-- Another flooded message is remembered, passed on and acted on, its higher epoch adopted (R632, R643). -/
theorem Dev.cruiseTake_flooded (hf : (h.flags % 2 == 1) = true) (hnew : h.version ∉ Tab.getD d.seenMsgs h.origin []) :
    let d1 : Dev := { d with
      seenMsgs := Tab.set d.seenMsgs h.origin ((h.version :: Tab.getD d.seenMsgs h.origin []).take 256) }
    d.cruiseTake p bs = ((d1.adoptEpoch h.epoch).relay bs (h.op == 3 || h.op == 5) (some p)).cruiseAct p h body := by
  simp [Dev.cruiseTake, hparse, hf, Dev.seenBefore, hnew]

end

/-- Settles O46: each message comes to the engine by one lemma on CTRL packets, and the engine takes it by its flags and by what
it has seen of its origin. -/
theorem cruiseMessagesReachTheEngine : Obligations.CruiseMessagesReachTheEngine := by
  intro p ch body
  refine ⟨fun s r h icrc x n m e1 => ?_, fun d op hop hreact hends hin hwarm => ?_⟩
  · intro goes
    refine ⟨?_, ?_, ?_, ?_, ?_, ?_, ?_, ?_, ?_, ?_, ?_, ?_, ?_, ?_, ?_, ?_, ?_, ?_, ?_, ?_, ?_, ?_, ?_⟩
    all_goals exact ctrl_gives rfl
  · intro hd seen d1
    have does {d2 : Dev} (ht : d.cruiseTake p (ch.bytes op ++ body) = d2) : CruiseDoes d p op ch body d2 :=
      cruiseDoes_of_take hop hreact hends hin hwarm ht
    have flooded {b : Bool} (hf : ch.flags.getLsbD 0 = b) : (ch.flags.toNat % 2 == 1) = b := by
      rw [← hf, BitVec.getLsbD, Nat.testBit_zero]
      rfl
    have parsed := cruiseParse_bytes ch hop body
    refine ⟨fun hf => does (Dev.cruiseTake_own parsed (flooded hf)),
      fun hf hseen => does (Dev.cruiseTake_seen parsed (flooded hf) hseen), fun hf hnew => ?_⟩
    have taken := Dev.cruiseTake_flooded (d := d) (p := p) parsed (flooded hf) hnew
    exact does taken

/-! ## Links and the row map (13 R634, R637, R641) -/

section
variable {d : Dev} {p flags origin : Nat} {body : List Byte}

/-- The first HELLO since the port became ACTIVE is answered (R641). -/
theorem Dev.rxHello_first (hf : flags.testBit 1 = false) (hin : (d.link p).helloIn = false) :
    d.rxHello p flags body = ((d.modLink p fun l => { l with helloIn := true }).takeEntry body).sendHello p := by
  simp [Dev.rxHello, hf, hin]

theorem Dev.rxHello_again (hin : (d.link p).helloIn = true) :
    d.rxHello p flags body = (let known := (d.modLink p fun l => { l with helloIn := true }).takeEntry body
      if flags.testBit 1 = true then known.selfFailed else known) := by
  simp [Dev.rxHello, hin]

theorem Dev.rxEntry_row (h4 : recNum body 2 1 ≠ 4) (hn : recNum body 0 2 ≠ d.node)
    (hrow : nodeRow (recNum body 0 2) = nodeRow d.node) :
    d.rxEntry body = { d with rowMap := Tab.set d.rowMap (recNum body 0 2) (recBytes body 0 64),
                              downLinks := d.downLinks.filter fun x => x.1 != recNum body 0 2 } := by
  simp [Dev.rxEntry, h4, Dev.takeEntry, hn, hrow]

theorem Dev.rxLinkDown_new (h : d.downLinks.contains (recNum body 0 2, recNum body 2 1) = false) :
    d.rxLinkDown body = { d with downLinks := d.downLinks ++ [(recNum body 0 2, recNum body 2 1)] } := by
  rw [Dev.rxLinkDown, h]
  rfl

end

/-! ## Epochs (13 R644, R646) -/

/-- The device at an epoch with the failed set empty, and its cells and ports counted anew. -/
def Dev.countedAnew (d : Dev) (e : Nat) : Dev :=
  let a := d.adoptEpoch e
  { a with failed := [], lastAdv := (a.okCells, a.activePorts) }

/-- A module in STANDBY since a lower epoch becomes ACTIVE (R644). -/
theorem Dev.epochAdvance_standby {d : Dev} {e : Nat} (hstate : (d.countedAnew e).cmpState = 1)
    (hold : (d.countedAnew e).standbyEpoch < e) : d.epochAdvance e = ((d.countedAnew e).setFld .cmp 0 8 2 0 2).refreshComp :=
  congrArg Dev.refreshComp (if_pos ⟨hstate, hold⟩)

theorem Dev.epochAdvance_other {d : Dev} {e : Nat} (hstate : (d.countedAnew e).cmpState ≠ 1) :
    d.epochAdvance e = (d.countedAnew e).refreshComp :=
  congrArg Dev.refreshComp (if_neg fun h => hstate h.1)

/-! ## Offers, acceptances and slice resets (13 R656 to R658; 16 R778) -/

section
variable {d : Dev} {origin k : Nat} {body : List Byte}

/-- The home's record becomes OFFERED (R656). -/
theorem Dev.rxOffer_home {sl : Slice} (hhome : recNum body 0 2 = d.node) (hsl : d.slice? (recNum body 2 1) = some sl)
    (hoffer : sl.offer = none) (howner : sl.owner = origin) (hepoch : sl.epoch = recNum body 4 4)
    (hnew : recNum body 8 2 ≠ d.node) :
    d.rxOffer origin body = d.setSlice (recNum body 2 1) { sl with offer := some (recNum body 8 2, d.now) } := by
  have hset (sl : Slice) : recNum body 8 2 ≠ (d.setSlice (recNum body 2 1) sl).node := hnew
  simp [Dev.rxOffer, hhome, hsl, hoffer, howner, hepoch, hset]

/-- The new owner accepts at once, or shows the offer in CMP_OFFER_IN (R656). -/
theorem Dev.rxOffer_target (hhome : recNum body 0 2 ≠ d.node) (hnew : recNum body 8 2 = d.node) : d.rxOffer origin body =
    if bitAt (d.rd .cmp 0 0x10) 0 then d.answerOffer (recNum body 0 2) (recNum body 2 1) (recNum body 4 4) origin true
    else (d.wr .cmp 0 0x400
      (BitVec.ofNat 64 (recNum body 0 2 * 2 ^ 48 + origin * 2 ^ 32 + 16 + recNum body 2 1 % 16))).wr .cmp 0 0x408
        (BitVec.ofNat 64 (recNum body 4 4)) := by
  simp [Dev.rxOffer, hhome, hnew]

section
variable {from_ t old: Nat} {sl : Slice} (hsl : d.slice? k = some sl) (hoffer : sl.offer = some (from_, t))
include hsl hoffer

theorem Dev.homeAccept_commits : d.homeAccept from_ k sl.epoch sl.owner = d.commitSlice k from_ := by
  simp [Dev.homeAccept, hsl, hoffer]

theorem Dev.homeAccept_reverts (howner : sl.owner ≠ 0) : d.homeAccept from_ k sl.epoch 0 = d.revertSlice k := by
  simp [Dev.homeAccept, hsl, hoffer, howner]

theorem Dev.homeAccept_refuses (h0 : old ≠ 0) (howner : old ≠ sl.owner) :
    d.homeAccept from_ k sl.epoch old = d.cruiseMsg from_ 12 (d.recordBody k) := by
  simp [Dev.homeAccept, hsl, hoffer, h0, Ne.symm howner]

end

/-- SLICE_RESET by the owner at its epoch (16 R778). -/
theorem Dev.rxSliceReset_owner {sl : Slice} (hhome : recNum body 0 2 = d.node) (hsl : d.slice? (recNum body 2 1) = some sl)
    (howner : sl.owner = origin) (hepoch : sl.epoch = recNum body 4 4) :
    let k := recNum body 2 1
    let d1 := ((List.range 32).filter fun x => d.sliceOf x == k).foldl (fun d x => d.standReset x) (d.lastReset 4)
    let cells := (List.range 16).filter fun c => !d1.cellFenced c && (if k = 0 then
      !(d1.slices.any fun e => e.1 != 0 && nbit e.2.cells c) else nbit sl.cells c)
    d.rxSliceReset origin body = (cells.foldl (fun d c => d.cellReset c) d1).commitSlice k sl.owner := by
  intro k d1 cells
  simp only [Dev.rxSliceReset, hsl]
  rw [if_neg (not_not_intro hhome), if_pos ⟨howner, hepoch⟩]

end

/-! ## Records of a home (13 R655, R659) -/

/-- The disclaims of a slice ended (R659). -/
def Dev.settled (d : Dev) (home k : Nat) : Dev :=
  { d with disclaims := d.disclaims.filter fun x => !(x.home == home && x.slice == k) }

/-- The epochs of connections to a home and of copies fed by it brought up to a record's (R655, R679). -/
def Dev.raisedEpochs (d : Dev) (home e : Nat) : Dev :=
  { d with
    conns := Tab.mapAll d.conns fun _ (x : Conn) =>
      if x.peer = home ∧ x.cruise = none ∧ x.epoch.toNat < e then { x with epoch := BitVec.ofNat 32 e } else x
    tracts := Tab.mapAll d.tracts fun _ (t : Tract) =>
      if t.kind = 7 ∧ (t.src.any fun s => s.1 == home) = true ∧ t.srcEpoch.toNat < e then { t with srcEpoch := BitVec.ofNat 32 e }
      else t }

theorem Dev.takeRecord_eq (d : Dev) (body : List Byte) (newEpoch : Bool) :
    let home := recNum body 0 2
    let d1 := d.settled home (recNum body 2 1)
    d.takeRecord body newEpoch =
      if (!newEpoch) = true ∨ home = d.node then d1 else d1.raisedEpochs home (recNum body 8 4) := by
  simp only [Dev.raisedEpochs, ← Option.isNone_iff_eq_none]
  rfl

theorem Dev.takeRecord_home {d : Dev} {body : List Byte} (newEpoch : Bool) (hhome : recNum body 0 2 = d.node) :
    d.takeRecord body newEpoch = d.settled (recNum body 0 2) (recNum body 2 1) :=
  (d.takeRecord_eq body newEpoch).trans (if_pos (.inr hhome))

theorem Dev.takeRecord_away {d : Dev} {body : List Byte} (hhome : recNum body 0 2 ≠ d.node) :
    d.takeRecord body true =
      (d.settled (recNum body 0 2) (recNum body 2 1)).raisedEpochs (recNum body 0 2) (recNum body 8 4) :=
  (d.takeRecord_eq body true).trans (if_neg (by simp [hhome]))

/-- Settles O47: each operation's function, case by case as its record or the device decides. -/
theorem cruiseMessagesActedOn : Obligations.CruiseMessagesActedOn := by
  intro d p origin version epoch flags body act known
  refine ⟨Dev.rxHello_first, fun hf hin => ?_, fun hf hin => ?_, rfl, Dev.rxEntry_row, rfl, Dev.rxLinkDown_new, rfl,
    ⟨Dev.epochAdvance_standby, Dev.epochAdvance_other⟩, ?_, rfl, fun sl => Dev.rxSliceReset_owner⟩
  · exact (Dev.rxHello_again hin).trans (by rw [hf]; rfl)
  · exact (Dev.rxHello_again hin).trans (if_pos hf)
  · intro home k
    refine ⟨fun sl => Dev.rxOffer_home, fun hhome hnew hb => ?_, fun hhome hnew hb => ?_, fun sl t hhome hsl hoffer hepoch => ?_,
      ?_⟩
    · exact (Dev.rxOffer_target hhome hnew).trans (if_neg (by simp [hb]))
    · exact (Dev.rxOffer_target hhome hnew).trans (if_pos hb)
    · have accepts {d2 : Dev} (h : d.homeAccept origin k sl.epoch (recNum body 8 2) = d2) : act 9 d2 :=
        (if_pos hhome).trans (hepoch ▸ h)
      refine ⟨fun howner => accepts ?_, fun h0 howner => accepts ?_, fun h0 howner => accepts ?_⟩
      · rw [howner]
        exact Dev.homeAccept_commits hsl hoffer
      · rw [h0]
        exact Dev.homeAccept_reverts hsl hoffer howner
      · exact Dev.homeAccept_refuses hsl hoffer h0 howner
    · exact ⟨rfl, rfl, fun hhome => ⟨Dev.takeRecord_home true hhome, Dev.takeRecord_home true hhome⟩,
        fun hhome => ⟨Dev.takeRecord_away hhome, Dev.takeRecord_away hhome⟩⟩

end Machine
end Sys2Proof

/-!
PROOFS. Mirrors and lending (10 R490 to R494; 13 R663 to R677, R685): what the cruise engine does with MIRROR_OPEN to RELEASE, and
what mirror writes do at the partner; the statements O48 and O49.
-/
namespace Sys2Proof
namespace Machine

/-! ## MIRROR_OPEN at the partner (13 R664 to R666) -/

/-- The stand that a MIRROR_OPEN names (log 23). -/
def mirOpenStand (body : List Byte) : Nat := recNum body 0 1 % 32

/-- Units of 64 KiB that the copy of a MIRROR_OPEN takes: those of a BUFFER (13 R664). -/
def mirOpenUnits (body : List Byte) : Nat := if recNum body 1 1 = 0 then ceilDiv (recNum body 8 8) 65536 else 0

/-- The source key of a MIRROR_OPEN. -/
def mirOpenKey (body : List Byte) : BitVec 32 := BitVec.ofNat 32 (recNum body 4 4)

/-- The profiles of the stand are those of the source (13 R666). -/
def Dev.SameProfiles (d : Dev) (body : List Byte) : Prop :=
  ∀ k, k < 8 → recBytes (Tab.getD d.profiles (mirOpenStand body * 8 + k) []) 0 16 = recBytes body (24 + 16 * k) 16

/-- The MIRROR tract that a MIRROR_OPEN makes at an INDEX, over frames fs (13 R664). -/
def Dev.mirTractMade (d : Dev) (origin i : Nat) (body : List Byte) (fs : List Nat) : Tract :=
  { Tract.none_ with
    kind := 7, rights := 10, mode := recNum body 2 1, partner := origin, stand := mirOpenStand body, len := 4096, frames := fs,
    st := .active, src := some (origin, mirOpenKey body), srcKind := recNum body 1 1, srcRights := recNum body 3 1,
    srcLen := recNum body 8 8, srcEpoch := BitVec.ofNat 32 (recNum body 16 4), nextInt := d.mirNow, gen := d.nextGen i,
    check := d.hint 256 }

theorem Dev.sameProfiles_iff (d : Dev) (body : List Byte) :
    ((List.range 8).all fun k =>
      recBytes (Tab.getD d.profiles (mirOpenStand body * 8 + k) []) 0 16 == recBytes body (24 + 16 * k) 16) = true ↔
        d.SameProfiles body := by
  simp [Dev.SameProfiles]

/-- What fits a quota does not exceed it. -/
theorem quota_holds {units used quota : Nat} (h : units = 0 ∨ used + units ≤ quota) : ¬ (quota < used + units ∧ units ≠ 0) := by
  omega

section
variable {d : Dev} {origin : Nat} {body : List Byte}

theorem Dev.rxMirrorOpen_standby (h : d.cmpState = 1) :
    d.rxMirrorOpen origin body = d.mirrorAck origin (mirOpenKey body) 2 0 := if_pos h

section
variable (hst : d.cmpState ≠ 1)
include hst

theorem Dev.rxMirrorOpen_quota (h0 : mirOpenUnits body ≠ 0)
    (hq : (d.std (mirOpenStand body)).quota.t1 < d.useOf (mirOpenStand body) 1 + mirOpenUnits body) :
    d.rxMirrorOpen origin body = d.mirrorAck origin (mirOpenKey body) 3 0 :=
  (if_neg hst).trans (if_pos ⟨hq, h0⟩)

variable (hq : mirOpenUnits body = 0 ∨
  d.useOf (mirOpenStand body) 1 + mirOpenUnits body ≤ (d.std (mirOpenStand body)).quota.t1)
include hq

/-- Within the quota, other profiles than the source's refuse a LANDING tract (R666). -/
theorem Dev.rxMirrorOpen_profiles (hk : recNum body 1 1 = 4) (hp : ¬ d.SameProfiles body) :
    d.rxMirrorOpen origin body = d.mirrorAck origin (mirOpenKey body) 8 0 := by
  rw [← d.sameProfiles_iff, Bool.not_eq_true] at hp
  refine (if_neg hst).trans ((if_neg (quota_holds hq)).trans (if_pos ⟨hk, ?_⟩))
  rw [Bool.not_eq_true']
  exact hp

/-- A MIRROR_OPEN that can be served makes a tract, opens the connection and is answered with the key (R664, R665). -/
theorem Dev.rxMirrorOpen_opens {i : Nat} {fs : List Nat} {d1 : Dev} (hp : recNum body 1 1 ≠ 4 ∨ d.SameProfiles body)
    (hi : d.freeIndex = some i) (hf : d.allocUnits (mirOpenStand body) (mirOpenUnits body) [] = some (fs, d1)) :
    let t := d1.mirTractMade origin i body fs
    d.rxMirrorOpen origin body =
      ((d1.took.setTract i t).openMirConn (mirOpenStand body) origin).mirrorAck origin (mirOpenKey body) 0 (t.key i) := by
  intro t
  rw [← d.sameProfiles_iff] at hp
  rw [mirOpenStand, mirOpenUnits] at hf
  refine (if_neg hst).trans ((if_neg (quota_holds hq)).trans ((if_neg ?_).trans ?_))
  · rintro ⟨hk, hs⟩
    rw [Bool.not_eq_true'] at hs
    exact hp.elim (fun h => h hk) (by simp [mirOpenStand, hs])
  · simp [hi, hf, Dev.newTract_eq]
    rfl

end

end
/-! ## MIRROR_ACK and MIRROR_OPEN_TIMEOUT at the source (13 R663, R665) -/

/-- A mirrored registration that has failed: its units are free and its tract is gone. -/
def Dev.mirrorGone (d : Dev) (i : Nat) (t : Tract) : Dev :=
  (d.freeUnits t.frames).setTract i { t with st := .free, frames := [], cmd := none }

theorem Dev.mirrorFail_answers (d : Dev) (i code : Nat) {t : Tract} {w : Nat} {tag : W64} (hcmd : t.cmd = some (w, tag)) :
    d.mirrorFail i t code = (d.mirrorGone i t).post w ⟨tag, 0, 0, 0, 0x10, 0, code⟩ := by
  simp [Dev.mirrorFail, hcmd, Dev.mirrorGone, Dev.postCmd]

theorem Dev.mirrorTimeout_opening {d : Dev} {i : Nat} {t : Tract} (ht : d.tract? i = some t) (hst : t.st = .opening) :
    d.mirrorTimeout i = d.mirrorFail i t 5 := by
  simp [Dev.mirrorTimeout, ht, hst]

/-- The source's tract mirrored under the partner's key, over the stand's mirror connection. -/
def Dev.mirrorBegun (d : Dev) (origin i : Nat) (t : Tract) (mkey : BitVec 32) : Dev :=
  (d.setTract i { t with st := .active, mkey := some mkey, cmd := none, nextInt := d.mirNow }).openMirConn t.stand origin

section
variable {d : Dev} {origin : Nat} {body : List Byte} {t : Tract}
  (ht : d.tract? (keyIndex (BitVec.ofNat 32 (recNum body 0 4))) = some t) (hst : t.st = .opening)
  (hkey : t.key (keyIndex (BitVec.ofNat 32 (recNum body 0 4))) = BitVec.ofNat 32 (recNum body 0 4)) (hpartner : t.partner = origin)
include ht hst hkey

theorem Dev.openingTract_waiting : d.openingTract (BitVec.ofNat 32 (recNum body 0 4)) =
    some (keyIndex (BitVec.ofNat 32 (recNum body 0 4)), t) := by
  simp [Dev.openingTract, ht, hst, hkey]

include hpartner

theorem Dev.rxMirrorAck_refused (hstatus : recNum body 4 4 ≠ 0) :
    d.rxMirrorAck origin body = d.mirrorFail (keyIndex (BitVec.ofNat 32 (recNum body 0 4))) t (recNum body 4 4) := by
  simp [Dev.rxMirrorAck, Dev.openingTract_waiting ht hst hkey, hpartner, hstatus]

section
variable (hstatus : recNum body 4 4 = 0)
include hstatus

theorem Dev.rxMirrorAck_quiet (hcmd : t.cmd = none) : d.rxMirrorAck origin body =
    d.mirrorBegun origin (keyIndex (BitVec.ofNat 32 (recNum body 0 4))) t (BitVec.ofNat 32 (recNum body 8 4)) := by
  simp [Dev.rxMirrorAck, Dev.openingTract_waiting ht hst hkey, hpartner, hstatus, hcmd, Dev.mirrorBegun]

/-- The registration completes with the tract's key (R663). -/
theorem Dev.rxMirrorAck_answers {w : Nat} {tag : W64} (hcmd : t.cmd = some (w, tag)) :
    let key := BitVec.ofNat 32 (recNum body 0 4)
    d.rxMirrorAck origin body = (d.mirrorBegun origin (keyIndex key) t (BitVec.ofNat 32 (recNum body 8 4))).post w
      ⟨tag, key.setWidth 64, 0, 0, 0x10, 0, 0⟩ := by
  simp [Dev.rxMirrorAck, Dev.openingTract_waiting ht hst hkey, hpartner, hstatus, hcmd, Dev.mirrorBegun, Dev.postCmd]

end

end

/-! ## MIRROR_CLOSE (13 R677) -/

section
variable {d : Dev} {origin : Nat} {body : List Byte} {t : Tract}

theorem Dev.rxMirrorClose_copy {i : Nat} (h : d.tracts.find? (fun e => e.2.kind == 7 && e.2.st == .active &&
    e.2.src == some (origin, BitVec.ofNat 32 (recNum body 0 4))) = some (i, t)) :
    d.rxMirrorClose origin body = d.dropCopy i t := by
  simp only [Dev.rxMirrorClose, h]

theorem Dev.rxMirrorClose_source
    (hno : ∀ e ∈ d.tracts, ¬ (e.2.kind = 7 ∧ e.2.src = some (origin, BitVec.ofNat 32 (recNum body 0 4))))
    (ht : d.tract? (keyIndex (BitVec.ofNat 32 (recNum body 0 4))) = some t)
    (hkey : t.key (keyIndex (BitVec.ofNat 32 (recNum body 0 4))) = BitVec.ofNat 32 (recNum body 0 4))
    (hpartner : t.partner = origin) : d.rxMirrorClose origin body = d.unmirror (keyIndex (BitVec.ofNat 32 (recNum body 0 4))) := by
  have none : d.tracts.find? (fun e => e.2.kind == 7 && e.2.st == .active &&
      e.2.src == some (origin, BitVec.ofNat 32 (recNum body 0 4))) = .none := by
    rw [List.find?_eq_none]
    intro e he h
    simp only [Bool.and_eq_true, beq_iff_eq] at h
    exact hno e he ⟨h.1.1, h.2⟩
  simp only [Dev.rxMirrorClose, none, ht]
  exact if_pos ⟨hkey, hpartner⟩

end

/-! ## Lending (10 R490, R491, R494; 13 R685) -/

/-- Granules that a LEND_ASK of a borrower is granted at most (10 R491). -/
def Dev.lendable (d : Dev) (origin : Nat) (body : List Byte) : Nat :=
  min (recNum body 0 1) (min d.lendOffer (min 7 (d.fld .cell 0 0x60810 10 8) -
    ((d.lendOut.filter fun w => w.borrower == origin).map fun w => w.granules.length).sum))

/-- The tract of a window lent at an INDEX, over granules fs. -/
def Dev.lentTract (d : Dev) (origin i : Nat) (fs : List Nat) : Tract :=
  { Tract.none_ with
    kind := 8, rights := 3, partner := origin, stand := 0, len := fs.length * 2 ^ 28, frames := fs, st := .active,
    gen := d.nextGen i, check := d.hint 256 }

section
variable {d : Dev} {origin : Nat} {body : List Byte}

theorem Dev.rxLendAsk_nothing (hn : d.lendable origin body = 0) : d.rxLendAsk origin body = d := if_pos (.inl hn)

theorem Dev.rxLendAsk_grants {i : Nat} {fs : List Nat} {d1 : Dev} (hn : d.lendable origin body ≠ 0)
    (hsled : sameSled origin d.node = true) (hself : origin ≠ d.node)
    (htake : d.takeGranules (d.lendable origin body) [] = (fs, d1)) (hfs : fs ≠ []) (hi : d1.freeIndex = some i) :
    let t := d1.lentTract origin i fs
    let d2 := d1.took.setTract i t
    d.rxLendAsk origin body = (Dev.showLent { d2 with lendOut := d2.lendOut ++ [⟨origin, (t.key i).toNat, fs, false⟩] }).cruiseMsg
      origin 20 (lendBody fs.length (t.key i)) := by
  intro t d2
  rw [Dev.lendable] at hn htake
  refine (if_neg (by simp [hn, hsled, hself])).trans ?_
  simp [htake, hfs, hi, Dev.newTract_eq]
  rfl

theorem Dev.rxLendGrant_adds (h1 : 1 ≤ recNum body 0 1) (h7 : recNum body 0 1 ≤ 7) (hout : d.lendOut = []) :
    d.rxLendGrant origin body = Dev.showLent { d with
      lendAsk := false
      lendIn := d.lendIn ++ [⟨origin, recNum body 4 4, (d.lendIn.map fun w => w.first + w.frames).foldl max 0,
        recNum body 0 1 * 1048576, false⟩] } :=
  if_neg (by simp [hout]; omega)

theorem Dev.rxRelease_lent {w : LendOut}
    (h : d.lendOut.find? (fun w => w.borrower == origin && w.tract == recNum body 4 4) = some w) :
    d.rxRelease origin body = d.takeBack w := by
  simp only [Dev.rxRelease, h]

end

/-- Settles O48: each operation's function, case by case, and the timeout as a failed registration. -/
theorem mirrorsOpenedClosedAndPromoted : Obligations.MirrorsOpenedClosedAndPromoted := by
  intro d p origin version epoch flags body act
  refine ⟨?_, ?_, ⟨fun i t => Dev.rxMirrorClose_copy, fun t => Dev.rxMirrorClose_source⟩, rfl, ?_, Dev.rxLendGrant_adds, rfl,
    fun w => Dev.rxRelease_lent, ?_⟩
  · intro st kind skey units same ack
    refine ⟨Dev.rxMirrorOpen_standby, Dev.rxMirrorOpen_quota, fun hst hq => ⟨Dev.rxMirrorOpen_profiles hst hq, ?_⟩⟩
    intro i fs d1 hp hi hf
    exact ⟨d1.mirTractMade origin i body fs, Dev.rxMirrorOpen_opens hst hq hp hi hf, rfl, rfl, rfl, rfl, rfl, rfl, rfl, rfl, rfl⟩
  · intro key t ht hst hkey hpartner
    refine ⟨fun hstatus => ?_, fun hstatus w tag hcmd => ?_⟩
    · exact ⟨Dev.rxMirrorAck_quiet ht hst hkey hpartner hstatus,
        fun w tag => Dev.rxMirrorAck_answers ht hst hkey hpartner hstatus⟩
    · exact (Dev.rxMirrorAck_refused ht hst hkey hpartner hstatus).trans (d.mirrorFail_answers _ _ hcmd)
  · intro mine n
    refine ⟨Dev.rxLendAsk_nothing, fun fs d1 i hn hsled hself htake hfs hi => ?_⟩
    exact ⟨d1.lentTract origin i fs, rfl, rfl, rfl, rfl, rfl, rfl, Dev.rxLendAsk_grants hn hsled hself htake hfs hi⟩
  · rintro s i t w tag rfl hs ht hst hcmd
    exact (serving_gives (fun d => d.mirrorTimeout i.toNat) rfl hs).of_eq
      ((Dev.mirrorTimeout_opening ht hst).trans (s.d.mirrorFail_answers _ _ hcmd))

/-! ## A mirror write taken apart (13 Table 6) -/

/-- A mirror write taken apart is the operation, the header and the data that it was made of. -/
theorem parseMir_bytes (mh : MirHdr) {op : Nat} (hop : op < 256) (data : List Byte) :
    ∃ data', parseMir (mh.bytes op ++ data) = (op, mh, data') := by
  obtain ⟨rsv, layer, first, handle, interval, arg, len⟩ := mh
  refine ⟨recBytes (MirHdr.bytes op ⟨rsv, layer, first, handle, interval, arg, len⟩ ++ data) 32 len.toNat, ?_⟩
  have h32 (v : BitVec 32) : v.toNat % 4294967296 = v.toNat := Nat.mod_eq_of_lt v.isLt
  have h64 (v : BitVec 64) : v.toNat % 18446744073709551616 = v.toNat := Nat.mod_eq_of_lt v.isLt
  have h16 (v : BitVec 16) : v.toNat % 65536 = v.toNat := Nat.mod_eq_of_lt v.isLt
  have h8 (v : BitVec 8) : v.toNat % 256 = v.toNat := Nat.mod_eq_of_lt v.isLt
  simp [parseMir, MirHdr.bytes, recNum_natLe_append_of_le, recNum_natLe_append, Nat.mod_eq_of_lt hop, h8, h16, h32, h64]

/-! ## Mirror writes at the partner (13 R668 to R675) -/

/-- A FLUSH noted with its interval, any other write kept with it (13 R675). -/
def Tract.keepsWrite (t : Tract) (op : Nat) (mh : MirHdr) (bs : List Byte) : Tab MirInterval :=
  let iv := Tab.getD t.ints mh.interval.toNat ⟨[], none⟩
  Tab.set t.ints mh.interval.toNat
    (if op = 6 then { iv with flush := some mh.handle.toNat } else { iv with writes := iv.writes ++ [bs] })

section
variable {d : Dev} {i op : Nat} {t : Tract} {mh : MirHdr} {data : List Byte} (h1 : 1 ≤ op) (h6 : op ≤ 6)
include h1 h6

/-- The synchronous mode applies a write at once (R670). -/
theorem Dev.mirTake_sync (hmode : t.mode = 1) : d.mirTake i t (mh.bytes op ++ data) = d.mirApply i t (mh.bytes op ++ data) := by
  obtain ⟨data', hparse⟩ := parseMir_bytes mh (by omega : op < 256) data
  have hop : ¬ (op = 0 ∨ 6 < op) := by omega
  simp [Dev.mirTake, hparse, hop, hmode]

/-- The asynchronous mode keeps a write other than SEQ_NEW with its interval (R675). -/
theorem Dev.mirTake_async (hmode : t.mode = 2) (hnew : op ≠ 1) (ht : d.tract? i = some t) :
    d.mirTake i t (mh.bytes op ++ data) =
      (0, d.setTract i { t with ints := t.keepsWrite op mh (mh.bytes op ++ data) }) := by
  obtain ⟨data', hparse⟩ := parseMir_bytes mh (by omega : op < 256) data
  have hop : ¬ (op = 0 ∨ 6 < op) := by omega
  simp [Dev.mirTake, hparse, hop, hmode, hnew, Dev.modTract, Tab.upd_of_get? _ ht, Dev.setTract, Tract.keepsWrite]

end

section
variable {e e1 d2 : Dev} {p c n : Nat} {x : Conn} {r : Route} {h : ReqHdr} {data : List Byte} (icrc : BitVec 32) {m : InMsg}
  {i : Nat} {t : Tract}

/-- A PUT to a MIRROR tract that takes it counts as placed. -/
theorem Dev.admitReq_mirror (ho : e.Opens c x tyPut r h data n m e1) (hnew : e.pktIndex x.stand tyPut h ∉ m.got)
    (hkey : e1.checkKey x.stand h.key tyPut r.notice (some r.epoch.toNat) = .inr (i, t)) (hkind : t.kind = 7)
    (hb : e1.outOfBounds t tyPut r.notice h.offset.toNat h.plen.toNat m.base.toNat m.len = false)
    (htake : e1.mirTake i t data = (0, d2)) :
    e.admitReq p c n x (reqPkt tyPut r h data icrc) h data =
      d2.placed p c m (reqPkt tyPut r h data icrc) (e.pktIndex x.stand tyPut h) h.plen.toNat := by
  have hk := reqPkt_ty r h data icrc (ty := tyPut) (by decide)
  have hother : tyPut ≠ tyGet ∧ tyPut ≠ tyAtom ∧ tyPut ≠ tyLand := by decide
  obtain ⟨hget, hatom, hland⟩ := hother
  simp only [reqPkt] at hk ⊢
  simp [Dev.admitReq, hk, ho.message, hnew, hkey, hkind, hb, hget, hatom, hland, Dev.placePut, htake]

end

/-! ## Intervals (13 R674, R675) -/

@[simp] theorem Dev.setTract_setTract (d : Dev) (i : Nat) (t u : Tract) : (d.setTract i t).setTract i u = d.setTract i u := by
  simp [Dev.setTract]

@[simp] theorem Dev.mirConn_setTract (d : Dev) (i s n : Nat) (t : Tract) : (d.setTract i t).mirConn s n = d.mirConn s n := rfl

section
variable {d : Dev} {i : Nat} {t : Tract} (ht : d.tract? i = some t)
include ht

/-- With everything sent, FLUSH of the oldest ended interval goes out with its count of writes (R674). -/
theorem Dev.mirFlush_sends {c : Nat} {x : Conn} (hmode : t.mode = 2) (hst : t.st = .active) (hkey : t.mkey ≠ none)
    (hend : t.nextInt < d.mirNow) (hconn : d.mirConn t.stand t.partner = some c) (hx : d.conn? c = some x) (htx : x.tx = []) :
    let writes := (t.sends.filter fun m => m.interval == t.nextInt && !m.flush).length
    let t2 : Tract := { t with
      nextInt := t.nextInt + 1, sends := t.sends.filter fun m => m.flush || m.interval != t.nextInt || !m.acked }
    let hd : MirHdr := ⟨0, 0, 0, BitVec.ofNat 64 writes, BitVec.ofNat 64 t.nextInt, 0, 0⟩
    d.mirFlush i =
      (d.setTract i { t2 with sends := t2.sends ++ [⟨t.sendNext, t.nextInt, false, true⟩], sendNext := t.sendNext + 1 }).startMsg c
        { mkMsg tyPut 5 false (t.mkey.getD 0) 0 (hd.bytes 6) 32 .cruise with who := .mirror i t.sendNext } := by
  intro writes t2 hd
  have due : ¬ d.mirNow ≤ t.nextInt := Nat.not_le.2 hend
  rw [Dev.mirFlush]
  simp only [ht, hconn, hx, htx, Option.map_some, Option.getD_some, List.any_nil]
  simp [hmode, hst, hkey, due, Dev.mirSend, hconn, t2, hd, writes]

theorem Dev.mirIntApply_whole {k : Nat} {iv : MirInterval}
    (hfind : t.ints.find? (fun e => e.1 ≤ t.nextInt && e.2.whole) = some (k, iv)) : d.mirIntApply i = d.mirApplyInt i k t iv := by
  simp only [Dev.mirIntApply, ht, hfind]

end

/-- Settles O49: a mirror write comes to admission as any PUT, where the tract's mode decides; the interval events are their
functions. -/
theorem mirrorWritesPlaced : Obligations.MirrorWritesPlaced := by
  intro s
  refine ⟨?_, fun hs i t ht => ?_⟩
  · intro p r h mh data icrc x n i t m e1 c e bs k passes ints sync async
    have placed {op : Nat} {cmd : Instr} {d2 : Dev} (run : exec cmd s = s.served fun d => d.rxPkt p (k op)) (hp : passes op)
        (htake : e1.mirTake i t (bs op) = (0, d2)) :
        GivesLater s cmd (d2.placed p c m (k op) (e.pktIndex x.stand tyPut h) h.plen.toNat) := by
      obtain ⟨htaken, hhead, hwin, hfin, hst, hopen, hnew, hkey, hkind, hb⟩ := hp
      have opens : e.Opens c x tyPut r h (bs op) n m e1 := ⟨hhead, hwin, hfin, hst, hopen⟩
      exact (taken_gives run htaken).of_eq ((Dev.servePkt_admits icrc (by decide) opens).trans
        (Dev.admitReq_mirror icrc opens hnew hkey hkind hb htake))
    have syncs {op : Nat} {cmd : Instr} (h1 : 1 ≤ op) (h6 : op ≤ 6)
        (run : exec cmd s = s.served fun d => d.rxPkt p (k op)) : sync op cmd :=
      fun hp hmode d2 happly => placed run hp ((Dev.mirTake_sync h1 h6 hmode).trans happly)
    have asyncs {op : Nat} {cmd : Instr} (h2 : 2 ≤ op) (h6 : op ≤ 6)
        (run : exec cmd s = s.served fun d => d.rxPkt p (k op)) : async op cmd :=
      fun hp hmode ht => placed run hp (Dev.mirTake_async (by omega) h6 hmode (by omega) ht)
    exact ⟨syncs (by decide) (by decide) rfl, syncs (by decide) (by decide) rfl, syncs (by decide) (by decide) rfl,
      syncs (by decide) (by decide) rfl, syncs (by decide) (by decide) rfl, syncs (by decide) (by decide) rfl,
      asyncs (by decide) (by decide) rfl, asyncs (by decide) (by decide) rfl, asyncs (by decide) (by decide) rfl,
      asyncs (by decide) (by decide) rfl, asyncs (by decide) (by decide) rfl⟩
  · refine ⟨fun c x hmode hst hkey hend hconn hx htx => ?_, fun k iv hfind => ?_⟩
    · exact (serving_gives (fun d => d.mirFlush i.toNat) rfl hs).of_eq (Dev.mirFlush_sends ht hmode hst hkey hend hconn hx htx)
    · exact (serving_gives (fun d => d.mirIntApply i.toNat) rfl hs).of_eq (Dev.mirIntApply_whole ht hfind)

end Machine
end Sys2Proof

/-!
PROOFS. Cruise timers (13 R634 to R642, R658, R659) and slices (13 R644 to R661): what each timer does, and what writes of the host
to the CMP block do; the statements O50 and O51.
-/
namespace Sys2Proof
namespace Machine

/-! ## Heartbeats, entries and summaries (13 R634, R635, R637) -/

/-- HEARTBEAT sent on the cruise connection of a port (R637). -/
def Dev.heartbeatOn (d : Dev) (p : Nat) : Dev := match d.cruiseOf p with
  | some c => (d.newCruise 2 0 []).2.ctrlTo c (d.newCruise 2 0 []).1
  | none => d

theorem Dev.heartbeats_eq (d : Dev) :
    d.heartbeats = (List.range 16).foldl (fun e p => if e.portActive p = true then e.heartbeatOn p else e) d := by
  have each (e : Dev) (p : Nat) (x : Dev) :
      (if (!e.portActive p) = true then e else x) = if e.portActive p = true then x else e := by
    cases e.portActive p <;> rfl
  exact congrArg (fun f => (List.range 16).foldl f d) (funext₂ fun e p => each e p _)

section
variable {d : Dev}

/-- A port not yet down is declared so (R637). -/
theorem Dev.heartbeatLost_declares {p : Nat} (hact : d.portActive p = true) (hnew : d.downLinks.contains (d.node, p) = false) :
    d.heartbeatLost p = Dev.flood { d.modLink p (fun l => { l with hb := false }) with downLinks := d.downLinks ++ [(d.node, p)] }
      5 true (natLe 2 d.node ++ natLe 1 p ++ [0]) := by
  have hdown : (d.modLink p fun l => { l with hb := false }).downLinks.contains (d.node, p) = false := hnew
  rw [Dev.heartbeatLost, if_pos ⟨hact, by rw [hnew]; rfl⟩, Dev.floodDown]
  simp only [show (d.modLink p fun l => { l with hb := false }).node = d.node from rfl, hdown]
  rfl

theorem Dev.heartbeatLost_again {p : Nat} (hold : d.downLinks.contains (d.node, p) = true) : d.heartbeatLost p = d :=
  if_neg fun h => absurd h.2 (by rw [hold]; decide)

/-! ## Failures (13 R638 to R640, R642) -/

/-- Port p carries heartbeats (13 R637). -/
def Dev.carriesHeartbeats (d : Dev) (p : Nat) : Prop := d.portActive p = true ∧ (d.link p).hb = true

theorem Dev.lookoutTimeout_alive {x : Nat} (h : ∃ p, p < 16 ∧ d.carriesHeartbeats p ∧ d.peerNode p = x) :
    d.lookoutTimeout x = d := by
  obtain ⟨p, hp, ⟨hact, hhb⟩, hx⟩ := h
  refine if_pos (List.any_eq_true.2 ⟨p, List.mem_range.2 hp, ?_⟩)
  simp [hact, hhb, hx]

section
variable {x : Nat} (h : ∀ p, p < 16 → d.carriesHeartbeats p → d.peerNode p ≠ x)
include h

theorem Dev.lookoutTimeout_silent : d.lookoutTimeout x = d.declareFailed x := by
  refine if_neg fun hany => ?_
  obtain ⟨p, hp, hall⟩ := List.any_eq_true.1 hany
  simp only [Bool.and_eq_true, beq_iff_eq] at hall
  exact h p (List.mem_range.1 hp) ⟨hall.1.1, hall.2⟩ hall.1.2

/-- The lookout floods FAIL, which has its effect here too (R639). -/
theorem Dev.lookoutTimeout_declares (hnew : x ∉ d.failed) (hlook : d.lookoutOf x = d.node) (hself : x ≠ d.node) :
    d.lookoutTimeout x = (d.flood 6 false (natLe 2 x ++ natLe 2 d.node ++ [0, 0, 0, 0])).nodeFailed x :=
  (Dev.lookoutTimeout_silent h).trans (if_neg (by simp [hnew, hlook, hself]))

theorem Dev.lookoutTimeout_skips (hskip : x ∈ d.failed ∨ d.lookoutOf x ≠ d.node) : d.lookoutTimeout x = d :=
  (Dev.lookoutTimeout_silent h).trans (if_pos (by simp; tauto))

end

theorem Dev.selfFailTimeout_alive (h : ∃ p, p < 16 ∧ d.carriesHeartbeats p) : d.selfFailTimeout = d := by
  obtain ⟨p, hp, hact, hhb⟩ := h
  exact if_pos (List.any_eq_true.2 ⟨p, List.mem_range.2 hp, by simp [hact, hhb]⟩)

theorem Dev.selfFailTimeout_silent (h : ∀ p, p < 16 → ¬ d.carriesHeartbeats p) : d.selfFailTimeout = d.selfFailed := by
  refine if_neg fun hany => ?_
  obtain ⟨p, hp, hall⟩ := List.any_eq_true.1 hany
  exact h p (List.mem_range.1 hp) (Bool.and_eq_true_iff.1 hall)

/-! ## Old offers and disclaims (13 R658, R659) -/

/-- ORPHAN_MS in ns. -/
def Dev.orphanTime (d : Dev) : Nat := d.fld .cmp 0 0x10 63 48 * 1000000

section
variable {k n t : Nat} {sl : Slice} (hsl : d.slice? k = some sl) (hoffer : sl.offer = some (n, t))
include hsl hoffer

/-- An offer cleared and counted (13 R658). -/
def Dev.offerCleared (d : Dev) (k : Nat) (sl : Slice) : Dev := (d.setSlice k { sl with offer := none }).incSat .cmp 0 0x20 31 16 1

theorem Dev.orphan_young (h : d.now < t + d.orphanTime) : d.orphan k = d := by
  simp only [Dev.orphan, hsl, Option.bind_some, hoffer]
  exact if_neg (Nat.not_le.2 h)

/-- An offer ORPHAN_MS old is cleared and counted, and both nodes are told (R658). -/
theorem Dev.orphan_old (h : t + d.orphanTime ≤ d.now) :
    let d1 := d.offerCleared k sl
    d.orphan k = [sl.owner, n].eraseDups.foldl (fun e m => e.cruiseMsg m 11 (d1.recordBody k)) d1 := by
  simp only [Dev.orphan, hsl, Option.bind_some, hoffer]
  refine (if_pos h).trans ?_
  simp only [Dev.revertSlice, hsl, hoffer, Dev.offerCleared]

end

/-- The first disclaim of a slice is renewed and its home asked (R659). -/
theorem Dev.ownerQuery_asks {home k : Nat} {a b : List Disclaim} {x : Disclaim} (hd : d.disclaims = a ++ x :: b)
    (hhome : x.home = home) (hk : x.slice = k) (hfirst : ∀ y ∈ a, y.home ≠ home ∨ y.slice ≠ k)
    (hold : x.since + d.orphanTime ≤ d.now) : d.ownerQuery home k = Dev.cruiseMsg { d with
      disclaims := (d.disclaims.filter fun y => !(y.home == home && y.slice == k)) ++ [{ x with since := d.now }] } home 13
        [BitVec.ofNat 8 k, 0, 0, 0] := by
  have found : d.disclaims.find? (fun y => y.home == home && y.slice == k) = some x := by
    rw [hd, List.find?_append, List.find?_eq_none.2 (fun y hy => by have := hfirst y hy; simp; tauto)]
    simp [hhome, hk]
  simp only [Dev.ownerQuery, found]
  refine (if_pos hold).trans ?_
  subst hhome hk
  simp only [Dev.disclaim, BitVec.ofNat_toNat, BitVec.setWidth_eq]
  rfl

end

/-- Settles O50: each timer's function, case by case. -/
theorem cruiseTimersRun : Obligations.CruiseTimersRun := by
  intro s hs d alive old
  have gives {c : Instr} (f : Dev → Dev) {d2 : Dev} (h : f d = d2) (run : exec c s = s.served f) : GivesLater s c d2 :=
    (serving_gives f run hs).of_eq h
  refine ⟨gives Dev.heartbeats d.heartbeats_eq rfl, fun p hact => ⟨fun hnew => ?_, fun hdown => ?_⟩, gives Dev.floodEntry rfl rfl,
    ⟨fun hlow => gives Dev.summaryTimer (if_pos hlow) rfl, fun hlow => gives Dev.summaryTimer (if_neg hlow) rfl⟩, fun x => ⟨?_, ?_⟩,
    fun h => gives Dev.selfFailTimeout (Dev.selfFailTimeout_alive h) rfl,
    fun h => gives Dev.selfFailTimeout (Dev.selfFailTimeout_silent h) rfl, fun k sl n t hsl hoffer => ?_, ?_⟩
  · exact gives (fun d => d.heartbeatLost p) (Dev.heartbeatLost_declares hact hnew) rfl
  · exact gives (fun d => d.heartbeatLost p) (Dev.heartbeatLost_again hdown) rfl
  · exact fun h => gives (fun d => d.lookoutTimeout x.toNat) (Dev.lookoutTimeout_alive h) rfl
  · exact fun h => ⟨fun hnew hlook hself =>
        gives (fun d => d.lookoutTimeout x.toNat) (Dev.lookoutTimeout_declares h hnew hlook hself) rfl,
      fun hskip => gives (fun d => d.lookoutTimeout x.toNat) (Dev.lookoutTimeout_skips h hskip) rfl⟩
  · intro d1 tell
    have orphan {d2 : Dev} (h : d.orphan k = d2) : GivesLater s (.orphanTimeout k) d2 := gives (fun d => d.orphan k) h rfl
    refine ⟨fun h => orphan (Dev.orphan_young hsl hoffer h), fun h hn => orphan ?_, fun h hn => orphan ?_⟩
    · have both : [sl.owner, n].eraseDups = [sl.owner, n] := by simp [List.eraseDups_cons, Ne.symm hn]
      exact (Dev.orphan_old hsl hoffer h).trans (by rw [both]; rfl)
    · have one : [sl.owner, n].eraseDups = [n] := by simp [List.eraseDups_cons, hn]
      exact (Dev.orphan_old hsl hoffer h).trans (by rw [one]; rfl)
  · exact fun home k a b x hd hhome hk hfirst hold =>
      gives (fun d => d.ownerQuery home.toNat k) (Dev.ownerQuery_asks hd hhome hk hfirst hold) rfl

/-! ## Writes to the CMP block (13 Table 9) -/

section
variable {d : Dev}

/-- An accepted write of function 0 to a register of the CMP block. -/
theorem Dev.busWrite_cmp {o : Nat} (v : W64) (h8 : o % 8 = 0) (ho : o < 0x10000) (hr : (findRow .cmp o).isSome = true)
    (h : d.hostVerdict 0 (0x50000 + o) 8 true = .ok) :
    ∃ r, d.busWrite 0 (0x50000 + o) 8 v = d.writeCmp 0 ⟨.cmp, 0, o⟩ r (0, 64) v := by
  obtain ⟨r, hr⟩ := Option.isSome_iff_exists.1 hr
  have ht : d.target (0x50000 + o) = .one ⟨.cmp, 0, o⟩ := by
    have e : (0x50000 + o) / 8 * 8 = 0x50000 + o := by omega
    have hq : (0x50000 + o) / 65536 = 5 := by omega
    have hm : (0x50000 + o) % 65536 = o := by omega
    simp only [Dev.target, e, hq, hm]
    rw [if_pos (by omega)]
    rfl
  have hu : uniCell (0x50000 + o) = none := if_neg (by omega)
  refine ⟨r, ?_⟩
  rw [Dev.busWrite_ok v h]
  simp only [Dev.doWrite, pfOff, if_true, ht, hu, Dev.regWrite, hr]
  rfl

theorem Dev.busWrite_cmpAdvance (h : d.hostVerdict 0 0x50018 8 true = .ok) : d.busWrite 0 0x50018 8 1 = d.cmpAdvance := by
  obtain ⟨r, e⟩ := Dev.busWrite_cmp (o := 0x18) 1 rfl (by decide) (by decide +kernel) h
  rw [e]
  rfl

theorem Dev.busWrite_offerCtl (h : d.hostVerdict 0 0x50410 8 true = .ok) :
    d.busWrite 0 0x50410 8 1 = d.offerCtl true ∧ d.busWrite 0 0x50410 8 2 = d.offerCtl false := by
  obtain ⟨r, accept⟩ := Dev.busWrite_cmp (o := 0x410) 1 rfl (by decide) (by decide +kernel) h
  obtain ⟨r2, refuse⟩ := Dev.busWrite_cmp (o := 0x410) 2 rfl (by decide) (by decide +kernel) h
  exact ⟨accept, refuse⟩

theorem findRow_sliceCtl : ∀ k : Fin 16, (findRow .cmp (0x118 + 32 * k)).isSome = true := by decide +kernel

/-- CMP_SLICE_CTL carries the operation in its low bits and the target in bits 31 to 16. -/
theorem Dev.busWrite_sliceCtl {k : Fin 16} (n : BitVec 16) {op : Nat} (hop : op < 8)
    (h : d.hostVerdict 0 (0x50118 + 32 * k) 8 true = .ok) :
    d.busWrite 0 (0x50118 + 32 * k) 8 (BitVec.ofNat 64 (n.toNat * 65536 + op)) = d.sliceCtl k op n.toNat := by
  have hk := k.isLt
  have hn := n.isLt
  have at_ : (0x50118 + 32 * k : Nat) = 0x50000 + (0x118 + 32 * k) := by omega
  have hop2 : bits (BitVec.ofNat 64 (n.toNat * 65536 + op)) 2 0 = op := by rw [bits_eq, BitVec.toNat_ofNat]; omega
  have hn2 : bits (BitVec.ofNat 64 (n.toNat * 65536 + op)) 31 16 = n.toNat := by rw [bits_eq, BitVec.toNat_ofNat]; omega
  have hidx : (0x118 + 32 * k - 0x100 : Nat) / 32 = k := by omega
  rw [at_] at h ⊢
  obtain ⟨r, e⟩ := Dev.busWrite_cmp (BitVec.ofNat 64 (n.toNat * 65536 + op)) (by omega) (by omega) (findRow_sliceCtl k) h
  rw [e, Dev.writeCmp]
  simp only [hop2, hn2, hidx]
  rw [if_neg (by omega), if_neg (by omega), if_neg (by omega), if_pos (by omega), if_pos trivial]

end

/-! ## Slices defined, offered, released and reclaimed (13 R648, R649, R656, R661) -/

/-- A write without the right, counted (13 Table 9). -/
theorem Dev.sliceRefused_eq (d : Dev) : d.sliceRefused = d.setFld .cmp 0 0x20 15 0 (min 65535 (d.fld .cmp 0 0x20 15 0 + 1)) := by
  rw [Dev.sliceRefused, Dev.incSat, satAt]
  congr 1
  split <;> omega

/-- Slice k may take what it asks for: its cells, ports and stands are held by no slice but itself and slice 0. -/
def Dev.SliceFree (d : Dev) (k cells ports stands : Nat) : Prop :=
  ∀ x ∈ d.slices, x.1 ≠ 0 → x.1 ≠ k → x.2.cells &&& cells = 0 ∧ x.2.ports &&& ports = 0 ∧ x.2.stands &&& stands = 0

theorem Dev.sliceFree_iff (d : Dev) (k cells ports stands : Nat) :
    (d.slices.any fun e => e.1 != 0 && e.1 != k &&
      (e.2.cells &&& cells != 0 || e.2.ports &&& ports != 0 || e.2.stands &&& stands != 0)) = false ↔
        d.SliceFree k cells ports stands := by
  rw [List.any_eq_false]
  refine forall₂_congr fun x _ => ?_
  simp only [Bool.and_eq_true, Bool.or_eq_true, bne_iff_ne]
  tauto

/-- This module may define slice k: it owns slice 0, and slice k when there is one (13 R648). -/
def Dev.MayDefine (d : Dev) (k : Nat) : Prop := d.owns 0 = true ∧ (Tab.has d.slices k = false ∨ d.owns k = true)

theorem Dev.mayDefine_iff (d : Dev) (k : Nat) :
    ¬ ((!d.owns 0) = true ∨ (Tab.has d.slices k && !d.owns k) = true) ↔ d.MayDefine k := by
  simp only [Dev.MayDefine]
  cases d.owns 0 <;> cases d.owns k <;> cases Tab.has d.slices k <;> decide

/-- The highest epoch of the slices of some stands (13 R648). -/
def Dev.topEpoch (d : Dev) (stands : Nat) : Nat := ((maskBits 32 stands).map d.sliceEpoch).foldl max 0

theorem Dev.topEpoch_spec (d : Dev) (stands : Nat) :
    (∀ w, w < 32 → stands.testBit w = true → d.sliceEpoch w ≤ d.topEpoch stands) ∧
      (d.topEpoch stands = 0 ∨ ∃ w, w < 32 ∧ stands.testBit w = true ∧ d.sliceEpoch w = d.topEpoch stands) := by
  obtain ⟨hmem, htop⟩ := List.max?_eq_some_iff.1 (List.max?_cons' (x := 0) (xs := (maskBits 32 stands).map d.sliceEpoch))
  refine ⟨fun w hw hb => htop _ (List.mem_cons_of_mem _ (List.mem_map_of_mem (by simp [maskBits, hw, hb]))), ?_⟩
  simpa [Dev.topEpoch, maskBits, and_assoc] using hmem

section
variable {d : Dev} {k : Nat}

section
variable {cells ports stands : Nat} (hcells : d.fld .cmp 0 (0x100 + 32 * k) 47 32 = cells)
  (hports : d.fld .cmp 0 (0x100 + 32 * k) 31 16 = ports) (hstands : d.fld .cmp 0 (0x108 + 32 * k) 31 0 = stands)
include hcells hports hstands

theorem Dev.sliceDefine_refused (h : k = 0 ∨ cells = 0 ∨ ports = 0 ∨ ¬ d.SliceFree k cells ports stands ∨ ¬ d.MayDefine k) :
    d.sliceDefine k = d.sliceRefused := by
  subst hcells hports hstands
  rw [← Dev.sliceFree_iff, ← Dev.mayDefine_iff, Bool.not_eq_false, not_not] at h
  exact if_pos h

theorem Dev.sliceDefine_commits (hk : k ≠ 0) (hc : cells ≠ 0) (hp : ports ≠ 0) (hfree : d.SliceFree k cells ports stands)
    (hmine : d.MayDefine k) : d.sliceDefine k =
      (d.setSlice k ⟨cells, ports, stands, d.node, d.topEpoch stands + 1, none⟩).incWrap .cmp 0 0x20 63 32 1 := by
  subst hcells hports hstands
  rw [← Dev.sliceFree_iff] at hfree
  rw [← Dev.mayDefine_iff] at hmine
  refine if_neg ?_
  rintro (h | h | h | h | h)
  · exact hk h
  · exact hc h
  · exact hp h
  · exact absurd h (by rw [hfree]; decide)
  · exact hmine h

end

theorem Dev.sliceOffer_away {sl : Slice} {target : Nat} (hsl : d.slice? k = some sl) (hn : target ≠ d.node) :
    d.sliceOffer k target = (d.setSlice k { sl with offer := some (target, d.now) }).cruiseMsg target 8
      (handBody d.node k sl.epoch target) := by
  simp only [Dev.sliceOffer, hsl]
  exact if_neg hn

theorem Dev.owns_of_owner {sl : Slice} (hsl : d.slice? k = some sl) (howner : sl.owner = d.node) (hoffer : sl.offer = none) :
    d.owns k = true := by
  simp [Dev.owns, hsl, howner, hoffer]

theorem Dev.sliceRelease_owner {s0 : Slice} (h0 : d.slice? 0 = some s0) :
    d.sliceRelease k = { d with slices := Tab.set (Tab.del d.slices k) 0 { s0 with epoch := s0.epoch + 1 } } := by
  simp only [Dev.sliceRelease, h0]
  rfl

section
variable (k) (n : Nat)

theorem Dev.sliceCtl_define : d.sliceCtl k 1 n = d.sliceDefine k := rfl

theorem Dev.sliceCtl_offer : d.sliceCtl k 2 n = if d.owns k then d.sliceOffer k n else d.sliceRefused := rfl

theorem Dev.sliceCtl_release :
    d.sliceCtl k 3 n = if k ≠ 0 ∧ d.owns k ∧ d.owns 0 then d.sliceRelease k else d.sliceRefused := rfl

theorem Dev.sliceCtl_reclaim : d.sliceCtl k 4 n = if (d.slice? k).isSome then d.commitSlice k d.node else d.sliceRefused := rfl

end

end

/-! ## A cruise message leaves the records of slices -/

section
variable (d : Dev)

@[simp] theorem Dev.slices_signal (fn vec : Nat) : (d.signal fn vec).slices = d.slices := by
  unfold Dev.signal
  dsimp only
  split <;> rfl

@[simp] theorem Dev.slices_signalCpl (s : Nat) : (d.signalCpl s).slices = d.slices := by
  unfold Dev.signalCpl
  dsimp only
  split
  · exact Dev.slices_signal ..
  · rfl

@[simp] theorem Dev.slices_cplWrite (s : Nat) (e : CplEntry) : (d.cplWrite s e).slices = d.slices := by
  unfold Dev.cplWrite
  dsimp only
  split <;> split <;> simp [Dev.setSfld]

@[simp] theorem Dev.slices_post (s : Nat) (e : CplEntry) : (d.post s e).slices = d.slices := by
  unfold Dev.post
  dsimp only
  split
  · exact Dev.slices_cplWrite ..
  · split <;> rfl

/-- A fold whose steps leave the slices leaves them. -/
theorem Dev.slices_foldl {α : Type} {f : Dev → α → Dev} (hf : ∀ e x, (f e x).slices = e.slices) (l : List α) :
    (l.foldl f d).slices = d.slices :=
  List.foldlRecOn (motive := fun e => e.slices = d.slices) l f rfl fun e he x _ => (hf e x).trans he

@[simp] theorem Dev.slices_sendConn (s c peer dstConn op reason : Nat) (join epoch : BitVec 32) :
    (d.sendConn s c peer dstConn op reason join epoch).slices = d.slices := by
  unfold Dev.sendConn
  dsimp only
  split <;> rfl

@[simp] theorem Dev.slices_freeConn (c : Nat) : (d.freeConn c).slices = d.slices := by
  unfold Dev.freeConn
  split
  · rfl
  · next x _ =>
    have failed : (d.failAll x).slices = d.slices :=
      Dev.slices_foldl d (f := fun (e : Dev) (m : OutMsg) => e.endMsg m.who (0x100 + 21)) (fun _ _ => rfl) x.tx
    dsimp only
    split
    · exact (Dev.slices_post ..).trans failed
    · exact failed

@[simp] theorem Dev.slices_closeConn (c reason : Nat) : (d.closeConn c reason).slices = d.slices := by
  unfold Dev.closeConn
  split
  · rfl
  · split
    · dsimp only
      split <;> simp [Dev.postCmd]
    · split
      · exact Dev.slices_freeConn ..
      · split <;> rfl

@[simp] theorem Dev.slices_openReq (c : Nat) : (d.openReq c).slices = d.slices := by
  unfold Dev.openReq
  split
  · split
    · exact Dev.slices_sendConn ..
    · rfl
  · rfl

theorem Dev.slices_newConn {s peer c : Nat} {join : BitVec 32} {f : Conn → Conn} {e : Dev}
    (h : d.newConn s peer join f = some (c, e)) : e.slices = d.slices := by
  obtain ⟨i, -, hi⟩ := Option.map_eq_some_iff.1 h
  obtain ⟨-, rfl⟩ := Prod.mk.inj hi
  exact Dev.slices_openReq ..

theorem Dev.slices_cruiseTo {n c : Nat} {e : Dev} (h : d.cruiseTo n = some (c, e)) : e.slices = d.slices := by
  unfold Dev.cruiseTo at h
  split at h
  · obtain ⟨-, rfl⟩ := Prod.mk.inj (Option.some.inj h)
    rfl
  · refine (Dev.slices_newConn _ h).trans ?_
    split
    · rfl
    · split
      · exact Dev.slices_closeConn ..
      · rfl

@[simp] theorem Dev.slices_sendPkt (c : Nat) (x : Conn) (m : OutMsg) (i : Nat) (p : OutPkt) :
    (d.sendPkt c x m i p).slices = d.slices := by
  unfold Dev.sendPkt
  dsimp only
  split
  · rfl
  · split <;> rfl

theorem Dev.slices_pumpN (c n : Nat) : (Dev.pumpN c n d).slices = d.slices := by
  induction n generalizing d with
  | zero => rfl
  | succ n ih =>
    unfold Dev.pumpN
    split
    · rfl
    · split
      · rfl
      · exact (ih _).trans (Dev.slices_sendPkt ..)

@[simp] theorem Dev.slices_startMsg (c : Nat) (m : OutMsg) : (d.startMsg c m).slices = d.slices := by
  unfold Dev.startMsg
  split
  · split
    · unfold Dev.pump
      split
      · rfl
      · exact Dev.slices_pumpN ..
    · rfl
  · rfl

@[simp] theorem Dev.slices_ctrlTo (c : Nat) (bs : List Byte) : (d.ctrlTo c bs).slices = d.slices := by
  unfold Dev.ctrlTo
  split
  · rfl
  · split
    · rfl
    · exact Dev.slices_startMsg ..

@[simp] theorem Dev.slices_cruiseMsg (n op : Nat) (body : List Byte) : (d.cruiseMsg n op body).slices = d.slices := by
  unfold Dev.cruiseMsg
  split
  · rfl
  · dsimp only
    split
    · next h => exact (Dev.slices_ctrlTo ..).trans (Dev.slices_cruiseTo (d.newCruise op 0 body).2 h)
    · rfl

end

/-- The record that a commit leaves (R656). -/
theorem Dev.slice?_commitSlice {d : Dev} {k owner : Nat} {sl : Slice} (hsl : d.slice? k = some sl) :
    (d.commitSlice k owner).slice? k = some { sl with owner := owner, epoch := sl.epoch + 1, offer := none } := by
  have record : Tab.get? (d.commitSlice k owner).slices k =
      some { sl with owner := owner, epoch := sl.epoch + 1, offer := none } := by
    simp only [Dev.commitSlice, hsl]
    rw [Dev.slices_foldl _ fun e n => e.slices_cruiseMsg n 10 _]
    exact Tab.get?_set_self ..
  rw [Dev.slice?, record]

/-! ## Offers answered by the host (13 R656, R657) -/

section
variable {d : Dev}

/-- A register of the CMP block other than the first does not name the node (01 R18). -/
theorem Dev.node_setFld_cmp {off : Nat} (h : off ≠ 0) (hi lo v : Nat) : (d.setFld .cmp 0 off hi lo v).node = d.node := by
  rw [Dev.node, Dev.node, Dev.setFld_slotId, Dev.fld_setFld_ne (h := by simp only [Loc.addr, Blk.base]; omega)]

theorem Dev.offerCtl_none (accept : Bool) (h : bitAt (d.rd .cmp 0 0x400) 4 = false) : d.offerCtl accept = d :=
  if_pos (by simp [h])

/-- The offer that waits is answered to its home (R656, R657). -/
theorem Dev.offerCtl_waiting (h : bitAt (d.rd .cmp 0 0x400) 4 = true) (haway : bits (d.rd .cmp 0 0x400) 63 48 ≠ d.node) :
    let w := d.rd .cmp 0 0x400
    let home := bits w 63 48
    let k := bits w 3 0
    let e := d.fld .cmp 0 0x408 31 0
    let d1 := d.setFld .cmp 0 0x400 4 4 0
    d.offerCtl false = d1.cruiseMsg home 9 (handBody home k e 0) ∧
      d.offerCtl true = (d1.disclaim home k e true).cruiseMsg home 9 (handBody home k e (bits w 47 32)) := by
  intro w home k e d1
  have haway1 : home ≠ d1.node := by rwa [Dev.node_setFld_cmp (by decide)]
  have waits (accept : Bool) : d.offerCtl accept = d1.answerOffer home k e (bits w 47 32) accept :=
    if_neg (by simp [h])
  constructor
  · refine (waits false).trans ?_
    simp [Dev.answerOffer, haway1]
  · refine (waits true).trans ?_
    have haway2 : home ≠ (d1.disclaim home k e true).node := haway1
    simp [Dev.answerOffer, haway1, haway2]

end

/-- Settles O51: an accepted write comes to its register's function, which the record of the slice or the offer decides. -/
theorem slicesDefinedOfferedAndTaken : Obligations.SlicesDefinedOfferedAndTaken := by
  intro s d refused
  have gives {c : Instr} {off : Nat} {v : W64} {d2 : Dev} (h : d.busWrite 0 off 8 v = d2)
      (run : exec c s = s.always fun d => d.busWrite 0 off 8 v) : GivesLater s c d2 :=
    GivesLater.of_eq (d := d.busWrite 0 off 8 v) run h
  have counted : d.sliceRefused = refused := d.sliceRefused_eq
  refine ⟨fun hok => gives (Dev.busWrite_cmpAdvance hok) rfl, fun k n hok => ?_, fun hok => ?_⟩
  · have define {d2 : Dev} (h : d.sliceDefine k = d2) : GivesLater s (.sliceDefine 0 k n) d2 :=
      gives ((Dev.busWrite_sliceCtl n (op := 1) (by decide) hok).trans ((Dev.sliceCtl_define ..).trans h)) rfl
    have offer {d2 : Dev} (h : (if d.owns k then d.sliceOffer k n.toNat else d.sliceRefused) = d2) :
        GivesLater s (.sliceOffer 0 k n) d2 :=
      gives ((Dev.busWrite_sliceCtl n (op := 2) (by decide) hok).trans ((Dev.sliceCtl_offer ..).trans h)) rfl
    have release {d2 : Dev} (h : (if k.val ≠ 0 ∧ d.owns k ∧ d.owns 0 then d.sliceRelease k else d.sliceRefused) = d2) :
        GivesLater s (.sliceRelease 0 k n) d2 :=
      gives ((Dev.busWrite_sliceCtl n (op := 3) (by decide) hok).trans ((Dev.sliceCtl_release ..).trans h)) rfl
    have reclaim {d2 : Dev} (h : (if (d.slice? k).isSome then d.commitSlice k d.node else d.sliceRefused) = d2) :
        GivesLater s (.sliceReclaim 0 k n) d2 :=
      gives ((Dev.busWrite_sliceCtl n (op := 4) (by decide) hok).trans ((Dev.sliceCtl_reclaim ..).trans h)) rfl
    refine ⟨?_, fun sl hsl howner hoffer hn => ?_, fun hno => ⟨?_, ?_⟩, fun s0 hk hown hown0 h0 => ?_, fun hnone => ?_,
      fun sl hsl => ⟨?_, ?_⟩⟩
    · intro cells ports stands free mine
      refine ⟨fun hk hc hp hfree hmine => ⟨d.topEpoch stands, ?_, d.topEpoch_spec stands⟩, fun h => ?_⟩
      · exact define (Dev.sliceDefine_commits rfl rfl rfl (fun e => hk (Fin.ext e)) hc hp hfree hmine)
      · exact define ((Dev.sliceDefine_refused rfl rfl rfl (h.imp_left (congrArg Fin.val))).trans counted)
    · exact offer ((if_pos (Dev.owns_of_owner hsl howner hoffer)).trans (Dev.sliceOffer_away hsl hn))
    · exact offer ((if_neg (by simp [hno])).trans counted)
    · exact release ((if_neg (by simp [hno])).trans counted)
    · exact release ((if_pos ⟨fun e => hk (Fin.ext e), hown, hown0⟩).trans (Dev.sliceRelease_owner h0))
    · exact reclaim ((if_neg (by simp [hnone])).trans counted)
    · exact reclaim (if_pos (by simp [hsl]))
    · exact Dev.slice?_commitSlice hsl
  · obtain ⟨accepts, refuses⟩ := Dev.busWrite_offerCtl hok
    intro w home k e d1
    refine ⟨fun hw haway => ?_, fun hw => ?_⟩
    · obtain ⟨refusal, acceptance⟩ := Dev.offerCtl_waiting hw haway
      exact ⟨gives (refuses.trans refusal) rfl, gives (accepts.trans acceptance) rfl⟩
    · exact ⟨gives (accepts.trans (Dev.offerCtl_none true hw)) rfl, gives (refuses.trans (Dev.offerCtl_none false hw)) rfl⟩

end Machine
end Sys2Proof

/-!
PROOFS. Every step ends and only ever burns fuses (16 R786, R787; log 42): the statement O59.
-/
namespace Sys2Proof.Machine

/-! ## Fuses that are burnt (16 R786, R787) -/

/-- The fused version is one of the 64 and a root-key slot is left. -/
abbrev Otp.Sound (o : Otp) : Prop := o.svn ≤ 64 ∧ ∃ i, i < 4 ∧ o.revoked.getLsbD i = false

/-- A slot's revocation fuse is one bit of the four. -/
theorem getLsbD_slotFuse (slot i : Nat) : (BitVec.ofNat 4 (2 ^ slot)).getLsbD i = (decide (i < 4) && decide (slot = i)) := by
  rw [BitVec.getLsbD_ofNat, Nat.testBit_two_pow]

/-- A revocation burns the slot's fuse while another slot is left, and nothing otherwise. -/
theorem Otp.burn_revoke_cases (o : Otp) (slot : Nat) :
    ((∃ i, i < 4 ∧ i ≠ slot ∧ o.revoked.getLsbD i = false) ∧
      o.burn (.revoke slot) = { o with revoked := o.revoked ||| BitVec.ofNat 4 (2 ^ slot) }) ∨
    o.burn (.revoke slot) = o := by
  by_cases another : ((List.range 4).any fun i => i != slot && !o.revoked.getLsbD i) = true
  · obtain ⟨i, hi, hother⟩ := List.any_eq_true.1 another
    simp only [Bool.and_eq_true, bne_iff_ne, ne_eq, Bool.not_eq_true'] at hother
    exact .inl ⟨⟨i, List.mem_range.1 hi, hother⟩, if_pos another⟩
  · exact .inr (if_neg another)

theorem Otp.svn_le_burn (o : Otp) (b : Burn) : o.svn ≤ (o.burn b).svn := by
  cases b with
  | svn n => exact Nat.le_max_left ..
  | revoke slot => rcases o.burn_revoke_cases slot with ⟨-, e⟩ | e <;> rw [e]

theorem Otp.revoked_burn (o : Otp) (b : Burn) {i : Nat} (h : o.revoked.getLsbD i = true) :
    (o.burn b).revoked.getLsbD i = true := by
  cases b with
  | svn n => exact h
  | revoke slot =>
    rcases o.burn_revoke_cases slot with ⟨-, e⟩ | e <;> rw [e]
    · exact (BitVec.getLsbD_or ..).trans (by rw [h, Bool.true_or])
    · exact h

/-- A slot is revoked only while another stays. -/
theorem Otp.sound_burn {o : Otp} (b : Burn) (h : o.Sound) : (o.burn b).Sound := by
  obtain ⟨hsvn, i, hi, hfree⟩ := h
  cases b with
  | svn n => exact ⟨Nat.max_le.2 ⟨hsvn, Nat.min_le_right ..⟩, i, hi, hfree⟩
  | revoke slot =>
    rcases o.burn_revoke_cases slot with ⟨⟨k, hk, hother, hleft⟩, e⟩ | e <;> rw [e]
    · refine ⟨hsvn, k, hk, ?_⟩
      rw [BitVec.getLsbD_or, hleft, getLsbD_slotFuse, decide_eq_false (Ne.symm hother), Bool.and_false, Bool.or_self]
    · exact ⟨hsvn, i, hi, hfree⟩

/-! ## Every command ends (log 42) -/

/-- Every command answers a next state: the device it makes, with the fuses it burns. -/
theorem exec_put (c : Instr) (s : State) : ∃ d, exec c s = .next (s.put d) := by
  cases c <;> exact ⟨_, rfl⟩

/-- A command leaves the fuses or burns some. -/
theorem State.put_otp_cases (s : State) (d : Dev) : (s.put d).otp = s.otp ∨ ∃ b, (s.put d).otp = s.otp.burn b := by
  cases h : d.doing.burn with
  | none => exact .inl (s.put_otp d h)
  | some b => exact .inr ⟨b, by rw [s.put_burns d b h]⟩

/-- Settles O59: a step is the tick, which leaves queue and fuses, or a command's, which ends with `State.put`. -/
theorem everyStepCompletesAndFusesHold : Obligations.EveryStepCompletesAndFusesHold := by
  intro s
  cases hq : s.pending with
  | nil =>
    refine ⟨s.tick, by rw [step, hq], by rw [State.tick_pending, hq]; rfl, ?_⟩
    rw [State.tick_otp]
    exact ⟨le_rfl, fun _ h => h, fun h => h⟩
  | cons c rest =>
    obtain ⟨d, hd⟩ := exec_put c { s with pending := rest }
    refine ⟨_, by rw [step, hq]; exact hd, State.put_pending .., ?_⟩
    rcases State.put_otp_cases { s with pending := rest } d with e | ⟨b, e⟩ <;> rw [e]
    · exact ⟨le_rfl, fun _ h => h, fun h => h⟩
    · exact ⟨s.otp.svn_le_burn b, fun _ h => s.otp.revoked_burn b h, fun h => Otp.sound_burn b h⟩

end Sys2Proof.Machine

/-!
PROOFS. The machine right after reset (16 R772, R774): the statement O60.
-/
namespace Sys2Proof.Machine

/-- After reset nothing is stored over the reset words. -/
theorem rd_reset (b : Blk) (i o : Nat) : State.reset.d.rd b i o = resetWord ⟨b, i, o⟩ := rfl

/-- The stands' windows have one reset column. -/
theorem fld_reset_stand (w o hi lo : Nat) : State.reset.d.fld .stand w o hi lo = bits (resetWord ⟨.stand, 0, o⟩) hi lo := rfl

/-- The stands right after reset: queues of 16 entries, PHASE 1, no session and no reset. -/
theorem stand_reset (w : Fin 32) :
    State.reset.d.fld .stand w 0x2008 4 0 = 4 ∧ State.reset.d.fld .stand w 0x2058 16 16 = 1 ∧
      (State.reset.d.std w).ses = .closed ∧ (State.reset.d.std w).rst = false := by
  refine ⟨?_, ?_, rfl, rfl⟩ <;> rw [fld_reset_stand]
  · decide +kernel
  · decide +kernel

/-- Settles O60: with no register written a field is the reset column's, and every table of the state is empty. -/
theorem resetStateAsSpecified : Obligations.ResetStateAsSpecified := by
  unfold Obligations.ResetStateAsSpecified
  intro d
  have fuses : State.reset.otp.svn ≤ 64 ∧ ∃ i, i < 4 ∧ State.reset.otp.revoked.getLsbD i = false := ⟨by decide, 0, by decide⟩
  have boot : d.stageOf = 0 ∧ d.fld .boot 0 0 35 32 = 1 ∧ d.lock = false := by decide +kernel
  have power : d.modPower = 0 ∧ d.curOp = 0 ∧ d.fld .pwr 0 0x40 6 0 = 95 ∧ d.fld .pwr 0 0x8008 19 0 = 0xFFFFF := by
    decide +kernel
  have cruise : d.fld .cmp 0 0x10 31 16 = 250 ∧ d.fld .cmp 0 0x10 47 32 = 1000 ∧ d.fld .cmp 0 0x10 63 48 = 50 ∧
      d.fld .cmp 0 8 2 0 = 1 := by decide +kernel
  have parent : d.fld .ftm 0 0x10 27 20 = 255 := by decide +kernel
  have first : d.rd .flt 0 8 = 0 := by decide +kernel
  obtain ⟨stage, code, lock⟩ := boot
  obtain ⟨mod, op, warn, gates⟩ := power
  obtain ⟨hb, fail, orphan, standby⟩ := cruise
  exact ⟨rfl, rfl, rfl, fuses, rd_reset, stage, code, lock, mod, op, warn, hb, fail, orphan, standby, parent, gates, first,
    stand_reset, rfl, rfl, rfl, rfl, rfl, rfl, rfl, rfl, rfl, rfl, rfl, rfl, rfl, rfl, rfl⟩

end Sys2Proof.Machine

/-!
PROOFS. Host commands that are refused (17 R810, R811, R858): the statement O34.
-/
namespace Sys2Proof.Machine

/-- The completion of a command that is refused: BAD_COMMAND (17 Table 7). -/
def Dev.badCommand (d : Dev) (st opc : Nat) (e : CmdEntry) : Dev := (d.popFetched st opc e).post st ⟨e.tag, 0, 0, 0, opc, 0, 1⟩

/-- A command whose common fields R810 and R858 refuse acts for no stand. -/
theorem CmdEntry.actor_none {e : CmdEntry} {st : Fin 32} {lo hi : Nat}
    (h : e.rsv ≠ 0#8 ∨ bits (e.target.setWidth 64) 14 5 ≠ 0 ∨ (e.target.getLsbD 15 = true ∧ st ≠ 0) ∨ e.dataLen.toNat < lo ∨
      hi < e.dataLen.toNat) : e.actor st lo hi = none := by
  have hbits : bits (e.target.setWidth 64) 14 5 = nbits e.target.toNat 14 5 := by
    rw [bits, nbits, BitVec.toNat_setWidth_of_le (by decide)]
  rw [hbits, ne_eq st 0, ← Fin.val_inj] at h
  exact if_pos h

/-- A stand other than 0 is refused a command of the tables, keys and firmware. -/
theorem Dev.hostCmd0_guest {d : Dev} {st opc lo hi : Nat} {e : CmdEntry} (f : Dev → Nat → Dev) (h : (d.std st).rst = false)
    (h0 : st ≠ 0) : d.hostCmd0 st opc e lo hi f = d.badCommand st opc e := by
  cases ha : e.actor st lo hi with
  | none => exact Dev.hostCmd_refused _ h ha
  | some a => exact (Dev.hostCmd_takes _ h ha).trans (if_neg h0)

section
variable {s : State} {st : Fin 32} {e : CmdEntry} (serving : s.d.serving = true)
include serving

/-- What a host command of a stand gives while the stand is being reset, and with common fields that are refused. -/
theorem hostCmd_refuses {c : Instr} {opc lo hi : Nat} {f : Dev → Nat → Dev}
    (run : exec c s = s.served fun d => d.hostCmd st opc e lo hi f) :
    ((s.d.std st).rst = true → GivesLater s c s.d) ∧
    ((s.d.std st).rst = false →
      e.rsv ≠ 0#8 ∨ bits (e.target.setWidth 64) 14 5 ≠ 0 ∨ (e.target.getLsbD 15 = true ∧ st ≠ 0) ∨ e.dataLen.toNat < lo ∨
        hi < e.dataLen.toNat →
      GivesLater s c (s.d.badCommand st opc e)) := by
  have gives {d2 : Dev} (h : s.d.hostCmd st opc e lo hi f = d2) : GivesLater s c d2 := by
    rw [GivesLater, run, State.served_eq _ serving, h]
  exact ⟨fun hr => gives (Dev.hostCmd_reset f hr), fun hr h => gives (Dev.hostCmd_refused f hr (CmdEntry.actor_none h))⟩

/-- A command of the tables, keys and firmware from another stand than 0. -/
theorem hostCmd0_refuses {c : Instr} {opc lo hi : Nat} {f : Dev → Nat → Dev}
    (run : exec c s = s.served fun d => d.hostCmd0 st opc e lo hi f) (hr : (s.d.std st).rst = false) (h0 : st ≠ 0) :
    GivesLater s c (s.d.badCommand st opc e) := by
  rw [GivesLater, run, State.served_eq _ serving, Dev.hostCmd0_guest f hr fun h => h0 (Fin.ext h)]

end

/-- Settles O34: every host command is one `Dev.hostCmd`, which looks at the reset and at the common fields first. -/
theorem hostCommandsRefused : Obligations.HostCommandsRefused := by
  intro s st e serving
  have bad {c : Instr} {opc lo hi : Nat} {f : Dev → Nat → Dev} (run : exec c s = s.served fun d => d.hostCmd st opc e lo hi f) :=
    hostCmd_refuses serving run
  have owner {c : Instr} {opc lo hi : Nat} {f : Dev → Nat → Dev}
      (run : exec c s = s.served fun d => d.hostCmd0 st opc e lo hi f) := hostCmd0_refuses serving run
  exact ⟨bad rfl, bad rfl, bad rfl, fun _ => bad rfl, bad rfl, bad rfl, bad rfl, bad rfl, bad rfl, bad rfl, bad rfl, bad rfl,
    bad rfl, bad rfl, bad rfl, bad rfl, bad rfl, bad rfl, bad rfl, bad rfl, bad rfl, owner rfl, owner rfl, owner rfl, owner rfl,
    owner rfl⟩

end Sys2Proof.Machine

/-!
PROOFS. Queues, doorbells and interrupts of the host (17 R808, R811 to R821): the statement O37.
-/
namespace Sys2Proof.Machine

/-! ## Registers of a queue (17 Table 9) -/

/-- An accepted write of 8 bytes in a stand's window has the effect that the register's row gives it. -/
theorem Dev.busWrite_stand_row {d : Dev} {fn st : Fin 32} {o : Nat} {r : RegRow} (v : W64)
    (h : d.hostVerdict fn (winOff fn st o) 8 true = .ok) (h8 : o % 8 = 0) (ho : o < 0x10000) (hr : findRow .stand o = some r) :
    d.busWrite fn (winOff fn st o) 8 v = d.writeStand fn ⟨.stand, standOf fn st, o⟩ r (0, 64) v := by
  refine (Dev.busWrite_ok v h).trans ?_
  have hu : uniCell (0x100000 + standOf fn st * 0x10000 + o) = none := by
    have := standOf_lt fn st
    exact if_neg (by omega)
  simp only [Dev.doWrite, pfOff_winOff fn st ho, d.target_stand (standOf_lt fn st) h8 ho, hu, Dev.regWrite, hr]
  rfl

/-- A field of a stand's window in another register stays. -/
theorem Dev.sfld_setSfld_ne (d : Dev) (w : Nat) {o o2 : Nat} (hi lo v h2 l2 : Nat) (h : o2 ≠ o) :
    (d.setSfld w o hi lo v).sfld w o2 h2 l2 = d.sfld w o2 h2 l2 :=
  Dev.fld_setFld_ne (h := by simp only [Loc.addr]; omega) ..

theorem Dev.sfld_setSfld_self (d : Dev) (w o v : Nat) {hi lo : Nat} (h : lo ≤ hi) (h64 : hi < 64) :
    (d.setSfld w o hi lo v).sfld w o hi lo = v % 2 ^ (hi + 1 - lo) :=
  Dev.fld_setFld_self d .stand w o hi lo v h h64

theorem Dev.wr_wr (d : Dev) (b : Blk) (i o : Nat) (v x : W64) : (d.wr b i o v).wr b i o x = d.wr b i o x := by
  simp [Dev.wr]

/-- The row of HIF_CMD_TAIL and HIF_CPL_HEAD: an index. -/
def indexRow (o : Nat) : RegRow := ⟨o, 1, 8, [⟨15, 0, .rw, 0, .id⟩]⟩

theorem findRow_cmdTail : findRow .stand 0x2010 = some (indexRow 0x2010) := by decide +kernel

theorem findRow_cplHead : findRow .stand 0x2050 = some (indexRow 0x2050) := by decide +kernel

theorem Dev.store_index (d : Dev) (s w o : Nat) (v : W64) :
    d.store s ⟨.stand, w, o⟩ (indexRow o) (0, 64) v = d.setSfld w o 15 0 (bits v 15 0) :=
  congrArg (d.wr .stand w o)
    (RegField.write_rw_carried (f := ⟨15, 0, .rw, 0, .id⟩) (lane := (0, 64)) (lockOpen := !d.lock && s == 0) (by decide)
      (by decide) (.inl rfl) v _)

/-- The row of HIF_CMD_CFG and HIF_CPL_CFG: EN and LOG2_ENTRIES. -/
def queueRow (o : Nat) : RegRow := ⟨o, 1, 8, [⟨31, 31, .rw, 0, .id⟩, ⟨4, 0, .rw, 4, .only 4 16⟩]⟩

theorem findRow_cmdCfg : findRow .stand 0x2008 = some (queueRow 0x2008) := by decide +kernel

theorem findRow_cplCfg : findRow .stand 0x2048 = some (queueRow 0x2048) := by decide +kernel

/-- EN set and a size of 16 to 65,536 entries are stored as written. -/
theorem Dev.store_queue (d : Dev) (s w o : Nat) {v : W64} (hv : bitAt v 31 = true) (h4 : 4 ≤ bits v 4 0) (h16 : bits v 4 0 ≤ 16) :
    d.store s ⟨.stand, w, o⟩ (queueRow o) (0, 64) v = (d.setSfld w o 31 31 1).setSfld w o 4 0 (bits v 4 0) := by
  have en (x : W64) : RegField.write ⟨31, 31, .rw, 0, .id⟩ (!d.lock && s == 0) (0, 64) v x = putBits x 31 31 1 := by
    refine (RegField.write_rw_carried (f := ⟨31, 31, .rw, 0, .id⟩) (lane := (0, 64)) (by decide) (by decide) (.inl rfl) v x).trans ?_
    have h1 : bits v 31 31 = 1 := by rw [bits_single, show v.getLsbD 31 = true from hv]; rfl
    exact congrArg (putBits x 31 31) h1
  have size (x : W64) : RegField.write ⟨4, 0, .rw, 4, .only 4 16⟩ (!d.lock && s == 0) (0, 64) v x = putBits x 4 0 (bits v 4 0) :=
    (RegField.write_rw_carried (f := ⟨4, 0, .rw, 4, .only 4 16⟩) (lane := (0, 64)) (by decide) (by decide) (.inl rfl) v x).trans
      (congrArg (putBits x 4 0) (if_neg (by dsimp only; omega)))
  rw [Dev.store, RegRow.write, queueRow, List.foldl_cons, List.foldl_cons, List.foldl_nil, en, size, Dev.setSfld, Dev.setSfld,
    Dev.setFld, Dev.setFld, Dev.rd_wr_self, Dev.wr_wr]

/-! ## Doorbells (17 R808, R811, R814) -/

section
variable {d : Dev} {fn st : Fin 32} {v : W64}

/-- A write of the command queue's tail. -/
theorem Dev.busWrite_cmdTail (h : d.hostVerdict fn (winOff fn st 0x2010) 8 true = .ok) :
    let w := standOf fn st
    d.busWrite fn (winOff fn st 0x2010) 8 v =
      if 2 ^ d.sfld w 0x2008 4 0 ≤ bits v 15 0 then d else (d.setSfld w 0x2010 15 0 (bits v 15 0)).cmdKick w := by
  intro w
  have hv : bits v 15 0 % 65536 = bits v 15 0 := Nat.mod_eq_of_lt (bits_lt v 15 0)
  rw [Dev.busWrite_stand_row v h rfl (by decide) findRow_cmdTail]
  simp [Dev.writeStand, Dev.writeDoorbell, Dev.store_index, Dev.sfld_setSfld_self, hv, w]

/-- A write of the completion queue's head. -/
theorem Dev.busWrite_cplHead (h : d.hostVerdict fn (winOff fn st 0x2050) 8 true = .ok) :
    let w := standOf fn st
    let d1 := d.setSfld w 0x2050 15 0 (bits v 15 0)
    d.busWrite fn (winOff fn st 0x2050) 8 v =
      if 2 ^ d.sfld w 0x2048 4 0 ≤ bits v 15 0 then d else Dev.cplDrain w (d1.hostQ w).backlog.length d1 := by
  intro w d1
  have hv : bits v 15 0 % 65536 = bits v 15 0 := Nat.mod_eq_of_lt (bits_lt v 15 0)
  rw [Dev.busWrite_stand_row v h rfl (by decide) findRow_cplHead]
  simp [Dev.writeStand, Dev.writeDoorbell, Dev.store_index, Dev.sfld_setSfld_self, hv, w, d1]

end

theorem Dev.cmdKick_idle {d : Dev} {s : Nat} (h : d.mayFetch s = false ∨ d.sfld s 0x2018 15 0 = d.sfld s 0x2010 15 0) :
    d.cmdKick s = d :=
  if_pos (by simpa using h)

/-- A fetch goes from HEAD up to TAIL or the end of the queue. -/
theorem Dev.cmdKick_fetches {d : Dev} {s : Nat} (h : d.mayFetch s = true) (hne : d.sfld s 0x2018 15 0 ≠ d.sfld s 0x2010 15 0) :
    let head := d.sfld s 0x2018 15 0
    let tail := d.sfld s 0x2010 15 0
    let n := if head < tail then tail - head else 2 ^ d.sfld s 0x2008 4 0 - head
    d.cmdKick s = d.issueDma s (.cmdFetch s n) fun i => .dmaRead s i (d.sfld s 0x2000 63 12 * 4096 + 64 * head) (64 * n) :=
  if_neg (by simp [h, hne])

/-! ## Enabling a queue (17 R816, R821) -/

section
variable {d : Dev} {fn st : Fin 32} {v : W64} (hv : bitAt v 31 = true) (h4 : 4 ≤ bits v 4 0) (h16 : bits v 4 0 ≤ 16)
include hv h4 h16

theorem Dev.busWrite_cmdCfg (h : d.hostVerdict fn (winOff fn st 0x2008) 8 true = .ok)
    (hoff : bitAt (d.rd .stand (standOf fn st) 0x2008) 31 = false) :
    let w := standOf fn st
    d.busWrite fn (winOff fn st 0x2008) 8 v =
      ((((d.setSfld w 0x2008 31 31 1).setSfld w 0x2008 4 0 (bits v 4 0)).setSfld w 0x2010 15 0 0).setSfld w 0x2018 15 0 0).setSfld
        w 0x2020 0 0 0 := by
  intro w
  rw [Dev.busWrite_stand_row v h rfl (by decide) findRow_cmdCfg]
  have restart : d.writeQueueCfg fn ⟨.stand, w, 0x2008⟩ (queueRow 0x2008) (0, 64) v = Dev.cmdKick
      (((((d.setSfld w 0x2008 31 31 1).setSfld w 0x2008 4 0 (bits v 4 0)).setSfld w 0x2010 15 0 0).setSfld w 0x2018 15 0 0).setSfld
        w 0x2020 0 0 0) w := by
    simp [Dev.writeQueueCfg, Dev.store_queue d _ _ _ hv h4 h16, w, hoff, hv]
  refine Eq.trans (by simp [Dev.writeStand, w]) (restart.trans (Dev.cmdKick_idle (.inr ?_)))
  rw [Dev.sfld_setSfld_ne (h := by decide), Dev.sfld_setSfld_self (h := by decide) (h64 := by decide),
    Dev.sfld_setSfld_ne (h := by decide), Dev.sfld_setSfld_ne (h := by decide),
    Dev.sfld_setSfld_self (h := by decide) (h64 := by decide)]

theorem Dev.busWrite_cplCfg (h : d.hostVerdict fn (winOff fn st 0x2048) 8 true = .ok)
    (hoff : bitAt (d.rd .stand (standOf fn st) 0x2048) 31 = false) :
    let w := standOf fn st
    let d1 := ((((d.setSfld w 0x2048 31 31 1).setSfld w 0x2048 4 0 (bits v 4 0)).setSfld w 0x2050 15 0 0).setSfld w 0x2058 15 0 0).setSfld
      w 0x2058 16 16 1
    d.busWrite fn (winOff fn st 0x2048) 8 v = Dev.cplDrain w (d.hostQ w).backlog.length d1 := by
  intro w d1
  rw [Dev.busWrite_stand_row v h rfl (by decide) findRow_cplCfg]
  have restart : d.writeQueueCfg fn ⟨.stand, w, 0x2048⟩ (queueRow 0x2048) (0, 64) v =
      Dev.cplDrain w (d1.hostQ w).backlog.length d1 := by
    simp [Dev.writeQueueCfg, Dev.store_queue d _ _ _ hv h4 h16, w, d1, hoff, hv]
  exact Eq.trans (by simp [Dev.writeStand, w]) restart

end

/-! ## Interrupts and functions (17 R817 to R819) -/

theorem Dev.irqTimer_signals {d : Dev} {s : Nat} (h : (d.hostQ s).unsignalled ≠ 0) :
    let d1 := d.setHostQ s { d.hostQ s with unsignalled := 0 }
    d.irqTimer s = if bitAt (d.rd .stand s 0x2060) 31 then d1.signal s (d.sfld s 0x2060 7 0) else d1 := if_neg h

/-- A function that may not send writes no completion. -/
theorem Dev.cplDrain_idle {d : Dev} {s : Nat} (n : Nat) (h : d.fnLive s = false) : Dev.cplDrain s n d = d := by
  have hr : d.cplRoom s = false := by simp [Dev.cplRoom, h]
  cases n with
  | zero => rfl
  | succ n => exact if_neg (by simp [hr])

theorem Dev.msixFlush_idle {d : Dev} {fn : Nat} (h : d.fnLive fn = false) : d.msixFlush fn = d := if_pos (by simp [h])

theorem Dev.mayFetch_idle {d : Dev} {s : Nat} (h : d.fnLive s = false) : d.mayFetch s = false := by simp [Dev.mayFetch, h]

/-- A function whose bus mastering is off, or that sleeps, does nothing more. -/
theorem Dev.busMaster_idle (d : Dev) (fn : Nat) {bme d3 : Bool} (h : bme = false ∨ d3 = true) :
    d.busMaster fn bme d3 = { d with fns := Tab.set d.fns fn ⟨bme, d3⟩ } := by
  have dead : Dev.fnLive { d with fns := Tab.set d.fns fn ⟨bme, d3⟩ } fn = false := by
    rcases h with rfl | rfl <;> simp [Dev.fnLive, Dev.fnCtl]
  rw [Dev.busMaster, Dev.cplDrain_idle _ dead, Dev.msixFlush_idle dead, Dev.cmdKick_idle (.inl (Dev.mayFetch_idle dead))]

/-- An MSI-X entry's number names its function. -/
theorem msixKey_div (fn : Nat) (vec : BitVec 8) : msixKey fn vec.toNat / 256 = fn ∧ msixKey fn vec.toNat % 256 = vec.toNat := by
  have := vec.isLt
  simp only [msixKey]
  omega

/-- The one entry of a live function unmasked: what was pending is sent. -/
theorem Dev.msixUnmask_one {d : Dev} {fn : Nat} {vec : BitVec 8} {pend : Bool} (hl : d.fnLive fn = true)
    (hm : Tab.set d.msix (msixKey fn vec.toNat) { d.msixOf fn vec.toNat with masked := false } =
      [(msixKey fn vec.toNat, ⟨false, pend⟩)]) :
    d.msixUnmask fn vec.toNat =
      { d with
        msix := [(msixKey fn vec.toNat, ⟨false, false⟩)], out := if pend then d.out ++ [.msix fn vec.toNat] else d.out } := by
  obtain ⟨hdiv, hmod⟩ := msixKey_div fn vec
  have live : Dev.fnLive { d with msix := [(msixKey fn vec.toNat, ⟨false, pend⟩)] } fn = true := hl
  rw [Dev.msixUnmask, hm, Dev.msixFlush, live]
  cases pend <;> simp [hdiv, hmod, Dev.emit, Tab.set]

/-- Settles O37: each write comes to its register's function, and what waits goes on when its condition is met. -/
theorem queuesDoorbellsAndInterrupts : Obligations.QueuesDoorbellsAndInterrupts := by
  intro s fn st v d w
  have gives {c : Instr} {o : Nat} {d2 : Dev} (h : d.busWrite fn (winOff fn st o) 8 v = d2)
      (run : exec c s = s.always fun d => d.busWrite fn (winOff fn st o) 8 v) : GivesLater s c d2 :=
    GivesLater.of_eq (d := d.busWrite fn (winOff fn st o) 8 v) run h
  refine ⟨fun hok hlt => ?_, fun hok hge => ?_, fun hok hlt => ?_, fun hok hoff hv h4 h16 => ?_, fun hok hoff hv h4 h16 => ?_,
    fun hs hn => ?_, fun bme d3 => ⟨rfl, fun h => ?_⟩, fun vec hl => ?_, fun vec hl hm => ?_, fun vec hl hm => ?_, fun h0 => ?_⟩
  · have tail : (d.setSfld w 0x2010 15 0 (bits v 15 0)).sfld w 0x2010 15 0 = bits v 15 0 :=
      (Dev.sfld_setSfld_self (h := by decide) (h64 := by decide) ..).trans (Nat.mod_eq_of_lt (bits_lt v 15 0))
    have kick := (Dev.busWrite_cmdTail (v := v) hok).trans (if_neg (Nat.not_le.2 hlt))
    refine ⟨fun hf hne => gives (kick.trans ?_) rfl, fun h => gives (kick.trans (Dev.cmdKick_idle (h.imp_right ?_))) rfl⟩
    · have fetch := Dev.cmdKick_fetches hf (by rwa [tail])
      rw [fetch, tail, Dev.sfld_setSfld_ne (o2 := 0x2008) (h := by decide), Dev.sfld_setSfld_ne (o2 := 0x2000) (h := by decide)]
      rfl
    · exact fun e => e.trans tail.symm
  · exact gives ((Dev.busWrite_cmdTail (v := v) hok).trans (if_pos hge)) rfl
  · exact gives ((Dev.busWrite_cplHead (v := v) hok).trans (if_neg (Nat.not_le.2 hlt))) rfl
  · exact gives (Dev.busWrite_cmdCfg hv h4 h16 hok hoff) rfl
  · exact gives (Dev.busWrite_cplCfg hv h4 h16 hok hoff) rfl
  · have fires := State.served_eq (fun d => d.irqTimer st) hs
    rw [Dev.irqTimer_signals hn] at fires
    exact ⟨fun hb => by rwa [if_pos hb] at fires, fun hb => by rwa [if_neg (by simp [hb])] at fires⟩
  · exact GivesLater.of_eq rfl (d.busMaster_idle fn h)
  · exact GivesLater.of_eq rfl (Dev.msixFlush_idle hl)
  · refine GivesLater.of_eq rfl ((Dev.msixUnmask_one (pend := false) hl ?_).trans rfl)
    simp [Dev.msixOf, hm, Tab.set, Tab.getD, Tab.get?]
  · refine GivesLater.of_eq rfl ((Dev.msixUnmask_one (pend := true) hl ?_).trans rfl)
    simp [Dev.msixOf, hm, Tab.set, Tab.getD, Tab.get?]
  · have h0' : (st : Nat) ≠ 0 := fun e => h0 (Fin.ext e)
    exact ⟨GivesLater.of_eq rfl (if_neg h0'), GivesLater.of_eq rfl (if_neg h0')⟩

end Sys2Proof.Machine

/-!
PROOFS. What an occurrence of a fault source, a refused entry and a demand leave of the device (14 R688 to R705; 15 R754, R764).
-/
namespace Sys2Proof.Machine

/-- A counter that saturates stays below its width's power. -/
theorem satAt_eq_min (n v : Nat) : satAt n v = min (2 ^ n - 1) v := by
  have : 0 < 2 ^ n := Nat.two_pow_pos n
  unfold satAt
  split <;> omega

/-- e is d with other registers, messages, MSI-X entries and reactions that wait. -/
def Dev.OnlySignals (d e : Dev) : Prop :=
  ∃ regs out msix react, e = { d with regs := regs, out := out, msix := msix, react := react }

theorem Dev.OnlySignals.refl (d : Dev) : d.OnlySignals d := ⟨_, _, _, _, rfl⟩

theorem Dev.OnlySignals.trans {d e f : Dev} (h : d.OnlySignals e) (h2 : e.OnlySignals f) : d.OnlySignals f := by
  obtain ⟨_, _, _, _, rfl⟩ := h
  obtain ⟨_, _, _, _, rfl⟩ := h2
  exact ⟨_, _, _, _, rfl⟩

theorem Dev.wr_onlySignals (d : Dev) (b : Blk) (i o : Nat) (v : W64) : d.OnlySignals (d.wr b i o v) := ⟨_, _, _, _, rfl⟩

theorem Dev.setFld_onlySignals (d : Dev) (b : Blk) (i o hi lo v : Nat) : d.OnlySignals (d.setFld b i o hi lo v) :=
  d.wr_onlySignals ..

theorem Dev.react_onlySignals (d : Dev) (rs : List React) : d.OnlySignals { d with react := d.react ++ rs } := ⟨_, _, _, _, rfl⟩

theorem Dev.OnlySignals.foldl {α : Type} {d e : Dev} (h : d.OnlySignals e) {f : Dev → α → Dev}
    (hf : ∀ (x : Dev) a, x.OnlySignals (f x a)) (l : List α) : d.OnlySignals (l.foldl f e) :=
  List.foldlRecOn (motive := d.OnlySignals) l f h fun x hx a _ => hx.trans (hf x a)

theorem Dev.signal_onlySignals (d : Dev) (fn vec : Nat) : d.OnlySignals (d.signal fn vec) := by
  unfold Dev.signal
  dsimp only
  split
  · exact ⟨_, _, _, _, rfl⟩
  · exact ⟨_, _, _, _, rfl⟩

theorem Dev.signalFault_onlySignals (d : Dev) (s : Nat) : d.OnlySignals (d.signalFault s) := by
  unfold Dev.signalFault
  split
  · exact d.signal_onlySignals ..
  · exact .refl d

theorem Dev.latch_onlySignals (d : Dev) (b : Blk) (i o : Nat) (w x : W64) : d.OnlySignals (d.latch b i o w x) := by
  unfold Dev.latch
  dsimp only
  split
  · exact d.wr_onlySignals ..
  · exact ((d.wr_onlySignals ..).trans (Dev.wr_onlySignals ..)).trans (Dev.wr_onlySignals ..)

/-- A signal that a condition asks for. -/
theorem Dev.signalFault_if_onlySignals (d : Dev) (s : Nat) (p : Prop) [Decidable p] :
    d.OnlySignals (if p then d.signalFault s else d) := by
  split
  · exact d.signalFault_onlySignals s
  · exact .refl d

theorem Dev.raiseStand_onlySignals (d : Dev) (src : Nat) (u : FUnit) (w : W64) (en : Bool) (react s : Nat) :
    d.OnlySignals (d.raiseStand src u w en react s) := by
  have counted : d.OnlySignals ((d.setSfld s 0x4000 (srcKindBit src) (srcKindBit src) 1).incSat .stand s 0x4028 31 0 1) :=
    (d.setFld_onlySignals ..).trans (Dev.setFld_onlySignals ..)
  unfold Dev.raiseStand
  dsimp only
  split
  · have latched := (counted.trans (Dev.latch_onlySignals _ .stand s 0x4008 (firstWord u (some s) src) w)).trans
      (Dev.signalFault_if_onlySignals _ s (react = 1 ∨ 3 ≤ react))
    split
    · exact latched.trans (Dev.react_onlySignals ..)
    · exact latched
  · exact counted

/-- An occurrence changes registers, sends and asks for reactions: nothing else (14 R688 to R703). -/
theorem Dev.raise_onlySignals (d : Dev) (src : Nat) (u : FUnit) (ss : List Nat) (w : W64) : d.OnlySignals (d.raise src u ss w) := by
  unfold Dev.raise
  dsimp only
  split
  · exact .refl d
  · have counted (en : Bool) (react : Nat) : d.OnlySignals (ss.foldl (fun d s => d.raiseStand src u w en react s)
        ((d.incSat .flt 0 (0x2000 + 8 * src) 63 32 1).setFld .flt 0 (0x1000 + 8 * (src / 32)) (src % 32) (src % 32) 1)) :=
      ((d.setFld_onlySignals ..).trans (Dev.setFld_onlySignals ..)).foldl (fun x s => x.raiseStand_onlySignals ..) ss
    split
    · exact (((counted _ _).trans (Dev.latch_onlySignals ..)).trans (Dev.signalFault_if_onlySignals ..)).trans
        (Dev.react_onlySignals ..)
    · exact counted _ _

theorem Dev.unitFenced_raise (d : Dev) (src : Nat) (u : FUnit) (ss : List Nat) (w : W64) (v : FUnit) :
    (d.raise src u ss w).unitFenced v = d.unitFenced v := by
  obtain ⟨_, _, _, _, h⟩ := d.raise_onlySignals src u ss w
  rw [h]
  rfl

end Sys2Proof.Machine

/-!
PROOFS. Patrol runs and watchdogs (14 R693, R719 to R723): the statement O53.
-/
namespace Sys2Proof.Machine

/-! ## The next run of a cell -/

/-- The run of a cell that waits longest, past those of other cells. -/
theorem Dev.ptlNext_eq {d : Dev} {c : Nat} {a b : List PtlRun} {r : PtlRun} (hq : d.ptlQ = a ++ r :: b) (hr : r.cell = c)
    (ha : ∀ y ∈ a, y.cell ≠ c) : d.ptlNext c = some r := by
  rw [Dev.ptlNext, hq, List.find?_append, List.find?_eq_none.2 (by simpa using ha), Option.none_or,
    List.find?_cons_of_pos (by simp [hr])]

/-- Without that run the others wait on. -/
theorem erase_ptlQ {c : Nat} {a b : List PtlRun} {r : PtlRun} (hr : r.cell = c) (ha : ∀ y ∈ a, y.cell ≠ c) :
    (a ++ r :: b).erase r = a ++ b := by
  rw [List.erase_append_right _ fun h => ha r h hr, List.erase_cons_head]

section
variable {d : Dev} {c : Nat} {a b : List PtlRun} {r : PtlRun} (hq : d.ptlQ = a ++ r :: b) (hr : r.cell = c)
  (ha : ∀ y ∈ a, y.cell ≠ c)
include hq hr ha

theorem Dev.ptlStart_begins (hrun : Tab.has d.ptlRun c = false) (hidle : d.ptlIdle r = true) (hh : d.halted = false) :
    d.ptlStart c =
      { d with ptlQ := a ++ b, ptlRun := Tab.set d.ptlRun c { r with bin := min 25 (d.dieTemp (2 * c) / 5), temp := d.dieTemp (2 * c) } } := by
  have ready : ¬ (Tab.has d.ptlRun c = true ∨ (!d.ptlIdle r) = true ∨ d.halted = true) := by simp [hrun, hidle, hh]
  simp only [Dev.ptlStart, Dev.ptlNext_eq hq hr ha, if_neg ready, hq, erase_ptlQ hr ha]

theorem Dev.ptlStart_waits (h : Tab.has d.ptlRun c = true ∨ d.ptlIdle r = false) : d.ptlStart c = d := by
  have busy : Tab.has d.ptlRun c = true ∨ (!d.ptlIdle r) = true ∨ d.halted = true := h.imp_right fun e => .inl (by simp [e])
  simp only [Dev.ptlStart, Dev.ptlNext_eq hq hr ha, if_pos busy]

theorem Dev.ptlSkip_skips : d.ptlSkip c =
    ({ d with ptlQ := a ++ b } : Dev).setFld .cell c 0x80018 31 0 (min 0xFFFFFFFF (d.fld .cell c 0x80018 31 0 + 1)) := by
  simp only [Dev.ptlSkip, Dev.ptlNext_eq hq hr ha, hq, erase_ptlQ hr ha, Dev.incSat, satAt_eq_min]
  rfl

end

/-! ## The end of a run (14 R721 to R723) -/

/-- The results of a run's unit, pattern set and bin, with its own first. -/
def Dev.ptlResults (d : Dev) (r : PtlRun) (ok : Bool) : List Bool := (ok :: Tab.getD d.ptlHist r.key []).take 3

/-- A run's result filed. -/
def Dev.ptlFiled (d : Dev) (c : Nat) (r : PtlRun) (ok : Bool) : Dev :=
  { d with ptlRun := Tab.del d.ptlRun c, ptlHist := Tab.set d.ptlHist r.key (d.ptlResults r ok) }

/-- PTL_STATUS after a run. -/
def PtlRun.shown (r : PtlRun) (ok : Bool) : W64 :=
  BitVec.ofNat 64 (r.pat * 2 ^ 32 + r.unit * 2 ^ 24 + r.kind * 2 ^ 18 + (if ok then 0 else 2 ^ 17) + r.bin * 2 ^ 8 + r.temp % 256)

/-- A run's result filed, shown and counted. -/
def Dev.ptlShown (d : Dev) (c : Nat) (r : PtlRun) (ok : Bool) : Dev :=
  ((d.ptlFiled c r ok).wr .cell c 0x80008 (r.shown ok)).setFld .cell c 0x80010 31 0 (d.fld .cell c 0x80010 31 0 + 1)

theorem Dev.ptlShown_counts (d : Dev) (c : Nat) (r : PtlRun) (ok : Bool) :
    ((d.ptlFiled c r ok).wr .cell c 0x80008 (r.shown ok)).incWrap .cell c 0x80010 31 0 1 = d.ptlShown c r ok := by
  rw [Dev.incWrap, Dev.fld, Dev.rd_wr_ne (h := by simp only [Loc.addr]; omega)]
  rfl

/-- A mismatch counted and raised for the unit. -/
def Dev.ptlMissed (d : Dev) (c : Nat) (r : PtlRun) : Dev :=
  ((d.ptlShown c r false).incSat .cell c 0x80010 63 32 1).raise (32 * c + 21) r.tested []
    (BitVec.ofNat 64 (d.now % 2 ^ 32 * 2 ^ 32 + r.pat * 2 ^ 24 + r.bin * 2 ^ 16 + r.kind * 2 ^ 8 + r.unit))

theorem Dev.unitFenced_ptlMissed (d : Dev) (c : Nat) (r : PtlRun) (u : FUnit) :
    (d.ptlMissed c r).unitFenced u = d.unitFenced u :=
  Dev.unitFenced_raise ..

theorem Dev.ptlEnd_good {d : Dev} {c : Nat} {r : PtlRun} (h : Tab.get? d.ptlRun c = some r) : d.ptlEnd c true = d.ptlShown c r true := by
  rw [Dev.ptlEnd, h]
  exact d.ptlShown_counts c r true

/-- At the second mismatch among three a unit that is not fenced is fenced, and that is logged. -/
theorem Dev.ptlEnd_bad {d : Dev} {c : Nat} {r : PtlRun} (h : Tab.get? d.ptlRun c = some r) :
    d.ptlEnd c false =
      if 2 ≤ (d.ptlResults r false).countP (fun x => !x) ∧ (!d.unitFenced r.tested) = true then
        ((d.ptlMissed c r).fenceUnit r.tested 5 (32 * c + 21)).ptlLog r
      else d.ptlMissed c r := by
  rw [← d.unitFenced_ptlMissed c r, List.countP_eq_length_filter, Dev.ptlMissed, ← Dev.ptlShown_counts, Dev.ptlEnd, h]
  rfl

/-! ## The watchdog of a cell (14 R693) -/

/-- Work waits in a cell that holds a sub-order which no thread runs. -/
theorem Dev.cellWdog_raises {d : Dev} {c n : Nat} {x : Sub} (hx : (n, x) ∈ d.subs) (hc : x.cell = c)
    (hst : ∀ t, x.st ≠ .running t) : d.cellWdog c = d.raise (32 * c + 22) ⟨.cell, c⟩ [] 0 := by
  refine if_pos (List.any_eq_true.2 ⟨_, hx, ?_⟩)
  cases hr : x.st with
  | running t => exact absurd hr (hst t)
  | _ => simp [hc, hr]

theorem Dev.cellWdog_quiet {d : Dev} {c : Nat} (h : ∀ n x, (n, x) ∈ d.subs → x.cell = c → ∃ t, x.st = .running t) :
    d.cellWdog c = d := by
  refine if_neg fun hany => ?_
  obtain ⟨⟨n, x⟩, hx, hp⟩ := List.any_eq_true.1 hany
  simp only [Bool.and_eq_true, beq_iff_eq] at hp
  obtain ⟨t, ht⟩ := h n x hx hp.1
  simp [ht] at hp

/-! ## Writes of PTL_RUN (14 R719) -/

/-- A run or more queued by a written value (14 Table 6). -/
theorem Dev.ptlWrite_outside {d : Dev} {c : Nat} {v : W64} (h : ptlPatterns (bits v 18 16) ≤ bits v 2 0) : d.ptlWrite c v = d := by
  simp only [Dev.ptlWrite, if_pos h]

theorem Dev.ptlWrite_inside {d : Dev} {c : Nat} {v : W64} (h : bits v 2 0 < ptlPatterns (bits v 18 16)) :
    d.ptlWrite c v =
      if bitAt v 31 then { d with ptlQ := d.ptlQ ++ (List.range (ptlUnits (bits v 18 16))).map fun u =>
        ⟨c, bits v 18 16, u, bits v 2 0, 0, 0⟩ }
      else if ptlUnits (bits v 18 16) ≤ bits v 13 8 then d
      else { d with ptlQ := d.ptlQ ++ [⟨c, bits v 18 16, bits v 13 8, bits v 2 0, 0, 0⟩] } := by
  simp only [Dev.ptlWrite, if_neg (Nat.not_le.2 h)]

theorem Dev.target_ptlRun (d : Dev) (c : Fin 16) : d.target (0x1080000 + c * 0x100000) = .one ⟨.cell, c, 0x80000⟩ := by
  have ha : (0x1080000 + (c : Nat) * 0x100000) / 8 * 8 = 0x1080000 + c * 0x100000 := by omega
  have hc : (0x1080000 + (c : Nat) * 0x100000 - 0x1000000) / 0x100000 = c := by omega
  have hm : (0x1080000 + (c : Nat) * 0x100000) % 0x100000 = 0x80000 := by omega
  simp only [Dev.target, ha, hc, hm]
  iterate 8 rw [if_neg (by omega)]
  rw [if_pos (by omega)]
  rfl

/-- A write that reaches PTL_RUN of a cell that needs no demand. -/
theorem Dev.doWrite_ptlRun {d : Dev} {o c : Nat} (v : W64) (ht : d.target o = .one ⟨.cell, c, 0x80000⟩) (hu : uniCell o = some c)
    (hd : d.demand c = d) : d.doWrite 0 o 8 v = d.ptlWrite c v := by
  obtain ⟨r, hr⟩ := Option.isSome_iff_exists.1 (by decide +kernel : (findRow .cell 0x80000).isSome = true)
  simp [Dev.doWrite, ht, hu, hd, Dev.regWrite, hr, Dev.writeCell, laneOf, busWord]

/-- An accepted write of PTL_RUN of a cell that is awake. -/
theorem ptlRunWrite_gives {s : State} {c : Fin 16} (v : W64) (h : s.d.hostVerdict 0 (0x1080000 + c * 0x100000) 8 true = .ok)
    (hp : s.d.cellPower c = 0) (hl : Tab.has s.d.lpEnter c = false) : GivesLater s (.ptlRunWrite 0 c v) (s.d.ptlWrite c v) := by
  have hl' : Tab.get? s.d.lpEnter c = none := by simpa [Tab.has] using hl
  have hu : uniCell (0x1080000 + (c : Nat) * 0x100000) = some c.val := by
    have hc : (0x1080000 + (c : Nat) * 0x100000 - 0x1000000) / 0x100000 = c := by omega
    rw [uniCell, if_pos (by omega), hc]
  refine GivesLater.of_eq (d := s.d.busWrite 0 (0x1080000 + c * 0x100000) 8 v) rfl ?_
  rw [Dev.busWrite_ok v h]
  exact Dev.doWrite_ptlRun v (s.d.target_ptlRun c) hu (Dev.demand_awake hl' hp)

/-- Settles O53: each command is one function of the patrol unit, by the cell's next run or the one that runs. -/
theorem patrolRunsAndWatchdogs : Obligations.PatrolRunsAndWatchdogs := by
  intro s c d
  refine ⟨?_, fun hs => ?_⟩
  · intro v hok hp hl k u p write
    have gives {d2 : Dev} (h : d.ptlWrite c v = d2) : write d2 := (ptlRunWrite_gives v hok hp hl).of_eq h
    refine ⟨fun hge => gives (Dev.ptlWrite_outside hge), fun hlt hall => gives ?_, fun hlt hall hge => gives ?_,
      fun hlt hall hlt2 => gives ?_⟩ <;> rw [Dev.ptlWrite_inside hlt, hall]
    · rfl
    · exact if_pos hge
    · exact if_neg (Nat.not_le.2 hlt2)
  · have gives {i : Instr} (f : Dev → Dev) {d2 : Dev} (h : f d = d2) (run : exec i s = s.served f) : GivesLater s i d2 := by
      rw [GivesLater, run, State.served_eq f hs, h]
    refine ⟨fun a b r hq hr ha => ⟨fun hrun hidle hh => ?_, fun h => ?_, ?_⟩, fun r hr => ⟨?_, fun h => ?_, fun h2 hf => ?_⟩,
      fun h => ?_, fun h => ?_⟩
    · exact gives (fun d => d.ptlStart c) (Dev.ptlStart_begins hq hr ha hrun hidle hh) rfl
    · exact gives (fun d => d.ptlStart c) (Dev.ptlStart_waits hq hr ha h) rfl
    · exact gives (fun d => d.ptlSkip c) (Dev.ptlSkip_skips hq hr ha) rfl
    · exact gives (fun d => d.ptlEnd c true) (Dev.ptlEnd_good hr) rfl
    · have few : ¬ (2 ≤ (d.ptlResults r false).countP (fun x => !x) ∧ (!d.unitFenced r.tested) = true) := fun ⟨h2, hf⟩ =>
        h.elim (Nat.not_lt.2 h2) (by simpa using hf)
      exact gives (fun d => d.ptlEnd c false) ((Dev.ptlEnd_bad hr).trans (if_neg few)) rfl
    · exact gives (fun d => d.ptlEnd c false) ((Dev.ptlEnd_bad hr).trans (if_pos ⟨h2, by simp [hf]⟩)) rfl
    · obtain ⟨n, x, hx, hc, hst⟩ := h
      exact gives (fun d => d.cellWdog c) (Dev.cellWdog_raises hx hc hst) rfl
    · exact gives (fun d => d.cellWdog c) (Dev.cellWdog_quiet h) rfl

end Sys2Proof.Machine

/-!
PROOFS. Accepted writes of function 0 to the blocks that stand once, and bits of words (00 R12 to R15; 17 Table 8).
-/
namespace Sys2Proof.Machine

/-- The blocks that stand once, in the order of the map (17 Table 8). -/
def onceBlocks : List Blk := [.glb, .boot, .flt, .pwr, .ftm, .cmp, .dir, .hif]

/-- An accepted write of 8 bytes by function 0 reaches the register at its place of a block that stands once. -/
theorem Dev.busWrite_once {d : Dev} {b : Blk} {k o off : Nat} (v : W64) (hk : onceBlocks[k]? = some b)
    (h : d.hostVerdict 0 off 8 true = .ok) (hoff : off = k * 0x10000 + o) (ho : o < 0x10000) (h8 : o % 8 = 0) :
    d.busWrite 0 off 8 v = d.regWrite 0 ⟨b, 0, o⟩ (0, 64) v := by
  have hk8 : k < 8 := (List.getElem?_eq_some_iff.1 hk).1
  have ht : d.target off = .one ⟨b, 0, o⟩ := by
    have e : off / 8 * 8 = off := by omega
    have hq : off / 65536 = k := by omega
    have hm : off % 65536 = o := by omega
    have hb : ([.glb, .boot, .flt, .pwr, .ftm, .cmp, .dir, .hif] : List Blk)[k]? = some b := hk
    simp only [Dev.target, e, hq, hm]
    rw [if_pos (by omega), hb]
  have hu : uniCell off = none := if_neg (by omega)
  rw [Dev.busWrite_ok v h]
  simp only [Dev.doWrite, pfOff, if_true, ht, hu]
  rfl

/-- A word with one bit put. -/
theorem bitAt_putBits_one (w : W64) {k : Nat} (x : Nat) (j : Nat) (hk : k < 64) :
    bitAt (putBits w k k x) j = if j = k then decide (x % 2 = 1) else bitAt w j := by
  unfold bitAt
  split
  · next e =>
    subst e
    have h := bits_putBits_self w j j x le_rfl hk
    rw [bits_single, show j + 1 - j = 1 by omega, pow_one] at h
    cases hb : (putBits w j j x).getLsbD j <;> rw [hb] at h <;> simp [← h]
  · next e => exact getLsbD_putBits_outside w x le_rfl hk (by omega)

end Sys2Proof.Machine

/-!
PROOFS. Faults forced, enabled and cleared, fences set and lifted, the end of a cell reset, and the device actions of mesh and
clock faults (14 R691 to R715, R853; 02 R45; 15 R769; 16 R779): the statement O52.
-/
namespace Sys2Proof.Machine

/-! ## FLT_STATUS after an occurrence (14 R689) -/

/-- A latch of three registers leaves every other. -/
theorem Dev.rd_latch (d : Dev) {b k : Blk} {i off j o : Nat} (w x : W64)
    (h : Loc.addr ⟨k, j, o⟩ < Loc.addr ⟨b, i, off⟩ ∨ Loc.addr ⟨b, i, off⟩ + 16 < Loc.addr ⟨k, j, o⟩) :
    (d.latch b i off w x).rd k j o = d.rd k j o := by
  have wr (e : Dev) (n : Nat) (v : W64) (hn : n ≤ 16) : (e.wr b i (off + n) v).rd k j o = e.rd k j o :=
    Dev.rd_wr_ne (h := by simp only [Loc.addr] at h ⊢; omega) ..
  unfold Dev.latch
  dsimp only
  split
  · exact wr d 0 _ (by omega)
  · rw [wr _ 16 _ le_rfl, wr _ 8 _ (by omega)]
    exact wr d 0 _ (by omega)

/-- The stands' side of an occurrence leaves the registers below the stands' windows. -/
theorem Dev.rd_raiseStand (d : Dev) (src : Nat) (u : FUnit) (w : W64) (en : Bool) (react s : Nat) {k : Blk} {j o : Nat}
    (h : Loc.addr ⟨k, j, o⟩ < 0x100000) : (d.raiseStand src u w en react s).rd k j o = d.rd k j o := by
  have stand (e : Dev) (n hi lo v : Nat) : (e.setFld .stand s n hi lo v).rd k j o = e.rd k j o :=
    Dev.rd_setFld_ne (h := by simp only [Loc.addr, Blk.base] at h ⊢; omega) ..
  have counted : ((d.setSfld s 0x4000 (srcKindBit src) (srcKindBit src) 1).incSat .stand s 0x4028 31 0 1).rd k j o = d.rd k j o :=
    (stand ..).trans (stand ..)
  have latched (e : Dev) (v : W64) : (e.latch .stand s 0x4008 v w).rd k j o = e.rd k j o :=
    Dev.rd_latch (h := .inl (by simp only [Loc.addr, Blk.base] at h ⊢; omega)) ..
  have signalled (e : Dev) (p : Prop) [Decidable p] : (if p then e.signalFault s else e).rd k j o = e.rd k j o := by
    split
    · exact e.rd_signalFault ..
    · rfl
  unfold Dev.raiseStand
  dsimp only
  split
  · have all := (signalled _ (react = 1 ∨ 3 ≤ react)).trans ((latched _ (firstWord u (some s) src)).trans counted)
    split
    · exact all
    · exact all
  · exact counted

/-- The status word of a source after its occurrence. -/
theorem Dev.status_raise (d : Dev) (w b : Nat) (u : FUnit) (ss : List Nat) (x : W64) (hw : w < 32) (hb : b < 32) :
    (d.raise (32 * w + b) u ss x).rd .flt 0 (0x1000 + 8 * w) =
      if (srcReact (32 * w + b)).isSome then putBits (d.rd .flt 0 (0x1000 + 8 * w)) b b 1 else d.rd .flt 0 (0x1000 + 8 * w) := by
  have hq : (32 * w + b) / 32 = w := by omega
  have hm : (32 * w + b) % 32 = b := by omega
  have low : Loc.addr ⟨.flt, 0, 0x1000 + 8 * w⟩ < 0x100000 := by simp only [Loc.addr, Blk.base]; omega
  have counted : ((d.incSat .flt 0 (0x2000 + 8 * (32 * w + b)) 63 32 1).setFld .flt 0 (0x1000 + 8 * w) b b 1).rd .flt 0
      (0x1000 + 8 * w) = putBits (d.rd .flt 0 (0x1000 + 8 * w)) b b 1 := by
    rw [Dev.setFld, Dev.rd_wr_self, Dev.incSat, Dev.rd_setFld_ne (h := by simp only [Loc.addr]; omega)]
  have stands (en : Bool) (react : Nat) (e : Dev) : (ss.foldl (fun d s => d.raiseStand (32 * w + b) u x en react s) e).rd .flt 0
      (0x1000 + 8 * w) = e.rd .flt 0 (0x1000 + 8 * w) :=
    Dev.rd_foldl e ss fun e s _ => e.rd_raiseStand _ u x en react s low
  have latched (e : Dev) (v : W64) : (e.latch .flt 0 8 v x).rd .flt 0 (0x1000 + 8 * w) = e.rd .flt 0 (0x1000 + 8 * w) :=
    Dev.rd_latch (h := .inr (by simp only [Loc.addr]; omega)) ..
  unfold Dev.raise
  dsimp only
  rw [hq, hm]
  cases hr : srcReact (32 * w + b) with
  | none => rfl
  | some r =>
    simp only [Option.isSome_some, if_true]
    split
    · split
      · exact (Dev.rd_signalFault ..).trans ((latched ..).trans ((stands ..).trans counted))
      · exact (latched ..).trans ((stands ..).trans counted)
    · exact (stands ..).trans counted

/-- One forced occurrence of a source by its number (14 R691). -/
def Dev.forceOne (d : Dev) (w b : Nat) : Dev :=
  d.raise (32 * w + b) (srcUnit (32 * w + b)) (if 0x380 ≤ 32 * w + b then [(32 * w + b - 0x380) / 4] else []) 0xF0F0F0F0F0F0F0

/-- Forced occurrences set the status bits of the sources that exist. -/
theorem Dev.status_foldl_forceOne (d : Dev) {w : Nat} (hw : w < 32) (l : List Nat) (hl : ∀ b ∈ l, b < 32) (j : Nat) :
    bitAt ((l.foldl (fun e b => e.forceOne w b) d).rd .flt 0 (0x1000 + 8 * w)) j =
      (bitAt (d.rd .flt 0 (0x1000 + 8 * w)) j || (decide (j ∈ l) && (srcReact (32 * w + j)).isSome)) := by
  induction l generalizing d with
  | nil => simp
  | cons b r ih =>
    have hb : b < 32 := hl b (by simp)
    have one : bitAt ((d.forceOne w b).rd .flt 0 (0x1000 + 8 * w)) j =
        (bitAt (d.rd .flt 0 (0x1000 + 8 * w)) j || (decide (j = b) && (srcReact (32 * w + j)).isSome)) := by
      rw [Dev.forceOne, Dev.status_raise _ _ _ _ _ _ hw hb]
      by_cases hj : j = b
      · subst hj
        cases hs : (srcReact (32 * w + j)).isSome
        · simp
        · rw [if_pos rfl, bitAt_putBits_one _ _ _ (by omega), if_pos rfl]
          simp
      · rw [decide_eq_false hj, Bool.false_and, Bool.or_false]
        split
        · rw [bitAt_putBits_one _ _ _ (by omega), if_neg hj]
        · rfl
    have listed : decide (j ∈ b :: r) = (decide (j = b) || decide (j ∈ r)) := by simp
    rw [List.foldl_cons, ih (d.forceOne w b) fun c hc => hl c (by simp [hc]), one, listed, Bool.and_or_distrib_right, Bool.or_assoc]

/-! ## Writes of the FLT block (14 R691, R697, R701, R703, R710, R715) -/

section
variable {d : Dev}

theorem findRow_fltEnable : ∀ w : Fin 32, findRow .flt (0x1100 + 8 * w) = some ⟨0x1100, 32, 8, [⟨31, 0, .rw, 0, .id⟩]⟩ := by
  decide +kernel

theorem findRow_fltForce : ∀ w : Fin 32, (findRow .flt (0x1200 + 8 * w)).isSome = true := by decide +kernel

theorem Dev.busWrite_fltForce {w : Fin 32} (v : W64) (h : d.hostVerdict 0 (0x21200 + 8 * w) 8 true = .ok) :
    d.busWrite 0 (0x21200 + 8 * w) 8 v = ((List.range 32).filter fun b => bitAt v b).foldl (fun e b => e.forceOne w b) d := by
  obtain ⟨r, hr⟩ := Option.isSome_iff_exists.1 (findRow_fltForce w)
  have hw : (0x1200 + 8 * (w : Nat) - 0x1200) / 8 = w := by omega
  rw [Dev.busWrite_once (b := .flt) (k := 2) (o := 0x1200 + 8 * w) v rfl h (by omega) (by omega) (by omega)]
  simp only [Dev.regWrite, hr, Dev.writeFlt]
  rw [if_neg (by omega), if_neg (by omega), if_neg (by omega), if_neg (by omega), if_neg (by omega), if_pos (by omega), hw]
  rfl

theorem bitAt_enableReset {w b : Nat} (hb : b < 32) :
    bitAt (BitVec.ofNat 64 (enableReset w)) b = (srcReact (32 * w + b)).isSome := by
  have h64 : b < 64 := by omega
  rw [bitAt, BitVec.getLsbD_ofNat, enableReset, testBit_bitsMask]
  simp [h64, hb]

/-- The bits of a field put into a word are the value's. -/
theorem bitAt_putBits_low (w : W64) {n b : Nat} (v : W64) (hn : n < 64) (hb : b ≤ n) :
    bitAt (putBits w n 0 (bits v n 0)) b = bitAt v b := by
  have h := congrArg (Nat.testBit · b) ((bits_putBits_self w n 0 (bits v n 0) (Nat.zero_le n) hn).trans
    (Nat.mod_eq_of_lt (bits_lt v n 0)))
  rw [testBit_bits, testBit_bits] at h
  simpa [bitAt, Nat.lt_succ_of_le hb] using h

/-- A write of FLT_ENABLE takes the bits of the sources that exist. -/
theorem Dev.busWrite_fltEnable {w : Fin 32} (v : W64) (h : d.hostVerdict 0 (0x21100 + 8 * w) 8 true = .ok) :
    d.busWrite 0 (0x21100 + 8 * w) 8 v = d.wr .flt 0 (0x1100 + 8 * w)
      (putBits (d.rd .flt 0 (0x1100 + 8 * w)) 31 0 (bits v 31 0) &&& BitVec.ofNat 64 (enableReset w)) := by
  have hw : (0x1100 + 8 * (w : Nat) - 0x1100) / 8 = w := by omega
  have stored (e : Bool) (x : W64) : RegRow.write ⟨0x1100, 32, 8, [⟨31, 0, .rw, 0, .id⟩]⟩ e (0, 64) v x = putBits x 31 0 (bits v 31 0) :=
    RegField.write_rw_carried (f := ⟨31, 0, .rw, 0, .id⟩) (lane := (0, 64)) (lockOpen := e) (by decide) (by decide) (.inl rfl) v x
  rw [Dev.busWrite_once (b := .flt) (k := 2) (o := 0x1100 + 8 * w) v rfl h (by omega) (by omega) (by omega)]
  simp only [Dev.regWrite, findRow_fltEnable w, Dev.writeFlt]
  rw [if_neg (by omega), if_neg (by omega), if_neg (by omega), if_neg (by omega), if_pos (by omega), hw, Dev.store, stored,
    Dev.rd_wr_self, Dev.wr_wr]

/-- A write of a register of the FLT block with a step of its own. -/
theorem Dev.busWrite_flt {o off : Nat} (v : W64) (h : d.hostVerdict 0 off 8 true = .ok) (hoff : off = 0x20000 + o)
    (ho : o < 0x10000) (h8 : o % 8 = 0) (hr : (findRow .flt o).isSome = true) :
    ∃ r, d.busWrite 0 off 8 v = d.writeFlt 0 ⟨.flt, 0, o⟩ r (0, 64) v := by
  obtain ⟨r, hr⟩ := Option.isSome_iff_exists.1 hr
  refine ⟨r, (Dev.busWrite_once (b := .flt) (k := 2) v rfl h (by omega) ho h8).trans ?_⟩
  simp only [Dev.regWrite, hr]

theorem Dev.busWrite_firstClear (h : d.hostVerdict 0 0x20020 8 true = .ok) : d.busWrite 0 0x20020 8 1 = d.firstClear := by
  obtain ⟨r, e⟩ := Dev.busWrite_flt (o := 0x20) 1 h rfl (by decide) rfl (by decide +kernel)
  exact e.trans rfl

theorem Dev.busWrite_fenceSet (v : W64) (h : d.hostVerdict 0 0x20110 8 true = .ok) : d.busWrite 0 0x20110 8 v = d.fenceSet v := by
  obtain ⟨r, e⟩ := Dev.busWrite_flt (o := 0x110) v h rfl (by decide) rfl (by decide +kernel)
  exact e.trans rfl

theorem Dev.busWrite_unfence (v : W64) (h : d.hostVerdict 0 0x20118 8 true = .ok) : d.busWrite 0 0x20118 8 v = d.unfence v := by
  obtain ⟨r, e⟩ := Dev.busWrite_flt (o := 0x118) v h rfl (by decide) rfl (by decide +kernel)
  exact e.trans rfl

theorem Dev.busWrite_standClear {fn st : Fin 32} (h : d.hostVerdict fn (winOff fn st 0x4020) 8 true = .ok) :
    d.busWrite fn (winOff fn st 0x4020) 8 1 = d.standClear (standOf fn st) :=
  Dev.busWrite_stand h rfl (by decide) (by decide +kernel) fun _ => by simp [Dev.writeStand, bitAt]

/-! ## Fences (14 R710 to R715, R853) -/

theorem Dev.fenceUnit_fenced {u : FUnit} (cause src : Nat) (h : d.unitFenced u = true) : d.fenceUnit u cause src = d :=
  if_pos (.inr (.inr h))

/-- A near-bank unit without programs is fenced and shown, and nothing else. -/
theorem Dev.fenceUnit_nbu {u : FUnit} (h : d.unitFenced u = false) (hk : u.kind = .nbu)
    (hp : d.programsOn (u.idx / 64) (fun x => x == u.idx % 64) = []) :
    d.fenceUnit u 6 0 = (({ d with fences := Tab.set d.fences u.key ⟨6, none⟩ } : Dev).wr .flt 0 0x100
      (BitVec.ofNat 64 (3 * 2 ^ 44 + u.idx * 2 ^ 32 + 6 * 2 ^ 28))).wr .flt 0 0x108 (BitVec.ofNat 64 d.now) := by
  obtain ⟨kind, idx⟩ := u
  obtain rfl : kind = .nbu := hk
  have free : ¬ (UnitKind.nbu = .none ∨ UnitKind.nbu = .edge ∨ d.unitFenced ⟨.nbu, idx⟩ = true) := by simp [h]
  rw [Dev.fenceUnit, if_neg free]
  dsimp only
  rw [hp]
  rw [if_neg (by decide : ¬ (6 = 2 ∨ 6 = 3 ∨ 6 = 5)), Nat.add_zero]
  rfl

theorem Dev.fenceSet_none {v : W64} (h : fenceTarget v = none) : d.fenceSet v = d := by rw [Dev.fenceSet, h]

theorem Dev.fenceSet_unit {v : W64} {u : FUnit} (h : fenceTarget v = some u) : d.fenceSet v = d.fenceUnit u 6 0 := by
  rw [Dev.fenceSet, h]

theorem Dev.unfence_none {v : W64} (h : fenceTarget v = none) : d.unfence v = d := by rw [Dev.unfence, h]

theorem Dev.unfence_free {v : W64} {u : FUnit} (h : fenceTarget v = some u) (hf : Tab.get? d.fences u.key = none) :
    d.unfence v = d := by
  simp only [Dev.unfence, h, hf]

/-- A fence is marked to end; a cell is reset too. -/
theorem Dev.unfence_fenced {v : W64} {u : FUnit} {f : FenceInfo} (h : fenceTarget v = some u) (hf : Tab.get? d.fences u.key = some f) :
    let d1 : Dev := { d with fences := Tab.set d.fences u.key { f with lift := some d.cruiseEpoch } }
    d.unfence v = if u.kind = .cell then (d1.lastReset 5).cellReset u.idx else d1 := by
  simp only [Dev.unfence, h, hf]

theorem Dev.cellReset_running {c : Nat} (h : c ∈ d.cellRst) : d.cellReset c = d := if_pos (by simpa using h)

theorem Dev.cellReset_begins {c : Nat} (h : c ∉ d.cellRst) : d.cellReset c = { d with cellRst := d.cellRst ++ [c] } :=
  if_neg (by simpa using h)

/-! ## The end of a cell reset (16 R779) -/

theorem Tab.get?_delRange {α : Type} (t : Tab α) (lo n m : Nat) :
    Tab.get? (Tab.delRange t lo n) m = if lo ≤ m ∧ m < lo + n then none else Tab.get? t m := by
  induction t with
  | nil => simp [Tab.delRange, Tab.get?]
  | cons e r ih =>
    obtain ⟨k, v⟩ := e
    by_cases hk : k < lo ∨ lo + n ≤ k
    · have kept : Tab.delRange ((k, v) :: r) lo n = (k, v) :: Tab.delRange r lo n := by
        simp [Tab.delRange, hk]
      rw [kept, Tab.get?, ih, Tab.get?]
      by_cases hm : k = m
      · rw [if_pos hm, if_pos hm, if_neg (by omega)]
      · rw [if_neg hm, if_neg hm]
    · have gone : Tab.delRange ((k, v) :: r) lo n = Tab.delRange r lo n := by
        simp [Tab.delRange, hk]
      rw [gone, ih, Tab.get?]
      by_cases hm : k = m
      · rw [if_pos (by omega), if_pos (by omega)]
      · rw [if_neg hm]

theorem Dev.cellRst_foldl {α : Type} {f : Dev → α → Dev} (d : Dev) (l : List α) (h : ∀ e a, (f e a).cellRst = e.cellRst) :
    (l.foldl f d).cellRst = d.cellRst :=
  List.foldlRecOn (motive := fun e => e.cellRst = d.cellRst) l f rfl fun e he a _ => (h e a).trans he

theorem Dev.cellRst_dropHandle (d : Dev) (t h : Nat) : (d.dropHandle t h).cellRst = d.cellRst := by
  unfold Dev.dropHandle
  dsimp only
  split <;> rfl

theorem Dev.cellRst_releaseThread (d : Dev) (t : Nat) : (d.releaseThread t).cellRst = d.cellRst := by
  have unpinned : ((d.pins.filter fun p => p.thread == t).foldl (fun e p => e.unpin p) d).cellRst = d.cellRst :=
    d.cellRst_foldl _ fun _ _ => rfl
  exact (Dev.cellRst_foldl _ _ fun e (h : Nat × Handle) => e.cellRst_dropHandle t h.1).trans unpinned

theorem Dev.cellRst_unbind (d : Dev) (k : Nat) : (d.unbind k).cellRst = d.cellRst := by
  rw [d.unbind_eq]
  rfl

theorem Dev.cellRst_dropCell (d : Dev) (c : Nat) : (d.dropCell c).cellRst = d.cellRst := by
  unfold Dev.dropCell
  dsimp only
  refine (Dev.cellRst_foldl _ _ fun e x => ?_).trans (d.cellRst_foldl _ fun e i => (Dev.cellRst_unbind _ _).trans
    (e.cellRst_foldl _ fun x _ => x.cellRst_releaseThread _))
  split
  · split <;> rfl
  · rfl

/-- The end of a cell reset that runs. -/
theorem Dev.cellResetDone_running {c : Nat} (h : c ∈ d.cellRst) :
    d.cellResetDone c = Dev.cellClear { d with cellRst := d.cellRst.filter fun x => !(x == c) } c := if_pos (by simpa using h)

theorem Dev.cellRst_cellClear (d : Dev) (c : Nat) : (d.cellClear c).cellRst = d.cellRst := d.cellRst_dropCell c

/-- A cell's registers below its TIE after a cell reset. -/
theorem Dev.rd_cellClear (d : Dev) {c o : Nat} (ho : o < 0x60800) : (d.cellClear c).rd .cell c o = ({} : Dev).rd .cell c o := by
  have gone : Tab.get? (d.cellClear c).regs (Loc.addr ⟨.cell, c, o⟩) = none := by
    refine (Tab.get?_delRange ..).trans (ite_eq_left_iff.2 fun _ => (Tab.get?_delRange ..).trans (ite_eq_left_iff.2 fun _ =>
      (Tab.get?_delRange ..).trans (if_pos ?_)))
    simp only [Loc.addr]
    omega
  rw [Dev.rd, Tab.getD, gone]
  rfl

theorem Dev.ptlNext_cellClear (d : Dev) (c : Nat) : (d.cellClear c).ptlNext c = none := by
  have queue : (d.cellClear c).ptlQ = (d.dropCell c).ptlQ.filter fun r => !(r.cell == c) := rfl
  rw [Dev.ptlNext, queue]
  simp

/-! ## Clock losses (15 R769) -/

theorem Dev.rd_clkLost (d : Dev) (bs : List Nat) {b : Blk} {i o : Nat} (h : Loc.addr ⟨b, i, o⟩ ≠ 0x38000) :
    (d.clkLost bs).rd b i o = d.rd b i o :=
  Dev.rd_foldl d bs fun _ _ _ => Dev.rd_setFld_ne (h := h) ..

/-- The SYS domain and every ACLK put on FIO, and every port down (15 R769). -/
def Dev.sysOnFio (d : Dev) : Dev :=
  (List.range 16).foldl (fun e p => e.portLeave p false)
    (((List.range 16).map (· + 3)).foldl (fun e k => e.wr .pwr 0 (0x8100 + 8 * k) 0) (d.wr .pwr 0 0x8100 0))

theorem Dev.xtal0Loss_eq (d : Dev) (pll : Bool) : d.xtal0Loss pll =
    (if pll then (d.clkLost [4]).raise 0x252 ⟨.edge, 2⟩ [] 0 else (d.clkLost (2 :: xtal0Clocks)).raise 0x250 ⟨.edge, 2⟩ [] 0).sysOnFio := by
  rw [Dev.xtal0Loss, List.foldl_cons]
  rfl

theorem clocks_of_xtal0 : 2 :: xtal0Clocks = [2, 4, 8, 9, 10, 11, 16, 17, 18, 19, 20, 21, 22, 23, 24, 25, 26, 27, 28, 29, 30, 31] := by
  decide +kernel

/-- SYSPLL alone is lost. -/
theorem Dev.xtal0Loss_pll (d : Dev) :
    d.xtal0Loss true = ((d.setFld .pwr 0 0x8000 4 4 0).raise 0x252 ⟨.edge, 2⟩ [] 0).sysOnFio := d.xtal0Loss_eq true

theorem Dev.xtal0Loss_crystal (d : Dev) : d.xtal0Loss false = (([2, 4, 8, 9, 10, 11, 16, 17, 18, 19, 20, 21, 22, 23, 24, 25, 26,
    27, 28, 29, 30, 31].foldl (fun e b => e.setFld .pwr 0 0x8000 b b 0) d).raise 0x250 ⟨.edge, 2⟩ [] 0).sysOnFio :=
  (d.xtal0Loss_eq false).trans (congrArg (fun l => ((d.clkLost l).raise 0x250 ⟨.edge, 2⟩ [] 0).sysOnFio) clocks_of_xtal0)

/-- The fabric-time domain put on FIO after clocks were lost and the loss was raised. -/
def Dev.timeOnFio (d : Dev) (bs : List Nat) (src : Nat) : Dev := ((d.clkLost bs).raise src ⟨.edge, 2⟩ [] 0).wr .pwr 0 0x8110 0

theorem Dev.rd_timeOnFio (d : Dev) (bs : List Nat) {src : Nat} (hs : src < 1024) {b : Blk} {i o : Nat}
    (h : 0x38000 < Loc.addr ⟨b, i, o⟩) (hn : Loc.addr ⟨b, i, o⟩ ≠ 0x38110) :
    (d.timeOnFio bs src).rd b i o = d.rd b i o :=
  (Dev.rd_wr_ne (h := hn) ..).trans ((Dev.rd_raise_nil _ _ _ hs (.inr (by omega))).trans (d.rd_clkLost bs (by omega)))

theorem Dev.ftmState_timeOnFio (d : Dev) (bs : List Nat) {src : Nat} (hs : src < 1024) :
    (d.timeOnFio bs src).ftmState = d.ftmState :=
  congrArg (bits · 2 0) (d.rd_timeOnFio bs hs (by decide) (by decide))

theorem Dev.ftmState_mgmtOnFio (d : Dev) : (d.wr .pwr 0 0x8108 0).ftmState = d.ftmState :=
  congrArg (bits · 2 0) (Dev.rd_wr_ne (h := by decide) ..)

/-- TIMEPLL alone is lost. -/
theorem Dev.xtal1Loss_pll (d : Dev) : d.xtal1Loss true =
    if d.ftmState = 1 ∨ d.ftmState = 2 then (d.timeOnFio [5] 0x253).setFtm 3 else d.timeOnFio [5] 0x253 := by
  have e : d.xtal1Loss true = if (d.timeOnFio [5] 0x253).ftmState = 1 ∨ (d.timeOnFio [5] 0x253).ftmState = 2 then
    (d.timeOnFio [5] 0x253).setFtm 3 else d.timeOnFio [5] 0x253 := rfl
  rw [e, d.ftmState_timeOnFio _ (by decide)]

/-- What the loss of XTAL1 leaves before fabric time holds over. -/
def Dev.xtal1Gone (d : Dev) : Dev :=
  if d.fld .pwr 0 0x8108 2 0 = 2 then (d.timeOnFio [3, 5] 0x251).wr .pwr 0 0x8108 0 else d.timeOnFio [3, 5] 0x251

theorem Dev.xtal1Loss_crystal (d : Dev) : d.xtal1Loss false =
    if d.ftmState = 1 ∨ d.ftmState = 2 then d.xtal1Gone.setFtm 3 else d.xtal1Gone := by
  have source : (d.timeOnFio [3, 5] 0x251).fld .pwr 0 0x8108 2 0 = d.fld .pwr 0 0x8108 2 0 :=
    congrArg (bits · 2 0) (d.rd_timeOnFio [3, 5] (by decide) (by decide) (by decide))
  have gone : (if (!false) = true ∧ (d.timeOnFio [3, 5] 0x251).fld .pwr 0 0x8108 2 0 = 2 then
      (d.timeOnFio [3, 5] 0x251).wr .pwr 0 0x8108 0 else d.timeOnFio [3, 5] 0x251) = d.xtal1Gone := by
    rw [source]
    simp [Dev.xtal1Gone]
  have time : d.xtal1Gone.ftmState = d.ftmState := by
    unfold Dev.xtal1Gone
    split
    · rw [Dev.ftmState_mgmtOnFio, d.ftmState_timeOnFio _ (by decide)]
    · exact d.ftmState_timeOnFio _ (by decide)
  have e : d.xtal1Loss false = (fun x : Dev => if x.ftmState = 1 ∨ x.ftmState = 2 then x.setFtm 3 else x)
      (if (!false) = true ∧ (d.timeOnFio [3, 5] 0x251).fld .pwr 0 0x8108 2 0 = 2 then
        (d.timeOnFio [3, 5] 0x251).wr .pwr 0 0x8108 0 else d.timeOnFio [3, 5] 0x251) := rfl
  rw [e, gone]
  dsimp only
  rw [time]

theorem Dev.meshFail_eq (d : Dev) (c : Nat) (link : BitVec 8) (cut : Nat) : d.meshFail c link.toNat cut =
    (maskBits 16 cut).foldl (fun (e : Dev) x => e.fenceUnit ⟨.cell, x⟩ 4 0)
      (d.raise (if c < 16 then 32 * c + 18 else 0x204 + 8 * (c - 16)) (if c < 16 then ⟨.cell, c⟩ else ⟨.edge, c - 16⟩) []
        (link.setWidth 64)) := by
  have detail : BitVec.ofNat 64 link.toNat = link.setWidth 64 := by simp
  unfold Dev.meshFail
  dsimp only
  rw [detail]
  split <;> rfl

end

/-- A state of fabric time other than LOCKED or TRAINING does not hold over. -/
theorem not_one_or_two {n : Nat} (h : n = 0 ∨ n = 3) : ¬ (n = 1 ∨ n = 2) := by omega

/-- Settles O52: each write and each event is one function of the fault unit, whose fences and registers are named. -/
theorem faultsForcedLatchedFencedAndCleared : Obligations.FaultsForcedLatchedFencedAndCleared := by
  intro s d
  refine ⟨fun w v h => ?_, fun w v h => ?_, fun h => ?_, fun fn st h => ?_, fun v h => ?_, fun v h => ?_, fun hs => ?_, fun hu => ?_⟩
  · refine ⟨_, .of_eq (d := d.busWrite 0 (0x21200 + 8 * w) 8 v) rfl (Dev.busWrite_fltForce v h), rfl, fun b hb => ?_⟩
    refine (d.status_foldl_forceOne w.isLt _ (fun c hc => List.mem_range.1 (List.mem_filter.1 hc).1) b).trans ?_
    simp [hb]
  · refine ⟨_, .of_eq (d := d.busWrite 0 (0x21100 + 8 * w) 8 v) rfl (Dev.busWrite_fltEnable v h), fun b hb => ?_⟩
    rw [bitAt, BitVec.getLsbD_and]
    exact congrArg₂ (· && ·) (bitAt_putBits_low _ v (by decide) (by omega)) (bitAt_enableReset hb)
  · exact .of_eq (d := d.busWrite 0 0x20020 8 1) rfl (Dev.busWrite_firstClear h)
  · intro w
    exact .of_eq (d := d.busWrite fn (winOff fn st 0x4020) 8 1) rfl (Dev.busWrite_standClear h)
  · have fenced {d2 : Dev} (e : d.fenceSet v = d2) : GivesLater s (.fltFenceSet 0 v) d2 :=
      .of_eq (d := d.busWrite 0 0x20110 8 v) rfl ((Dev.busWrite_fenceSet v h).trans e)
    refine ⟨fun hn => fenced (Dev.fenceSet_none hn), fun u hu => ⟨fun hf => ?_, fun hf => ?_⟩⟩
    · exact fenced ((Dev.fenceSet_unit hu).trans (Dev.fenceUnit_fenced 6 0 hf))
    · exact ⟨_, fenced (Dev.fenceSet_unit hu), rfl, fun hk hp => Dev.fenceUnit_nbu hf hk hp⟩
  · have lifted {d2 : Dev} (e : d.unfence v = d2) : GivesLater s (.fltUnfence 0 v) d2 :=
      .of_eq (d := d.busWrite 0 0x20118 8 v) rfl ((Dev.busWrite_unfence v h).trans e)
    refine ⟨fun hn => lifted (Dev.unfence_none hn), fun u hu => ⟨fun hf => lifted (Dev.unfence_free hu hf), fun f hf => ?_⟩⟩
    intro d1
    have marked := Dev.unfence_fenced hu hf
    refine ⟨fun hk => ?_, fun hk hc => ?_, fun hk hc => ?_⟩
    · exact lifted (marked.trans (if_neg hk))
    · exact lifted (marked.trans ((if_pos hk).trans (Dev.cellReset_running hc)))
    · exact lifted (marked.trans ((if_pos hk).trans (Dev.cellReset_begins hc)))
  · have gives {i : Instr} (f : Dev → Dev) {d2 : Dev} (e : f d = d2) (run : exec i s = s.served f) : GivesLater s i d2 := by
      rw [GivesLater, run, State.served_eq f hs, e]
    refine ⟨fun c hc => ?_, fun c hc => ?_, ?_, fun c => gives (fun d => d.cellpllUnlock c) rfl rfl, ?_⟩
    · refine ⟨_, gives (fun d => d.cellResetDone c) (Dev.cellResetDone_running hc) rfl, ?_, ?_, Dev.ptlNext_cellClear _ c,
        fun o ho => Dev.rd_cellClear _ ho, fun x _ hx hm => ?_⟩
      · rw [Dev.cellRst_cellClear]
        simp
      · exact congrArg Option.isSome (Tab.get?_del_self _ _)
      · rw [Dev.cellRst_cellClear]
        simp [hx, hm]
    · exact gives (fun d => d.cellResetDone c) (if_neg (by simpa using hc)) rfl
    · intro c link cut src u
      exact gives (fun d => d.meshFail c link.toNat cut.toNat) (d.meshFail_eq c link cut.toNat) rfl
    · intro e again d1
      exact gives (fun d => d.linkpllUnlock e) rfl rfl
  · have gives {i : Instr} (f : Dev → Dev) {d2 : Dev} (e : f d = d2) (run : exec i s = s.alive f) : GivesLater s i d2 := by
      rw [GivesLater, run, State.alive_eq f hu, e]
    refine ⟨?_, ?_, ?_, ?_, gives (fun d => d.rangerWdog) rfl rfl⟩
    · intro d1 d2
      exact gives (fun d => d.xtal0Loss true) d.xtal0Loss_pll rfl
    · intro d1 d2
      exact gives (fun d => d.xtal0Loss false) d.xtal0Loss_crystal rfl
    · intro d1
      exact ⟨fun h => gives (fun d => d.xtal1Loss true) (d.xtal1Loss_pll.trans (if_pos h)) rfl,
        fun h => gives (fun d => d.xtal1Loss true) (d.xtal1Loss_pll.trans (if_neg (not_one_or_two h))) rfl⟩
    · intro d1 d2
      exact ⟨fun h => gives (fun d => d.xtal1Loss false) (d.xtal1Loss_crystal.trans (if_pos h)) rfl,
        fun h => gives (fun d => d.xtal1Loss false) (d.xtal1Loss_crystal.trans (if_neg (not_one_or_two h))) rfl⟩

end Sys2Proof.Machine

/-!
PROOFS. Supply, temperature and operating points (15 R730 to R750): the statement O54.
-/
namespace Sys2Proof.Machine

section
variable {d : Dev}

/-! ## Fields that other fields leave -/

theorem Dev.curOp_setOpSt (d : Dev) {hi lo : Nat} (v : Nat) (h : lo ≤ hi) (h64 : hi < 64) (hlo : 1 < lo) :
    (d.setOpSt hi lo v).curOp = d.curOp :=
  Dev.fld_setFld_other (h := h) (h64 := h64) (ho := .inl hlo) (h2l := by decide) ..

theorem Dev.curOp_setFld (d : Dev) {o : Nat} (hi lo v : Nat) (h : o ≠ 0x20) : (d.setFld .pwr 0 o hi lo v).curOp = d.curOp :=
  Dev.fld_setFld_ne (h := by simp only [Loc.addr, Blk.base]; omega) ..

/-- A field of 16 bits that counts up to 65,535. -/
theorem Dev.incSat_half (d : Dev) (b : Blk) (i o n : Nat) :
    d.incSat b i o 31 16 n = d.setFld b i o 31 16 (min 65535 (d.fld b i o 31 16 + n)) :=
  congrArg (d.setFld b i o 31 16) (satAt_eq_min 16 _)

/-! ## VIN_SAMPLE (15 R741 to R744, R746) -/

/-- A sample shown, with the minimum. -/
def Dev.vinShown (d : Dev) (mv : Nat) : Dev :=
  if mv < d.fld .pwr 0 0x28 47 32 then (d.setFld .pwr 0 0x28 15 0 mv).setFld .pwr 0 0x28 47 32 mv else d.setFld .pwr 0 0x28 15 0 mv

theorem Dev.vinShown_onlyRegs (d : Dev) (mv : Nat) : d.OnlyRegs (d.vinShown mv) := by
  unfold Dev.vinShown
  split
  · exact ((Dev.OnlyRegs.refl d).wr ..).wr ..
  · exact (Dev.OnlyRegs.refl d).wr ..

theorem Dev.warn_vinShown (d : Dev) (mv : Nat) : (d.vinShown mv).warn = d.warn := by
  obtain ⟨_, h⟩ := d.vinShown_onlyRegs mv
  rw [h]

theorem Dev.goodRun_vinShown (d : Dev) (mv : Nat) : (d.vinShown mv).goodRun = d.goodRun := by
  obtain ⟨_, h⟩ := d.vinShown_onlyRegs mv
  rw [h]

/-- The count of warnings is not the sample's. -/
theorem Dev.warnings_vinShown (d : Dev) (mv : Nat) : (d.vinShown mv).fld .pwr 0 0x28 31 16 = d.fld .pwr 0 0x28 31 16 := by
  have first : (d.setFld .pwr 0 0x28 15 0 mv).fld .pwr 0 0x28 31 16 = d.fld .pwr 0 0x28 31 16 :=
    Dev.fld_setFld_other (h := by decide) (h64 := by decide) (ho := by decide) (h2l := by decide) ..
  unfold Dev.vinShown
  split
  · rw [Dev.fld_setFld_other (h := by decide) (h64 := by decide) (ho := by decide) (h2l := by decide), first]
  · exact first

/-- What a sample begins below 42 V. -/
def Dev.vinLow (d : Dev) : Dev :=
  if d.warn then { d with goodRun := 0 }
  else ((((({ d with goodRun := 0, warn := true } : Dev).incSat .pwr 0 0x28 31 16 1).setOpSt 13 12 3).setOpSt 25 25 0).supplyPath).raise
    0x255 ⟨.edge, 2⟩ [] 0

/-- A sample of 42 V or more after n in a row above 42.5 V. -/
def Dev.vinGood (d : Dev) (n : Nat) : Dev :=
  if d.warn ∧ 10 ≤ n then Dev.setOpSt { d with warn := false, goodRun := 0 } 25 25 1 else { d with goodRun := min n 10 }

theorem Dev.vinTake_eq (d : Dev) (mv : Nat) :
    d.vinTake mv = if mv < 42000 then (d.vinShown mv).vinLow else (d.vinShown mv).vinGood (if 42500 < mv then d.goodRun + 1 else 0) := by
  have minimum : (d.setFld .pwr 0 0x28 15 0 mv).fld .pwr 0 0x28 47 32 = d.fld .pwr 0 0x28 47 32 :=
    Dev.fld_setFld_other (h := by decide) (h64 := by decide) (ho := by decide) (h2l := by decide) ..
  have shown : (if mv < (d.setFld .pwr 0 0x28 15 0 mv).fld .pwr 0 0x28 47 32 then (d.setFld .pwr 0 0x28 15 0 mv).setFld .pwr 0 0x28
      47 32 mv else d.setFld .pwr 0 0x28 15 0 mv) = d.vinShown mv := by rw [minimum]; rfl
  rw [← d.goodRun_vinShown mv, Dev.vinTake]
  dsimp only
  rw [shown]
  rfl

theorem Dev.vinSample_off (mv : Nat) (h : d.off = true) : d.vinSample mv = d := if_pos h

theorem Dev.vinSample_lost {mv : Nat} (h : d.off = false) (hm : mv < 38000) :
    d.vinSample mv = { d.powerClear with off := true, board := { d.board with mrst := false } } :=
  (if_neg (by simp [h])).trans (if_pos hm)

theorem Dev.vinSample_takes {mv : Nat} (h : d.off = false) (hm : 38000 ≤ mv) : d.vinSample mv = d.vinTake mv :=
  (if_neg (by simp [h])).trans (if_neg (Nat.not_lt.2 hm))

theorem Dev.vinSample_low {mv : Nat} (h : d.off = false) (hm : 38000 ≤ mv) (hl : mv < 42000) :
    d.vinSample mv = (d.vinShown mv).vinLow :=
  (Dev.vinSample_takes h hm).trans ((d.vinTake_eq mv).trans (if_pos hl))

theorem Dev.vinSample_good {mv : Nat} (h : d.off = false) (hm : 42000 ≤ mv) :
    d.vinSample mv = (d.vinShown mv).vinGood (if 42500 < mv then d.goodRun + 1 else 0) :=
  (Dev.vinSample_takes h (by omega)).trans ((d.vinTake_eq mv).trans (if_neg (Nat.not_lt.2 hm)))

/-- A warning that runs already. -/
theorem Dev.vinLow_warned (mv : Nat) (h : d.warn = true) : (d.vinShown mv).vinLow = { d.vinShown mv with goodRun := 0 } :=
  if_pos ((d.warn_vinShown mv).trans h)

/-- A new warning. -/
theorem Dev.vinLow_new (mv : Nat) (h : d.warn = false) : (d.vinShown mv).vinLow =
    (((((({ d.vinShown mv with goodRun := 0, warn := true } : Dev).setFld .pwr 0 0x28 31 16
      (min 65535 (d.fld .pwr 0 0x28 31 16 + 1))).setOpSt 13 12 3).setOpSt 25 25 0).supplyPath).raise 0x255 ⟨.edge, 2⟩ [] 0) := by
  have counted : ({ d.vinShown mv with goodRun := 0, warn := true } : Dev).incSat .pwr 0 0x28 31 16 1 =
      ({ d.vinShown mv with goodRun := 0, warn := true } : Dev).setFld .pwr 0 0x28 31 16 (min 65535 (d.fld .pwr 0 0x28 31 16 + 1)) := by
    have field : ({ d.vinShown mv with goodRun := 0, warn := true } : Dev).fld .pwr 0 0x28 31 16 = d.fld .pwr 0 0x28 31 16 :=
      (Dev.fld_congr (d := d.vinShown mv) rfl ..).trans (d.warnings_vinShown mv)
    rw [Dev.incSat_half, field]
  rw [Dev.vinLow, if_neg (by simp [d.warn_vinShown mv, h]), counted]

theorem Dev.vinGood_ends {n : Nat} (mv : Nat) (h : d.warn = true) (hn : 10 ≤ n) :
    (d.vinShown mv).vinGood n = ({ d.vinShown mv with warn := false, goodRun := 0 } : Dev).setOpSt 25 25 1 :=
  if_pos ⟨(d.warn_vinShown mv).trans h, hn⟩

theorem Dev.vinGood_counts {n : Nat} (mv : Nat) (h : d.warn = false ∨ n < 10) :
    (d.vinShown mv).vinGood n = { d.vinShown mv with goodRun := min n 10 } :=
  if_neg fun ⟨hw, hn⟩ => h.elim (fun hf => by simp [d.warn_vinShown mv, hf] at hw) (Nat.not_lt.2 hn)

/-! ## TEMP_SAMPLE (15 R747 to R749) -/

/-- One pair of dies shown. -/
def Dev.showPair (d : Dev) (p : Nat) : Dev :=
  d.setFld .pwr 0 (0x50 + 8 * (p / 8)) (8 * (p % 8) + 7) (8 * (p % 8)) (max (d.dieTemp (2 * p)) (d.dieTemp (2 * p + 1)))

/-- The pairs below n shown. -/
def Dev.showPairs (d : Dev) (n : Nat) : Dev := (List.range n).foldl Dev.showPair d

theorem Dev.showPairs_succ (d : Dev) (n : Nat) : d.showPairs (n + 1) = (d.showPairs n).showPair n := by
  simp [Dev.showPairs, List.range_succ]

theorem Dev.showPairs_onlyRegs (d : Dev) (n : Nat) : d.OnlyRegs (d.showPairs n) :=
  (Dev.OnlyRegs.refl d).foldl (fun _ _ h => h.wr ..) _

theorem Dev.dieTemp_showPairs (d : Dev) (n i : Nat) : (d.showPairs n).dieTemp i = d.dieTemp i := by
  obtain ⟨_, h⟩ := d.showPairs_onlyRegs n
  rw [h]
  rfl

theorem Dev.fld_showPairs (ht : ∀ i, d.dieTemp i < 256) {n p : Nat} (hp : p < n) :
    (d.showPairs n).fld .pwr 0 (0x50 + 8 * (p / 8)) (8 * (p % 8) + 7) (8 * (p % 8)) =
      max (d.dieTemp (2 * p)) (d.dieTemp (2 * p + 1)) := by
  induction n with
  | zero => omega
  | succ n ih =>
    rw [d.showPairs_succ, Dev.showPair]
    by_cases hpn : p = n
    · subst hpn
      rw [Dev.fld_setFld_self (h := by omega) (h64 := by omega), d.dieTemp_showPairs, d.dieTemp_showPairs,
        show 8 * (p % 8) + 7 + 1 - 8 * (p % 8) = 8 by omega]
      exact Nat.mod_eq_of_lt (max_lt (ht _) (ht _))
    · rw [← ih (by omega)]
      by_cases hw : p / 8 = n / 8
      · rw [hw]
        exact Dev.fld_setFld_other (h := by omega) (h64 := by omega) (ho := by omega) (h2l := by omega) ..
      · exact Dev.fld_setFld_ne (h := by simp only [Loc.addr, Blk.base]; omega) ..

/-- The registers other than the three of the pairs stay. -/
theorem Dev.get?_showPairs (d : Dev) {n a : Nat} (hn : n ≤ 20) (h0 : a ≠ 0x30050) (h1 : a ≠ 0x30058) (h2 : a ≠ 0x30060) :
    Tab.get? (d.showPairs n).regs a = Tab.get? d.regs a := by
  induction n with
  | zero => rfl
  | succ n ih =>
    rw [d.showPairs_succ, ← ih (by omega)]
    exact Tab.get?_set_ne _ _ (by simp only [Loc.addr, Blk.base]; omega)

/-- The samples of the 40 dies taken and shown. -/
def Dev.tempShown (d : Dev) (ts : List (BitVec 8)) : Dev := ({ d with temps := ts.map (·.toNat) } : Dev).showPairs 20

theorem Dev.tempShown_onlyRegs (d : Dev) (ts : List (BitVec 8)) :
    d.tempShown ts = { d with temps := ts.map (·.toNat), regs := (d.tempShown ts).regs } := by
  obtain ⟨regs, h⟩ := ({ d with temps := ts.map (·.toNat) } : Dev).showPairs_onlyRegs 20
  rw [Dev.tempShown, h]

theorem Dev.dieTemp_taken (d : Dev) (ts : List (BitVec 8)) (i : Nat) :
    ({ d with temps := ts.map (·.toNat) } : Dev).dieTemp i = (ts.getD i 0).toNat := ts.getD_map (d := 0) (f := (·.toNat))

theorem Dev.dieTemp_tempShown (d : Dev) (ts : List (BitVec 8)) (i : Nat) : (d.tempShown ts).dieTemp i = (ts.getD i 0).toNat :=
  (Dev.dieTemp_showPairs _ 20 i).trans (d.dieTemp_taken ts i)

theorem Dev.warnC_tempShown (d : Dev) (ts : List (BitVec 8)) : (d.tempShown ts).warnC = d.warnC := by
  have word : (d.tempShown ts).rd .pwr 0 0x40 = d.rd .pwr 0 0x40 :=
    (Dev.rd_foldl _ _ fun _ _ _ => Dev.rd_setFld_ne (h := by simp only [Loc.addr]; omega) ..).trans (Dev.rd_congr (d := d) rfl ..)
  rw [Dev.warnC, Dev.fld, word]
  rfl

/-- Some die passed a temperature upwards. -/
def Dev.passed (d e : Dev) (t : Nat) : Bool :=
  (List.range 40).any fun i => decide (d.temps.getD i 0 < t) && decide (t ≤ e.dieTemp i)

theorem Dev.passed_tempShown (d : Dev) (ts : List (BitVec 8)) (t : Nat) :
    d.passed (d.tempShown ts) t = true ↔ ∃ i, i < 40 ∧ d.temps.getD i 0 < t ∧ t ≤ (ts.getD i 0).toNat := by
  simp [Dev.passed, d.dieTemp_tempShown]

/-- THERM_WARN raised when some die passed WARN_C. -/
def Dev.warmRaised (d e : Dev) : Dev := if d.passed e e.warnC then e.raise 0x257 (dieUnit e.hottest) [] 0 else e

theorem Dev.tempSample_eq (d : Dev) {ts : List (BitVec 8)} (h : ts.length = 40) :
    d.tempSample (ts.map (·.toNat)) =
      if d.passed (d.tempShown ts) 105 then
        (((d.warmRaised (d.tempShown ts)).setOpSt 9 8 3).supplyPath).raise 0x258 (dieUnit (d.tempShown ts).hottest) [] 0
      else d.warmRaised (d.tempShown ts) := by
  have taken : ((List.range 40).map fun i => (ts.map (·.toNat)).getD i 0 % 256) = ts.map (·.toNat) := by
    refine List.ext_getElem (by simp [h]) fun i h1 h2 => ?_
    have hi : i < ts.length := by simpa using h2
    simp [hi, Nat.mod_eq_of_lt ts[i].isLt]
  rw [Dev.tempSample]
  dsimp only
  rw [taken]
  rfl

/-! ## The caps (15 R744, R748, R750) -/

theorem Dev.thermTimer_up (h : ∃ x ∈ d.temps, d.warnC ≤ x) : d.thermTimer = d.setOpSt 9 8 (min 3 (d.opSt 9 8 + 1)) :=
  if_pos (by simpa using h)

theorem Dev.thermTimer_cold (h : ∀ x ∈ d.temps, x < d.warnC) :
    d.thermTimer = if d.temps.all (fun t => decide (t + 5 < d.warnC)) then d.setOpSt 9 8 (d.opSt 9 8 - 1) else d :=
  if_neg (by simpa using h)

/-! ## The links (15 R732, R733, R738) -/

theorem Dev.avsEnd_waits (h : d.avsWait ≠ []) : d.avsEnd = d := if_pos (by simpa using h)

theorem Dev.avsEnd_last (h : d.avsWait = []) : d.avsEnd =
    if d.avsPoint < d.curOp ∧ d.avsLate = false then (d.setOpSt 24 24 0).setOpSt 1 0 d.avsPoint else d.setOpSt 24 24 0 := by
  have e : d.avsEnd = (fun x : Dev => if x.avsPoint < x.curOp ∧ (!x.avsLate) = true then x.setOpSt 1 0 x.avsPoint else x)
    (d.setOpSt 24 24 0) := if_neg (by simp [h])
  have kept : (d.setOpSt 24 24 0).avsPoint = d.avsPoint ∧ (d.setOpSt 24 24 0).avsLate = d.avsLate := ⟨rfl, rfl⟩
  rw [e]
  simp only [d.curOp_setOpSt 0 (Nat.le_refl 24) (by decide) (by decide), kept, Bool.not_eq_true']

/-- An acknowledged request of a link that is asked. -/
theorem Dev.avsDone_asked {l us retries : Nat} (h : l ∈ d.avsWait) : d.avsDone l us retries =
    Dev.avsEnd { (d.setFld .pwr 0 0x38 47 32 us).setFld .pwr 0 0x38 31 16 (min 65535 (d.fld .pwr 0 0x38 31 16 + retries)) with
      avsWait := d.avsWait.erase l, rails := Tab.set d.rails l d.avsPoint } := by
  have counted : (d.setFld .pwr 0 0x38 47 32 us).incSat .pwr 0 0x38 31 16 retries =
      (d.setFld .pwr 0 0x38 47 32 us).setFld .pwr 0 0x38 31 16 (min 65535 (d.fld .pwr 0 0x38 31 16 + retries)) := by
    rw [Dev.incSat_half,
      Dev.fld_setFld_other (h := by decide) (h64 := by decide) (ho := by decide) (h2l := by decide)]
  rw [Dev.avsDone, if_pos (by simpa using h), counted]
  rfl

theorem Dev.curOp_links (d : Dev) (w : List Nat) (r : Tab Nat) : ({ d with avsWait := w, rails := r } : Dev).curOp = d.curOp := rfl

/-- A request of a link that is asked and does not answer. -/
theorem Dev.avsTimeout_asked {l : Nat} (h : l ∈ d.avsWait) : d.avsTimeout l =
    Dev.avsEnd { (d.setFld .pwr 0 0x38 l l 1).raise 0x256 ⟨.edge, 2⟩ [] 0 with
      avsWait := d.avsWait.erase l, rails := Tab.upd d.rails l fun r => min r d.avsPoint, avsLate := true } := by
  obtain ⟨_, _, _, _, e⟩ := (d.setFld .pwr 0 0x38 l l 1).raise_onlySignals 0x256 ⟨.edge, 2⟩ [] 0
  rw [Dev.avsTimeout, if_pos (by simpa using h), e]
  rfl

/-- The voltage of a point asked for on the four links. -/
theorem Dev.opStep_up (h : d.off = false) (hw : d.avsWait = []) (hg : d.goalOp < d.curOp) (hn : ¬ d.noackSet = true) :
    d.opStep = d.avsRequest (d.curOp - 1) := by
  simp only [Dev.opStep]
  rw [if_neg (by simp [h, hw]), if_pos hg, if_neg hn]

theorem Dev.opStep_down (h : d.off = false) (hw : d.avsWait = []) (hg : d.curOp < d.goalOp) :
    d.opStep = (d.setOpSt 1 0 (d.curOp + 1)).avsRequest (d.curOp + 1) := by
  simp only [Dev.opStep]
  rw [if_neg (by simp [h, hw]), if_neg (by omega), if_pos hg]

theorem Dev.opStep_stays (h : d.avsWait ≠ [] ∨ d.goalOp = d.curOp ∨ (d.goalOp < d.curOp ∧ d.noackSet = true)) : d.opStep = d := by
  simp only [Dev.opStep]
  split
  · rfl
  · next hw =>
    have hw : d.avsWait = [] := by simpa using fun e => hw (.inr e)
    obtain hne | he | ⟨hg, hn⟩ := h
    · exact absurd hw hne
    · rw [if_neg (by omega), if_neg (by omega)]
    · rw [if_pos hg, if_pos hn]

end

/-- A device that is up has power. -/
theorem Dev.off_of_up {d : Dev} (h : d.up? = true) : d.off = false := by
  simp only [Dev.up?, Bool.and_eq_true, Bool.not_eq_true'] at h
  exact h.1.1

theorem tempSample_gives {s : State} (ts : List (BitVec 8)) (h : s.d.up? = true) :
    GivesLater s (.tempSample ts) (s.d.tempSample (ts.map (·.toNat))) := by
  have run : exec (.tempSample ts) s = s.alive fun d => d.tempSample (ts.map (·.toNat)) := rfl
  rw [GivesLater, run, State.alive_eq _ h]

/-- Settles O54: each command is one function of the power unit, by what the sample, the cap or the links say. -/
theorem supplyTemperatureAndVoltage : Obligations.SupplyTemperatureAndVoltage := by
  intro s d crit
  refine ⟨fun mv => ?_, fun ht ho => ?_, fun h => ?_, rfl, fun hu => ?_⟩
  · intro d1 d2 gives
    have taken {d3 : Dev} (e : d.vinSample mv.toNat = d3) : gives d3 := GivesLater.of_eq (d := d.vinSample mv.toNat) rfl e
    refine ⟨fun h => taken (Dev.vinSample_off _ h), fun h => ⟨fun hm => taken (Dev.vinSample_lost h hm), fun hm hl => ⟨fun hw => ?_,
      fun hw => ?_⟩, fun hm hg => ?_, fun hg hw hn => ?_, fun hg hn => ?_⟩⟩
    · exact taken ((Dev.vinSample_low h hm hl).trans (Dev.vinLow_warned _ hw))
    · exact taken ((Dev.vinSample_low h hm hl).trans (Dev.vinLow_new _ hw))
    · refine taken ((Dev.vinSample_good h hm).trans ?_)
      rw [if_neg (by omega)]
      exact Dev.vinGood_counts _ (.inr (by decide))
    · refine taken ((Dev.vinSample_good h (by omega)).trans ?_)
      rw [if_pos hg]
      exact Dev.vinGood_ends _ hw (by omega)
    · refine taken ((Dev.vinSample_good h (by omega)).trans ?_)
      rw [if_pos hg]
      exact Dev.vinGood_counts _ (hn.imp_right (by omega))
  · exact GivesLater.of_eq (d := d.thermAssert) rfl (if_neg (by simp [ht, ho]))
  · exact GivesLater.of_eq (d := d.thermAssert) rfl (if_pos h)
  · have gives {i : Instr} (f : Dev → Dev) {d2 : Dev} (e : f d = d2) (run : exec i s = s.alive f) : GivesLater s i d2 := by
      rw [GivesLater, run, State.alive_eq f hu, e]
    have on : d.off = false := Dev.off_of_up hu
    refine ⟨fun h => gives Dev.holdEnd (if_pos h) rfl, fun h => gives Dev.holdEnd (if_neg h) rfl, fun ts hts => ?_,
      fun h => gives Dev.thermTimer (Dev.thermTimer_up h) rfl, fun h => ?_, fun h hx => ?_,
      fun h => gives Dev.thermCapEnd (if_neg (by simp [h])) rfl, fun h => gives Dev.thermCapEnd (if_pos h) rfl,
      fun l us retries => ?_, ?_⟩
    · intro t warm hot
      have sampled {d2 : Dev} (e : d.tempSample (ts.map (·.toNat)) = d2) : GivesLater s (.tempSample ts) d2 :=
        (tempSample_gives ts hu).of_eq e
      have run := d.tempSample_eq hts
      have isWarm : d.passed (d.tempShown ts) (d.tempShown ts).warnC = true ↔ warm := by
        rw [d.warnC_tempShown]
        exact d.passed_tempShown ts _
      have isHot : d.passed (d.tempShown ts) 105 = true ↔ hot := d.passed_tempShown ts 105
      have raised (h : warm) : d.warmRaised (d.tempShown ts) = _ := if_pos (isWarm.2 h)
      have quiet (h : ¬ warm) : d.warmRaised (d.tempShown ts) = _ := if_neg (mt isWarm.1 h)
      refine ⟨d.tempShown ts, d.tempShown_onlyRegs ts, fun p hp => ?_, fun a h0 h1 h2 => Dev.get?_showPairs _ le_rfl h0 h1 h2,
        fun hw hh => sampled ?_, fun hw hh => sampled ?_, fun hw hh => sampled ?_, fun hw hh => sampled ?_⟩
      · refine (Dev.fld_showPairs (fun i => ?_) hp).trans ?_
        · rw [d.dieTemp_taken]
          exact (ts.getD i 0).isLt
        · rw [d.dieTemp_taken, d.dieTemp_taken]
      · exact run.trans ((if_neg (mt isHot.1 hh)).trans (quiet hw))
      · exact run.trans ((if_neg (mt isHot.1 hh)).trans (raised hw))
      · rw [run, if_pos (isHot.2 hh), quiet hw]
      · rw [run, if_pos (isHot.2 hh), raised hw]
    · refine gives Dev.thermTimer ((Dev.thermTimer_cold fun x hx => by have := h x hx; omega).trans (if_pos ?_)) rfl
      simpa using h
    · refine gives Dev.thermTimer ((Dev.thermTimer_cold h).trans (if_neg ?_)) rfl
      simpa using hx
    · intro left done d1 e d2
      have acked {d3 : Dev} (h : d.avsDone l us.toNat retries.toNat = d3) : done d3 :=
        gives (fun d => d.avsDone l us.toNat retries.toNat) h rfl
      have late {d3 : Dev} (h : d.avsTimeout l = d3) : GivesLater s (.avsTimeout l) d3 := gives (fun d => d.avsTimeout l) h rfl
      have current : d1.curOp = d.curOp := (Dev.curOp_links _ _ _).trans
        ((Dev.curOp_setFld _ 31 16 _ (by decide)).trans (d.curOp_setFld 47 32 _ (by decide)))
      refine ⟨fun h => ⟨acked (if_neg (by simpa using h)), late (if_neg (by simpa using h))⟩, fun h => ⟨fun hl => ⟨?_, ?_⟩, fun hl => ?_,
        fun hl hp ha => ?_, fun hl hp => ?_⟩⟩
      · exact acked ((Dev.avsDone_asked h).trans (Dev.avsEnd_waits hl))
      · exact late ((Dev.avsTimeout_asked h).trans (Dev.avsEnd_waits hl))
      · exact late ((Dev.avsTimeout_asked h).trans ((Dev.avsEnd_last hl).trans (if_neg fun h => Bool.noConfusion h.2)))
      · exact acked ((Dev.avsDone_asked h).trans ((Dev.avsEnd_last hl).trans (if_pos ⟨by rwa [← current] at hp, ha⟩)))
      · refine acked ((Dev.avsDone_asked h).trans ((Dev.avsEnd_last hl).trans (if_neg fun hc => ?_)))
        obtain ⟨hlt, ha⟩ := hc
        rw [show _ = d.curOp from current] at hlt
        exact hp.elim (Nat.not_le.2 hlt) (fun h => by simp_all)
    · intro asks held
      exact ⟨fun hw hg hn => gives Dev.opStep (Dev.opStep_up on hw hg hn) rfl, fun hw hg => gives Dev.opStep (Dev.opStep_down on hw hg) rfl,
        fun h => gives Dev.opStep (Dev.opStep_stays h) rfl⟩

end Sys2Proof.Machine

/-!
PROOFS. Low-power states of cells and of the module, clock sources and clock gates (15 R754 to R770): the statement O55.
-/
namespace Sys2Proof.Machine

section
variable {d : Dev}

/-! ## Cells (15 R754, R757 to R759, R764, R765) -/

theorem Tab.has_of_get? {α : Type} {t : Tab α} {n : Nat} {x : α} (h : Tab.get? t n = some x) : Tab.has t n = true := by
  simp [Tab.has, h]

theorem Tab.has_of_get?_none {α : Type} {t : Tab α} {n : Nat} (h : Tab.get? t n = none) : Tab.has t n = false := by
  simp [Tab.has, h]

/-- A refused entry is counted in the refuser's low half and recorded. -/
theorem Dev.refuseLp_refused (d : Dev) (code stand unit state : Nat) : d.refuseLp code stand false unit state =
    ((d.setFld .pwr 0 (0x100 + 8 * code) 31 0 (min 0xFFFFFFFF (d.fld .pwr 0 (0x100 + 8 * code) 31 0 + 1))).wr .pwr 0 0x180
      (BitVec.ofNat 64 (state * 2 ^ 20 + stand * 2 ^ 15 + unit * 2 ^ 8 + code))).wr .pwr 0 0x188 (BitVec.ofNat 64 d.now) := by
  have counted : d.incSat .pwr 0 (0x100 + 8 * code) 31 0 1 =
      d.setFld .pwr 0 (0x100 + 8 * code) 31 0 (min 0xFFFFFFFF (d.fld .pwr 0 (0x100 + 8 * code) 31 0 + 1)) :=
    congrArg (d.setFld .pwr 0 (0x100 + 8 * code) 31 0) (satAt_32 _)
  simp only [Dev.refuseLp, Bool.false_eq_true, if_false, Nat.add_zero, counted]
  rfl

theorem Dev.s1Entry_enters {c : Nat} (he : bitAt (d.rd .pwr 0 0x10) 16 = true) (hp : d.cellPower c = 0) (hb : d.cellBusy c = false)
    (hm : d.modPower = 0) : d.s1Entry c = d.setCellPower c 1 := if_pos ⟨he, hp, by simp [hb], hm⟩

theorem Dev.s1Entry_stays {c : Nat}
    (h : bitAt (d.rd .pwr 0 0x10) 16 = false ∨ d.cellPower c ≠ 0 ∨ d.cellBusy c = true ∨ d.modPower ≠ 0) : d.s1Entry c = d := by
  refine if_neg fun ⟨he, hp, hb, hm⟩ => ?_
  simp_all

/-- A cell in S1 that may go on to S2. -/
def Dev.mayEnterS2 (d : Dev) (c : Nat) : Prop :=
  bitAt (d.rd .pwr 0 0x10) 32 = true ∧ d.cellPower c = 1 ∧ (!d.cellBusy c) = true ∧ d.modPower = 0 ∧ (!Tab.has d.lpEnter c) = true

theorem Dev.s2Entry_begins {c : Nat} (h : d.mayEnterS2 c) (hr : d.cellRefuser c = none) :
    d.s2Entry c = { d with lpEnter := Tab.set d.lpEnter c 2 } := by
  unfold Dev.mayEnterS2 at h
  rw [Dev.s2Entry, if_pos h, hr]

theorem Dev.s2Entry_refused {c code x : Nat} (h : d.mayEnterS2 c) (hr : d.cellRefuser c = some (code, x)) :
    d.s2Entry c = d.refuseLp code x false c 2 := by
  unfold Dev.mayEnterS2 at h
  rw [Dev.s2Entry, if_pos h, hr]

theorem Dev.s2Entry_stays {c : Nat}
    (h : bitAt (d.rd .pwr 0 0x10) 32 = false ∨ d.cellPower c ≠ 1 ∨ d.cellBusy c = true ∨ d.modPower ≠ 0) : d.s2Entry c = d := by
  refine if_neg fun ⟨he, hp, hb, hm, _⟩ => ?_
  simp_all

/-- A demand on a cell in the course of an entry aborts it. -/
theorem Dev.cellWake_entering {c st : Nat} (h : Tab.get? d.lpEnter c = some st) :
    d.cellWake c = (({ d with lpEnter := Tab.del d.lpEnter c } : Dev).refuseLp 10 0 true c st).setCellPower c 0 := by
  rw [Dev.cellWake, if_pos (Tab.has_of_get? h), Dev.demand, h]

theorem Dev.cellWake_eq {c : Nat} (h : Tab.get? d.lpEnter c = none) :
    d.cellWake c = if d.cellPower c = 1 ∨ d.cellPower c = 2 then d.setCellPower c 3 else d := by
  rw [Dev.cellWake, if_neg (by simp [Tab.has_of_get?_none h])]

theorem Dev.lpDone_cell {c : Nat} (hc : c < 16) : d.lpDone c = d.cellEntryDone c := if_neg (by omega)

theorem Dev.cellEntryDone_none {c : Nat} (h : Tab.get? d.lpEnter c = none) : d.cellEntryDone c = d := by rw [Dev.cellEntryDone, h]

/-- The end of a cell's entry that a refuser has overtaken. -/
theorem Dev.cellEntryDone_refused {c st code x : Nat} (h : Tab.get? d.lpEnter c = some st)
    (hr : ({ d with lpEnter := Tab.del d.lpEnter c } : Dev).cellRefuser c = some (code, x)) : d.cellEntryDone c =
      (({ d with lpEnter := Tab.del d.lpEnter c } : Dev).refuseLp code x true c st).setCellPower c 0 := by
  simp only [Dev.cellEntryDone, h, hr]

theorem Dev.cellEntryDone_sleeps {c st : Nat} (h : Tab.get? d.lpEnter c = some st)
    (hr : ({ d with lpEnter := Tab.del d.lpEnter c } : Dev).cellRefuser c = none) :
    d.cellEntryDone c = ({ d with lpEnter := Tab.del d.lpEnter c } : Dev).cellSleep c := by
  simp only [Dev.cellEntryDone, h, hr]

/-! ## The module (15 R760 to R765) -/

/-- The end of the module's entry that a refuser has overtaken. -/
theorem Dev.moduleEntryDone_refused {st code x : Nat} (h : Tab.get? d.lpEnter 16 = some st)
    (hr : d.moduleRefuser st = some (code, x)) : d.moduleEntryDone =
      (({ d with lpEnter := Tab.del d.lpEnter 16 } : Dev).refuseLp code x true 31 st).setFld .pwr 0 0 35 32 0 := by
  simp only [Dev.moduleEntryDone, h, hr]

theorem Dev.moduleEntryDone_sleeps {st : Nat} (h : Tab.get? d.lpEnter 16 = some st) (hr : d.moduleRefuser st = none) :
    d.moduleEntryDone = if st = 4 then { d.enterS3.powerClear with off := true, inS4 := true } else d.enterS3 := by
  simp only [Dev.moduleEntryDone, h, hr]

/-- An entry of the module aborted by its request of REQ 0 or by WAKE_L. -/
def Dev.entryAborted (d : Dev) (st : Nat) : Dev :=
  (({ d with lpEnter := Tab.del d.lpEnter 16 } : Dev).refuseLp 10 0 true 31 st).setFld .pwr 0 0 35 32 0

theorem Dev.wakeS3_entering {st : Nat} (h : Tab.get? d.lpEnter 16 = some st) : d.wakeS3 = d.entryAborted st := by
  rw [Dev.wakeS3, Dev.stateReq, h]
  rfl

theorem Dev.wakeS3_eq (h : Tab.get? d.lpEnter 16 = none) : d.wakeS3 = if d.modPower = 3 then d.setFld .pwr 0 0 35 32 2 else d := by
  rw [Dev.wakeS3, Dev.stateReq, h]
  rfl

section
variable {v : W64} {st : Nat} (hv : bits v 2 0 = st) (hst : st = 3 ∨ st = 4)
include hv hst

/-- A request of S3 or S4 is not one of REQ 0. -/
theorem req_ne_zero : bits v 2 0 ≠ 0 := by omega

theorem Dev.stateReq_stays (hm : d.modPower ≠ 0) : d.stateReq v = d := by
  simp only [Dev.stateReq, if_neg (req_ne_zero hv hst), hm, false_and, and_false, if_false]

theorem Dev.stateReq_begins (ho : d.off = false) (hm : d.modPower = 0) (hr : d.moduleRefuser st = none) :
    d.stateReq v = ({ d with lpEnter := Tab.set d.lpEnter 16 st } : Dev).setFld .pwr 0 0 35 32 1 := by
  have wake := req_ne_zero hv hst
  subst hv
  have may : (bits v 2 0 = 3 ∨ bits v 2 0 = 4) ∧ d.modPower = 0 ∧ (!d.off) = true := ⟨hst, hm, by simp [ho]⟩
  simp only [Dev.stateReq, if_neg wake, if_pos may, hr]

theorem Dev.stateReq_refused {code x : Nat} (ho : d.off = false) (hm : d.modPower = 0) (hr : d.moduleRefuser st = some (code, x)) :
    d.stateReq v = d.refuseLp code x false 31 st := by
  have wake := req_ne_zero hv hst
  subst hv
  have may : (bits v 2 0 = 3 ∨ bits v 2 0 = 4) ∧ d.modPower = 0 ∧ (!d.off) = true := ⟨hst, hm, by simp [ho]⟩
  simp only [Dev.stateReq, if_neg wake, if_pos may, hr]

end

theorem Dev.s3ExitDone_leaving (h : d.modPower = 2) : d.s3ExitDone =
    (List.range 16).foldl (fun x p => if x.portEn p then x.portTrain p else x)
      (({ ((d.domains 0 60 true).setFld .pwr 0 0 35 32 0).setFld .pwr 0 0 31 0 0 with
        dir := (((d.domains 0 60 true).setFld .pwr 0 0 35 32 0).setFld .pwr 0 0 31 0 0).shadow, fab := 0, slew := 0, slewAcc := 0,
        lockRun := 0 } : Dev).setFtm 0) := if_neg (not_not_intro h)

theorem Dev.domains_onlyRegs (d : Dev) (lo n : Nat) (on : Bool) : d.OnlyRegs (d.domains lo n on) :=
  (Dev.OnlyRegs.refl d).foldl (fun _ _ h => h.wr ..) _

theorem Dev.shadow_powered (d : Dev) : (((d.domains 0 60 true).setFld .pwr 0 0 35 32 0).setFld .pwr 0 0 31 0 0).shadow = d.shadow := by
  have regs : d.OnlyRegs (((d.domains 0 60 true).setFld .pwr 0 0 35 32 0).setFld .pwr 0 0 31 0 0) :=
    ((d.domains_onlyRegs 0 60 true).wr ..).wr ..
  obtain ⟨_, h⟩ := regs
  rw [h]

theorem Dev.wakeL_s4 (h : d.inS4 = true) : d.wakeL = if d.board.mrst then d else d.leaveS4 := if_pos h

theorem Dev.wakeL_off (h : d.inS4 = false) (ho : d.off = true) : d.wakeL = d := (if_neg (by simp [h])).trans (if_pos ho)

theorem Dev.wakeL_on (h : d.inS4 = false) (ho : d.off = false) : d.wakeL = d.wakeS3 :=
  (if_neg (by simp [h])).trans (if_neg (by simp [ho]))

/-! ## Clock sources (15 R767 to R769) -/

theorem xtal0Clocks_contains : ∀ b : Fin 32, xtal0Clocks.contains b.val = true ↔ b = 4 ∨ (8 ≤ b.val ∧ b.val < 12) ∨ 16 ≤ b.val := by
  decide +kernel

theorem Dev.clkNow_eq (b : Fin 32) (ho : d.off = false) : d.clkNow b =
    if b = 2 ∨ b = 3 ∨ (b = 5 ∧ d.clkReady 3 = true) ∨ ((b = 4 ∨ (8 ≤ b.val ∧ b.val < 12) ∨ 16 ≤ b.val) ∧ d.clkReady 2 = true) then
      d.setFld .pwr 0 0x8000 b b 1 else d := by
  have two : (b : Nat) = 2 ↔ b = 2 := (Fin.ext_iff (b := (2 : Fin 32))).symm
  have three : (b : Nat) = 3 ↔ b = 3 := (Fin.ext_iff (b := (3 : Fin 32))).symm
  have five : (b : Nat) = 5 ↔ b = 5 := (Fin.ext_iff (b := (5 : Fin 32))).symm
  simp only [Dev.clkNow, xtal0Clocks_contains b, two, three, five, ho, Bool.not_false, and_true]

/-! ## Writes of the PWR block (15 R760, R768, R770) -/

/-- A write of a register of the PWR block. -/
theorem Dev.busWrite_pwr {o off : Nat} (v : W64) (h : d.hostVerdict 0 off 8 true = .ok) (hoff : off = 0x30000 + o)
    (ho : o < 0x10000) (h8 : o % 8 = 0) (hr : (findRow .pwr o).isSome = true) :
    ∃ r, d.busWrite 0 off 8 v = d.writePwr 0 ⟨.pwr, 0, o⟩ r (0, 64) v := by
  obtain ⟨r, hr⟩ := Option.isSome_iff_exists.1 hr
  refine ⟨r, (Dev.busWrite_once (b := .pwr) (k := 3) v rfl h (by omega) ho h8).trans ?_⟩
  simp only [Dev.regWrite, hr]

theorem Dev.busWrite_stateCtl (v : W64) (h : d.hostVerdict 0 0x30008 8 true = .ok) : d.busWrite 0 0x30008 8 v = d.stateReq v := by
  obtain ⟨r, e⟩ := Dev.busWrite_pwr (o := 0x8) v h rfl (by decide) rfl (by decide +kernel)
  exact e.trans rfl

theorem Dev.busWrite_clkGate (v : W64) (h : d.hostVerdict 0 0x38008 8 true = .ok) : d.busWrite 0 0x38008 8 v = d.clkGateWrite v := by
  obtain ⟨r, e⟩ := Dev.busWrite_pwr (o := 0x8008) v h rfl (by decide) rfl (by decide +kernel)
  exact e.trans rfl

theorem findRow_clkSel : ∀ k : Fin 19, (findRow .pwr (0x8100 + 8 * k)).isSome = true := by decide +kernel

theorem Dev.busWrite_clkSel {k : Fin 19} (v : W64) (h : d.hostVerdict 0 (0x38100 + 8 * k) 8 true = .ok) :
    d.busWrite 0 (0x38100 + 8 * k) 8 v = d.clkSelWrite k v := by
  obtain ⟨r, e⟩ := Dev.busWrite_pwr (o := 0x8100 + 8 * k) v h (by omega) (by omega) (by omega) (findRow_clkSel k)
  have hk : (0x8100 + 8 * (k : Nat) - 0x8100) / 8 = k := by omega
  rw [e, Dev.writePwr]
  dsimp only
  rw [if_neg (by omega), if_neg (by omega), if_pos (by omega), hk]
  rfl

/-! ## Clock gates (15 R770) -/

/-- What keeps a gate open lies outside CLK_GATE. -/
theorem Dev.gateHeld_wr (d : Dev) (x : W64) (b : Nat) : (d.wr .pwr 0 0x8008 x).gateHeld b = d.gateHeld b := by
  have other {k : Blk} (i o : Nat) (h : 0x40000 ≤ k.base) : (d.wr .pwr 0 0x8008 x).rd k i o = d.rd k i o :=
    Dev.rd_wr_ne (h := by simp only [Loc.addr, show Blk.pwr.base = 0x30000 from rfl]; omega) ..
  have port (i o : Nat) := other (k := .port) i o (by decide)
  have stand (i o : Nat) := other (k := .stand) i o (by decide)
  have ftm (i o : Nat) := other (k := .ftm) i o (by decide)
  simp only [Dev.gateHeld, Dev.portEn, port, stand, ftm]
  rfl

/-- A gate after a write of CLK_GATE. -/
def Dev.gateAfter (d : Dev) (v : W64) (b : Nat) : Bool := bitAt v b || (bitAt (d.rd .pwr 0 0x8008) b && d.gateHeld b)

/-- One gate of a write, from the word that stood before it. -/
def Dev.gateStep (v old : W64) (d : Dev) (b : Nat) : Dev :=
  if bitAt v b then d.setFld .pwr 0 0x8008 b b 1
  else if bitAt old b ∧ d.gateHeld b then d else d.setFld .pwr 0 0x8008 b b 0

/-- The gates below n of a write. -/
def Dev.gateSteps (d : Dev) (v : W64) (n : Nat) : Dev := (List.range n).foldl (Dev.gateStep v (d.rd .pwr 0 0x8008)) d

theorem Dev.gateSteps_succ (d : Dev) (v : W64) (n : Nat) :
    d.gateSteps v (n + 1) = (d.gateSteps v n).gateStep v (d.rd .pwr 0 0x8008) n := by
  simp [Dev.gateSteps, List.range_succ]

/-- A step of a gate puts its bit, or keeps the word for a gate that is held open. -/
theorem Dev.gateStep_eq {e : Dev} (v : W64) {n : Nat} (h : e.gateHeld n = d.gateHeld n) :
    e.gateStep v (d.rd .pwr 0 0x8008) n =
      if bitAt v n = false ∧ bitAt (d.rd .pwr 0 0x8008) n = true ∧ d.gateHeld n = true then e
      else e.setFld .pwr 0 0x8008 n n (if d.gateAfter v n then 1 else 0) := by
  rw [Dev.gateStep, Dev.gateAfter, h]
  cases bitAt v n <;> cases bitAt (d.rd .pwr 0 0x8008) n <;> cases d.gateHeld n <;> simp

/-- The gates below n after their steps: CLK_GATE alone is written, at the latest by gate 17, which nothing holds open. -/
theorem Dev.gateSteps_spec (d : Dev) (v : W64) {n : Nat} (hn : n ≤ 20) :
    (n ≤ 17 ∧ d.gateSteps v n = d ∨ ∃ x, d.gateSteps v n = d.wr .pwr 0 0x8008 x) ∧
      ∀ j, bitAt ((d.gateSteps v n).rd .pwr 0 0x8008) j = if j < n then d.gateAfter v j else bitAt (d.rd .pwr 0 0x8008) j := by
  induction n with
  | zero => exact ⟨.inl ⟨by decide, rfl⟩, fun j => rfl⟩
  | succ n ih =>
    obtain ⟨form, bit⟩ := ih (by omega)
    have held : (d.gateSteps v n).gateHeld n = d.gateHeld n := by
      obtain ⟨_, e⟩ | ⟨x, e⟩ := form <;> rw [e]
      exact d.gateHeld_wr x n
    rw [d.gateSteps_succ, Dev.gateStep_eq v held]
    split
    · next hk =>
      obtain ⟨hv, ho, hh⟩ := hk
      have : n ≠ 17 := fun e => by subst e; simp [Dev.gateHeld] at hh
      refine ⟨form.imp_left fun h => ⟨by omega, h.2⟩, fun j => ?_⟩
      rw [bit]
      by_cases hj : j = n
      · subst hj
        rw [if_neg (by omega), if_pos (by omega), Dev.gateAfter, hv, ho, hh]
        rfl
      · simp only [show j < n + 1 ↔ j < n by omega]
    · refine ⟨.inr ?_, fun j => ?_⟩
      · obtain ⟨_, e⟩ | ⟨x, e⟩ := form <;> rw [e]
        · exact ⟨_, rfl⟩
        · exact ⟨_, d.wr_wr ..⟩
      · rw [Dev.setFld, Dev.rd_wr_self, bitAt_putBits_one _ _ _ (by omega), bit]
        by_cases hj : j = n
        · subst hj
          rw [if_pos rfl, if_pos (Nat.lt_succ_self j)]
          cases d.gateAfter v j <;> rfl
        · rw [if_neg hj]
          simp only [show j < n + 1 ↔ j < n by omega]

/-- A write of CLK_GATE. -/
theorem Dev.clkGateWrite_gates (d : Dev) (v : W64) : ∃ x, d.clkGateWrite v = d.wr .pwr 0 0x8008 x ∧
    ∀ j, bitAt x j = if j < 20 then d.gateAfter v j else bitAt (d.rd .pwr 0 0x8008) j := by
  obtain ⟨form, bit⟩ := d.gateSteps_spec v (n := 20) le_rfl
  obtain ⟨hle, -⟩ | ⟨x, e⟩ := form
  · omega
  · refine ⟨x, e, fun j => ?_⟩
    rw [← bit, e, Dev.rd_wr_self]

end

theorem clockSourceReady_gives {s : State} (b : Fin 32) (h : s.d.up? = true) :
    GivesLater s (.clockSourceReady b) (s.d.clkNow b) := State.alive_eq (fun d => d.clkNow b) h

/-- Settles O55: each command is one function of the power unit, by the entry under way, the power state and the refuser. -/
theorem lowPowerStatesAndClocks : Obligations.LowPowerStatesAndClocks := by
  intro s d abortAll
  refine ⟨fun hs c => ?_, fun hu => ?_, fun hok => ?_, fun h => ?_, fun h4 hm => ?_, fun h4 ho => ?_, fun k v hok => ?_, fun v hok => ?_⟩
  · have gives {i : Instr} (f : Dev → Dev) {d2 : Dev} (e : f d = d2) (run : exec i s = s.served f) : GivesLater s i d2 := by
      rw [GivesLater, run, State.served_eq f hs, e]
    refine ⟨fun he hp hb hm => gives (fun d => d.s1Entry c) (Dev.s1Entry_enters he hp hb hm) rfl,
      fun h => gives (fun d => d.s1Entry c) (Dev.s1Entry_stays h) rfl, fun he hp hb hm hl => ?_,
      fun h => gives (fun d => d.s2Entry c) (Dev.s2Entry_stays h) rfl⟩
    have may : d.mayEnterS2 c := ⟨he, hp, by simp [hb], hm, by simp [hl]⟩
    exact ⟨fun hr => gives (fun d => d.s2Entry c) (Dev.s2Entry_begins may hr) rfl, fun code x hr =>
      gives (fun d => d.s2Entry c) ((Dev.s2Entry_refused may hr).trans (d.refuseLp_refused code x c 2)) rfl⟩
  · have gives {i : Instr} (f : Dev → Dev) {d2 : Dev} (e : f d = d2) (run : exec i s = s.alive f) : GivesLater s i d2 := by
      rw [GivesLater, run, State.alive_eq f hu, e]
    have woken (c : Fin 16) {d2 : Dev} (e : d.cellWake c = d2) : GivesLater s (.cellWake c) d2 := gives (fun d => d.cellWake c) e rfl
    have asleep (c : Fin 16) {d2 : Dev} (e : d.cellEntryDone c = d2) : GivesLater s (.lowPowerEntryDone ⟨c, by omega⟩) d2 :=
      gives (fun d => d.lpDone c) ((Dev.lpDone_cell c.isLt).trans e) rfl
    have slept {d2 : Dev} (e : d.moduleEntryDone = d2) : GivesLater s (.lowPowerEntryDone 16) d2 := gives (fun d => d.lpDone 16) e rfl
    refine ⟨fun c => ⟨fun st hl => ?_, fun hl => ⟨?_, fun hp => ?_, fun hp => ?_⟩, fun hp => ?_, fun hp => ?_⟩, fun st hl => ?_,
      fun hm => ?_, fun hm => gives Dev.s3ExitDone (if_pos hm) rfl, fun b => ?_⟩
    · intro e
      exact ⟨woken c (Dev.cellWake_entering hl), fun hr => asleep c (Dev.cellEntryDone_sleeps hl hr),
        fun code x hr => asleep c (Dev.cellEntryDone_refused hl hr)⟩
    · exact asleep c (Dev.cellEntryDone_none hl)
    · exact woken c ((Dev.cellWake_eq hl).trans (if_pos hp))
    · exact woken c ((Dev.cellWake_eq hl).trans (if_neg (by omega)))
    · exact gives (fun d => d.cellWakeDone c) (if_pos hp) rfl
    · exact gives (fun d => d.cellWakeDone c) (if_neg hp) rfl
    · exact ⟨fun code x hr => slept (Dev.moduleEntryDone_refused hl hr),
        fun hr hst => slept ((Dev.moduleEntryDone_sleeps hl hr).trans (if_neg hst)),
        fun hr hst => slept ((Dev.moduleEntryDone_sleeps hl hr).trans (if_pos hst))⟩
    · intro d1 d2
      refine gives Dev.s3ExitDone ((Dev.s3ExitDone_leaving hm).trans ?_) rfl
      rw [d.shadow_powered]
    · intro ready
      exact ⟨fun h => (clockSourceReady_gives b hu).of_eq ((Dev.clkNow_eq b (Dev.off_of_up hu)).trans (if_pos h)),
        fun h => (clockSourceReady_gives b hu).of_eq ((Dev.clkNow_eq b (Dev.off_of_up hu)).trans (if_neg h))⟩
  · have on : d.off = false := Dev.off_of_ok hok
    have left {d2 : Dev} (e : d.wakeS3 = d2) : GivesLater s (.s3ExitReq 0) d2 :=
      .of_eq (d := d.busWrite 0 0x30008 8 0) rfl ((Dev.busWrite_stateCtl 0 hok).trans e)
    refine ⟨fun st hst => ?_, fun st hl => left (Dev.wakeS3_entering hl), fun hl hm => left ((Dev.wakeS3_eq hl).trans (if_pos hm)),
      fun hl hm => left ((Dev.wakeS3_eq hl).trans (if_neg hm))⟩
    intro asks
    have asked {d2 : Dev} (e : d.stateReq (BitVec.ofNat 64 st) = d2) : asks d2 := by
      obtain rfl | rfl := hst
      · exact GivesLater.of_eq (c := .s3EntryReq 0) (d := d.busWrite 0 0x30008 8 3) rfl ((Dev.busWrite_stateCtl 3 hok).trans e)
      · exact GivesLater.of_eq (c := .s4EntryReq 0) (d := d.busWrite 0 0x30008 8 4) rfl ((Dev.busWrite_stateCtl 4 hok).trans e)
    have named : bits (BitVec.ofNat 64 st) 2 0 = st := by obtain rfl | rfl := hst <;> decide
    exact ⟨fun hm hr => asked (Dev.stateReq_begins named hst on hm hr),
      fun code x hm hr => asked (Dev.stateReq_refused named hst on hm hr), fun hm => asked (Dev.stateReq_stays named hst hm)⟩
  · refine GivesLater.of_eq (d := d.wakeL) rfl ?_
    obtain ⟨h4, hm⟩ | ⟨h4, ho⟩ := h
    · exact (Dev.wakeL_s4 h4).trans (if_pos hm)
    · exact Dev.wakeL_off h4 ho
  · exact GivesLater.of_eq (d := d.wakeL) rfl ((Dev.wakeL_s4 h4).trans (if_neg (by simp [hm])))
  · have woken {d2 : Dev} (e : d.wakeS3 = d2) : GivesLater s .wakeLAssert d2 :=
      .of_eq (d := d.wakeL) rfl ((Dev.wakeL_on h4 ho).trans e)
    exact ⟨fun st hl => woken (Dev.wakeS3_entering hl), fun hl hm => woken ((Dev.wakeS3_eq hl).trans (if_pos hm)),
      fun hl hm => woken ((Dev.wakeS3_eq hl).trans (if_neg hm))⟩
  · have selected {d2 : Dev} (e : d.clkSelWrite k v = d2) : GivesLater s (.clkSelWrite 0 k v) d2 :=
      .of_eq (d := d.busWrite 0 (0x38100 + 8 * k) 8 v) rfl ((Dev.busWrite_clkSel v hok).trans e)
    exact ⟨fun h => selected (if_pos h), fun h => selected (if_neg (by simp [h]))⟩
  · obtain ⟨new, e, bit⟩ := d.clkGateWrite_gates v
    refine ⟨new, .of_eq (d := d.busWrite 0 0x38008 8 v) rfl ((Dev.busWrite_clkGate v hok).trans e), fun b hb => ?_, fun b hb => ?_⟩
    · exact (bit b).trans (if_pos hb)
    · exact (bit b).trans (if_neg (Nat.not_lt.2 hb))

end Sys2Proof.Machine
